-- ==== Sys2Proof/Word.lean ====
section
/-! DEFINITION. Word: the smallest addressable unit of the device. Every wider value is a natural number built
from bytes in one place (Machine/Ops.lean), little-endian as R10 states. -/
namespace Sys2Proof

/-- One byte of any memory of the device. -/
abbrev Byte := BitVec 8

end Sys2Proof
end

