-- ==== Sys2Proof/Syntax.lean ====
section
/-! DEFINITION. Syntax: the commands of the LPR-B960, one constructor for each row of spec/opcode_table.json. A command
is one whole and indivisible step of the part (95_what_each_step_holds.md). The operands are what the step is given
from outside the block: the agent that writes, the unit it concerns, the bytes that arrive, and the physical facts the
block observes (a checker's verdict, a damaged packet). -/
namespace Sys2Proof

/-- The three agents of the dictionary (R367). -/
inductive Agent where
  | can0 | can1 | mirror
  deriving DecidableEq, Repr

/-! Unit numbers of the LPR-B960 (R17, R236, R391, R402). -/
abbrev PartId := Fin 8
abbrev CalderaId := Fin 8
abbrev SkeinId := Fin 64
abbrev SpindleId := Fin 256
abbrev PortId := Fin 10
abbrev CamId := Fin 40
abbrev StreamId := Fin 48
abbrev RangeMac := Fin 4
abbrev OutMac := Fin 2
abbrev PtpPort := Fin 6
abbrev DecoderId := Fin 8
abbrev BlockId := Fin 16
abbrev EngineId := Fin 4
abbrev ChannelId := Fin 128
abbrev BankId := Fin 16
abbrev LaunchId := Fin 8
abbrev PairId := Fin 4
abbrev LinkId := Fin 4
abbrev CanId := Fin 2
abbrev RailId := Fin 7
abbrev PllId := Fin 6

/-- A host write into a mirror mailbox, of 4 or 8 bytes (R384, R385). -/
inductive MailboxWrite where
  /-- Bytes 00h-03h: the request word, which starts the request. -/
  | request (word : Nat)
  /-- Bytes 04h-07h. -/
  | length (n : Nat)
  /-- Bytes 00h-07h at once. -/
  | requestLength (word n : Nat)
  /-- `width` bytes of DATA from byte 10h + `offset`, little-endian. -/
  | data (offset width value : Nat)
  /-- Bytes that a host only reads: STATUS, ABORT and the reserved ones. -/
  | readOnly (width : Nat)
  deriving DecidableEq, Repr

/-- One USDO message that reaches a controller (R380). -/
inductive UsdoMessage where
  | read (index sub : Nat)
  | write (index sub len value : Nat)
  /-- Opens a segmented download of `len` bytes. -/
  | writeStart (index sub len : Nat)
  /-- One download segment: its toggle bit and its bytes. -/
  | segment (toggle : Bool) (bytes : List Byte)
  /-- Bulk transfer, routed remote access, or any other service. -/
  | unsupported
  deriving DecidableEq, Repr

/-- What the port found wrong with a received CSI-2 packet (R240, R246). -/
inductive PacketDamage where
  | none
  /-- It arrived whole, after so many retransmissions of the PHY. -/
  | retransmitted (n : Nat)
  /-- The header ECC corrected one bit. -/
  | headerCorrected
  | header
  | crc
  /-- The packet was lost to a full receive buffer. -/
  | overrun
  deriving DecidableEq, Repr

/-- A CSI-2 short packet: its virtual channel, and what the port found in it. -/
structure ShortPacket where
  vc : Fin 16
  damage : PacketDamage
  deriving DecidableEq, Repr

/-- A packet that no stream takes: its port, and what the port found in it. -/
structure StrayPacket where
  port : PortId
  damage : PacketDamage
  deriving DecidableEq, Repr

/-- A PTP message (R310 to R312). -/
inductive PtpKind where
  | syncOneStep | syncTwoStep | delayReq | followUp | general | pdelay | announce
  deriving DecidableEq, Repr

/-- The fields of a PTP message that a port uses beside its version; `correction` is in 2^-16 ns. `udp`: over UDP/IPv4, with
its checksum. -/
structure PtpBody where
  kind : PtpKind
  sourcePort : Nat
  sequenceId : Nat
  domain : Nat
  correction : Int
  udp : Bool
  checksum : Nat
  deriving DecidableEq, Repr

/-- A PTP message: its body and its version. -/
structure PtpMessage extends PtpBody where
  version : Nat
  minor : Nat
  deriving DecidableEq, Repr

/-- The unit whose work a detected fault spoils, beside the event that it raises: none; a spindle, in the operand path, the
tree or the accumulate path of its running instruction (R84); one in-flight descriptor of a skein (R125); an engine of the
post-processor (R164); a decoder, at a byte of its payload (R266); the dictionary store, or the path of an agent's access to
it, which that access meets (R374). -/
inductive FaultUnit where
  | none
  | spindle (u : SpindleId)
  | descriptor (g : SkeinId) (i : Nat)
  | engine (e : EngineId)
  | decoder (d : DecoderId) (offset : Nat)
  | access (a : Agent)
  deriving DecidableEq, Repr

/-- Where a fault was found: SOURCE of R335, and the unit whose work it spoils. -/
structure FaultPlace where
  source : Nat
  unit : FaultUnit
  deriving DecidableEq, Repr

/-- The end of the writes of a load (R132): its partition, and the section, by its place in the section table, whose writing
met a data or parity error, if one did. -/
structure LoadDone where
  part : PartId
  broken : Option Nat
  deriving DecidableEq, Repr

/-- What reads host memory (R426): a skein, for one of its in-flight descriptors, or an engine, for its job. -/
inductive HostReader where
  | skein (g : SkeinId)
  | engine (e : EngineId)
  deriving DecidableEq, Repr

/-- How a message leaves a port: its start-of-frame delimiter's time after the command, in 2^-16 ns, and whether the guard
of a launch held it (R308, R328). -/
structure Egress where
  after : Nat
  held : Bool
  deriving DecidableEq, Repr

/-- A neighbour's answer to a Pdelay_Req: its stamps t2 and t3 in ns, and the time from the request's delimiter to the
response's here, in ns (R312). -/
structure PdelayAnswer where
  t2 : Int
  t3 : Int
  back : Nat
  deriving DecidableEq, Repr

/-- What a Sync with its Follow_Up says (R307): its corrected origin in ns, and the cumulative rate offset in 2^-41. -/
structure SyncOrigin where
  origin : Int
  rateOffset : Int
  deriving DecidableEq, Repr

/-- A Delay_Req (R307): its port, how it leaves, and the corrected receive instant in ns of the Delay_Resp, where one
answers. -/
structure DelayRequest where
  port : PtpPort
  egress : Egress
  response : Option Int
  deriving DecidableEq, Repr

/-- A Pdelay_Req (R312): how it leaves, and the neighbour's answer, where one comes. -/
structure PdelayRequest where
  egress : Egress
  answer : Option PdelayAnswer
  deriving DecidableEq, Repr

/-- A data frame of the device links (R434), header fields and payload. -/
structure LinkFrame where
  type : Nat
  flags : Nat
  seq : Nat
  dst : Nat
  src : Nat
  srcPart : Nat
  srcSkein : Nat
  dstSkein : Nat
  win : Nat
  off : Nat
  epoch : Nat
  len : Nat
  xid : Nat
  payload : List Byte
  deriving DecidableEq, Repr

/-- Who pushes to a queue: the host, a block of the I/O die or a skein acting for a partition (R115, R32). -/
inductive Producer where
  | host
  | block
  | partition (p : PartId)
  deriving DecidableEq, Repr

/-- The commands. The comment of each group names the chapter; each constructor names its rule. -/
inductive Instr where
  -- Control and the object dictionary
  /-- R371 -/ | registerWrite (a : Agent) (index sub len value : Nat)
  /-- R378 -/ | ownerWrite (a : Agent) (value : Nat)
  /-- R376 -/ | commit (a : Agent)
  /-- R376 -/ | discard (a : Agent)
  /-- R200 -/ | wheelPeriodStart
  /-- R212 -/ | treadleSettingsApply (p : PartId)
  /-- R385 -/ | mailboxRequest (i : Fin 16) (w : MailboxWrite)
  /-- R385 -/ | mailboxComplete
  /-- R381 -/ | nmtStartRemoteNode (c : CanId)
  /-- R381 -/ | nmtStopRemoteNode (c : CanId)
  /-- R381 -/ | nmtEnterPreOperational (c : CanId)
  /-- R381 -/ | nmtResetNode (c : CanId)
  /-- R381 -/ | nmtResetCommunication (c : CanId)
  /-- R380 -/ | usdoRequest (c : CanId) (m : UsdoMessage)
  /-- R374 -/ | usdoTimeout (c : CanId)
  /-- R380 -/ | heartbeat (c : CanId)
  /-- R382 -/ | syncReceived (c : CanId) (cobId : Nat)
  /-- R383 -/ | rpdoReceived (c : CanId) (cobId : Nat) (data : List Byte)
  /-- R382 -/ | tpdoEventTimer (c : CanId) (n : Fin 4)
  /-- R383 -/ | pdoMappingCountWrite (a : Agent) (index value : Nat)
  /-- R382 -/ | errorListClear (a : Agent)
  /-- R378 -/ | busOff (c : CanId)
  /-- R379 -/ | busOffRecovery (c : CanId)
  -- Reset, power, boot and security
  /-- R391 -/ | powerOn
  /-- R402 -/ | brownOut (rail : RailId)
  /-- R391 -/ | referenceClockFailure
  /-- R391 -/ | pllLockLost (pll : PllId)
  /-- R391 -/ | resetNLow
  /-- R399 -/ | resetNRise
  /-- R391 -/ | watchdog
  /-- R391 -/ | managementLockUp
  /-- R395 -/ | reset (a : Agent)
  /-- R391 -/ | perstNLow
  /-- R399 -/ | perstNRise
  /-- R399 -/ | domainRelease
  /-- R399 -/ | pllLockTimeout (pll : PllId)
  /-- R205 -/ | memoryFillComplete
  /-- R409 -/ | spiHeaderTimeout
  /-- R407; the image is what the SPI NOR delivered; that of a host LOAD is the staged one -/ | imageVerify (image : List Byte)
  /-- R411 -/ | firmwareLoad (a : Agent)
  /-- R411 -/ | firmwareProgram (a : Agent)
  /-- R412; whether the flash read back as written -/ | firmwareProgramComplete (readBackOk : Bool)
  /-- R398; whether the slot read back as written -/ | optionProgram (a : Agent) (readBackOk : Bool)
  /-- R415 -/ | attest (a : Agent)
  /-- R419 -/ | exportId (a : Agent)
  /-- R410 -/ | svnCommit (a : Agent)
  /-- R418 -/ | loadPatternKey (a : Agent)
  /-- R405 -/ | calderaPowerOff (a : Agent) (c : CalderaId)
  /-- R405 -/ | calderaPowerOn (a : Agent) (c : CalderaId)
  /-- R405 -/ | calderaPowerOnComplete (c : CalderaId)
  /-- R394 -/ | calderaReset (a : Agent) (mask : Nat)
  /-- R394; whether every element of the sweep passed -/ | calderaResetComplete (c : CalderaId) (sweepPassed : Bool)
  /-- R404; rail voltages in mV and junction temperature in 0.1 degC -/
  | railSample (mv : List Nat) (temp : Int)
  -- Skein sequencer and command streams
  /-- R91 -/ | streamStart (a : Agent) (g : SkeinId)
  /-- R91 -/ | abandon (a : Agent) (g : SkeinId)
  /-- R91 -/ | clearFlags (a : Agent) (g : SkeinId)
  /-- R122 -/ | prefetchRead (g : SkeinId)
  /-- R95 -/ | descriptorDispatch (g : SkeinId)
  /-- R99; `i` is the place of the descriptor among those in flight, here and below -/
  | load (g : SkeinId) (i : Nat)
  /-- R99 -/ | loadQpop (g : SkeinId) (i : Nat)
  /-- R100 -/ | store (g : SkeinId) (i : Nat)
  /-- R102 -/ | matmul (g : SkeinId) (i : Nat)
  /-- R137 -/ | unroll (g : SkeinId) (i : Nat)
  /-- R149 -/ | maxIncl (g : SkeinId) (i : Nat)
  /-- R149 -/ | maxExcl (g : SkeinId) (i : Nat)
  /-- R149 -/ | avgIncl (g : SkeinId) (i : Nat)
  /-- R149 -/ | avgExcl (g : SkeinId) (i : Nat)
  /-- R104 -/ | drain (g : SkeinId) (i : Nat)
  /-- R106 -/ | add (g : SkeinId) (i : Nat)
  /-- R106 -/ | sub (g : SkeinId) (i : Nat)
  /-- R106 -/ | mul (g : SkeinId) (i : Nat)
  /-- R106 -/ | fma (g : SkeinId) (i : Nat)
  /-- R106 -/ | min (g : SkeinId) (i : Nat)
  /-- R106 -/ | max (g : SkeinId) (i : Nat)
  /-- R106 -/ | shr (g : SkeinId) (i : Nat)
  /-- R106 -/ | cvt (g : SkeinId) (i : Nat)
  /-- R106 -/ | tbl (g : SkeinId) (i : Nat)
  /-- R108 -/ | reduceSum (g : SkeinId) (i : Nat)
  /-- R108 -/ | reduceMax (g : SkeinId) (i : Nat)
  /-- R108 -/ | reduceMin (g : SkeinId) (i : Nat)
  /-- R109 -/ | table (g : SkeinId) (i : Nat)
  /-- R112 -/ | wait (g : SkeinId) (i : Nat)
  /-- R112 -/ | waitTimeout (g : SkeinId)
  /-- R113 -/ | signalAdd (g : SkeinId) (i : Nat)
  /-- R113 -/ | signalSet (g : SkeinId) (i : Nat)
  /-- R113 -/ | signalReleaseApply (g : SkeinId) (i : Nat)
  /-- R114 -/ | fence (g : SkeinId) (i : Nat)
  /-- R110 -/ | digestInit (g : SkeinId) (i : Nat)
  /-- R110 -/ | digestAbsorb (g : SkeinId) (i : Nat)
  /-- R110 -/ | digestFinal (g : SkeinId) (i : Nat)
  /-- R119 -/ | wopen (g : SkeinId) (i : Nat)
  /-- R185 -/ | wclose (g : SkeinId) (i : Nat)
  /-- R120 -/ | send (g : SkeinId) (i : Nat)
  /-- R120 -/ | sendQueue (g : SkeinId) (i : Nat)
  /-- R121 -/ | endStream (g : SkeinId) (i : Nat)
  /-- R121 -/ | endLoop (g : SkeinId) (i : Nat)
  -- Spindles and distaffs
  /-- R73 -/ | shadowLoadStart (u : SpindleId)
  /-- R73 -/ | shadowLoadComplete (u : SpindleId)
  /-- R74 -/ | instructionIssue (u : SpindleId)
  /-- R77 -/ | resultLand (u : SpindleId)
  /-- R80 -/ | drainBegin (u : SpindleId)
  -- Treadle pacing and determinism
  /-- R210 -/ | treadleFrameStart (p : PartId)
  /-- R76, R218; bit c of `late`: the handshake of caldera c has not completed at this tick -/
  | treadleTick (p : PartId) (late : Nat)
  /-- R76 -/ | stepHandshakeComplete (c : CalderaId)
  /-- R217 -/ | reservedSlotBegin (c : CalderaId)
  /-- R217 -/ | reservedSlotEnd (c : CalderaId)
  /-- R220, R221; ns from request to arrival, and whether the access met refresh-busy -/
  | completionDelivery (c : CalderaId) (latencyNs : Nat) (refresh : Bool)
  /-- R222 -/ | externalEventEffect (c : CalderaId)
  -- Plans
  /-- R132 -/ | planLoad (a : Agent) (p : PartId)
  /-- R132 -/ | planLoadComplete (d : LoadDone)
  /-- R132 -/ | activate (a : Agent) (p : PartId)
  /-- R213 -/ | planStart (p : PartId)
  /-- R132 -/ | unload (a : Agent) (p : PartId)
  -- Queues and synchronisation objects
  /-- R117 -/ | queueEnable (a : Agent)
  /-- R117 -/ | queueDisable (a : Agent)
  /-- R115 -/ | queuePush (src : Producer) (q : Nat) (entries : List (List Byte))
  /-- R115 -/ | queuePop (q n : Nat)
  /-- R118 -/ | syncValueWrite (a : Agent) (value : Nat)
  /-- R118 -/ | syncAddWrite (a : Agent) (value : Nat)
  -- Host
  /-- R424; `bar` true names BAR4, false BAR2 -/ | hostMemoryRead (bar4 : Bool) (offset len : Nat)
  /-- R424; a byte that is not enabled is `none` -/
  | hostMemoryWrite (bar4 : Bool) (offset : Nat) (bytes : List (Option Byte))
  /-- R425 -/ | bar0RefusedAccess (write : Bool) (offset width : Nat)
  /-- R427; width in bytes -/ | doorbellPush (q width value : Nat)
  /-- R428 -/ | doorbellPop (q width value : Nat)
  /-- R429 -/ | syncDoorbellWrite (n width value : Nat)
  -- Memory
  /-- R184 -/ | remoteWrite (g : SkeinId)
  /-- R184 -/ | remoteWriteLand (g : SkeinId)
  /-- R200 -/ | channelAccessSlot (q : ChannelId)
  /-- R199 -/ | refreshBusy (q : ChannelId)
  /-- R202 -/ | scrubRead
  /-- R202 -/ | scrubWriteBack
  /-- R194 -/ | wcFlush (a : Agent) (c : CalderaId)
  /-- R191 -/ | wcLineFetchComplete (c : CalderaId)
  /-- R207 -/ | bankOff (a : Agent) (b : BankId)
  /-- R207 -/ | bankRetain (a : Agent) (b : BankId)
  /-- R207 -/ | bankOn (a : Agent) (b : BankId)
  /-- R207 -/ | bankCloseComplete (b : BankId)
  /-- R207 -/ | bankOpenComplete (b : BankId)
  -- Sensor ports and decoders
  /-- R240 -/ | aphyLinkUp (p : PortId)
  /-- R241 -/ | aphyLinkLoss (p : PortId)
  /-- R242 -/ | frameStart (p : PortId) (packet : ShortPacket) (number : Nat)
  /-- R244 -/ | frameEnd (p : PortId) (packet : ShortPacket)
  /-- R244 -/ | lineStart (p : PortId) (packet : ShortPacket) (number : Nat)
  /-- R242 -/ | lineEnd (p : PortId) (packet : ShortPacket)
  /-- R245 -/ | imageLine (p : PortId) (vc : Fin 16) (dataType : Nat) (damage : PacketDamage) (payload : List Byte)
  /-- R242 -/ | unmappedPacket (packet : StrayPacket)
  /-- R246 -/ | frameTimeout (n : CamId)
  /-- R250 -/ | missingFrame (n : CamId)
  /-- R243 -/ | cameraStreamEnable (a : Agent) (n : CamId)
  /-- R269 -/ | cameraStreamDisable (a : Agent) (n : CamId)
  /-- R253 -/ | ethernetFrameReceived (m : PtpPort) (fcsOk : Bool) (bytes : List Byte)
  /-- R254 -/ | reassemblyTimeout (d : DecoderId)
  /-- R255 -/ | rangeLinkLoss (m : RangeMac)
  /-- R261 -/ | sampleTake (d : DecoderId)
  /-- R264 -/ | sampleDecodeComplete (d : DecoderId)
  /-- R263 -/ | samplePush (d : DecoderId)
  /-- R265; the byte of the payload at which decoding stood -/
  | sampleBudgetExpiry (d : DecoderId) (offset : Nat)
  -- Input pipeline
  /-- R278 -/ | pointPop
  /-- R283 -/ | projectionStart (n : CamId)
  /-- R282 -/ | projectionComplete (n : CamId)
  /-- R287 -/ | rowLand (n : CamId) (level : Fin 4)
  /-- R294 -/ | slotGather (e : Fin 8)
  /-- R294 -/ | slotGatherComplete (e : Fin 8)
  /-- R296 -/ | batchPush (n : CamId)
  /-- R297 -/ | batchPushTimeout (n : CamId)
  -- Detection post-processor
  /-- R163 -/ | jobPop (e : EngineId)
  /-- R160 -/ | jobComplete (e : EngineId)
  /-- R163 -/ | jobPush (e : EngineId)
  /-- R164 -/ | jobBudgetExpiry (e : EngineId)
  -- Time and launch
  /-- R306 -/ | step (a : Agent)
  /-- R306 -/ | slew (a : Agent)
  /-- R305 -/ | cancelSlew (a : Agent)
  /-- R307 -/ | ptpSyncReceived (m : PtpPort) (domain : Nat) (sync : SyncOrigin)
  /-- R307 -/ | delayReqSend (r : DelayRequest)
  /-- R307 -/ | syncTimeout
  /-- R359 -/ | holdoverLimitExpiry
  /-- R311; a message comes in at port m, and how it leaves each of ports 0 to 5 -/
  | ptpEventForward (m : PtpPort) (version minor : Nat) (body : PtpBody) (egress : List Egress)
  /-- R312 -/ | pdelayExchange (m : PtpPort) (r : PdelayRequest)
  /-- R312; correction of the Follow_Up in 2^-16 ns, its cumulative rate offset in 2^-41, and how the Sync leaves each port -/
  | gptpSyncRelay (m : PtpPort) (correction rateOffset : Int) (egress : List Egress)
  /-- R314 -/ | triggerEdge (p : PortId) (v : Fin 4)
  /-- R318 -/ | launchEntryMap (l : LaunchId)
  /-- R319 -/ | launchFrameSend (l : LaunchId)
  /-- R325 -/ | keepalive (l : LaunchId)
  /-- R317 -/ | launchQueueEnable (a : Agent) (l : LaunchId)
  /-- R325 -/ | launchQueueDisable (a : Agent) (l : LaunchId)
  /-- R324 -/ | speedWrite (a : Agent) (value : Nat)
  /-- R315 -/ | outputLinkLoss (m : OutMac)
  -- Safety
  /-- R332; code of R331, owning partition, SOURCE, the unit whose work the fault spoils, and DETAIL of R335 -/
  | faultDetect (code : Nat) (p : PartId) (place : FaultPlace) (detail : Nat)
  /-- R336 -/ | warning (code : Nat) (p : PartId) (source detail : Nat)
  /-- R333 -/ | monitorRefresh
  /-- R333 -/ | monitor
  /-- R340; the oldest pending fault of the partition, and whether its retry passed -/
  | faultRetry (p : PartId) (passed : Bool)
  /-- R360 -/ | ack (a : Agent) (p : PartId)
  /-- R344 -/ | checkpointCompare (k : PairId)
  /-- R346 -/ | compareTimeout (k : PairId)
  /-- R338 -/ | watchCheck (p : PartId) (w : Fin 8)
  /-- R350 -/ | selftestElement (c : CalderaId) (passed : Bool)
  /-- R351 -/ | sweepLate (c : CalderaId)
  /-- R352 -/ | ioCheckerTest (passed : Bool)
  /-- R353 -/ | geyserTick (p : PartId)
  /-- R358 -/ | install (a : Agent)
  /-- R441 -/ | mgmtEntry
  -- Links and system
  /-- R378 -/ | pcieLinkDown
  /-- R433 -/ | linkTrained (l : LinkId) (peerNode peerLink : Nat)
  /-- R433 -/ | linkGivenUp (l : LinkId)
  /-- R435 -/ | dataFrameReceived (l : LinkId) (crcOk : Bool) (f : LinkFrame)
  /-- R435 -/ | lack (l : LinkId) (seq : Nat)
  /-- R435 -/ | lnak (l : LinkId) (seq : Nat)
  /-- R436 -/ | credit (l : LinkId) (vc0 vc1 : Nat)
  /-- R435 -/ | replayTimeout (l : LinkId)
  /-- R437 -/ | resp (g : SkeinId) (xid status : Nat)
  /-- R443 -/ | discover (a : Agent)
  /-- R445 -/ | retrain (a : Agent)
  /-- R443 -/ | hello (l : LinkId) (neighbour root depth run : Nat) (onParent : Bool)
  /-- R443 -/ | converged
  /-- R443 -/ | count (l : LinkId) (bitmap duplicate depthBelow run : Nat)
  /-- R443 -/ | done (l : LinkId) (nodes treeDepth result duplicate : Nat)
  -- Debug and observation
  /-- R447 -/ | extest
  /-- R447 -/ | samplePreload
  /-- R447 -/ | dbgStatus
  /-- R448 -/ | dbgUnlock (request signature : List Byte)
  /-- R447 -/ | dbgLock
  /-- R449 -/ | dbgMemRead (address : Nat)
  /-- R449 -/ | dbgMemWrite (address : Nat) (unit : List Byte)
  /-- R451 -/ | dbgStop (mask : Nat) (release : Bool)
  /-- R447 -/ | dbgGrant (value : Nat)
  /-- R447 -/ | dbgReset
  /-- R447 -/ | idcode
  /-- R447 -/ | bypass (code : Nat)
  /-- R451 -/ | globalStop (a : Agent)
  /-- R451 -/ | partitionStop (a : Agent)
  /-- R454 -/ | release (a : Agent)
  /-- R452 -/ | cutComplete
  /-- R459 -/ | traceSync
  /-- R464 -/ | counterEnable (a : Agent) (value : Nat)
  /-- R255 -/ | rangeLinkUp (m : RangeMac)
  /-- R315 -/ | outputLinkUp (m : OutMac)
  /-- R432 -/ | pcieLinkUp (speed width : Nat)
  /-- R426; of a skein the descriptor in flight at place `i`, of an engine its job's read of the tile list (0) or of the head
  tensor (1) -/
  | completionTimeout (who : HostReader) (i : Nat)
  /-- R426 -/ | configurationWrite (busMaster d3hot : Bool)
  deriving DecidableEq, Repr

end Sys2Proof
end

