-- ==== Sys2Proof/Decode.lean ====
section
/-! DEFINITION. Decode: the command that a word of the opcode table spells. No row of spec/opcode_table.json gives bits
(each has an empty list of fields), so no word spells a command. -/
namespace Sys2Proof

/-- The command that the bits `w` spell; none, since no row gives bits. -/
def decodeTableWord (_nbits _w : Nat) : Option Instr := none

end Sys2Proof
end

