-- ==== Sys2Proof/Config.lean ====
section
/-! DEFINITION. Config: what the manual fixes outside itself (values set at manufacture, the results of ML-DSA, the host's
own RAM) and every value that it leaves open. Each is a constant without a body: nothing in Lean can evaluate it, and a
statement about it holds whatever it is. -/
namespace Sys2Proof.Config

/-- 1018h:01, Lanonry's CiA vendor ID, set at manufacture (R382). -/
opaque vendorId : Nat
/-- 1018h:04, set at manufacture (R382). -/
opaque serial : Nat
/-- PCI vendor ID, subsystem vendor ID and subsystem ID, set at manufacture (R422). -/
opaque pciVendor : Nat
opaque pciSubsystemVendor : Nat
opaque pciSubsystem : Nat
/-- Station address of MAC m, set at manufacture (R255, R315). -/
opaque macAddr : Nat → Nat
/-- Lanonry's JEDEC code, 11 bits (R447). -/
opaque jedec : Nat
/-- The root-key hash in OTP, 32 bytes (R407, 2C00h:02). -/
opaque rootKeyHash : List Byte
/-- The identity seed in OTP, 32 bytes (R413). -/
opaque identitySeed : List Byte

/-- ML-DSA.Verify of FIPS 204: public key, message, signature (R358, R407, R448). The manual names the standard only. -/
opaque mlDsaVerify : List Byte → List Byte → List Byte → Bool
/-- The public key that ML-DSA-44 key generation makes from a seed (R413). -/
opaque mlDsaPublic : List Byte → List Byte
/-- The private key of the same key generation (R413). -/
opaque mlDsaPrivate : List Byte → List Byte
/-- ML-DSA.Sign of FIPS 204, deterministic variant: private key, message (R415). -/
opaque mlDsaSign : List Byte → List Byte → List Byte

/-- Byte of host RAM at a bus address that the state does not list: the host's, not the device's. -/
opaque hostByte : Nat → Byte
/-- The n-th unlock nonce that the security engine draws (R448): no value is stated. -/
opaque unlockNonce : Nat → List Byte
/-- Whether the increment of the timebase, which R304 holds to 2^-48 ns, rounds up when FREQ makes it inexact. -/
opaque roundIncrementUp : Int → Bool
/-- The n-th handshake margin that the replica of R219 gives, in percent. -/
opaque margin : Nat → Nat
/-- The data that an agent without a stated result reads: the n-th value the spec leaves open. -/
opaque freeValue : Nat → Nat

end Sys2Proof.Config
end

