-- ==== Sys2Proof/Machine/State.lean ====
section
/-! DEFINITION. State: everything the manual gives the LPR-B960, as plain data. Indexed things (queues, skeins, memory
bytes) are tables: lists of (number, value) pairs with rising numbers and no entry equal to what an unlisted number
reads as (Machine/Ops.lean). Dictionary registers stand in one table keyed by index and subindex (R367: the dictionary
arbiter holds every setting, status and counter); the object map with their types and defaults is
Machine/Dictionary.lean. Fields that the model adds (no manual names them) say so. -/
namespace Sys2Proof.Machine

/-- Why the machine stops with a fault. No command of this block stops: a detected fault of the device is a change of
its state (R332), and a reset is a next state (R392). -/
inductive Fault where
  /-- Raised by no command. Safe. -/
  | none
  deriving DecidableEq, Repr

/-- Why a command has no meaning here. -/
inductive Refusal where
  /-- Raised by an arm of `exec` whose command has no meaning yet. Safe. -/
  | notModelled (mnemonic : String)
  deriving DecidableEq, Repr

/-- A table from numbers to values. -/
abbrev Tbl (α : Type) := List (Nat × α)

/-! ### Time -/

/-- What an IEEE 802.1AS port knows of its neighbour: the last response's transmit stamp at the neighbour and receive stamp
here, in ns, and the neighbour's rate offset in 2^-41 (R312). -/
structure PeerDelay where
  last : Option (Int × Int)
  rate : Int
  deriving DecidableEq, Repr

/-- The timebase (R303, R304) and its servo (R307). -/
structure Timebase where
  seconds : Nat
  nanos : Nat
  /-- In 2^-48 ns; FRACTION is its upper 16 bits (R304). -/
  frac : Nat
  /-- Slew still to be absorbed, in 2^-48 ns; SLEW_LEFT is its part in ns (R306). -/
  slewLeft : Int
  /-- Running sum of offsets of the servo (R307), in ns. -/
  servoSum : Int
  /-- Consecutive Syncs below 100 ns (R307). -/
  lockCount : Nat
  /-- Fabric cycle at which the present holdover began (R305 sub 12). -/
  holdoverSince : Nat
  /-- Fabric cycles of 1 ns: elapsed times are counted in them, so that no stamp taken before a step is compared with one
  taken after it (R306). -/
  cycles : Nat
  /-- Receive stamp of the last Sync less its origin, and the mean path delay, in ns, in IEEE 1588 mode (R307). -/
  syncDelta : Option Int
  pathDelay : Int
  /-- Peer delay of each IEEE 802.1AS port (R312). -/
  peers : Tbl PeerDelay
  deriving DecidableEq, Repr

/-! ### Skeins and streams -/

/-- One descriptor in flight (R95). -/
structure Flight where
  /-- Device address of the descriptor. -/
  addr : Nat
  /-- The 256-bit descriptor as fetched (R92, R122). -/
  word : Nat
  /-- Translations it took at dispatch: page ID and entry (R177). -/
  pages : List (Nat × Nat)
  /-- Its opcode's checks have passed and its work has begun. -/
  started : Bool
  /-- Parts of the work outstanding: fills, 16 × spindle + slot (A slot n as n, B slot n as 8 + n); or spindles. -/
  left : List Nat
  /-- Bytes read and not yet written by a fill, and its scale bytes; of a CONV, its geometry block as dispatched (R135). -/
  data : List Byte
  scales : List Byte
  /-- Writes or pushes not yet acknowledged (R120); of a DRAIN, 1 until its format checks have been made (R81). -/
  unacked : Nat
  /-- First refusal met, 00h for none (R120). -/
  status : Nat
  /-- Serial number of a SEND on its skein (R434). -/
  xid : Nat
  /-- Place in stream order. -/
  serial : Nat
  deriving DecidableEq, Repr

/-- A digest context of the caldera's SHA3-256 engine (R110): the bytes absorbed since INIT. -/
structure DigestCtx where
  isOpen : Bool
  bytes : List Byte
  deriving DecidableEq, Repr

/-- R188. -/
inductive WindowState where
  | closed | opened | closing
  deriving DecidableEq, Repr

/-- A scratchpad window (R119, R188). -/
structure Window where
  state : WindowState
  base : Nat
  size : Nat
  epoch : Nat
  deriving DecidableEq, Repr

/-- Who sent a remote write (R184, R187). -/
inductive Sender where
  | skein (g : Nat)
  | host
  /-- The debug port (R449). -/
  | debug
  /-- The plan loader of a partition (R183). -/
  | loader (p : Nat)
  | node (id part skein : Nat)
  deriving DecidableEq, Repr

/-- A remote write at the window logic of a skein (R183, R184). -/
structure RemoteWrite where
  sender : Sender
  /-- Window named, or none where the window is found from the address (R183). -/
  win : Option Nat
  /-- Byte offset in the window, or in the scratchpad where no window is named. -/
  off : Nat
  /-- Expected epoch where CHK is set. -/
  epoch : Option Nat
  bytes : List (Option Byte)
  xid : Nat
  /-- Last frame of its SEND (R434). -/
  last : Bool
  deriving DecidableEq, Repr

/-- A skein: its stream's state beside 2440h + g, its digest contexts, function tables and windows. -/
structure Skein where
  flights : List Flight
  /-- Prefetch buffer: address and descriptor, in order (R122). -/
  fetched : List (Nat × Nat)
  /-- Page ID on which the stream is halted (R123). -/
  haltPage : Option Nat
  /-- STATE that a stop recorded (R124). -/
  recorded : Nat
  /-- ABANDON taken; in-flight descriptors still complete (R91). -/
  abandoned : Bool
  /-- Descriptors dispatched so far: the serial of the next. -/
  serials : Nat
  /-- Second set of arithmetic flags (R228). -/
  flags2 : Nat
  /-- OR of the LAYER flags of the iteration (R228). -/
  iterFlags : Nat
  /-- Chain value (R229), 32 bytes. -/
  chain : List Byte
  /-- LAYER records chained in the iteration (R227). -/
  layers : Nat
  ctxs : Tbl DigestCtx
  /-- Function tables, 384 bytes each; unlisted: empty (R59). -/
  tables : Tbl (List Byte)
  windows : Tbl Window
  /-- Remote writes not yet taken by the window logic, oldest first (R184). -/
  arrivals : List RemoteWrite
  /-- Writes accepted and not yet landed, at most 4 KiB (R184). -/
  accepted : List RemoteWrite
  /-- XID of the next SEND (R434). -/
  nextXid : Nat
  /-- Remote SENDs that name this skein and had a frame refused: 256 × node + skein, XID, status (R437). -/
  refusedXids : List (Nat × Nat × Nat)
  /-- Remote SENDs to queues in progress: 256 × node + skein, XID, partition of the queue (R437). -/
  openXids : List (Nat × Nat × Nat)
  /-- Accesses of this skein that were refused with 22h: R32 counts them against the sender, and names no register. -/
  violations : Nat
  /-- Flags raised behind a FINAL that is still in flight: serial of the descriptor, flags (R228). -/
  flagsLater : List (Nat × Nat)
  /-- Camera stream and frame of the last batch entry that the stream popped (R26, log 104). -/
  batch : Option (Nat × Nat)
  deriving DecidableEq, Repr

def Window.init : Window := ⟨.closed, 0, 0, 0⟩
def DigestCtx.init : DigestCtx := ⟨false, []⟩
def Skein.init : Skein :=
  { flights := [], fetched := [], haltPage := none, recorded := 0, abandoned := false, serials := 0, flags2 := 0,
    iterFlags := 0, chain := [], layers := 0, ctxs := [], tables := [], windows := [], arrivals := [], accepted := [],
    nextXid := 0, refusedXids := [], openXids := [], violations := 0, flagsLater := [], batch := none }

/-! ### Spindles -/

/-- A spindle instruction (R72). `order` in the stream is `serial`. -/
structure SpInstr where
  fmtA : Nat
  fmtB : Nat
  aSlot : Nat
  bSlot : Nat
  column : Bool
  m : Nat
  set : Nat
  init : Bool
  descending : Bool
  relA : Bool
  relB : Bool
  /-- Address, TAG and serial of its MATMUL descriptor. -/
  addr : Nat
  tag : Nat
  serial : Nat
  deriving DecidableEq, Repr

/-- A B tile in a weight plane (R73): where it came from, and its bytes. -/
structure Tile where
  slot : Nat
  column : Bool
  fmtB : Nat
  /-- False once the slot it came from has been released: never used again (R83). -/
  live : Bool
  bytes : List Byte
  /-- The 128 scale bytes of the tile's slot (R69). -/
  scales : List Byte
  /-- Some codeword of the slot was uncorrectable when the tile was read from it (R84). -/
  bad : Bool
  deriving DecidableEq, Repr

/-- The column sums of one A row on their way to the accumulators (R77): per K-block, in the order they are added. -/
structure Landing where
  set : Nat
  row : Nat
  init : Bool
  /-- INT48 sums, or FP32 encodings. -/
  int48 : Bool
  blocks : List (List Int)
  /-- Steps until the row reaches the set. -/
  steps : Nat
  /-- Serial of the MATMUL. -/
  serial : Nat
  deriving DecidableEq, Repr

/-- A drain waiting or in progress on one spindle (R80, R104). -/
structure DrainJob where
  dst : Nat
  pitch : Nat
  recs : Nat
  fmt : Nat
  set : Nat
  m : Nat
  raw : Bool
  serial : Nat
  begun : Bool
  /-- Rows read. -/
  row : Nat
  /-- The second step of a raw INT48 row is due (R80). -/
  half : Bool
  deriving DecidableEq, Repr

/-- A spindle beside its local store (R64 to R87). -/
structure Spindle where
  /-- Slots present: A slot n as n, B slot n as 8 + n (R67, R79). -/
  present : List Nat
  /-- Sets tagged INT48 (R67: FP32 at reset). -/
  int48 : List Nat
  poison : List Nat
  queue : List SpInstr
  /-- The issued instruction and the steps it has executed. -/
  running : Option (SpInstr × Nat)
  active : Option Tile
  shadow : Option Tile
  /-- The shadow load is in progress (R73). -/
  shadowBusy : Bool
  landing : List Landing
  drains : List DrainJob
  deriving DecidableEq, Repr

def Spindle.init : Spindle :=
  { present := [], int48 := [], poison := [], queue := [], running := none, active := none, shadow := none,
    shadowBusy := false, landing := [], drains := [] }

/-! ### Calderas -/

/-- A weight-cache line (R190): data, and the LRU stamp of its last use. -/
structure WcLine where
  bytes : List Byte
  used : Nat
  /-- Damage of the stored line: 0 none, 1 correctable, 2 uncorrectable (R193). -/
  damage : Nat
  deriving DecidableEq, Repr

/-- A weight-cache line fetch in progress (R191). -/
structure WcFetch where
  line : Nat
  part : Nat
  /-- The translation it took: page ID and entry (R177). -/
  page : Nat × Nat
  /-- Units read from the channel so far, 8 when the line is whole. -/
  units : List (List Byte)
  /-- Invalidated while in progress: delivered, then discarded (R192). -/
  discard : Bool
  /-- A unit came back uncorrectable. -/
  bad : Bool
  /-- A unit met a bank that is not ON (R207). -/
  refused : Bool
  /-- This is the one refetch of R193. -/
  refetch : Bool
  /-- The LOADs that wait for the line: skein and serial (R191). -/
  waiters : List (Nat × Nat)
  deriving DecidableEq, Repr

/-- What a LOAD got for one line that it asked for: its bytes, or the status that the request ended with (R191 to R193). -/
structure LineGot where
  skein : Nat
  serial : Nat
  line : Nat
  status : Nat
  bytes : List Byte
  deriving DecidableEq, Repr

/-- An external event that has crossed the bridge and not yet taken effect at the caldera (R222). -/
inductive External where
  | stop | releaseStop
  /-- An update or a push from outside satisfied the WAIT that holds a stream. -/
  | wake (g : Nat)
  /-- The TIMEOUT of the WAIT with this serial expired. -/
  | timeout (g serial : Nat)
  /-- The answer of another device to a SEND: skein, XID, status. -/
  | ack (g xid status : Nat)
  deriving DecidableEq, Repr

/-- A caldera beside 2320h + c. -/
structure Caldera where
  lines : Tbl WcLine
  fetches : List WcFetch
  /-- Lines that LOADs in flight were given. -/
  delivered : List LineGot
  useClock : Nat
  external : List External
  /-- A reserved slot is in progress (R217). -/
  reserved : Bool
  /-- An overrun occurred in the present treadle frame (R309). -/
  overrunSeen : Bool
  /-- A step is still completing its handshake (R218). -/
  handshakeLate : Bool
  /-- Stopped under R451, and the first tick after release has not come (R309). -/
  stopped : Bool
  stopMark : Bool
  /-- A self-test sweep is in progress, and it is late (R351). -/
  sweeping : Bool
  sweepLate : Bool
  /-- Instant at which the sweep in progress began. -/
  sweepStart : Nat
  /-- SELFTEST vectors of the sweep in progress (R358). -/
  sweepVectors : List (List Byte)
  /-- A caldera reset is in progress (R394). -/
  resetting : Bool
  deriving DecidableEq, Repr

def Caldera.init : Caldera :=
  { lines := [], fetches := [], delivered := [], useClock := 0, external := [], reserved := false,
    overrunSeen := false, handshakeLate := false, stopped := false, stopMark := false, sweeping := false,
    sweepLate := false, sweepStart := 0, sweepVectors := [], resetting := false }

/-! ### Queues -/

/-- A queue of the queue store (R115, R117); its ring lies in memory. -/
structure Queue where
  ringBase : Nat
  log2 : Nat
  consumer : Nat
  enabled : Bool
  count : Nat
  head : Nat
  tail : Nat
  fullRefusals : Nat
  /-- MSI-X vector armed by a POP (R428). -/
  armed : Option Nat
  deriving DecidableEq, Repr

def Queue.init : Queue := ⟨0, 4, 0xFFFF, false, 0, 0, 0, 0, none⟩

/-! ### Memory channels -/

/-- What a queued channel access is for. -/
inductive AccessKind where
  /-- A write, byte enables as `some`; skein and descriptor address where a STORE waits for it. -/
  | write (bytes : List (Option Byte)) (owner : Option (Nat × Nat))
  /-- One unit of a weight-cache line fetch of a caldera. -/
  | lineRead (caldera line : Nat)
  deriving DecidableEq, Repr

/-- An access that a channel controller accepted into its queue (R200, R207). -/
structure Access where
  part : Nat
  pa : Nat
  kind : AccessKind
  /-- The translation that it took: page ID and entry (R177). -/
  page : Nat × Nat
  /-- It is a posted write of the host (R427). -/
  fromHost : Bool
  deriving DecidableEq, Repr

/-- A memory channel (R195, R200). -/
structure Channel where
  /-- Slot of the wheel that comes next, 0 to 63. -/
  slot : Nat
  queue : List Access
  /-- Refresh-busy (R199): 0 not, else 1 + the slots lost to it. -/
  busy : Nat
  deriving DecidableEq, Repr

def Channel.init : Channel := ⟨0, [], 0⟩

/-! ### Plans -/

/-- What the device holds of a partition's plan beside 2490h + p. -/
structure Plan where
  /-- Status and DETAIL that the load in progress ended with. -/
  pendingStatus : Nat
  pendingDetail : Nat
  pendingDigest : List Byte
  pendingId : Nat
  /-- The container that has passed steps 1 to 6 and is still to be written (R132). -/
  pendingBody : List Byte
  calderaMask : Nat
  digest : List Byte
  /-- Skein and START of the STREAMS section (R130). -/
  streams : List (Nat × Nat)
  queues : List Nat
  chains : List Nat
  decoders : List Nat
  blocks : List Nat
  launches : List Nat
  /-- Expected entries of the SINTER section (R232), 48 bytes each. -/
  expected : List (List Byte)
  /-- ACTIVATE taken; streams start at the next treadle frame (R213). -/
  starting : Bool
  /-- That treadle frame has begun, and its tick 0 is to start the streams. -/
  startDue : Bool
  /-- Treadle frames since the plan's first, for R338; 0 in the first. -/
  frame : Nat
  /-- Ticks of the present treadle frame released so far. -/
  tick : Nat
  deriving DecidableEq, Repr

def Plan.init : Plan :=
  { pendingStatus := 0, pendingDetail := 0, pendingDigest := [], pendingId := 0, pendingBody := [], calderaMask := 0, digest := [],
    streams := [], queues := [], chains := [], decoders := [], blocks := [], launches := [], expected := [],
    starting := false, startDue := false, frame := 0, tick := 0 }

/-! ### Sensors -/

/-- A run of concealed lines (R246, R248). -/
structure ConcealRun where
  cause : Nat
  first : Nat
  lines : Nat
  merged : Bool
  deriving DecidableEq, Repr

/-- The frame that is open on a camera stream (R244). -/
structure OpenFrame where
  number : Nat
  csi : Nat
  t0 : Nat
  /-- Next line index to be taken. -/
  next : Nat
  /-- Index given by the last Line Start (LINE_SYNC 01h). -/
  lineStart : Option Int
  runs : List ConcealRun
  /-- The last run, not merged (R243, R246). -/
  lastRun : Option ConcealRun
  concealed : Nat
  received : Nat
  skip : Bool
  extra : Bool
  /-- Some line deviated, in dimension-limit mode (R252). -/
  deviated : Bool
  /-- Lines that wait behind an index lost in dimension-limit mode: index, pixels, tag (R252). -/
  held : List (Nat × List Nat × Bool)
  /-- Lines handed to the chain. -/
  handed : Nat
  /-- The last four lines delivered, newest first (R247). -/
  history : List (List Nat)
  deriving DecidableEq, Repr

/-- A frame in the chain of a camera stream (R270 to R299). -/
structure ChainFrame where
  number : Nat
  t0 : Nat
  shiftY : Int
  /-- Lines handed to the chain: pixels and CONCEALED tag, in index order (R245). -/
  lines : List (List Nat × Bool)
  /-- 0 no PROJECT stage, 1 to be started, 2 in a lane, 3 complete. -/
  projection : Nat
  /-- Height plane, one byte a cell, from the points in the ring when the projection started (R281, R282). -/
  plane : List Nat
  /-- Points in the window of the projection, and whether some source was marked. -/
  projected : Nat
  marked : Bool
  heightGap : Bool
  holdAbandon : Bool
  missing : Bool
  geometry : Bool
  fallback : Bool
  /-- The frame record has been formed; INVALID of it (R299). -/
  closed : Bool
  invalid : Bool
  /-- Rows landed of each level, and stripes released of each. -/
  rows : List Nat
  released : List Nat
  /-- Tiles marked, (TX, TY) in order; none until the mask is read (R289). -/
  tiles : Option (List (Nat × Nat))
  /-- Slots taken so far, batches formed so far, and whether the batch in hand was dropped (R297). -/
  slotsDone : Nat
  batches : Nat
  skipping : Bool
  overflow : Bool
  /-- Every batch has been formed, and the last entry has been pushed. -/
  formed : Bool
  pushed : Bool
  deriving DecidableEq, Repr

/-- A slot waiting for, or in, a gather engine (R294). -/
structure GatherSlot where
  stream : Nat
  frame : Nat
  submit : Nat
  slot : Nat
  /-- Device address of its tile-list entry. -/
  list : Nat
  /-- none for a padding slot. -/
  tile : Option (Nat × Nat)
  /-- Some line about the tile carried the CONCEALED tag (R293). -/
  concealed : Bool
  /-- The chain that released it, which an UNLOAD may have taken away since (R302). -/
  chain : List Byte
  deriving DecidableEq, Repr

/-- A batch entry not yet pushed (R296, R297). -/
structure BatchEntry where
  submit : Nat
  frame : Nat
  batch : Nat
  tiles : Nat
  /-- Slots not yet gathered. -/
  slotsLeft : Nat
  flags : Nat
  flags2 : Nat
  list : Nat
  t0 : Nat
  queue : Nat
  /-- Reported under R297 as late. -/
  late : Bool
  /-- Real tile-list entries written without INVALID: device address, TX, TY (R299). -/
  clean : List (Nat × Nat × Nat)
  deriving DecidableEq, Repr

/-- A camera stream beside 2540h + n and 2710h + n. -/
structure Camera where
  openFrame : Option OpenFrame
  lastCsi : Option Nat
  frames : List ChainFrame
  entries : List BatchEntry
  /-- SUBMIT of the next batch (R295). -/
  nextSubmit : Nat
  /-- BATCH_FREE at ENABLE (R295). -/
  free0 : Nat
  /-- The last mask that was taken: its 512 bytes of rows (R289). -/
  lastMask : Option (List Byte)
  deriving DecidableEq, Repr

def Camera.init : Camera :=
  { openFrame := none, lastCsi := none, frames := [], entries := [], nextSubmit := 0, free0 := 0, lastMask := none }

/-- A datagram in reassembly (R254). -/
structure Reassembly where
  source : Nat
  ident : Nat
  /-- Fragments: offset in bytes and data; and whether the last fragment is among them. -/
  parts : List (Nat × List Byte)
  total : Option Nat
  stamp : Nat
  deriving DecidableEq, Repr

/-- The sample that a decoder holds (R261): its place in the RX ring, and what decoding found. -/
structure Sample where
  off : Nat
  len : Nat
  stamp : Nat
  number : Nat
  takenAt : Nat
  /-- Decoding has finished. -/
  decoded : Bool
  cause : Nat
  sequence : Option Nat
  baseTime : Option Nat
  offset : Nat
  item : Nat
  /-- Points in the staging area. -/
  points : Nat
  deriving DecidableEq, Repr

/-- A range decoder beside 2610h + d (R258 to R268). -/
structure Decoder where
  /-- The 512 bytes of the schema; empty when none is loaded. -/
  schema : List Byte
  reassembly : Option Reassembly
  /-- RX ring: datagrams complete and not taken: offset, length, arrival stamp. -/
  ring : List (Nat × Nat × Nat)
  /-- Offset in the ring at which the next datagram is put. -/
  rxPos : Nat
  sample : Option Sample
  /-- Expected SEQUENCE; none before the first sample after ENABLE (R263). -/
  expected : Option Nat
  /-- Entries stored in the history ring of the stream (R278). -/
  stored : Nat
  deriving DecidableEq, Repr

def Decoder.init : Decoder :=
  { schema := [], reassembly := none, ring := [], rxPos := 0, sample := none, expected := none, stored := 0 }

/-! ### Post-processor -/

/-- A candidate box (R157 to R160): edges in 1/16 pixel, FP32 score. -/
structure Candidate where
  x0 : Int
  y0 : Int
  x1 : Int
  y1 : Int
  cls : Nat
  score : Nat
  index : Nat
  tile : Nat
  tileInvalid : Bool
  deriving DecidableEq, Repr

/-- A job that an engine holds (R163). -/
structure Job where
  block : Nat
  entry : List Byte
  /-- Order of its pop among all jobs. -/
  order : Nat
  poppedAt : Nat
  outQueue : Nat
  /-- Finished decoding, ordering and suppression, with STATUS and records. -/
  finished : Bool
  status : Nat
  records : List (List Byte)
  candOvf : Bool
  outOvf : Bool
  deriving DecidableEq, Repr

/-! ### Launch -/

/-- An event of a launch calendar (R319). -/
structure LaunchEvent where
  nozzle : Nat
  isOpen : Bool
  degraded : Bool
  deriving DecidableEq, Repr

/-- A launch queue beside 2A10h + L. -/
structure LaunchQ where
  /-- The LAUNCH section; empty when none is loaded. -/
  body : List Byte
  /-- Grid instants with their events, rising (R319). -/
  calendar : List (Nat × List LaunchEvent)
  /-- Hold count of each nozzle of the queue (R319). -/
  counts : Tbl Nat
  /-- Instant since which each count has stayed above zero (R325). -/
  since : Tbl Nat
  sequence : Nat
  lastState : Nat
  lateSeen : Bool
  /-- The calendar met a code error (R319). -/
  calError : Bool
  /-- Instant of the last frame sent (R325). -/
  lastSent : Nat
  /-- The launch mapper served this queue last (R339). -/
  mapped : Bool
  deriving DecidableEq, Repr

def LaunchQ.init : LaunchQ :=
  { body := [], calendar := [], counts := [], since := [], sequence := 0, lastState := 0, lateSeen := false,
    calError := false, lastSent := 0, mapped := false }

/-- The residence of a two-step Sync on an out port (R311), in 2^-16 ns, and the fabric cycle of its ingress. -/
structure PtpPending where
  out : Nat
  sourcePort : Nat
  sequenceId : Nat
  domain : Nat
  residence : Int
  tIn : Nat
  deriving DecidableEq, Repr

/-! ### Safety -/

/-- A fault that awaits its classification (R340). -/
structure PendingFault where
  code : Nat
  source : Nat
  detail : Nat
  stamp : Nat
  /-- Its scope is every partition (R331). -/
  everyPart : Bool
  /-- What names the work that is its retry beside SOURCE, as the code says (R340); of code 01h on a compute-die path one more
  than the caldera, 0 on a path of the I/O die. -/
  key : Nat
  /-- Frames or iterations of its SOURCE that have ended since. -/
  passes : Nat
  /-- What the work that is its retry has shown: it passed, or it failed (R340). -/
  verdict : Option Bool
  deriving DecidableEq, Repr

/-- A sinter record (R227). -/
structure SinterRec where
  kind : Nat
  flags : Nat
  skein : Nat
  ctx : Nat
  tag : Nat
  iteration : Nat
  planId : Nat
  bytes : Nat
  stamp : Nat
  digest : List Byte
  deriving DecidableEq, Repr

/-- A caldera pair's comparator (R344 to R348). -/
structure Pair where
  /-- Checkpoint records that have arrived and not been judged. -/
  arrivals : List SinterRec
  held : List SinterRec
  deriving DecidableEq, Repr

/-- An installed GOLDEN pattern (R357). -/
structure Golden where
  sequence : Nat
  planDigest : List Byte
  /-- Device address of the golden batch in the pattern store. -/
  batch : Nat
  entries : List (List Byte)
  deriving DecidableEq, Repr

/-- Safety of a partition beside 2B08h + p and 2B38h + p. -/
structure PartSafety where
  pending : List PendingFault
  /-- Some fault classed lasting while RETRYING (R342). -/
  lasting : Bool
  acked : Bool
  /-- Calderas that passed a geyser check since RECOVERING was entered (R342). -/
  geyserPassed : List Nat
  /-- Geyser entries matched in the present period: SKEIN, KIND, TAG; calderas with a mismatch (R356). -/
  matched : List (Nat × Nat × Nat)
  mismatched : List Nat
  geyserCount : Nat
  golden : Option Golden
  nextGolden : Option Golden
  /-- BASE of the deadline watches (R338). -/
  bases : Tbl Nat
  deriving DecidableEq, Repr

def PartSafety.init : PartSafety :=
  { pending := [], lasting := false, acked := false, geyserPassed := [], matched := [], mismatched := [],
    geyserCount := 0, golden := none, nextGolden := none, bases := [] }

/-- The safety monitor as a whole (R330 to R342). -/
structure Safety where
  parts : Tbl PartSafety
  pairs : Tbl Pair
  /-- Transients of the last second: SOURCE, CODE, instant (R340). -/
  transients : List (Nat × Nat × Nat)
  /-- A fault lasting until reset (R340, R342). -/
  lastingAll : Bool
  /-- Warnings in force: CODE, SOURCE (R336). -/
  warnings : List (Nat × Nat)
  logSeq : Nat
  /-- The release of FAULT_N has been refreshed within 20 us (R333). -/
  refreshed : Bool
  /-- The monitor stopped refreshing (R333). -/
  monitorLost : Bool
  /-- SELFTEST vectors installed: they take effect at the start of each caldera's next sweep (R357, R358). -/
  vectors : List (List Byte)
  deriving DecidableEq, Repr

/-! ### Control -/

/-- A mirror mailbox (R384). -/
structure Mailbox where
  request : Nat
  length : Nat
  busy : Bool
  done : Bool
  aborted : Bool
  overrun : Bool
  abort : Nat
  data : Nat
  deriving DecidableEq, Repr

def Mailbox.init : Mailbox := ⟨0, 0, false, false, false, false, 0, 0⟩

/-- NMT state of a controller (R381). -/
inductive Nmt where
  | off | preOperational | operational | stopped
  deriving DecidableEq, Repr

/-- A CAN FD controller (R379 to R383). -/
structure Can where
  nmt : Nmt
  busOff : Bool
  /-- Segmented transfer in progress: index, sub, length, next toggle, bytes so far (R380). -/
  segment : Option (Nat × Nat × Nat × Bool × List Byte)
  /-- RPDO data received and waiting for SYNC: RPDO number, data (R382). -/
  waiting : List (Nat × List Byte)
  /-- SYNCs counted for each TPDO (R382). -/
  syncs : Tbl Nat
  deriving DecidableEq, Repr

def Can.init : Can := ⟨.off, false, none, [], []⟩

/-! ### Reset and boot -/

/-- Reset, option bytes, firmware and identity (R391 to R419). -/
structure Boot where
  /-- Release steps of R399 done: 0 nothing, k + 1 when step k has been released. Step 7 is counted per caldera below. -/
  released : Nat
  /-- Calderas released in step 7. -/
  calderas : Nat
  /-- The always-on domain is out of reset: the timebase runs (R399 step 1). -/
  aon : Bool
  resetN : Bool
  perstN : Bool
  /-- Restarts for a PLL that did not lock (R399); 3 holds the device. -/
  pllRestarts : Nat
  /-- The reset fill of package memory has completed (R205). -/
  filled : Bool
  /-- OTP option slots written, slot 0 first (R396). -/
  slots : List (List Byte)
  /-- Slot in force, none for NONE. -/
  slotInForce : Option Nat
  cause : Nat
  resets : Nat
  lastStamp : Nat
  /-- The timebase when the option-byte read began (2100h:07). -/
  optionStart : Nat
  tempPeak : Option Int
  /-- SPI NOR content as far as PROGRAM wrote it: the image staged for it. -/
  programming : List Byte
  /-- The image that runs; empty for none. -/
  image : List Byte
  /-- SVN fuses blown (R410). -/
  fuses : Nat
  lifecycle : Nat
  /-- The integrator's pattern key, once loaded (R418). -/
  patternKey : Option (List Byte)
  /-- A NONCE has been written since the last ATTEST (R416). -/
  nonceFresh : Bool
  /-- Measurement log, oldest first (R414). -/
  log : List (List Byte)
  /-- LOAD is accepted in FAILED (R409, R420). -/
  loadAccepted : Bool
  deriving DecidableEq, Repr

/-! ### Links -/

/-- One end of a device link (R433 to R436). -/
structure Link where
  txSeq : Nat
  rxSeq : Nat
  /-- Frames sent and not acknowledged, oldest first, with their retransmissions (R435). -/
  replay : List (LinkFrame × Nat)
  credit0 : Nat
  credit1 : Nat
  /-- Frames that wait for a credit. -/
  waiting : List LinkFrame
  /-- The neighbour's PARENT is this link (R443). -/
  child : Bool
  /-- COUNT of the child: bitmap, lowest duplicate, depth below (R443). -/
  counted : Option (Nat × Nat × Nat)
  deriving DecidableEq, Repr

def Link.init : Link := ⟨0, 0, [], 0, 0, [], false, none⟩

/-- Discovery beside 2E00h (R443). -/
structure Discovery where
  /-- Neighbour of the offer taken. -/
  parentNode : Nat
  /-- Own COUNT sent, or the DONE relayed. -/
  countSent : Bool
  bitmap : Nat
  /-- Node ID to link, for every node of a child subtree (R438). -/
  routes : List (Nat × Nat)
  deriving DecidableEq, Repr

/-! ### Debug -/

/-- JTAG, breaks and trace (R446 to R461). -/
structure Debug where
  /-- Level of an unlock in force, 0 for none. -/
  unlock : Nat
  nonces : Nat
  /-- Calderas with the lock-step break flag, and the device-wide flag (R450). -/
  broken : List Nat
  deviceBreak : Bool
  /-- Trace FIFO, oldest first (R458), and packets dropped since the last LOST. -/
  fifo : List (List Byte)
  lostSince : Nat
  /-- Data register of the TAP: what the last instruction shifts out. -/
  shifted : Nat
  /-- Calderas in the stop's scope that have not yet taken it, or not yet taken the release. -/
  untaken : List Nat
  deriving DecidableEq, Repr

/-- What leaves the pins or the bridge of the device (the model's own record, newest first). -/
inductive Out where
  /-- A launch frame on output MAC 4 or 5: its Ethernet header, and its payload of 96 bytes (R316); a frame cut off by a
  reset is not listed. -/
  | launch (mac : Nat) (header payload : List Byte)
  /-- MSI-X message (R430). -/
  | msix (vector : Nat)
  /-- MSI-X message that its entry masks: the vector's pending bit is set (R430). -/
  | msixHeld (vector : Nat)
  /-- EMCY on a controller (R334). -/
  | emcy (can : Nat) (bytes : List Byte)
  /-- Boot-up or heartbeat with the NMT state (R380). -/
  | bootUp (can : Nat)
  | heartbeat (can : Nat) (state : Nat)
  | tpdo (can n : Nat) (data : List Byte)
  /-- USDO answer: abort code 0 for success, then length and value. -/
  | usdo (can abort len value : Nat)
  /-- A data frame or a control frame on a link (R434). -/
  | frame (link : Nat) (f : LinkFrame)
  | control (link type seq credits : Nat)
  /-- PTP messages: forwarded, originated with their egress stamps in ns since timebase zero (R307, R308, R311, R312); the
  correction in 2^-16 ns, the rate offset in 2^-41. -/
  | ptp (mac : Nat) (msg : PtpMessage)
  | delayReq (mac : Nat) (stamp : Int)
  | pdelayReq (mac : Nat) (stamp : Int)
  | pdelayResp (mac : Nat) (received sent : Int)
  | gptpSync (mac : Nat) (stamp : Int)
  | gptpFollowUp (mac : Nat) (correction rateOffset : Int)
  | arpReply (mac : Nat) (target : List Byte)
  /-- Camera trigger edge (R314). -/
  | trigger (port slot : Nat)
  /-- A host read's answer: data, Completer Abort, or all ones (R424, R425). -/
  | hostRead (bytes : List Byte)
  | completerAbort (device : Nat) (status : Nat)
  | hostOnes (width : Nat)
  /-- Boundary scan and the TAP's data register (R447). -/
  | scan (code : Nat)
  | tap (width value : Nat)
  /-- A trace packet on the fumarole pins (R458). -/
  | trace (packet : List Byte)
  deriving DecidableEq, Repr

/-- The whole device. -/
structure State where
  /-- Commands waiting, first in, first out. -/
  pending : List Instr
  /-- Dictionary registers: key 256 × index + subindex; unlisted: the default of the object map (R369, R371). -/
  dict : Tbl Nat
  /-- Accepted values of the shadows of R375, same keys; unlisted: the shadow's default. -/
  accepted : Tbl Nat
  /-- SELECT of each agent: key 256 × 65536 × agent + key of the subindex (R368). -/
  selects : Tbl Nat
  /-- Latched seconds, nanoseconds and fraction of each agent, and the latched progress values (R368). -/
  latches : Tbl Nat
  /-- Abort code of each agent's last access, 0 where it was accepted, and what a read returned. -/
  replies : Tbl (Nat × Nat)
  /-- Bytes of every memory of the device (keys: Machine/Ops.lean); unlisted: 00h (R67, R205). -/
  mem : List Host.Cell
  /-- Damage of stored codewords: key 36 × codeword + symbol, error added to the symbol (R197). -/
  flips : Tbl Nat
  /-- Host RAM by bus address (outside the device); unlisted: the host's own. -/
  hostMem : List Host.Cell
  /-- Translation store in force, and its shadows; unlisted: the entry of R179. -/
  xlat : Tbl Nat
  xlatShadow : Tbl Nat
  queues : Tbl Queue
  /-- Synchronisation objects, 32-bit counters (R111). -/
  syncs : Tbl Nat
  time : Timebase
  boot : Boot
  skeins : Tbl Skein
  spindles : Tbl Spindle
  calderas : Tbl Caldera
  channels : Tbl Channel
  /-- Scrub read that awaits its write-back: unit address (R202). -/
  scrubPending : Option Nat
  /-- Banks that go to OFF rather than RETAIN, or come from OFF (R207). -/
  bankTargets : Tbl Nat
  plans : Tbl Plan
  cameras : Tbl Camera
  /-- Chains of stage records by stream (R270); unlisted: none. -/
  chains : Tbl (List Byte)
  decoders : Tbl Decoder
  /-- Camera streams whose frame a projector lane holds, at most 8 (R283). -/
  lanes : List Nat
  /-- Slots that wait for a gather engine, in order of release, and those in an engine (R294). -/
  gatherQueue : List GatherSlot
  gatherBusy : Tbl GatherSlot
  /-- Parameter blocks (R153); unlisted: none. -/
  blocks : Tbl (List Byte)
  engines : Tbl Job
  jobOrder : Nat
  nextBlock : Nat
  launches : Tbl LaunchQ
  /-- Two-step Syncs forwarded and waiting for their Follow_Up (R311). -/
  ptpPending : List PtpPending
  /-- Instant of the last write of the speed, none before the first (R324). -/
  speedAt : Option Nat
  safety : Safety
  mailboxes : Tbl Mailbox
  /-- Mailboxes whose requests wait for the arbiter, oldest first (R385). -/
  mirrorQueue : List Nat
  cans : Tbl Can
  /-- Bus Master Enable, and D3hot (R426). -/
  busMaster : Bool
  d3hot : Bool
  /-- MSI-X table of the endpoint: entry of 128 bits by vector, Vector Control in bits 96 to 127, of which bit 96 masks
  (R423, R430); unlisted: zeros. -/
  msixTable : Tbl Nat
  links : Tbl Link
  discovery : Discovery
  dbg : Debug
  /-- Model's own: how many free values have been taken (Config). -/
  freeUsed : Nat
  out : List Out
  deriving DecidableEq, Repr

/-- The machine right after a Power-class reset has asserted (R391, R392): every domain in reset, the rails up, the
option slots unwritten, every register at its default. Values the manual leaves to manufacture are named in the log. -/
def State.reset : State :=
  { pending := [], dict := [], accepted := [], selects := [], latches := [], replies := [], mem := [], flips := [],
    hostMem := [], xlat := [], xlatShadow := [], queues := [], syncs := [],
    time := { seconds := 0, nanos := 0, frac := 0, slewLeft := 0, servoSum := 0, lockCount := 0, holdoverSince := 0,
              cycles := 0, syncDelta := none, pathDelay := 0, peers := [] },
    boot :=
      { released := 0, calderas := 0, aon := false, resetN := true, perstN := true, pllRestarts := 0, filled := false,
        slots := [], slotInForce := none, cause := 1, resets := 1, lastStamp := 0, optionStart := 0, tempPeak := none,
        programming := [], image := [], fuses := 0, lifecycle := 2, patternKey := none, nonceFresh := false, log := [],
        loadAccepted := false }
    skeins := [], spindles := [], calderas := [], channels := [], scrubPending := none, bankTargets := [], plans := [],
    cameras := [], chains := [], decoders := [], lanes := [], gatherQueue := [], gatherBusy := [], blocks := [],
    engines := [], jobOrder := 0, nextBlock := 0, launches := [], ptpPending := [], speedAt := none,
    safety :=
      { parts := [], pairs := [], transients := [], lastingAll := false, warnings := [], logSeq := 0, refreshed := false,
        monitorLost := false, vectors := [] }
    mailboxes := [], mirrorQueue := [], cans := [], busMaster := false, d3hot := false, msixTable := [], links := [],
    discovery := { parentNode := 0, countSent := false, bitmap := 0, routes := [] }
    dbg :=
      { unlock := 0, nonces := 0, broken := [], deviceBreak := false, fifo := [], lostSince := 0, shifted := 0,
        untaken := [] }
    freeUsed := 0, out := [] }

end Sys2Proof.Machine
end

