-- ==== Sys2Proof/Machine/Ops.lean ====
section
/-! DEFINITION. Ops: numbers and bytes, tables in canonical form, memory, the symbol code of R197 and R198, and the accessors of State through which every
meaning reads and writes it. -/
namespace Sys2Proof.Machine

/-! ### Numbers and bytes (R10, R370) -/

/-- Bits `[hi:lo]` of `v`. -/
def bits (v hi lo : Nat) : Nat := v / 2 ^ lo % 2 ^ (hi + 1 - lo)
/-- Bit `n` of `v`. -/
def bit (v n : Nat) : Bool := v / 2 ^ n % 2 == 1
/-- 1 for true. -/
def b2n (b : Bool) : Nat := if b then 1 else 0
/-- `v` with bit `n` set. -/
def setBit (v n : Nat) : Nat := if bit v n then v else v + 2 ^ n
/-- `v` with bit `n` clear. -/
def clearBit (v n : Nat) : Nat := if bit v n then v - 2 ^ n else v
/-- Two's complement value of `w` bits. -/
def sgn (w v : Nat) : Int := if v % 2 ^ w < 2 ^ (w - 1) then (v % 2 ^ w : Nat) else (v % 2 ^ w : Nat) - (2 ^ w : Nat)
/-- `w`-bit two's complement encoding of an integer. -/
def enc (w : Nat) (i : Int) : Nat := (i % (2 ^ w : Nat)).toNat
/-- Clamp to a closed interval. -/
def clampI (lo hi i : Int) : Int := if i < lo then lo else if hi < i then hi else i
/-- Little-endian value of bytes (R10). -/
def leNat : List Byte → Nat
  | [] => 0
  | b :: r => b.toNat + 256 * leNat r
/-- The `n` little-endian bytes of `v` (R10). -/
def leBytes : Nat → Nat → List Byte
  | 0, _ => []
  | n + 1, v => BitVec.ofNat 8 v :: leBytes n (v / 256)
/-- Big-endian value of bytes. -/
def beNat (bs : List Byte) : Nat := bs.foldl (fun n b => n * 256 + b.toNat) 0
/-- Big-endian bytes. -/
def beBytes (n v : Nat) : List Byte := (leBytes n v).reverse
/-- Bytes `[off, off+n)` of a record; bytes past its end read as zero. -/
def slice (bs : List Byte) (off n : Nat) : List Byte :=
  let r := (bs.drop off).take n
  r ++ List.replicate (n - r.length) 0
/-- Little-endian field of a record. -/
def field (bs : List Byte) (off n : Nat) : Nat := leNat (slice bs off n)
/-- Record with the field at `off` replaced. -/
def setField (bs : List Byte) (off n v : Nat) : List Byte := bs.take off ++ leBytes n v ++ bs.drop (off + n)
/-- `n` bytes of zero. -/
def zeros (n : Nat) : List Byte := List.replicate n 0
/-- Rounds up to a multiple of `m`. -/
def ceilTo (v m : Nat) : Nat := (v + m - 1) / m * m
def ceilDiv (v m : Nat) : Nat := (v + m - 1) / m
/-- 64-bit base-2 logarithm, rounded down, of a power of two. -/
def log2Of (v : Nat) : Nat := Nat.log2 v

/-! ### Tables -/

/-- Value at `k`; `d` where the table does not list it. -/
def tblGet {α : Type} (d : α) (t : Tbl α) (k : Nat) : α :=
  match t with
  | [] => d
  | (j, v) :: r => if j = k then v else tblGet d r k

/-- Insertion in order of the key, before the first larger key. -/
def tblIns {α : Type} (t : Tbl α) (k : Nat) (v : α) : Tbl α :=
  match t with
  | [] => [(k, v)]
  | (j, w) :: r => if k < j then (k, v) :: (j, w) :: r else (j, w) :: tblIns r k v

/-- The table without `k`. -/
def tblDel {α : Type} (t : Tbl α) (k : Nat) : Tbl α := t.filter (fun e => decide (e.1 ≠ k))

/-- The table with `v` at `k`. Writing the default removes the entry. -/
def tblPut {α : Type} [DecidableEq α] (d : α) (t : Tbl α) (k : Nat) (v : α) : Tbl α :=
  if v = d then tblDel t k else tblIns (tblDel t k) k v

/-- Canonical form: keys strictly rising, no value equal to the default. -/
def tblWf {α : Type} [DecidableEq α] (d : α) : Tbl α → Bool
  | [] => true
  | (k, v) :: r => decide (v ≠ d) && r.all (fun e => decide (k < e.1)) && tblWf d r

/-! ### Memory

One byte table holds every memory of the device. Keys: a package physical address as it is; a scratchpad, local store
or I/O buffer byte at its device address of R171; the side array of R65 at `sideBase`. -/

def scratchBase : Nat := 0x800000000000
def storeBase : Nat := 0x810000000000
def bufferBase : Nat := 0x900000000000
def sideBase : Nat := 0x1000000000000

/-- Reads one byte. -/
def rdByte (m : List Host.Cell) (a : Nat) : Byte := tblGet 0 m a
/-- Writes one byte. -/
def wrByte (m : List Host.Cell) (a : Nat) (b : Byte) : List Host.Cell := tblPut 0 m a b
/-- Reads `n` bytes. -/
def rdBytes (m : List Host.Cell) (a n : Nat) : List Byte := (List.range n).map (fun i => rdByte m (a + i))
/-- Writes bytes from `a` on. -/
def wrBytes (m : List Host.Cell) (a : Nat) : List Byte → List Host.Cell
  | [] => m
  | b :: r => wrBytes (wrByte m a b) (a + 1) r
/-- Writes the enabled bytes from `a` on. -/
def wrEnabled (m : List Host.Cell) (a : Nat) : List (Option Byte) → List Host.Cell
  | [] => m
  | none :: r => wrEnabled m (a + 1) r
  | some b :: r => wrEnabled (wrByte m a b) (a + 1) r
/-- Removes every byte of `[a, a+n)`: it then reads as zero. -/
def wipe (m : List Host.Cell) (a n : Nat) : List Host.Cell := m.filter (fun c => decide (c.1 < a ∨ a + n ≤ c.1))
/-- The memory's canonical form. -/
abbrev Memory.wf (m : List Host.Cell) : Prop := tblWf (0 : Byte) m = true

/-! ### The symbol code (R197, R198) -/

/-- Product in GF(16) with x^4 + x + 1. -/
def gfMul (a b : Nat) : Nat :=
  let p := (List.range 4).foldl (fun p i => if bit b i then p ^^^ (a * 2 ^ i) else p) 0
  (List.range 3).foldl (fun p k => if bit p (6 - k) then p ^^^ (0x13 * 2 ^ (2 - k)) else p) p
def gfQ (a b : Nat) : Nat := gfMul a a ^^^ gfMul a b ^^^ gfMul 8 (gfMul b b)
/-- Column h_j. -/
def codeColumn (j : Nat) : List Nat :=
  if j < 32 then
    let a := j % 16
    let b := if j < 16 then 2 else 3
    [1, gfQ a b, a, b]
  else if j = 32 then [1, 0, 0, 0] else if j = 33 then [0, 1, 0, 0] else if j = 34 then [1, 1, 1, 0] else [1, 8, 0, 1]
/-- Syndrome of the errors (symbol, value) of one codeword; that of an undamaged codeword is zero. -/
def codeSyndrome (errs : List (Nat × Nat)) : List Nat :=
  errs.foldl (fun s e => List.zipWith (· ^^^ ·) s ((codeColumn e.1).map (gfMul e.2))) [0, 0, 0, 0]

/-- What a read of a codeword finds (R198). -/
inductive CodeResult where
  | clean
  | corrected (symbol : Nat)
  | uncorrectable
  deriving DecidableEq, Repr

/-- The one symbol and error whose syndrome this is. -/
def codeJudge (s : List Nat) : CodeResult :=
  if s = [0, 0, 0, 0] then .clean
  else
    match (List.range 36).find? (fun j => (List.range 16).any (fun e => e ≠ 0 && (codeColumn j).map (gfMul e) == s)) with
    | some j => .corrected j
    | none => .uncorrectable

/-- What a read of the codeword with index `cw` (address / 16) finds. -/
def State.codeAt (s : State) (cw : Nat) : CodeResult :=
  let errs := (s.flips.filter (fun e => e.1 / 36 == cw)).map (fun e => (e.1 % 36, e.2))
  if errs = [] then .clean else codeJudge (codeSyndrome errs)

/-- Codewords that bytes `[a, a+n)` touch. -/
def codewords (a n : Nat) : List Nat := (List.range ((a + n + 15) / 16 - a / 16)).map (fun i => a / 16 + i)
/-- Some codeword of the range is uncorrectable. -/
def State.badRange (s : State) (a n : Nat) : Bool :=
  s.flips != [] && (codewords a n).any (fun cw => s.codeAt cw == .uncorrectable)
/-- Codewords of the range that a read corrects, with the symbol. -/
def State.correctedIn (s : State) (a n : Nat) : List (Nat × Nat) :=
  if s.flips = [] then [] else
  (codewords a n).filterMap (fun cw => match s.codeAt cw with
    | .corrected j => some (cw, j)
    | _ => none)
/-- Address of the first uncorrectable codeword at or after `a`; `a` where there is none. -/
def State.firstBad (s : State) (a : Nat) : Nat :=
  match (s.flips.map (fun e => e.1 / 36)).find? (fun cw => decide (a / 16 ≤ cw) && s.badRange (16 * cw) 16) with
  | some cw => 16 * cw
  | none => a
/-- Errors that the data of a codeword still carry when they are delivered: those of a codeword taken as correct, and for a
corrected one its errors with the error that the correction adds (R198). None for an uncorrectable one. -/
def State.seenErrors (s : State) (cw : Nat) : List (Nat × Nat) :=
  let errs := (s.flips.filter (fun e => e.1 / 36 == cw)).map (fun e => (e.1 % 36, e.2))
  match s.codeAt cw with
  | .clean => errs
  | .corrected j =>
    match (List.range 16).find? (fun e => e ≠ 0 && (codeColumn j).map (gfMul e) == codeSyndrome errs) with
    | some e => (j, e) :: errs
    | none => errs
  | .uncorrectable => []
/-- Byte as its reader sees it: data symbol j holds data bits [4j+3:4j] of its codeword (R197). -/
def State.byteAt (s : State) (a : Nat) : Byte :=
  if s.flips = [] then rdByte s.mem a
  else
    (s.seenErrors (a / 16)).foldl (fun b e =>
      if e.1 / 2 = a % 16 then b ^^^ BitVec.ofNat 8 (e.2 % 16 * 16 ^ (e.1 % 2)) else b) (rdByte s.mem a)

/-! ### Accessors of the state -/

/-! One part of the state replaced. -/

def State.withDict (s : State) (x : Tbl Nat) : State := { s with dict := x }
def State.withAccepted (s : State) (x : Tbl Nat) : State := { s with accepted := x }
def State.withSelects (s : State) (x : Tbl Nat) : State := { s with selects := x }
def State.withLatches (s : State) (x : Tbl Nat) : State := { s with latches := x }
def State.withReplies (s : State) (x : Tbl (Nat × Nat)) : State := { s with replies := x }
def State.withMem (s : State) (x : List Host.Cell) : State := { s with mem := x }
def State.withFlips (s : State) (x : Tbl Nat) : State := { s with flips := x }
def State.withHostMem (s : State) (x : List Host.Cell) : State := { s with hostMem := x }
def State.withXlat (s : State) (x : Tbl Nat) : State := { s with xlat := x }
def State.withXlatShadow (s : State) (x : Tbl Nat) : State := { s with xlatShadow := x }
def State.withScrubPending (s : State) (x : Option Nat) : State := { s with scrubPending := x }
def State.withBankTargets (s : State) (x : Tbl Nat) : State := { s with bankTargets := x }
def State.withChains (s : State) (x : Tbl (List Byte)) : State := { s with chains := x }
def State.withLanes (s : State) (x : List Nat) : State := { s with lanes := x }
def State.withGatherQueue (s : State) (x : List GatherSlot) : State := { s with gatherQueue := x }
def State.withGatherBusy (s : State) (x : Tbl GatherSlot) : State := { s with gatherBusy := x }
def State.withBlocks (s : State) (x : Tbl (List Byte)) : State := { s with blocks := x }
def State.withEngines (s : State) (x : Tbl Job) : State := { s with engines := x }
def State.withJobOrder (s : State) (x : Nat) : State := { s with jobOrder := x }
def State.withNextBlock (s : State) (x : Nat) : State := { s with nextBlock := x }
def State.withPtpPending (s : State) (x : List PtpPending) : State := { s with ptpPending := x }
def State.withSpeedAt (s : State) (x : Option Nat) : State := { s with speedAt := x }
def State.withSafety (s : State) (x : Safety) : State := { s with safety := x }
def State.withMailboxes (s : State) (x : Tbl Mailbox) : State := { s with mailboxes := x }
def State.withMirrorQueue (s : State) (x : List Nat) : State := { s with mirrorQueue := x }
def State.withBusMaster (s : State) (x : Bool) : State := { s with busMaster := x }
def State.withD3hot (s : State) (x : Bool) : State := { s with d3hot := x }
def State.withMsixTable (s : State) (x : Tbl Nat) : State := { s with msixTable := x }
def State.withDiscovery (s : State) (x : Discovery) : State := { s with discovery := x }
def State.withDbg (s : State) (x : Debug) : State := { s with dbg := x }
def State.withFreeUsed (s : State) (x : Nat) : State := { s with freeUsed := x }

/-- `n` bytes as their reader sees them. -/
def State.rd (s : State) (a n : Nat) : List Byte := (List.range n).map (fun i => s.byteAt (a + i))
def State.wr (s : State) (a : Nat) (bs : List Byte) : State := { s with mem := wrBytes s.mem a bs }
def State.rdLe (s : State) (a n : Nat) : Nat := leNat (s.rd a n)
/-- The codewords `cws` are written with valid code over the data that a read of them delivers. -/
def State.recode (s : State) (cws : List Nat) : State :=
  { s with mem := cws.foldl (fun m cw => wrBytes m (16 * cw) (s.rd (16 * cw) 16)) s.mem
           flips := s.flips.filter (fun e => !cws.contains (e.1 / 36)) }
/-- Corrected data of a range are written back. -/
def State.heal (s : State) (a n : Nat) : State :=
  if s.flips = [] then s else s.recode ((codewords a n).filter (fun cw => s.codeAt cw != .uncorrectable))
/-- Writes bytes with valid code; a codeword that was uncorrectable and is covered in part stays so. -/
def State.put (s : State) (a : Nat) (bs : List Byte) : State :=
  if s.flips = [] then s.wr a bs
  else
    (s.recode ((codewords a bs.length).filter (fun cw =>
      s.codeAt cw != .uncorrectable || (decide (a ≤ 16 * cw) && decide (16 * cw + 16 ≤ a + bs.length))))).wr a bs

def State.skein (s : State) (g : Nat) : Skein := tblGet Skein.init s.skeins g
def State.setSkein (s : State) (g : Nat) (k : Skein) : State := { s with skeins := tblPut Skein.init s.skeins g k }
def State.modSkein (s : State) (g : Nat) (f : Skein → Skein) : State := s.setSkein g (f (s.skein g))
def State.spindle (s : State) (u : Nat) : Spindle := tblGet Spindle.init s.spindles u
def State.setSpindle (s : State) (u : Nat) (k : Spindle) : State := { s with spindles := tblPut Spindle.init s.spindles u k }
def State.modSpindle (s : State) (u : Nat) (f : Spindle → Spindle) : State := s.setSpindle u (f (s.spindle u))
def State.caldera (s : State) (c : Nat) : Caldera := tblGet Caldera.init s.calderas c
def State.setCaldera (s : State) (c : Nat) (k : Caldera) : State := { s with calderas := tblPut Caldera.init s.calderas c k }
def State.modCaldera (s : State) (c : Nat) (f : Caldera → Caldera) : State := s.setCaldera c (f (s.caldera c))
def State.queue (s : State) (q : Nat) : Queue := tblGet Queue.init s.queues q
def State.setQueue (s : State) (q : Nat) (k : Queue) : State := { s with queues := tblPut Queue.init s.queues q k }
def State.modQueue (s : State) (q : Nat) (f : Queue → Queue) : State := s.setQueue q (f (s.queue q))
def State.channel (s : State) (q : Nat) : Channel := tblGet Channel.init s.channels q
def State.setChannel (s : State) (q : Nat) (k : Channel) : State := { s with channels := tblPut Channel.init s.channels q k }
def State.modChannel (s : State) (q : Nat) (f : Channel → Channel) : State := s.setChannel q (f (s.channel q))
def State.plan (s : State) (p : Nat) : Plan := tblGet Plan.init s.plans p
def State.setPlan (s : State) (p : Nat) (k : Plan) : State := { s with plans := tblPut Plan.init s.plans p k }
def State.modPlan (s : State) (p : Nat) (f : Plan → Plan) : State := s.setPlan p (f (s.plan p))
def State.camera (s : State) (n : Nat) : Camera := tblGet Camera.init s.cameras n
def State.setCamera (s : State) (n : Nat) (k : Camera) : State := { s with cameras := tblPut Camera.init s.cameras n k }
def State.modCamera (s : State) (n : Nat) (f : Camera → Camera) : State := s.setCamera n (f (s.camera n))
def State.decoder (s : State) (d : Nat) : Decoder := tblGet Decoder.init s.decoders d
def State.setDecoder (s : State) (d : Nat) (k : Decoder) : State := { s with decoders := tblPut Decoder.init s.decoders d k }
def State.modDecoder (s : State) (d : Nat) (f : Decoder → Decoder) : State := s.setDecoder d (f (s.decoder d))
def State.launch (s : State) (l : Nat) : LaunchQ := tblGet LaunchQ.init s.launches l
def State.setLaunch (s : State) (l : Nat) (k : LaunchQ) : State := { s with launches := tblPut LaunchQ.init s.launches l k }
def State.modLaunch (s : State) (l : Nat) (f : LaunchQ → LaunchQ) : State := s.setLaunch l (f (s.launch l))
def State.mailbox (s : State) (i : Nat) : Mailbox := tblGet Mailbox.init s.mailboxes i
def State.setMailbox (s : State) (i : Nat) (k : Mailbox) : State := { s with mailboxes := tblPut Mailbox.init s.mailboxes i k }
def State.can (s : State) (c : Nat) : Can := tblGet Can.init s.cans c
def State.setCan (s : State) (c : Nat) (k : Can) : State := { s with cans := tblPut Can.init s.cans c k }
def State.modCan (s : State) (c : Nat) (f : Can → Can) : State := s.setCan c (f (s.can c))
def State.link (s : State) (l : Nat) : Link := tblGet Link.init s.links l
def State.setLink (s : State) (l : Nat) (k : Link) : State := { s with links := tblPut Link.init s.links l k }
def State.modLink (s : State) (l : Nat) (f : Link → Link) : State := s.setLink l (f (s.link l))
def State.sync (s : State) (n : Nat) : Nat := tblGet 0 s.syncs n
def State.setSync (s : State) (n v : Nat) : State := { s with syncs := tblPut 0 s.syncs n (v % 2 ^ 32) }
def State.part (s : State) (p : Nat) : PartSafety := tblGet PartSafety.init s.safety.parts p
def State.setPart (s : State) (p : Nat) (k : PartSafety) : State :=
  { s with safety := { s.safety with parts := tblPut PartSafety.init s.safety.parts p k } }
def State.modPart (s : State) (p : Nat) (f : PartSafety → PartSafety) : State := s.setPart p (f (s.part p))
def State.pair (s : State) (k : Nat) : Pair := tblGet ⟨[], []⟩ s.safety.pairs k
def State.setPair (s : State) (k : Nat) (x : Pair) : State :=
  { s with safety := { s.safety with pairs := tblPut ⟨[], []⟩ s.safety.pairs k x } }
def State.modDebug (s : State) (f : Debug → Debug) : State := { s with dbg := f s.dbg }
def State.modSafety (s : State) (f : Safety → Safety) : State := { s with safety := f s.safety }
def State.modBoot (s : State) (f : Boot → Boot) : State := { s with boot := f s.boot }
def State.modTime (s : State) (f : Timebase → Timebase) : State := { s with time := f s.time }
/-- A record leaves a pin. -/
def State.emit (s : State) (o : Out) : State := { s with out := o :: s.out }
/-- The next free value (Config.freeValue), and the state that has taken it. -/
def State.free (s : State) : Nat × State := (Config.freeValue s.freeUsed, { s with freeUsed := s.freeUsed + 1 })
/-- Nanoseconds since timebase zero (R303). -/
def State.now (s : State) : Nat := s.time.seconds * 1000000000 + s.time.nanos
/-- A time-stamp: [63:32] seconds modulo 2^32, [31:0] nanoseconds (R308). -/
def State.stamp (s : State) : Nat := (s.time.seconds % 2 ^ 32) * 2 ^ 32 + s.time.nanos
/-- Nanoseconds of a stamp. -/
def stampNs (t : Nat) : Nat := t / 2 ^ 32 * 1000000000 + t % 2 ^ 32
/-- Nanoseconds since a stamp, whose seconds are known modulo 2^32: the time nearest to the present one (R303). -/
def State.sinceStamp (s : State) (t : Nat) : Nat :=
  let n := 2 ^ 32 * 1000000000
  let d := (s.now + n - stampNs t % n) % n
  if 2 * d < n then d else 0
/-- Stamp of an instant in nanoseconds. -/
def nsStamp (t : Nat) : Nat := (t / 1000000000 % 2 ^ 32) * 2 ^ 32 + t % 1000000000
/-- Applies `f` to each number of a list in turn. -/
def forEach (xs : List Nat) (s : State) (f : State → Nat → State) : State := xs.foldl f s

end Sys2Proof.Machine
end

