-- ==== Sys2Proof/Machine/Dictionary.lean ====
section
/-! DEFINITION. Dictionary: the object map (types, access codes and defaults of every object of R382 and R389) and the
registers of State.dict. -/
namespace Sys2Proof.Machine

/-- Access codes (R14). -/
inductive Acc where
  | const | ro | wo | rw | rwIdle
  deriving DecidableEq, Repr

/-- One row of an object map: indices, subindices, bytes of the type (R370), access code and default. -/
structure Entry where
  lo : Nat
  hi : Nat
  subLo : Nat
  subHi : Nat
  bytes : Nat
  acc : Acc
  dflt : Nat
  deriving DecidableEq, Repr

/-- Communication profile (R382). -/
def map1000 : List Entry :=
  [⟨0x1000, 0x1000, 0x00, 0x00, 4, .const, 0⟩ /- Device type -/,
   ⟨0x1001, 0x1001, 0x00, 0x00, 1, .ro, 0⟩ /- Error register -/,
   ⟨0x1003, 0x1003, 0x00, 0x00, 1, .rw, 0⟩ /- Number of errors -/,
   ⟨0x1003, 0x1003, 0x01, 0x08, 4, .ro, 0⟩ /- Error field -/,
   ⟨0x1005, 0x1005, 0x00, 0x00, 4, .rw, 0x80⟩ /- COB-ID SYNC -/,
   ⟨0x1008, 0x1008, 0x00, 0x00, 8, .const, 0⟩ /- Device name -/,
   ⟨0x1009, 0x1009, 0x00, 0x00, 4, .const, 0⟩ /- Hardware version -/,
   ⟨0x100A, 0x100A, 0x00, 0x00, 16, .const, 0⟩ /- Software version -/,
   ⟨0x1014, 0x1014, 0x00, 0x00, 4, .ro, 0⟩ /- COB-ID EMCY -/,
   ⟨0x1015, 0x1015, 0x00, 0x00, 2, .rw, 0⟩ /- Inhibit time EMCY -/,
   ⟨0x1017, 0x1017, 0x00, 0x00, 2, .rw, 0⟩ /- Producer heartbeat time -/,
   ⟨0x1018, 0x1018, 0x00, 0x00, 1, .const, 4⟩ /- Highest subindex -/,
   ⟨0x1018, 0x1018, 0x01, 0x01, 4, .const, 0⟩ /- Vendor ID -/,
   ⟨0x1018, 0x1018, 0x02, 0x02, 4, .const, 0x960⟩ /- Product code -/,
   ⟨0x1018, 0x1018, 0x03, 0x03, 4, .const, 0⟩ /- Revision -/,
   ⟨0x1018, 0x1018, 0x04, 0x04, 4, .const, 0⟩ /- Serial number -/,
   ⟨0x1400, 0x1403, 0x00, 0x00, 1, .const, 2⟩ /- Highest subindex -/,
   ⟨0x1400, 0x1403, 0x01, 0x01, 4, .rw, 0x80000200⟩ /- COB-ID -/,
   ⟨0x1400, 0x1403, 0x02, 0x02, 1, .rw, 0xFE⟩ /- Transmission type -/,
   ⟨0x1600, 0x1603, 0x00, 0x00, 1, .rw, 0⟩ /- Mapped entries -/,
   ⟨0x1600, 0x1603, 0x01, 0x10, 4, .rw, 0⟩ /- Mapping entry -/,
   ⟨0x1800, 0x1803, 0x00, 0x00, 1, .const, 5⟩ /- Highest subindex -/,
   ⟨0x1800, 0x1803, 0x01, 0x01, 4, .rw, 0x80000180⟩ /- COB-ID -/,
   ⟨0x1800, 0x1803, 0x02, 0x02, 1, .rw, 0xFE⟩ /- Transmission type -/,
   ⟨0x1800, 0x1803, 0x03, 0x03, 2, .rw, 0⟩ /- Inhibit time -/,
   ⟨0x1800, 0x1803, 0x05, 0x05, 2, .rw, 0⟩ /- Event timer -/,
   ⟨0x1A00, 0x1A03, 0x00, 0x00, 1, .rw, 0⟩ /- Mapped entries -/,
   ⟨0x1A00, 0x1A03, 0x01, 0x10, 4, .rw, 0⟩ /- Mapping entry -/]

/-- Objects of 2000h (R5). -/
def map2000 : List Entry :=
  [⟨0x2000, 0x2000, 0x00, 0x00, 1, .const, 0xC⟩ /- Highest subindex -/,
   ⟨0x2000, 0x2000, 0x01, 0x01, 2, .const, 0x960⟩ /- Member code -/,
   ⟨0x2000, 0x2000, 0x02, 0x02, 1, .const, 8⟩ /- Calderas -/,
   ⟨0x2000, 0x2000, 0x03, 0x03, 1, .const, 8⟩ /- Skeins per caldera -/,
   ⟨0x2000, 0x2000, 0x04, 0x04, 1, .const, 4⟩ /- Spindles per skein -/,
   ⟨0x2000, 0x2000, 0x05, 0x05, 1, .const, 4⟩ /- Memory dies -/,
   ⟨0x2000, 0x2000, 0x06, 0x06, 4, .const, 0x800⟩ /- Memory die size -/,
   ⟨0x2000, 0x2000, 0x07, 0x07, 1, .const, 0xA⟩ /- A-PHY ports -/,
   ⟨0x2000, 0x2000, 0x08, 0x08, 1, .const, 0x28⟩ /- Camera streams -/,
   ⟨0x2000, 0x2000, 0x09, 0x09, 1, .const, 8⟩ /- Range streams -/,
   ⟨0x2000, 0x2000, 0x0A, 0x0A, 1, .const, 4⟩ /- Device links -/,
   ⟨0x2000, 0x2000, 0x0B, 0x0B, 1, .const, 0x10⟩ /- Stepping -/,
   ⟨0x2000, 0x2000, 0x0C, 0x0C, 2, .const, 0x100⟩ /- Manual edition -/]

/-- Objects of 2100h (R395, R398, R404, R405). -/
def map2100 : List Entry :=
  [⟨0x2100, 0x2100, 0x00, 0x00, 1, .const, 8⟩ /- Highest subindex -/,
   ⟨0x2100, 0x2100, 0x01, 0x01, 1, .ro, 0⟩ /- STATE -/,
   ⟨0x2100, 0x2100, 0x02, 0x02, 4, .ro, 0⟩ /- CAUSE -/,
   ⟨0x2100, 0x2100, 0x03, 0x03, 4, .ro, 0⟩ /- RESETS -/,
   ⟨0x2100, 0x2100, 0x04, 0x04, 2, .const, 0⟩ /- WATCHDOG_MS -/,
   ⟨0x2100, 0x2100, 0x05, 0x05, 2, .wo, 0⟩ /- RESET -/,
   ⟨0x2100, 0x2100, 0x06, 0x06, 1, .wo, 0⟩ /- CALDERA_RESET -/,
   ⟨0x2100, 0x2100, 0x07, 0x07, 4, .ro, 0⟩ /- BOOT_TIME -/,
   ⟨0x2100, 0x2100, 0x08, 0x08, 8, .ro, 0⟩ /- LAST_STAMP -/,
   ⟨0x2101, 0x2101, 0x00, 0x00, 1, .const, 3⟩ /- Highest subindex -/,
   ⟨0x2101, 0x2101, 0x01, 0x01, 1, .const, 0⟩ /- SLOT -/,
   ⟨0x2101, 0x2101, 0x02, 0x02, 32, .const, 0⟩ /- BYTES_LO -/,
   ⟨0x2101, 0x2101, 0x03, 0x03, 32, .const, 0⟩ /- BYTES_HI -/,
   ⟨0x2102, 0x2102, 0x00, 0x00, 1, .const, 4⟩ /- Highest subindex -/,
   ⟨0x2102, 0x2102, 0x01, 0x01, 8, .rwIdle, 0⟩ /- SOURCE -/,
   ⟨0x2102, 0x2102, 0x02, 0x02, 1, .wo, 0⟩ /- COMMAND -/,
   ⟨0x2102, 0x2102, 0x03, 0x03, 1, .ro, 0⟩ /- STATUS -/,
   ⟨0x2102, 0x2102, 0x04, 0x04, 1, .ro, 0⟩ /- FREE -/,
   ⟨0x2104, 0x2104, 0x00, 0x00, 1, .const, 9⟩ /- Highest subindex -/,
   ⟨0x2104, 0x2104, 0x01, 0x07, 2, .ro, 0⟩ /- RAIL -/,
   ⟨0x2104, 0x2104, 0x08, 0x08, 2, .ro, 0⟩ /- TEMP_MAX -/,
   ⟨0x2104, 0x2104, 0x09, 0x09, 2, .ro, 0⟩ /- TEMP_PEAK -/,
   ⟨0x2108, 0x2108, 0x00, 0x00, 1, .const, 9⟩ /- Highest subindex -/,
   ⟨0x2108, 0x2108, 0x01, 0x08, 1, .ro, 1⟩ /- POWER -/,
   ⟨0x2108, 0x2108, 0x09, 0x09, 2, .wo, 0⟩ /- COMMAND -/]

/-- Objects of 2200h (R170, R178, R181, R187, R194, R201, R203, R204, R208). -/
def map2200 : List Entry :=
  [⟨0x2200, 0x2200, 0x00, 0x00, 1, .const, 0xD⟩ /- Highest subindex -/,
   ⟨0x2200, 0x2200, 0x01, 0x01, 4, .const, 0x20000⟩ /- SPINDLE_STORE -/,
   ⟨0x2200, 0x2200, 0x02, 0x02, 4, .const, 0x8000⟩ /- DISTAFF_A -/,
   ⟨0x2200, 0x2200, 0x03, 0x03, 4, .const, 0x8000⟩ /- DISTAFF_B -/,
   ⟨0x2200, 0x2200, 0x04, 0x04, 4, .const, 0x10000⟩ /- ACC_STORE -/,
   ⟨0x2200, 0x2200, 0x05, 0x05, 4, .const, 0x80000⟩ /- SCRATCHPAD -/,
   ⟨0x2200, 0x2200, 0x06, 0x06, 4, .const, 0x400000⟩ /- WEIGHT_CACHE -/,
   ⟨0x2200, 0x2200, 0x07, 0x07, 4, .const, 0x800000⟩ /- IO_BUFFERS -/,
   ⟨0x2200, 0x2200, 0x08, 0x08, 8, .const, 0x200000000⟩ /- PACKAGE_MEMORY -/,
   ⟨0x2200, 0x2200, 0x09, 0x09, 2, .const, 0x80⟩ /- CHANNELS -/,
   ⟨0x2200, 0x2200, 0x0A, 0x0A, 4, .const, 0x200000⟩ /- PAGE_SIZE -/,
   ⟨0x2200, 0x2200, 0x0B, 0x0B, 2, .const, 0x4000⟩ /- HOST_PAGES -/,
   ⟨0x2200, 0x2200, 0x0C, 0x0C, 4, .const, 0x6800000⟩ /- ONCHIP_TOTAL -/,
   ⟨0x2200, 0x2200, 0x0D, 0x0D, 2, .const, 0x100⟩ /- WC_LINE -/,
   ⟨0x2202, 0x2203, 0x00, 0x00, 1, .const, 8⟩ /- Highest subindex -/,
   ⟨0x2202, 0x2202, 0x01, 0x08, 1, .rw, 0⟩ /- Channel share, shadow -/,
   ⟨0x2203, 0x2203, 0x01, 0x08, 1, .ro, 0⟩ /- Channel share -/,
   ⟨0x2210, 0x2210, 0x00, 0x00, 1, .const, 5⟩ /- Highest subindex -/,
   ⟨0x2210, 0x2210, 0x01, 0x01, 2, .rw, 0⟩ /- SELECT -/,
   ⟨0x2210, 0x2210, 0x02, 0x02, 8, .rw, 0⟩ /- SHADOW -/,
   ⟨0x2210, 0x2210, 0x03, 0x03, 8, .ro, 0⟩ /- IN_FORCE -/,
   ⟨0x2210, 0x2210, 0x04, 0x04, 2, .ro, 0⟩ /- HOLDERS -/,
   ⟨0x2210, 0x2210, 0x05, 0x05, 4, .ro, 0⟩ /- DRAIN -/,
   ⟨0x2220, 0x2220, 0x00, 0x00, 1, .const, 3⟩ /- Highest subindex -/,
   ⟨0x2220, 0x2220, 0x01, 0x01, 2, .rw, 0xFFFF⟩ /- FAULT_QUEUE -/,
   ⟨0x2220, 0x2220, 0x02, 0x02, 4, .ro, 0⟩ /- FAULTS -/,
   ⟨0x2220, 0x2220, 0x03, 0x03, 4, .ro, 0⟩ /- FAULT_DROPS -/,
   ⟨0x2230, 0x2230, 0x00, 0x00, 1, .const, 7⟩ /- Highest subindex -/,
   ⟨0x2230, 0x2230, 0x01, 0x01, 1, .rw, 1⟩ /- ENABLE -/,
   ⟨0x2230, 0x2230, 0x02, 0x02, 4, .rw, 0xEA60⟩ /- PASS_TIME -/,
   ⟨0x2230, 0x2230, 0x03, 0x03, 4, .ro, 0⟩ /- PASSES -/,
   ⟨0x2230, 0x2230, 0x04, 0x04, 4, .ro, 0⟩ /- CORRECTED -/,
   ⟨0x2230, 0x2230, 0x05, 0x05, 4, .ro, 0⟩ /- UNCORRECTABLE -/,
   ⟨0x2230, 0x2230, 0x06, 0x06, 8, .ro, 0⟩ /- POSITION -/,
   ⟨0x2230, 0x2230, 0x07, 0x07, 1, .ro, 0⟩ /- LATE -/,
   ⟨0x2238, 0x2238, 0x00, 0x00, 1, .const, 4⟩ /- Highest subindex -/,
   ⟨0x2238, 0x2238, 0x01, 0x01, 4, .ro, 0⟩ /- CORRECTED -/,
   ⟨0x2238, 0x2238, 0x02, 0x02, 4, .ro, 0⟩ /- UNCORRECTABLE -/,
   ⟨0x2238, 0x2238, 0x03, 0x03, 8, .ro, 0⟩ /- LAST_ADDR -/,
   ⟨0x2238, 0x2238, 0x04, 0x04, 4, .ro, 0⟩ /- LAST_DETAIL -/,
   ⟨0x2240, 0x227F, 0x00, 0x00, 1, .const, 0x15⟩ /- Highest subindex -/,
   ⟨0x2240, 0x227F, 0x01, 0x10, 8, .ro, 0⟩ /- WINDOW -/,
   ⟨0x2240, 0x227F, 0x11, 0x11, 4, .ro, 0⟩ /- CLOSED_REFUSALS -/,
   ⟨0x2240, 0x227F, 0x12, 0x12, 4, .ro, 0⟩ /- EPOCH_REFUSALS -/,
   ⟨0x2240, 0x227F, 0x13, 0x13, 4, .ro, 0⟩ /- BOUND_REFUSALS -/,
   ⟨0x2240, 0x227F, 0x14, 0x14, 4, .ro, 0⟩ /- PARTITION_REFUSALS -/,
   ⟨0x2240, 0x227F, 0x15, 0x15, 4, .ro, 0⟩ /- LAST_REFUSED -/,
   ⟨0x2280, 0x2287, 0x00, 0x00, 1, .const, 7⟩ /- Highest subindex -/,
   ⟨0x2280, 0x2287, 0x01, 0x01, 8, .ro, 0⟩ /- HITS -/,
   ⟨0x2280, 0x2287, 0x02, 0x02, 8, .ro, 0⟩ /- MISSES -/,
   ⟨0x2280, 0x2287, 0x03, 0x03, 4, .ro, 0⟩ /- INVALIDATIONS -/,
   ⟨0x2280, 0x2287, 0x04, 0x04, 4, .ro, 0⟩ /- CORRECTED -/,
   ⟨0x2280, 0x2287, 0x05, 0x05, 4, .ro, 0⟩ /- REFETCHED -/,
   ⟨0x2280, 0x2287, 0x06, 0x06, 1, .wo, 0⟩ /- CONTROL -/,
   ⟨0x2280, 0x2287, 0x07, 0x07, 2, .ro, 0⟩ /- VALID_LINES -/,
   ⟨0x2290, 0x2290, 0x00, 0x00, 1, .const, 0x13⟩ /- Highest subindex -/,
   ⟨0x2290, 0x2290, 0x01, 0x10, 1, .ro, 2⟩ /- BANK_STATE -/,
   ⟨0x2290, 0x2290, 0x11, 0x11, 2, .wo, 0⟩ /- COMMAND -/,
   ⟨0x2290, 0x2290, 0x12, 0x12, 4, .ro, 0⟩ /- LATE_REFUSALS -/,
   ⟨0x2290, 0x2290, 0x13, 0x13, 8, .ro, 0⟩ /- LAST_LATE -/]

/-- Objects of 2300h (R85, R211, R215, R216, R231, R377). -/
def map2300 : List Entry :=
  [⟨0x2300, 0x2300, 0x00, 0x00, 1, .const, 8⟩ /- Highest subindex -/,
   ⟨0x2300, 0x2300, 0x01, 0x08, 1, .rw, 0⟩ /- Caldera partition, shadow -/,
   ⟨0x2301, 0x2301, 0x00, 0x00, 1, .const, 8⟩ /- Highest subindex -/,
   ⟨0x2301, 0x2301, 0x01, 0x08, 1, .ro, 0⟩ /- Caldera partition -/,
   ⟨0x2304, 0x2304, 0x00, 0x00, 1, .const, 7⟩ /- Highest subindex -/,
   ⟨0x2304, 0x2304, 0x01, 0x01, 1, .wo, 0⟩ /- COMMAND -/,
   ⟨0x2304, 0x2304, 0x02, 0x02, 1, .ro, 0⟩ /- STATUS -/,
   ⟨0x2304, 0x2304, 0x03, 0x03, 8, .ro, 0⟩ /- DETAIL -/,
   ⟨0x2304, 0x2304, 0x04, 0x04, 1, .ro, 0⟩ /- PENDING -/,
   ⟨0x2304, 0x2304, 0x05, 0x05, 4, .ro, 0⟩ /- COMMITS -/,
   ⟨0x2304, 0x2304, 0x06, 0x06, 4, .ro, 0⟩ /- REFUSALS -/,
   ⟨0x2304, 0x2304, 0x07, 0x07, 1, .rw, 0⟩ /- OWNER -/,
   ⟨0x2310, 0x2317, 0x00, 0x00, 1, .const, 0xC⟩ /- Highest subindex -/,
   ⟨0x2310, 0x2317, 0x01, 0x01, 1, .rw, 0⟩ /- MODE_SHADOW -/,
   ⟨0x2310, 0x2317, 0x02, 0x02, 1, .ro, 0⟩ /- MODE -/,
   ⟨0x2310, 0x2317, 0x03, 0x03, 4, .rw, 0x2DC6C0⟩ /- TICKS_SHADOW -/,
   ⟨0x2310, 0x2317, 0x04, 0x04, 4, .ro, 0x2DC6C0⟩ /- TICKS -/,
   ⟨0x2310, 0x2317, 0x05, 0x05, 8, .rw, 0xFE502AAAAB⟩ /- PERIOD_SHADOW -/,
   ⟨0x2310, 0x2317, 0x06, 0x06, 8, .ro, 0xFE502AAAAB⟩ /- PERIOD -/,
   ⟨0x2310, 0x2317, 0x07, 0x07, 4, .rw, 0⟩ /- PHASE_SHADOW -/,
   ⟨0x2310, 0x2317, 0x08, 0x08, 4, .ro, 0⟩ /- PHASE -/,
   ⟨0x2310, 0x2317, 0x09, 0x09, 2, .rw, 0x4B0⟩ /- EQ_SHADOW -/,
   ⟨0x2310, 0x2317, 0x0A, 0x0A, 2, .ro, 0x4B0⟩ /- EQ -/,
   ⟨0x2310, 0x2317, 0x0B, 0x0B, 4, .ro, 0xABA9500⟩ /- RATE -/,
   ⟨0x2310, 0x2317, 0x0C, 0x0C, 4, .ro, 0⟩ /- FRAMES -/,
   ⟨0x2320, 0x2327, 0x00, 0x00, 1, .const, 0xB⟩ /- Highest subindex -/,
   ⟨0x2320, 0x2327, 0x01, 0x01, 8, .rw, 0⟩ /- RESERVE_SHADOW -/,
   ⟨0x2320, 0x2327, 0x02, 0x02, 8, .ro, 0⟩ /- RESERVE -/,
   ⟨0x2320, 0x2327, 0x03, 0x03, 1, .ro, 0⟩ /- STATE -/,
   ⟨0x2320, 0x2327, 0x04, 0x04, 8, .ro, 0⟩ /- STEPS -/,
   ⟨0x2320, 0x2327, 0x05, 0x05, 2, .ro, 0⟩ /- SLIP -/,
   ⟨0x2320, 0x2327, 0x06, 0x06, 2, .ro, 0⟩ /- SLIP_MAX -/,
   ⟨0x2320, 0x2327, 0x07, 0x07, 4, .ro, 0⟩ /- REFRESH_LATE -/,
   ⟨0x2320, 0x2327, 0x08, 0x08, 4, .ro, 0⟩ /- QUEUE_LATE -/,
   ⟨0x2320, 0x2327, 0x09, 0x09, 4, .ro, 0⟩ /- OVERRUNS -/,
   ⟨0x2320, 0x2327, 0x0A, 0x0A, 1, .ro, 0⟩ /- MARGIN -/,
   ⟨0x2320, 0x2327, 0x0B, 0x0B, 4, .ro, 0⟩ /- GUARD_TICKS -/,
   ⟨0x2330, 0x2337, 0x00, 0x00, 1, .const, 6⟩ /- Highest subindex -/,
   ⟨0x2330, 0x2337, 0x01, 0x01, 2, .rw, 0xFFFF⟩ /- QUEUE -/,
   ⟨0x2330, 0x2337, 0x02, 0x02, 4, .ro, 0⟩ /- RECORDS -/,
   ⟨0x2330, 0x2337, 0x03, 0x03, 4, .ro, 0⟩ /- DROPS -/,
   ⟨0x2330, 0x2337, 0x04, 0x04, 2, .ro, 0⟩ /- EXPECTED -/,
   ⟨0x2330, 0x2337, 0x05, 0x05, 4, .ro, 0⟩ /- MISMATCHES -/,
   ⟨0x2330, 0x2337, 0x06, 0x06, 4, .ro, 0⟩ /- LAST_MISMATCH -/,
   ⟨0x2360, 0x2367, 0x00, 0x00, 1, .const, 0x20⟩ /- Highest subindex -/,
   ⟨0x2360, 0x2367, 0x01, 0x20, 4, .ro, 0⟩ /- Spindle status -/]

/-- Objects of 2400h (R89, R116, R117, R118, R131). -/
def map2400 : List Entry :=
  [⟨0x2400, 0x2403, 0x00, 0x00, 1, .const, 0x40⟩ /- Highest subindex -/,
   ⟨0x2400, 0x2400, 0x01, 0x40, 1, .rw, 0⟩ /- Queue block partition, shadow -/,
   ⟨0x2401, 0x2401, 0x01, 0x40, 1, .ro, 0⟩ /- Queue block partition -/,
   ⟨0x2402, 0x2402, 0x01, 0x40, 1, .rw, 0⟩ /- Sync block partition, shadow -/,
   ⟨0x2403, 0x2403, 0x01, 0x40, 1, .ro, 0⟩ /- Sync block partition -/,
   ⟨0x2410, 0x2410, 0x00, 0x00, 1, .const, 9⟩ /- Highest subindex -/,
   ⟨0x2410, 0x2410, 0x01, 0x01, 2, .rw, 0⟩ /- SELECT -/,
   ⟨0x2410, 0x2410, 0x02, 0x02, 8, .rwIdle, 0⟩ /- RING_BASE -/,
   ⟨0x2410, 0x2410, 0x03, 0x03, 1, .rwIdle, 4⟩ /- LOG2_ENTRIES -/,
   ⟨0x2410, 0x2410, 0x04, 0x04, 2, .rwIdle, 0xFFFF⟩ /- CONSUMER -/,
   ⟨0x2410, 0x2410, 0x05, 0x05, 1, .rw, 0⟩ /- ENABLE -/,
   ⟨0x2410, 0x2410, 0x06, 0x06, 4, .ro, 0⟩ /- COUNT -/,
   ⟨0x2410, 0x2410, 0x07, 0x07, 4, .ro, 0⟩ /- HEAD -/,
   ⟨0x2410, 0x2410, 0x08, 0x08, 4, .ro, 0⟩ /- TAIL -/,
   ⟨0x2410, 0x2410, 0x09, 0x09, 4, .ro, 0⟩ /- FULL_REFUSALS -/,
   ⟨0x2420, 0x2420, 0x00, 0x00, 1, .const, 3⟩ /- Highest subindex -/,
   ⟨0x2420, 0x2420, 0x01, 0x01, 4, .rw, 0⟩ /- SELECT -/,
   ⟨0x2420, 0x2420, 0x02, 0x02, 4, .rw, 0⟩ /- VALUE -/,
   ⟨0x2420, 0x2420, 0x03, 0x03, 4, .wo, 0⟩ /- ADD -/,
   ⟨0x2440, 0x247F, 0x00, 0x00, 1, .const, 0xB⟩ /- Highest subindex -/,
   ⟨0x2440, 0x247F, 0x01, 0x01, 1, .ro, 0⟩ /- STATE -/,
   ⟨0x2440, 0x247F, 0x02, 0x02, 1, .ro, 0⟩ /- STATUS -/,
   ⟨0x2440, 0x247F, 0x03, 0x03, 8, .ro, 0⟩ /- POSITION -/,
   ⟨0x2440, 0x247F, 0x04, 0x04, 8, .rwIdle, 0⟩ /- BASE -/,
   ⟨0x2440, 0x247F, 0x05, 0x05, 8, .ro, 0⟩ /- FAULT_ADDR -/,
   ⟨0x2440, 0x247F, 0x06, 0x06, 2, .ro, 0⟩ /- TAG -/,
   ⟨0x2440, 0x247F, 0x07, 0x07, 1, .ro, 0⟩ /- FLAGS -/,
   ⟨0x2440, 0x247F, 0x08, 0x08, 4, .ro, 0⟩ /- ITERATION -/,
   ⟨0x2440, 0x247F, 0x09, 0x09, 1, .wo, 0⟩ /- CONTROL -/,
   ⟨0x2440, 0x247F, 0x0A, 0x0A, 4, .ro, 0⟩ /- PLAN_ID -/,
   ⟨0x2440, 0x247F, 0x0B, 0x0B, 1, .ro, 0⟩ /- IN_FLIGHT -/,
   ⟨0x2490, 0x2497, 0x00, 0x00, 1, .const, 8⟩ /- Highest subindex -/,
   ⟨0x2490, 0x2497, 0x01, 0x01, 8, .rwIdle, 0⟩ /- SOURCE -/,
   ⟨0x2490, 0x2497, 0x02, 0x02, 4, .rwIdle, 0⟩ /- LENGTH -/,
   ⟨0x2490, 0x2497, 0x03, 0x03, 1, .wo, 0⟩ /- COMMAND -/,
   ⟨0x2490, 0x2497, 0x04, 0x04, 1, .ro, 0⟩ /- STATUS -/,
   ⟨0x2490, 0x2497, 0x05, 0x05, 4, .ro, 0⟩ /- DETAIL -/,
   ⟨0x2490, 0x2497, 0x06, 0x06, 4, .ro, 0⟩ /- PLAN_ID -/,
   ⟨0x2490, 0x2497, 0x07, 0x07, 32, .ro, 0⟩ /- PLAN_DIGEST -/,
   ⟨0x2490, 0x2497, 0x08, 0x08, 1, .ro, 0⟩ /- STATE -/]

/-- Objects of 2500h (R237, R238, R240, R243, R255). -/
def map2500 : List Entry :=
  [⟨0x2500, 0x2500, 0x00, 0x00, 1, .const, 4⟩ /- Highest subindex -/,
   ⟨0x2500, 0x2500, 0x01, 0x01, 1, .const, 0⟩ /- COMPAT -/,
   ⟨0x2500, 0x2500, 0x02, 0x02, 1, .const, 0xA⟩ /- APHY_PORTS -/,
   ⟨0x2500, 0x2500, 0x03, 0x03, 1, .const, 4⟩ /- RANGE_MACS -/,
   ⟨0x2500, 0x2500, 0x04, 0x04, 1, .const, 2⟩ /- OUTPUT_MACS -/,
   ⟨0x2502, 0x2502, 0x00, 0x00, 1, .const, 0x30⟩ /- Highest subindex -/,
   ⟨0x2502, 0x2502, 0x01, 0x30, 1, .rw, 0⟩ /- Stream partition, shadow -/,
   ⟨0x2503, 0x2503, 0x00, 0x00, 1, .const, 0x30⟩ /- Highest subindex -/,
   ⟨0x2503, 0x2503, 0x01, 0x30, 1, .ro, 0⟩ /- Stream partition -/,
   ⟨0x2510, 0x2519, 0x00, 0x00, 1, .const, 0xA⟩ /- Highest subindex -/,
   ⟨0x2510, 0x2519, 0x01, 0x01, 1, .rwIdle, 4⟩ /- GEAR -/,
   ⟨0x2510, 0x2519, 0x02, 0x02, 1, .rwIdle, 1⟩ /- RETX -/,
   ⟨0x2510, 0x2519, 0x03, 0x03, 1, .ro, 0⟩ /- LINK -/,
   ⟨0x2510, 0x2519, 0x04, 0x04, 4, .ro, 0⟩ /- RETRANSMISSIONS -/,
   ⟨0x2510, 0x2519, 0x05, 0x05, 4, .ro, 0⟩ /- HDR_CORRECTED -/,
   ⟨0x2510, 0x2519, 0x06, 0x06, 4, .ro, 0⟩ /- HDR_UNCORRECTABLE -/,
   ⟨0x2510, 0x2519, 0x07, 0x07, 4, .ro, 0⟩ /- CRC_ERRORS -/,
   ⟨0x2510, 0x2519, 0x08, 0x08, 4, .ro, 0⟩ /- OVERRUNS -/,
   ⟨0x2510, 0x2519, 0x09, 0x09, 4, .ro, 0⟩ /- UNMAPPED -/,
   ⟨0x2510, 0x2519, 0x0A, 0x0A, 4, .ro, 0⟩ /- LINK_LOSSES -/,
   ⟨0x2530, 0x2533, 0x00, 0x00, 1, .const, 0xB⟩ /- Highest subindex -/,
   ⟨0x2530, 0x2533, 0x01, 0x01, 8, .rwIdle, 0⟩ /- MAC_ADDR -/,
   ⟨0x2530, 0x2533, 0x02, 0x02, 4, .rwIdle, 0⟩ /- IPV4 -/,
   ⟨0x2530, 0x2533, 0x03, 0x03, 4, .rwIdle, 0⟩ /- MCAST -/,
   ⟨0x2530, 0x2533, 0x04, 0x04, 1, .rw, 0⟩ /- ENABLE -/,
   ⟨0x2530, 0x2533, 0x05, 0x05, 1, .ro, 0⟩ /- LINK -/,
   ⟨0x2530, 0x2533, 0x06, 0x06, 4, .ro, 0⟩ /- RX_FRAMES -/,
   ⟨0x2530, 0x2533, 0x07, 0x07, 4, .ro, 0⟩ /- RX_ERRORS -/,
   ⟨0x2530, 0x2533, 0x08, 0x08, 4, .ro, 0⟩ /- IP_DISCARDS -/,
   ⟨0x2530, 0x2533, 0x09, 0x09, 4, .ro, 0⟩ /- REASM_FAILS -/,
   ⟨0x2530, 0x2533, 0x0A, 0x0A, 4, .ro, 0⟩ /- RX_OVERFLOWS -/,
   ⟨0x2530, 0x2533, 0x0B, 0x0B, 4, .ro, 0⟩ /- LINK_LOSSES -/,
   ⟨0x2540, 0x2567, 0x00, 0x00, 1, .const, 0xF⟩ /- Highest subindex -/,
   ⟨0x2540, 0x2567, 0x01, 0x01, 1, .rw, 0⟩ /- ENABLE -/,
   ⟨0x2540, 0x2567, 0x02, 0x02, 1, .rwIdle, 0⟩ /- VC -/,
   ⟨0x2540, 0x2567, 0x03, 0x03, 1, .rwIdle, 0x2C⟩ /- DATA_TYPE -/,
   ⟨0x2540, 0x2567, 0x04, 0x04, 2, .rwIdle, 0x800⟩ /- WIDTH -/,
   ⟨0x2540, 0x2567, 0x05, 0x05, 2, .rwIdle, 0x600⟩ /- HEIGHT -/,
   ⟨0x2540, 0x2567, 0x06, 0x06, 1, .rwIdle, 0⟩ /- LINE_SYNC -/,
   ⟨0x2540, 0x2567, 0x07, 0x07, 2, .rwIdle, 1⟩ /- LINE_BASE -/,
   ⟨0x2540, 0x2567, 0x08, 0x08, 2, .rwIdle, 0⟩ /- PAD -/,
   ⟨0x2540, 0x2567, 0x09, 0x09, 2, .rwIdle, 0x4E20⟩ /- FRAME_TIMEOUT -/,
   ⟨0x2540, 0x2567, 0x0A, 0x0A, 4, .rwIdle, 0⟩ /- EXPECT_PERIOD -/,
   ⟨0x2540, 0x2567, 0x0B, 0x0B, 2, .rwIdle, 0xFFFF⟩ /- EVENT_QUEUE -/,
   ⟨0x2540, 0x2567, 0x0C, 0x0C, 4, .ro, 0⟩ /- FRAMES -/,
   ⟨0x2540, 0x2567, 0x0D, 0x0D, 4, .ro, 0⟩ /- CONCEALED_LINES -/,
   ⟨0x2540, 0x2567, 0x0E, 0x0E, 4, .ro, 0⟩ /- EVENT_DROPS -/,
   ⟨0x2540, 0x2567, 0x0F, 0x0F, 8, .ro, 0⟩ /- LAST_RUN -/]

/-- Objects of 2600h (R268). -/
def map2600 : List Entry :=
  [⟨0x2610, 0x2617, 0x00, 0x00, 1, .const, 0xC⟩ /- Highest subindex -/,
   ⟨0x2610, 0x2617, 0x01, 0x01, 1, .ro, 0⟩ /- STATE -/,
   ⟨0x2610, 0x2617, 0x02, 0x02, 1, .rw, 0⟩ /- ENABLE -/,
   ⟨0x2610, 0x2617, 0x03, 0x03, 4, .ro, 0⟩ /- PLAN_ID -/,
   ⟨0x2610, 0x2617, 0x04, 0x04, 4, .ro, 0⟩ /- SAMPLES -/,
   ⟨0x2610, 0x2617, 0x05, 0x05, 4, .ro, 0⟩ /- POINTS -/,
   ⟨0x2610, 0x2617, 0x06, 0x06, 4, .ro, 0⟩ /- CONCEALED -/,
   ⟨0x2610, 0x2617, 0x07, 0x07, 4, .ro, 0⟩ /- MISSING -/,
   ⟨0x2610, 0x2617, 0x08, 0x08, 4, .ro, 0⟩ /- BAD_POINTS -/,
   ⟨0x2610, 0x2617, 0x09, 0x09, 4, .ro, 0⟩ /- MARKER_DROPS -/,
   ⟨0x2610, 0x2617, 0x0A, 0x0A, 8, .ro, 0⟩ /- LAST_POSITION -/,
   ⟨0x2610, 0x2617, 0x0B, 0x0B, 4, .ro, 0⟩ /- LONGEST -/,
   ⟨0x2610, 0x2617, 0x0C, 0x0C, 4, .ro, 0⟩ /- BUDGET_EXPIRIES -/]

/-- Objects of 2700h (R300, R301). -/
def map2700 : List Entry :=
  [⟨0x2700, 0x2700, 0x00, 0x00, 1, .const, 6⟩ /- Highest subindex -/,
   ⟨0x2700, 0x2700, 0x01, 0x01, 1, .const, 8⟩ /- PROJ_LANES -/,
   ⟨0x2700, 0x2700, 0x02, 0x02, 2, .const, 0x210⟩ /- PROJ_CONSUMER -/,
   ⟨0x2700, 0x2700, 0x03, 0x03, 1, .const, 8⟩ /- GATHER_ENGINES -/,
   ⟨0x2700, 0x2700, 0x04, 0x04, 4, .ro, 0⟩ /- PROJECTIONS -/,
   ⟨0x2700, 0x2700, 0x05, 0x05, 4, .ro, 0⟩ /- HIST_OVERWRITES -/,
   ⟨0x2700, 0x2700, 0x06, 0x06, 4, .ro, 0⟩ /- LATE_POINTS -/,
   ⟨0x2710, 0x273F, 0x00, 0x00, 1, .const, 0xE⟩ /- Highest subindex -/,
   ⟨0x2710, 0x273F, 0x01, 0x01, 1, .ro, 0⟩ /- STATE -/,
   ⟨0x2710, 0x273F, 0x02, 0x02, 4, .ro, 0⟩ /- PLAN_ID -/,
   ⟨0x2710, 0x273F, 0x03, 0x03, 1, .rw, 0⟩ /- SHIFT_Y -/,
   ⟨0x2710, 0x273F, 0x04, 0x04, 4, .ro, 0⟩ /- FRAMES -/,
   ⟨0x2710, 0x273F, 0x05, 0x05, 4, .ro, 0⟩ /- TILES -/,
   ⟨0x2710, 0x273F, 0x06, 0x06, 4, .ro, 0⟩ /- BATCHES -/,
   ⟨0x2710, 0x273F, 0x07, 0x07, 4, .ro, 0⟩ /- INVALID_TILES -/,
   ⟨0x2710, 0x273F, 0x08, 0x08, 4, .ro, 0⟩ /- FALLBACKS -/,
   ⟨0x2710, 0x273F, 0x09, 0x09, 4, .ro, 0⟩ /- TILE_OVF -/,
   ⟨0x2710, 0x273F, 0x0A, 0x0A, 4, .ro, 0⟩ /- NOBUF -/,
   ⟨0x2710, 0x273F, 0x0B, 0x0B, 4, .ro, 0⟩ /- HEIGHT_GAPS -/,
   ⟨0x2710, 0x273F, 0x0C, 0x0C, 4, .ro, 0⟩ /- HOLD_ABANDONS -/,
   ⟨0x2710, 0x273F, 0x0D, 0x0D, 4, .ro, 0⟩ /- LAST_LATENCY -/,
   ⟨0x2710, 0x273F, 0x0E, 0x0E, 4, .ro, 0⟩ /- POINTS_IN -/]

/-- Objects of 2800h (R167, R168). -/
def map2800 : List Entry :=
  [⟨0x2800, 0x2800, 0x00, 0x00, 1, .const, 6⟩ /- Highest subindex -/,
   ⟨0x2800, 0x2800, 0x01, 0x01, 1, .const, 4⟩ /- ENGINES -/,
   ⟨0x2800, 0x2800, 0x02, 0x02, 1, .const, 0x10⟩ /- BLOCKS -/,
   ⟨0x2800, 0x2800, 0x03, 0x03, 4, .ro, 0⟩ /- JOBS_DONE -/,
   ⟨0x2800, 0x2800, 0x04, 0x04, 4, .ro, 0⟩ /- JOBS_FAILED -/,
   ⟨0x2800, 0x2800, 0x05, 0x05, 1, .ro, 0⟩ /- BUSY -/,
   ⟨0x2800, 0x2800, 0x06, 0x06, 4, .ro, 0⟩ /- LONGEST_JOB -/,
   ⟨0x2810, 0x281F, 0x00, 0x00, 1, .const, 9⟩ /- Highest subindex -/,
   ⟨0x2810, 0x281F, 0x01, 0x01, 1, .ro, 0⟩ /- STATE -/,
   ⟨0x2810, 0x281F, 0x02, 0x02, 1, .ro, 0⟩ /- PARTITION -/,
   ⟨0x2810, 0x281F, 0x03, 0x03, 1, .rw, 0⟩ /- ENABLE -/,
   ⟨0x2810, 0x281F, 0x04, 0x04, 4, .ro, 0⟩ /- PLAN_ID -/,
   ⟨0x2810, 0x281F, 0x05, 0x05, 4, .ro, 0⟩ /- JOBS -/,
   ⟨0x2810, 0x281F, 0x06, 0x06, 1, .ro, 0⟩ /- LAST_STATUS -/,
   ⟨0x2810, 0x281F, 0x07, 0x07, 4, .ro, 0⟩ /- CAND_OVF -/,
   ⟨0x2810, 0x281F, 0x08, 0x08, 4, .ro, 0⟩ /- OUT_OVF -/,
   ⟨0x2810, 0x281F, 0x09, 0x09, 4, .ro, 0⟩ /- BUDGET_MISS -/]

/-- Objects of 2900h (R305, R313, R314). -/
def map2900 : List Entry :=
  [⟨0x2900, 0x2900, 0x00, 0x00, 1, .const, 0x12⟩ /- Highest subindex -/,
   ⟨0x2900, 0x2900, 0x01, 0x01, 8, .ro, 0⟩ /- SECONDS -/,
   ⟨0x2900, 0x2900, 0x02, 0x02, 4, .ro, 0⟩ /- NANOSECONDS -/,
   ⟨0x2900, 0x2900, 0x03, 0x03, 2, .ro, 0⟩ /- FRACTION -/,
   ⟨0x2900, 0x2900, 0x04, 0x04, 4, .rw, 0⟩ /- FREQ -/,
   ⟨0x2900, 0x2900, 0x05, 0x05, 8, .rw, 0⟩ /- SET_SECONDS -/,
   ⟨0x2900, 0x2900, 0x06, 0x06, 4, .rw, 0⟩ /- SET_NS -/,
   ⟨0x2900, 0x2900, 0x07, 0x07, 8, .rw, 0⟩ /- OFFSET -/,
   ⟨0x2900, 0x2900, 0x08, 0x08, 1, .wo, 0⟩ /- CONTROL -/,
   ⟨0x2900, 0x2900, 0x09, 0x09, 2, .rw, 0x64⟩ /- SLEW_PPM -/,
   ⟨0x2900, 0x2900, 0x0A, 0x0A, 8, .ro, 0⟩ /- SLEW_LEFT -/,
   ⟨0x2900, 0x2900, 0x0B, 0x0B, 1, .rw, 0⟩ /- SOURCE -/,
   ⟨0x2900, 0x2900, 0x0C, 0x0C, 1, .ro, 0⟩ /- STATE -/,
   ⟨0x2900, 0x2900, 0x0D, 0x0D, 4, .ro, 0⟩ /- OFFSET_MEAS -/,
   ⟨0x2900, 0x2900, 0x0E, 0x0E, 4, .ro, 0⟩ /- STEPS -/,
   ⟨0x2900, 0x2900, 0x0F, 0x0F, 2, .const, 0x140⟩ /- APHY_RX_LATENCY -/,
   ⟨0x2900, 0x2900, 0x10, 0x10, 4, .rw, 0xF4240⟩ /- STEP_THRESHOLD -/,
   ⟨0x2900, 0x2900, 0x11, 0x11, 2, .rw, 0x3E8⟩ /- SYNC_TIMEOUT -/,
   ⟨0x2900, 0x2900, 0x12, 0x12, 4, .ro, 0⟩ /- HOLDOVER -/,
   ⟨0x2910, 0x2915, 0x00, 0x00, 1, .const, 0xB⟩ /- Highest subindex -/,
   ⟨0x2910, 0x2915, 0x01, 0x01, 1, .rwIdle, 0⟩ /- MODE -/,
   ⟨0x2910, 0x2915, 0x02, 0x02, 1, .rwIdle, 0⟩ /- ROLE -/,
   ⟨0x2910, 0x2915, 0x03, 0x03, 1, .rwIdle, 0⟩ /- DOMAIN -/,
   ⟨0x2910, 0x2915, 0x04, 0x04, 1, .rwIdle, 0⟩ /- TRANSPORT -/,
   ⟨0x2910, 0x2915, 0x05, 0x05, 2, .rwIdle, 0⟩ /- RX_LATENCY -/,
   ⟨0x2910, 0x2915, 0x06, 0x06, 2, .rwIdle, 0⟩ /- TX_LATENCY -/,
   ⟨0x2910, 0x2915, 0x07, 0x07, 4, .ro, 0⟩ /- FORWARDED -/,
   ⟨0x2910, 0x2915, 0x08, 0x08, 4, .ro, 0⟩ /- CORRECTED -/,
   ⟨0x2910, 0x2915, 0x09, 0x09, 4, .ro, 0⟩ /- MAX_RESIDENCE -/,
   ⟨0x2910, 0x2915, 0x0A, 0x0A, 4, .ro, 0⟩ /- LINK_DELAY -/,
   ⟨0x2910, 0x2915, 0x0B, 0x0B, 4, .ro, 0⟩ /- DISCARDS -/,
   ⟨0x2920, 0x2929, 0x00, 0x00, 1, .const, 8⟩ /- Highest subindex -/,
   ⟨0x2920, 0x2929, 0x01, 0x01, 1, .rw, 0⟩ /- ENABLE -/,
   ⟨0x2920, 0x2929, 0x02, 0x02, 8, .rwIdle, 0xFE502AAAAB⟩ /- PERIOD -/,
   ⟨0x2920, 0x2929, 0x03, 0x06, 4, .rwIdle, 0⟩ /- PHASE -/,
   ⟨0x2920, 0x2929, 0x07, 0x07, 2, .rwIdle, 0xA⟩ /- WIDTH -/,
   ⟨0x2920, 0x2929, 0x08, 0x08, 4, .ro, 0⟩ /- TRIGGERS -/]

/-- Objects of 2A00h (R315, R317, R324, R326, R327). -/
def map2A00 : List Entry :=
  [⟨0x2A00, 0x2A00, 0x00, 0x00, 1, .const, 5⟩ /- Highest subindex -/,
   ⟨0x2A00, 0x2A00, 0x01, 0x01, 1, .const, 8⟩ /- LAUNCH_QUEUES -/,
   ⟨0x2A00, 0x2A00, 0x02, 0x02, 4, .const, 0x4E20⟩ /- MIN_LEAD -/,
   ⟨0x2A00, 0x2A00, 0x03, 0x03, 4, .const, 0x2710⟩ /- HORIZON -/,
   ⟨0x2A00, 0x2A00, 0x04, 0x04, 2, .const, 0x834⟩ /- GUARD -/,
   ⟨0x2A00, 0x2A00, 0x05, 0x05, 1, .const, 8⟩ /- ACCURACY -/,
   ⟨0x2A01, 0x2A01, 0x00, 0x00, 1, .const, 3⟩ /- Highest subindex -/,
   ⟨0x2A01, 0x2A01, 0x01, 0x01, 4, .rw, 0⟩ /- SPEED -/,
   ⟨0x2A01, 0x2A01, 0x02, 0x02, 4, .ro, 0⟩ /- WRITES -/,
   ⟨0x2A01, 0x2A01, 0x03, 0x03, 4, .ro, 0xFFFFFFFF⟩ /- AGE -/,
   ⟨0x2A02, 0x2A02, 0x00, 0x00, 1, .const, 8⟩ /- Highest subindex -/,
   ⟨0x2A02, 0x2A02, 0x01, 0x08, 1, .rw, 0⟩ /- Launch queue partition, shadow -/,
   ⟨0x2A03, 0x2A03, 0x00, 0x00, 1, .const, 8⟩ /- Highest subindex -/,
   ⟨0x2A03, 0x2A03, 0x01, 0x08, 1, .ro, 0⟩ /- Launch queue partition -/,
   ⟨0x2A04, 0x2A05, 0x00, 0x00, 1, .const, 0xA⟩ /- Highest subindex -/,
   ⟨0x2A04, 0x2A05, 0x01, 0x01, 8, .rwIdle, 0⟩ /- MAC_ADDR -/,
   ⟨0x2A04, 0x2A05, 0x02, 0x02, 8, .rwIdle, 0xFFFFFFFFFFFF⟩ /- DST_ADDR -/,
   ⟨0x2A04, 0x2A05, 0x03, 0x03, 2, .rwIdle, 0⟩ /- VLAN -/,
   ⟨0x2A04, 0x2A05, 0x04, 0x04, 2, .rwIdle, 0x88B5⟩ /- ETHERTYPE -/,
   ⟨0x2A04, 0x2A05, 0x05, 0x05, 4, .rwIdle, 0x3E80⟩ /- GRID_NS -/,
   ⟨0x2A04, 0x2A05, 0x06, 0x06, 1, .rw, 0⟩ /- ENABLE -/,
   ⟨0x2A04, 0x2A05, 0x07, 0x07, 1, .ro, 0⟩ /- LINK -/,
   ⟨0x2A04, 0x2A05, 0x08, 0x08, 4, .ro, 0⟩ /- TX_FRAMES -/,
   ⟨0x2A04, 0x2A05, 0x09, 0x09, 4, .ro, 0⟩ /- HELD -/,
   ⟨0x2A04, 0x2A05, 0x0A, 0x0A, 4, .ro, 0⟩ /- LINK_LOSSES -/,
   ⟨0x2A10, 0x2A17, 0x00, 0x00, 1, .const, 0xE⟩ /- Highest subindex -/,
   ⟨0x2A10, 0x2A17, 0x01, 0x01, 1, .ro, 0⟩ /- STATE -/,
   ⟨0x2A10, 0x2A17, 0x02, 0x02, 1, .rw, 0⟩ /- ENABLE -/,
   ⟨0x2A10, 0x2A17, 0x03, 0x03, 4, .ro, 0⟩ /- PLAN_ID -/,
   ⟨0x2A10, 0x2A17, 0x04, 0x04, 4, .ro, 0⟩ /- PENDING -/,
   ⟨0x2A10, 0x2A17, 0x05, 0x05, 4, .ro, 0⟩ /- FRAMES -/,
   ⟨0x2A10, 0x2A17, 0x06, 0x06, 4, .ro, 0⟩ /- EVENTS -/,
   ⟨0x2A10, 0x2A17, 0x07, 0x07, 4, .ro, 0⟩ /- LATE -/,
   ⟨0x2A10, 0x2A17, 0x08, 0x08, 4, .ro, 0⟩ /- CAL_FULL -/,
   ⟨0x2A10, 0x2A17, 0x09, 0x09, 4, .ro, 0⟩ /- SLOW -/,
   ⟨0x2A10, 0x2A17, 0x0A, 0x0A, 4, .ro, 0⟩ /- STALE_SPEED -/,
   ⟨0x2A10, 0x2A17, 0x0B, 0x0B, 4, .ro, 0⟩ /- DISCARDED -/,
   ⟨0x2A10, 0x2A17, 0x0C, 0x0C, 4, .ro, 0⟩ /- MAX_ON -/,
   ⟨0x2A10, 0x2A17, 0x0D, 0x0D, 8, .ro, 0⟩ /- LAST_LATE -/,
   ⟨0x2A10, 0x2A17, 0x0E, 0x0E, 4, .ro, 0xFFFFFFFF⟩ /- MIN_MARGIN -/]

/-- Objects of 2B00h (R359, R360, R361, R362, R363, R364, R365). -/
def map2B00 : List Entry :=
  [⟨0x2B00, 0x2B00, 0x00, 0x00, 1, .const, 0xB⟩ /- Highest subindex -/,
   ⟨0x2B00, 0x2B00, 0x01, 0x01, 1, .ro, 1⟩ /- FAULT_N -/,
   ⟨0x2B00, 0x2B00, 0x02, 0x02, 1, .ro, 0⟩ /- UNSAFE -/,
   ⟨0x2B00, 0x2B00, 0x03, 0x03, 1, .rw, 0xFF⟩ /- FAULTN_MASK -/,
   ⟨0x2B00, 0x2B00, 0x04, 0x04, 2, .rw, 0xFFFF⟩ /- LOG_QUEUE -/,
   ⟨0x2B00, 0x2B00, 0x05, 0x05, 4, .ro, 0⟩ /- DETECTED -/,
   ⟨0x2B00, 0x2B00, 0x06, 0x06, 4, .ro, 0⟩ /- TRANSIENT -/,
   ⟨0x2B00, 0x2B00, 0x07, 0x07, 4, .ro, 0⟩ /- LASTING -/,
   ⟨0x2B00, 0x2B00, 0x08, 0x08, 4, .ro, 0⟩ /- WARNINGS -/,
   ⟨0x2B00, 0x2B00, 0x09, 0x09, 4, .ro, 0⟩ /- LOG_DROPS -/,
   ⟨0x2B00, 0x2B00, 0x0A, 0x0A, 4, .rw, 0⟩ /- HOLDOVER_LIMIT -/,
   ⟨0x2B00, 0x2B00, 0x0B, 0x0B, 1, .ro, 0⟩ /- OUT_OF_SERVICE -/,
   ⟨0x2B08, 0x2B0F, 0x00, 0x00, 1, .const, 7⟩ /- Highest subindex -/,
   ⟨0x2B08, 0x2B0F, 0x01, 0x01, 1, .ro, 0⟩ /- STATE -/,
   ⟨0x2B08, 0x2B0F, 0x02, 0x02, 1, .rwIdle, 0⟩ /- SAFETY -/,
   ⟨0x2B08, 0x2B0F, 0x03, 0x03, 1, .rwIdle, 1⟩ /- RECOVERY -/,
   ⟨0x2B08, 0x2B0F, 0x04, 0x04, 1, .wo, 0⟩ /- ACK -/,
   ⟨0x2B08, 0x2B0F, 0x05, 0x05, 1, .ro, 0⟩ /- LAST_CODE -/,
   ⟨0x2B08, 0x2B0F, 0x06, 0x06, 8, .ro, 0⟩ /- LAST_STAMP -/,
   ⟨0x2B08, 0x2B0F, 0x07, 0x07, 4, .ro, 0⟩ /- FAULTS -/,
   ⟨0x2B10, 0x2B13, 0x00, 0x00, 1, .const, 0x10⟩ /- Highest subindex -/,
   ⟨0x2B10, 0x2B13, 0x01, 0x01, 1, .rw, 0⟩ /- MODE_SHADOW -/,
   ⟨0x2B10, 0x2B13, 0x02, 0x02, 1, .ro, 0⟩ /- MODE -/,
   ⟨0x2B10, 0x2B13, 0x03, 0x03, 2, .rwIdle, 0x7D0⟩ /- MATCH_TIMEOUT -/,
   ⟨0x2B10, 0x2B13, 0x04, 0x04, 4, .ro, 0⟩ /- COMPARED -/,
   ⟨0x2B10, 0x2B13, 0x05, 0x05, 4, .ro, 0⟩ /- MISMATCHES -/,
   ⟨0x2B10, 0x2B13, 0x06, 0x06, 4, .ro, 0⟩ /- TIMEOUTS -/,
   ⟨0x2B10, 0x2B13, 0x07, 0x07, 4, .ro, 0⟩ /- SUSPENDED -/,
   ⟨0x2B10, 0x2B13, 0x08, 0x08, 4, .ro, 0⟩ /- LAST_MISMATCH -/,
   ⟨0x2B10, 0x2B13, 0x09, 0x10, 2, .rwIdle, 0xFFFF⟩ /- ASYNC_TAG -/,
   ⟨0x2B20, 0x2B27, 0x00, 0x00, 1, .const, 9⟩ /- Highest subindex -/,
   ⟨0x2B20, 0x2B27, 0x01, 0x08, 16, .rwIdle, 0⟩ /- Deadline watch -/,
   ⟨0x2B20, 0x2B27, 0x09, 0x09, 4, .ro, 0⟩ /- MISSES -/,
   ⟨0x2B30, 0x2B30, 0x00, 0x00, 1, .const, 0xE⟩ /- Highest subindex -/,
   ⟨0x2B30, 0x2B30, 0x01, 0x01, 1, .rw, 1⟩ /- ENABLE -/,
   ⟨0x2B30, 0x2B30, 0x02, 0x02, 4, .rw, 0x3E8⟩ /- SWEEP_LIMIT -/,
   ⟨0x2B30, 0x2B30, 0x03, 0x03, 4, .ro, 0⟩ /- SWEEPS -/,
   ⟨0x2B30, 0x2B30, 0x04, 0x04, 4, .ro, 0⟩ /- FAILURES -/,
   ⟨0x2B30, 0x2B30, 0x05, 0x05, 4, .ro, 0⟩ /- LATE -/,
   ⟨0x2B30, 0x2B30, 0x06, 0x06, 4, .ro, 0⟩ /- LONGEST -/,
   ⟨0x2B30, 0x2B30, 0x07, 0x0E, 4, .ro, 0⟩ /- POSITION -/,
   ⟨0x2B38, 0x2B3F, 0x00, 0x00, 1, .const, 0xD⟩ /- Highest subindex -/,
   ⟨0x2B38, 0x2B3F, 0x01, 0x01, 1, .rwIdle, 0⟩ /- ENABLE -/,
   ⟨0x2B38, 0x2B3F, 0x02, 0x02, 4, .rwIdle, 0⟩ /- TICK -/,
   ⟨0x2B38, 0x2B3F, 0x03, 0x03, 8, .rwIdle, 0⟩ /- STREAMS -/,
   ⟨0x2B38, 0x2B3F, 0x04, 0x04, 2, .rwIdle, 0xFFFF⟩ /- QUEUE -/,
   ⟨0x2B38, 0x2B3F, 0x05, 0x05, 8, .rwIdle, 0⟩ /- BUFFER -/,
   ⟨0x2B38, 0x2B3F, 0x06, 0x06, 2, .rwIdle, 0⟩ /- TAG_LO -/,
   ⟨0x2B38, 0x2B3F, 0x07, 0x07, 2, .rwIdle, 0⟩ /- TAG_HI -/,
   ⟨0x2B38, 0x2B3F, 0x08, 0x08, 4, .ro, 0⟩ /- INJECTIONS -/,
   ⟨0x2B38, 0x2B3F, 0x09, 0x09, 4, .ro, 0⟩ /- SKIPS -/,
   ⟨0x2B38, 0x2B3F, 0x0A, 0x0A, 1, .ro, 0⟩ /- CONSECUTIVE -/,
   ⟨0x2B38, 0x2B3F, 0x0B, 0x0B, 1, .ro, 0⟩ /- NEXT_STREAM -/,
   ⟨0x2B38, 0x2B3F, 0x0C, 0x0C, 4, .ro, 0⟩ /- PATTERN_SEQ -/,
   ⟨0x2B38, 0x2B3F, 0x0D, 0x0D, 4, .rwIdle, 0⟩ /- BYTES -/,
   ⟨0x2B40, 0x2B40, 0x00, 0x00, 1, .const, 7⟩ /- Highest subindex -/,
   ⟨0x2B40, 0x2B40, 0x01, 0x01, 8, .rwIdle, 0⟩ /- SOURCE -/,
   ⟨0x2B40, 0x2B40, 0x02, 0x02, 4, .rwIdle, 0⟩ /- LENGTH -/,
   ⟨0x2B40, 0x2B40, 0x03, 0x03, 1, .wo, 0⟩ /- COMMAND -/,
   ⟨0x2B40, 0x2B40, 0x04, 0x04, 1, .ro, 0⟩ /- STATUS -/,
   ⟨0x2B40, 0x2B40, 0x05, 0x05, 4, .ro, 0⟩ /- SELFTEST_SEQ -/,
   ⟨0x2B40, 0x2B40, 0x06, 0x06, 4, .ro, 0⟩ /- INSTALLS -/,
   ⟨0x2B40, 0x2B40, 0x07, 0x07, 8, .rwIdle, 0⟩ /- STORE -/]

/-- Objects of 2C00h (R411, R419). -/
def map2C00 : List Entry :=
  [⟨0x2C00, 0x2C00, 0x00, 0x00, 1, .const, 0xB⟩ /- Highest subindex -/,
   ⟨0x2C00, 0x2C00, 0x01, 0x01, 1, .const, 0⟩ /- LIFECYCLE -/,
   ⟨0x2C00, 0x2C00, 0x02, 0x02, 32, .const, 0⟩ /- ROOT_KEY_DIGEST -/,
   ⟨0x2C00, 0x2C00, 0x03, 0x03, 32, .const, 0⟩ /- IDENTITY_DIGEST -/,
   ⟨0x2C00, 0x2C00, 0x04, 0x04, 1, .ro, 0⟩ /- SVN_COUNT -/,
   ⟨0x2C00, 0x2C00, 0x05, 0x05, 2, .ro, 0⟩ /- LOG_ENTRIES -/,
   ⟨0x2C00, 0x2C00, 0x06, 0x06, 4, .ro, 0⟩ /- DROPPED -/,
   ⟨0x2C00, 0x2C00, 0x07, 0x07, 32, .ro, 0⟩ /- CHAIN -/,
   ⟨0x2C00, 0x2C00, 0x08, 0x08, 32, .rw, 0⟩ /- NONCE -/,
   ⟨0x2C00, 0x2C00, 0x09, 0x09, 8, .rwIdle, 0⟩ /- ADDRESS -/,
   ⟨0x2C00, 0x2C00, 0x0A, 0x0A, 1, .wo, 0⟩ /- COMMAND -/,
   ⟨0x2C00, 0x2C00, 0x0B, 0x0B, 1, .ro, 0⟩ /- STATUS -/,
   ⟨0x2C10, 0x2C10, 0x00, 0x00, 1, .const, 9⟩ /- Highest subindex -/,
   ⟨0x2C10, 0x2C10, 0x01, 0x01, 8, .rwIdle, 0⟩ /- SOURCE -/,
   ⟨0x2C10, 0x2C10, 0x02, 0x02, 4, .rwIdle, 0⟩ /- LENGTH -/,
   ⟨0x2C10, 0x2C10, 0x03, 0x03, 1, .wo, 0⟩ /- COMMAND -/,
   ⟨0x2C10, 0x2C10, 0x04, 0x04, 1, .ro, 0⟩ /- STATUS -/,
   ⟨0x2C10, 0x2C10, 0x05, 0x05, 32, .ro, 0⟩ /- RUNNING_DIGEST -/,
   ⟨0x2C10, 0x2C10, 0x06, 0x06, 2, .ro, 0⟩ /- RELEASE -/,
   ⟨0x2C10, 0x2C10, 0x07, 0x07, 1, .ro, 0⟩ /- SVN -/,
   ⟨0x2C10, 0x2C10, 0x08, 0x08, 1, .ro, 0⟩ /- ORIGIN -/,
   ⟨0x2C10, 0x2C10, 0x09, 0x09, 8, .rwIdle, 0⟩ /- STAGE -/]

/-- Objects of 2D00h (R455, R456, R461, R462, R463, R464). -/
def map2D00 : List Entry :=
  [⟨0x2D00, 0x2D00, 0x00, 0x00, 1, .const, 6⟩ /- Highest subindex -/,
   ⟨0x2D00, 0x2D00, 0x01, 0x01, 1, .ro, 0⟩ /- PRIVILEGE -/,
   ⟨0x2D00, 0x2D00, 0x02, 0x02, 2, .ro, 0⟩ /- BREAK -/,
   ⟨0x2D00, 0x2D00, 0x03, 0x03, 1, .ro, 0⟩ /- DICT_GRANT -/,
   ⟨0x2D00, 0x2D00, 0x04, 0x04, 4, .ro, 0⟩ /- GRANTS -/,
   ⟨0x2D00, 0x2D00, 0x05, 0x05, 8, .ro, 0⟩ /- LAST_GRANT -/,
   ⟨0x2D00, 0x2D00, 0x06, 0x06, 1, .ro, 0⟩ /- EXTEST -/,
   ⟨0x2D10, 0x2D10, 0x00, 0x00, 1, .const, 8⟩ /- Highest subindex -/,
   ⟨0x2D10, 0x2D10, 0x01, 0x01, 1, .wo, 0⟩ /- COMMAND -/,
   ⟨0x2D10, 0x2D10, 0x02, 0x02, 1, .rw, 0⟩ /- PARTITIONS -/,
   ⟨0x2D10, 0x2D10, 0x03, 0x03, 1, .ro, 0⟩ /- STATE -/,
   ⟨0x2D10, 0x2D10, 0x04, 0x04, 1, .ro, 0⟩ /- SCOPE -/,
   ⟨0x2D10, 0x2D10, 0x05, 0x05, 8, .ro, 0⟩ /- STOP_TIME -/,
   ⟨0x2D10, 0x2D10, 0x06, 0x06, 8, .ro, 0⟩ /- CUT_TIME -/,
   ⟨0x2D10, 0x2D10, 0x07, 0x07, 4, .rw, 0⟩ /- BREAK -/,
   ⟨0x2D10, 0x2D10, 0x08, 0x08, 4, .ro, 0⟩ /- STOPS -/,
   ⟨0x2D20, 0x2D20, 0x00, 0x00, 1, .const, 0xB⟩ /- Highest subindex -/,
   ⟨0x2D20, 0x2D20, 0x01, 0x01, 1, .rw, 0⟩ /- ENABLE -/,
   ⟨0x2D20, 0x2D20, 0x02, 0x02, 1, .rwIdle, 1⟩ /- SINK -/,
   ⟨0x2D20, 0x2D20, 0x03, 0x03, 1, .rwIdle, 2⟩ /- PIN_RATE -/,
   ⟨0x2D20, 0x2D20, 0x04, 0x04, 8, .rwIdle, 0⟩ /- RING_BASE -/,
   ⟨0x2D20, 0x2D20, 0x05, 0x05, 1, .rwIdle, 0x10⟩ /- RING_LOG2 -/,
   ⟨0x2D20, 0x2D20, 0x06, 0x06, 2, .rwIdle, 0⟩ /- SOURCES -/,
   ⟨0x2D20, 0x2D20, 0x07, 0x07, 8, .rwIdle, 0⟩ /- SKEINS -/,
   ⟨0x2D20, 0x2D20, 0x08, 0x08, 8, .ro, 0⟩ /- WRITE_INDEX -/,
   ⟨0x2D20, 0x2D20, 0x09, 0x09, 8, .ro, 0⟩ /- EMITTED -/,
   ⟨0x2D20, 0x2D20, 0x0A, 0x0A, 4, .ro, 0⟩ /- LOST -/,
   ⟨0x2D20, 0x2D20, 0x0B, 0x0B, 2, .ro, 0⟩ /- FIFO_PEAK -/,
   ⟨0x2D38, 0x2D38, 0x00, 0x00, 1, .const, 0xA⟩ /- Highest subindex -/,
   ⟨0x2D38, 0x2D38, 0x01, 0x01, 2, .ro, 0⟩ /- TEC -/,
   ⟨0x2D38, 0x2D38, 0x02, 0x02, 2, .ro, 0⟩ /- REC -/,
   ⟨0x2D38, 0x2D38, 0x03, 0x03, 4, .ro, 0⟩ /- BUS_OFF -/,
   ⟨0x2D38, 0x2D38, 0x04, 0x04, 4, .ro, 0⟩ /- RPDO_REFUSED -/,
   ⟨0x2D38, 0x2D38, 0x05, 0x05, 4, .ro, 0⟩ /- ERROR_FRAMES -/,
   ⟨0x2D38, 0x2D38, 0x06, 0x06, 2, .ro, 0⟩ /- TEC -/,
   ⟨0x2D38, 0x2D38, 0x07, 0x07, 2, .ro, 0⟩ /- REC -/,
   ⟨0x2D38, 0x2D38, 0x08, 0x08, 4, .ro, 0⟩ /- BUS_OFF -/,
   ⟨0x2D38, 0x2D38, 0x09, 0x09, 4, .ro, 0⟩ /- RPDO_REFUSED -/,
   ⟨0x2D38, 0x2D38, 0x0A, 0x0A, 4, .ro, 0⟩ /- ERROR_FRAMES -/,
   ⟨0x2D40, 0x2D47, 0x00, 0x00, 1, .const, 0x2A⟩ /- Highest subindex -/,
   ⟨0x2D40, 0x2D47, 0x01, 0x20, 4, .ro, 0⟩ /- SPINDLE_CORR -/,
   ⟨0x2D40, 0x2D47, 0x21, 0x28, 4, .ro, 0⟩ /- SCRATCH_CORR -/,
   ⟨0x2D40, 0x2D47, 0x29, 0x29, 8, .ro, 0⟩ /- ACTIVE_STEPS -/,
   ⟨0x2D40, 0x2D47, 0x2A, 0x2A, 8, .ro, 0⟩ /- SPINDLE_STEPS -/,
   ⟨0x2D60, 0x2D60, 0x00, 0x00, 1, .const, 0x11⟩ /- Highest subindex -/,
   ⟨0x2D60, 0x2D60, 0x01, 0x01, 1, .rw, 0⟩ /- ENABLE -/,
   ⟨0x2D60, 0x2D60, 0x02, 0x09, 2, .rwIdle, 0⟩ /- EVENT -/,
   ⟨0x2D60, 0x2D60, 0x0A, 0x11, 8, .ro, 0⟩ /- COUNT -/]

/-- Objects of 2E00h (R432, R439, R440, R445). -/
def map2E00 : List Entry :=
  [⟨0x2E00, 0x2E00, 0x00, 0x00, 1, .const, 0xF⟩ /- Highest subindex -/,
   ⟨0x2E00, 0x2E00, 0x01, 0x01, 2, .rwIdle, 0⟩ /- NODE_ID -/,
   ⟨0x2E00, 0x2E00, 0x02, 0x02, 1, .wo, 0⟩ /- COMMAND -/,
   ⟨0x2E00, 0x2E00, 0x03, 0x03, 1, .rw, 1⟩ /- AUTO -/,
   ⟨0x2E00, 0x2E00, 0x04, 0x04, 1, .ro, 0⟩ /- STATE -/,
   ⟨0x2E00, 0x2E00, 0x05, 0x05, 1, .ro, 0⟩ /- RESULT -/,
   ⟨0x2E00, 0x2E00, 0x06, 0x06, 2, .ro, 0⟩ /- RUN -/,
   ⟨0x2E00, 0x2E00, 0x07, 0x07, 2, .ro, 0⟩ /- ROOT -/,
   ⟨0x2E00, 0x2E00, 0x08, 0x08, 2, .ro, 0⟩ /- DEPTH -/,
   ⟨0x2E00, 0x2E00, 0x09, 0x09, 1, .ro, 0xFF⟩ /- PARENT -/,
   ⟨0x2E00, 0x2E00, 0x0A, 0x0A, 2, .ro, 0⟩ /- NODES -/,
   ⟨0x2E00, 0x2E00, 0x0B, 0x0B, 2, .ro, 0⟩ /- TREE_DEPTH -/,
   ⟨0x2E00, 0x2E00, 0x0C, 0x0C, 2, .ro, 0⟩ /- DUP_ID -/,
   ⟨0x2E00, 0x2E00, 0x0D, 0x0D, 4, .ro, 0⟩ /- RESTARTS -/,
   ⟨0x2E00, 0x2E00, 0x0E, 0x0E, 2, .rw, 0xFFFF⟩ /- MGMT_QUEUE -/,
   ⟨0x2E00, 0x2E00, 0x0F, 0x0F, 4, .ro, 0⟩ /- MGMT_REFUSED -/,
   ⟨0x2E08, 0x2E0B, 0x00, 0x00, 1, .const, 0xC⟩ /- Highest subindex -/,
   ⟨0x2E08, 0x2E0B, 0x01, 0x01, 1, .rw, 1⟩ /- ENABLE -/,
   ⟨0x2E08, 0x2E0B, 0x02, 0x02, 1, .ro, 0⟩ /- STATE -/,
   ⟨0x2E08, 0x2E0B, 0x03, 0x03, 2, .ro, 0⟩ /- PEER_NODE -/,
   ⟨0x2E08, 0x2E0B, 0x04, 0x04, 1, .ro, 0⟩ /- PEER_LINK -/,
   ⟨0x2E08, 0x2E0B, 0x05, 0x05, 4, .ro, 0⟩ /- TX_FRAMES -/,
   ⟨0x2E08, 0x2E0B, 0x06, 0x06, 4, .ro, 0⟩ /- RX_FRAMES -/,
   ⟨0x2E08, 0x2E0B, 0x07, 0x07, 4, .ro, 0⟩ /- CRC_ERRORS -/,
   ⟨0x2E08, 0x2E0B, 0x08, 0x08, 4, .ro, 0⟩ /- REPLAYS -/,
   ⟨0x2E08, 0x2E0B, 0x09, 0x09, 4, .ro, 0⟩ /- FAILURES -/,
   ⟨0x2E08, 0x2E0B, 0x0A, 0x0A, 4, .ro, 0⟩ /- CREDIT_WAITS -/,
   ⟨0x2E08, 0x2E0B, 0x0B, 0x0B, 4, .ro, 0⟩ /- PROTOCOL -/,
   ⟨0x2E08, 0x2E0B, 0x0C, 0x0C, 1, .ro, 0⟩ /- TREE -/,
   ⟨0x2E10, 0x2E17, 0x00, 0x00, 1, .const, 4⟩ /- Highest subindex -/,
   ⟨0x2E10, 0x2E17, 0x01, 0x01, 2, .rwIdle, 0⟩ /- NODE_LO -/,
   ⟨0x2E10, 0x2E17, 0x02, 0x02, 2, .rwIdle, 0⟩ /- NODE_HI -/,
   ⟨0x2E10, 0x2E17, 0x03, 0x03, 1, .rwIdle, 0⟩ /- PARTITIONS -/,
   ⟨0x2E10, 0x2E17, 0x04, 0x04, 4, .ro, 0⟩ /- REFUSED -/,
   ⟨0x2E30, 0x2E30, 0x00, 0x00, 1, .const, 0xB⟩ /- Highest subindex -/,
   ⟨0x2E30, 0x2E30, 0x01, 0x01, 1, .ro, 0⟩ /- LINK_SPEED -/,
   ⟨0x2E30, 0x2E30, 0x02, 0x02, 1, .ro, 0⟩ /- LINK_WIDTH -/,
   ⟨0x2E30, 0x2E30, 0x03, 0x03, 1, .ro, 0⟩ /- BUS_MASTER -/,
   ⟨0x2E30, 0x2E30, 0x04, 0x04, 2, .rw, 0xFFFF⟩ /- STREAM_QUEUE -/,
   ⟨0x2E30, 0x2E30, 0x05, 0x05, 4, .ro, 0⟩ /- STREAM_DROPS -/,
   ⟨0x2E30, 0x2E30, 0x06, 0x06, 4, .ro, 0⟩ /- HOST_REFUSALS -/,
   ⟨0x2E30, 0x2E30, 0x07, 0x07, 8, .ro, 0⟩ /- LAST_HOST_REFUSAL -/,
   ⟨0x2E30, 0x2E30, 0x08, 0x08, 4, .ro, 0⟩ /- DOORBELL_REFUSALS -/,
   ⟨0x2E30, 0x2E30, 0x09, 0x09, 4, .ro, 0⟩ /- LAST_DOORBELL -/,
   ⟨0x2E30, 0x2E30, 0x0A, 0x0A, 8, .ro, 0⟩ /- TX_BYTES -/,
   ⟨0x2E30, 0x2E30, 0x0B, 0x0B, 8, .ro, 0⟩ /- RX_BYTES -/]

/-- Objects of 2F00h (R387). -/
def map2F00 : List Entry :=
  [⟨0x2F00, 0x2F07, 0x00, 0x00, 1, .const, 8⟩ /- Highest subindex -/,
   ⟨0x2F00, 0x2F07, 0x01, 0x01, 1, .const, 0⟩ /- OPERATION -/,
   ⟨0x2F00, 0x2F07, 0x02, 0x02, 1, .ro, 0⟩ /- STATE -/,
   ⟨0x2F00, 0x2F07, 0x03, 0x03, 1, .ro, 0⟩ /- PERCENT -/,
   ⟨0x2F00, 0x2F07, 0x04, 0x04, 8, .ro, 0⟩ /- POSITION -/,
   ⟨0x2F00, 0x2F07, 0x05, 0x05, 8, .ro, 0⟩ /- TOTAL -/,
   ⟨0x2F00, 0x2F07, 0x06, 0x06, 1, .ro, 0⟩ /- RESULT -/,
   ⟨0x2F00, 0x2F07, 0x07, 0x07, 8, .ro, 0⟩ /- STARTED -/,
   ⟨0x2F00, 0x2F07, 0x08, 0x08, 4, .ro, 0⟩ /- RUNS -/]

/-- The part of the object map that holds an index: the communication profile, or the 256 indices of its upper byte
(R382, R389). -/
def mapOf (ix : Nat) : List Entry :=
  if ix < 0x2000 then map1000
  else
    ([map2000, map2100, map2200, map2300, map2400, map2500, map2600, map2700, map2800, map2900, map2A00, map2B00, map2C00,
      map2D00, map2E00, map2F00] : List (List Entry)).getD (ix / 256 - 0x20) []

/-- The row of a subindex. -/
def odFind (ix sub : Nat) : Option Entry :=
  (mapOf ix).find? (fun e => Nat.ble e.lo ix && Nat.ble ix e.hi && Nat.ble e.subLo sub && Nat.ble sub e.subHi)

/-- The device implements the index (R15, R389). -/
def odHasIndex (ix : Nat) : Bool := (mapOf ix).any (fun e => Nat.ble e.lo ix && Nat.ble ix e.hi)

/-- Bytes of a subindex's type; 8 where there is none. -/
def odBytes (ix sub : Nat) : Nat := ((odFind ix sub).map Entry.bytes).getD 8

/-- The default of a subindex: its map's, and those that depend on the unit or were set at manufacture. Defaults that
come from the option bytes are stored when the option bytes are read (Machine/ResetBoot.lean). -/
def odDefault (ix sub : Nat) : Nat :=
  if 0x2540 ≤ ix ∧ ix ≤ 0x2567 ∧ sub = 2 then (ix - 0x2540) % 4
  else if 0x2530 ≤ ix ∧ ix ≤ 0x2533 ∧ sub = 1 then Config.macAddr (ix - 0x2530) % 2 ^ 48
  else if 0x2A04 ≤ ix ∧ ix ≤ 0x2A05 ∧ sub = 1 then Config.macAddr (ix - 0x2A00) % 2 ^ 48
  else if (ix = 0x2202 ∨ ix = 0x2203) ∧ sub = 1 then 0x40
  else if 0x1400 ≤ ix ∧ ix ≤ 0x1403 ∧ sub = 1 then 0x80000200 + 0x100 * (ix - 0x1400)
  else if 0x1800 ≤ ix ∧ ix ≤ 0x1803 ∧ sub = 1 then 0x80000180 + 0x100 * (ix - 0x1800)
  else if 0x2F00 ≤ ix ∧ ix ≤ 0x2F07 ∧ sub = 1 then ix - 0x2F00
  else ((odFind ix sub).map Entry.dflt).getD 0

/-- Key of a subindex in `dict` and `accepted`. -/
def odKey (ix sub : Nat) : Nat := 256 * ix + sub

/-- The stored value of a register. -/
def State.reg (s : State) (ix sub : Nat) : Nat := tblGet (odDefault ix sub) s.dict (odKey ix sub)
/-- Stores a register, truncated to its type. -/
def State.setReg (s : State) (ix sub v : Nat) : State :=
  { s with dict := tblPut (odDefault ix sub) s.dict (odKey ix sub) (v % 256 ^ odBytes ix sub) }
/-- Adds to a register modulo its width. -/
def State.bumpBy (s : State) (ix sub n : Nat) : State := s.setReg ix sub (s.reg ix sub + n)
def State.bump (s : State) (ix sub : Nat) : State := s.bumpBy ix sub 1
/-- Adds 1 to a register and stays at its greatest value. -/
def State.bumpSatBy (s : State) (ix sub n : Nat) : State :=
  s.setReg ix sub (Nat.min (s.reg ix sub + n) (256 ^ odBytes ix sub - 1))
def State.bumpSat (s : State) (ix sub : Nat) : State := s.bumpSatBy ix sub 1
/-- Stores the greater of a register and a value. -/
def State.maxReg (s : State) (ix sub v : Nat) : State :=
  if s.reg ix sub < v then s.setReg ix sub (Nat.min v (256 ^ odBytes ix sub - 1)) else s
/-- The accepted value of a shadow of R375. -/
def State.acc (s : State) (ix sub : Nat) : Nat := tblGet (odDefault ix sub) s.accepted (odKey ix sub)
def State.setAcc (s : State) (ix sub v : Nat) : State :=
  { s with accepted := tblPut (odDefault ix sub) s.accepted (odKey ix sub) v }

/-! ### Who owns what (R30, R116, R215, R237, R317) -/

def State.calderaPart (s : State) (c : Nat) : Nat := s.reg 0x2301 (c + 1)
def State.skeinPart (s : State) (g : Nat) : Nat := s.calderaPart (g / 8)
def State.queuePart (s : State) (q : Nat) : Nat := s.reg 0x2401 (q / 256 + 1)
def State.syncPart (s : State) (n : Nat) : Nat := s.reg 0x2403 (n / 2048 + 1)
def State.streamPart (s : State) (n : Nat) : Nat := s.reg 0x2503 (n + 1)
def State.launchPart (s : State) (l : Nat) : Nat := s.reg 0x2A03 (l + 1)
/-- Calderas of a partition. -/
def State.partCalderas (s : State) (p : Nat) : List Nat := (List.range 8).filter (fun c => s.calderaPart c == p)
/-- Skeins of a partition. -/
def State.partSkeins (s : State) (p : Nat) : List Nat := (List.range 64).filter (fun g => s.skeinPart g == p)

end Sys2Proof.Machine
end

