-- ==== Sys2Proof/Machine/Hash.lean ====
section
/-! DEFINITION. Hash: SHA3-256 (PRESUMED from FIPS 202, which the manual names), and CRC-32C (R316; PRESUMED
Castagnoli). -/
namespace Sys2Proof.Machine

/-! ### SHA3-256

The tables of Keccak are not written out: they are made as FIPS 202 makes them, the round constants by the feedback
register of its algorithm 5 and the rotations by the walk over the 24 outer lanes of its algorithm 2. -/

def rotl64 (v n : Nat) : Nat := (v * 2 ^ n) % 2 ^ 64 + v % 2 ^ 64 / 2 ^ (64 - n)

/-- `n` output bits of the feedback register that stands at `r`. -/
def feedbackBits : Nat → Nat → List Bool
  | 0, _ => []
  | n + 1, r => bit r 0 :: feedbackBits n (if r < 128 then 2 * r else 2 * r ^^^ 0x171)

/-- The constant of a round from the register's bits on: bit j of its seven stands at 2^j - 1. -/
def roundConstant (bs : List Bool) : Nat :=
  ((bs.take 7).zipIdx.map (fun e => b2n e.1 * 2 ^ (2 ^ e.2 - 1))).sum

/-- The constants of `n` rounds. -/
def roundConstants : Nat → List Bool → List Nat
  | 0, _ => []
  | n + 1, bs => roundConstant bs :: roundConstants n (bs.drop 7)

/-- Rotations along the walk of `n` steps that stands at lane (x, y) in step t. -/
def rotationWalk : Nat → Nat → Nat → Nat → Tbl Nat
  | 0, _, _, _ => []
  | n + 1, t, x, y => (x + 5 * y, (t + 1) * (t + 2) / 2 % 64) :: rotationWalk n (t + 1) y ((2 * x + 3 * y) % 5)

/-- The 25 lanes of a state given by column and row. -/
def lanes (f : Nat → Nat → Nat) : List Nat := (List.range 25).map (fun i => f (i % 5) (i / 5))
/-- Lane of column x and row y, both taken modulo 5. -/
def laneOf (a : List Nat) (x y : Nat) : Nat := a.getD (x % 5 + 5 * (y % 5)) 0

/-- Parity of a column. -/
def columnParity (a : List Nat) (x : Nat) : Nat := (List.range 5).foldl (fun p y => p ^^^ laneOf a x y) 0
def stepTheta (a : List Nat) : List Nat :=
  lanes (fun x y => laneOf a x y ^^^ columnParity a (x + 4) ^^^ rotl64 (columnParity a (x + 1)) 1)
/-- Rotation of every lane, and its move to a new place. -/
def stepRhoPi (rots : Tbl Nat) (a : List Nat) : List Nat :=
  lanes (fun x y => rotl64 (laneOf a (x + 3 * y) x) (tblGet 0 rots ((x + 3 * y) % 5 + 5 * x)))
def stepChi (a : List Nat) : List Nat :=
  lanes (fun x y => laneOf a x y ^^^ ((2 ^ 64 - 1 - laneOf a (x + 1) y) &&& laneOf a (x + 2) y))

/-- One round. -/
def keccakRound (rots : Tbl Nat) (a : List Nat) (rc : Nat) : List Nat :=
  (stepChi (stepRhoPi rots (stepTheta a))).modifyHead (fun h => h ^^^ rc)

def keccakF (a : List Nat) : List Nat :=
  (roundConstants 24 (feedbackBits 168 1)).foldl (keccakRound (rotationWalk 24 0 1 0)) a

/-- Absorbs blocks of 136 bytes, `n` of them. -/
def shaAbsorb : Nat → List Nat → List Byte → List Nat
  | 0, a, _ => a
  | n + 1, a, bs =>
    let a' := (List.range 25).map (fun i => a.getD i 0 ^^^ (if i < 17 then field bs (8 * i) 8 else 0))
    shaAbsorb n (keccakF a') (bs.drop 136)

/-- SHA3-256 of a byte string: 32 bytes. -/
def sha3 (bs : List Byte) : List Byte :=
  let pad := 136 - bs.length % 136
  let tail : List Byte := if pad = 1 then [0x86] else [0x06] ++ zeros (pad - 2) ++ [0x80]
  let st := shaAbsorb (bs.length / 136 + 1) (List.replicate 25 0) (bs ++ tail)
  ((List.range 4).map (fun i => leBytes 8 (st.getD i 0))).flatten

/-! ### CRC-32C -/

def crcStep (c : Nat) : Nat → Nat
  | 0 => c
  | n + 1 => crcStep (if c % 2 = 1 then c / 2 ^^^ 0x82F63B78 else c / 2) n
def crc32c (bs : List Byte) : Nat :=
  (bs.foldl (fun c b => crcStep (c ^^^ b.toNat) 8) 0xFFFFFFFF) ^^^ 0xFFFFFFFF

end Sys2Proof.Machine
end

