-- ==== Sys2Proof/Machine/Memory.lean ====
section
/-! DEFINITION. Memory: the device address map, translation, and reads and writes of device addresses by any agent
(06_memory.md, R170 to R207; R426 for host memory). -/
namespace Sys2Proof.Machine

/-! ### Translation (R171 to R179) -/

/-- Where a device address lies (R171). -/
inductive Place where
  | pkg (pa : Nat)
  | buf (key : Nat)
  | host (bus : Nat)
  | spad (key : Nat)
  | lstore (key : Nat)
  | unmapped
  deriving DecidableEq, Repr

/-- Page ID of a translated device address (R173). -/
def pageId (da : Nat) : Option Nat :=
  if da < 0x200000000 then some (da / 0x200000)
  else if bufferBase ≤ da ∧ da < bufferBase + 0x800000 then some (0x1000 + (da - bufferBase) / 0x200000)
  else if 0xC00000000000 ≤ da ∧ da < 0xC00800000000 then some (0x4000 + (da - 0xC00000000000) / 0x200000)
  else none
/-- Page IDs that exist (R173). -/
def pageIdOk (id : Nat) : Bool :=
  decide (id < 0x1000) || decide (0x1000 ≤ id ∧ id ≤ 0x1003) || decide (0x4000 ≤ id ∧ id ≤ 0x7FFF)
/-- Entry after a reset that clears the translation store (R179). -/
def xlatReset (id : Nat) : Nat :=
  if id < 0x1000 then id * 0x200000 + 3 else if 0x1000 ≤ id ∧ id ≤ 0x1003 then (id - 0x1000) * 0x200000 + 3 else 0
def State.entry (s : State) (id : Nat) : Nat := tblGet (xlatReset id) s.xlat id
def State.entryShadow (s : State) (id : Nat) : Nat := tblGet (xlatReset id) s.xlatShadow id
def entFrame (e : Nat) : Nat := e / 0x200000
def entPart (e : Nat) : Nat := bits e 5 3
def entCacheable (e : Nat) : Bool := bit e 2
def entWritable (e : Nat) : Bool := bit e 1
def entPresent (e : Nat) : Bool := bit e 0

/-- Place of a device address under a translation of its page (R175, R171). -/
def placeWith (e da : Nat) : Place :=
  match pageId da with
  | some id =>
    if id < 0x1000 then .pkg (entFrame e * 0x200000 + da % 0x200000)
    else if id < 0x4000 then .buf (bufferBase + entFrame e * 0x200000 + da % 0x200000)
    else .host (entFrame e * 0x200000 + da % 0x200000)
  | none =>
    if scratchBase ≤ da ∧ da < scratchBase + 0x2000000 then .spad da
    else if storeBase ≤ da ∧ da < storeBase + 0x2000000 then .lstore da
    else .unmapped

/-- Checks of R175 on a translation, in order: 20h, 22h, 21h; 0 where it passes. `who` none is the host. -/
def entryStatus (e : Nat) (who : Option Nat) (write : Bool) : Nat :=
  if ¬ entPresent e then 0x20
  else if who ≠ none ∧ who ≠ some (entPart e) then 0x22
  else if write ∧ ¬ entWritable e then 0x21
  else 0

/-- Status of an access to a device address (R171, R175): 25h where nothing is mapped. -/
def State.accessStatus (s : State) (who : Option Nat) (write : Bool) (da : Nat) : Nat :=
  match pageId da with
  | some id => entryStatus (s.entry id) who write
  | none => if placeWith 0 da = .unmapped then 0x25 else 0
def State.place (s : State) (da : Nat) : Place :=
  placeWith (match pageId da with | some id => s.entry id | none => 0) da

/-- First failing status over the pages of `[da, da+n)`, and the first failing address (R97). -/
def State.rangeStatus (s : State) (who : Option Nat) (write : Bool) (da n : Nat) : Nat × Nat :=
  let firsts := (List.range ((0x1FFFFF + (da + n)) / 0x200000 - da / 0x200000)).map
    (fun i => if i = 0 then da else (da / 0x200000 + i) * 0x200000)
  match firsts.find? (fun a => s.accessStatus who write a ≠ 0) with
  | some a => (s.accessStatus who write a, a)
  | none => (0, 0)

/-- Translations captured at dispatch, else the one in force (R177). -/
def State.entryFor (s : State) (held : List (Nat × Nat)) (id : Nat) : Nat :=
  match held.find? (fun p => p.1 == id) with
  | some p => p.2
  | none => s.entry id
def State.placeFor (s : State) (held : List (Nat × Nat)) (da : Nat) : Place :=
  placeWith (match pageId da with | some id => s.entryFor held id | none => 0) da
/-- The translation that an access to a device address takes: page ID and entry. -/
def State.pageFor (s : State) (held : List (Nat × Nat)) (da : Nat) : Nat × Nat :=
  match pageId da with
  | some id => (id, s.entryFor held id)
  | none => (0, 0)

/-! ### Package memory (R195 to R207) -/

def channelOf (pa : Nat) : Nat := pa / 256 % 128
def bankOf (pa : Nat) : Nat := pa / 0x20000000
/-- State of a bank (R206). -/
def State.bankState (s : State) (b : Nat) : Nat := s.reg 0x2290 (b + 1)
/-- The bank refuses an access that reaches a controller now: it is not ON (R207), or the reset fill has not completed
(R205). -/
def State.bankLate (s : State) (pa : Nat) : Bool := !s.boot.filled || s.bankState (bankOf pa) != 2
/-- An access refused under R207: counted and recorded. One that meets the reset fill is only refused. -/
def State.lateRefusal (s : State) (pa : Nat) : State :=
  if s.boot.filled then (s.bumpSat 0x2290 0x12).setReg 0x2290 0x13 pa else s

/-- Bytes of one 32-byte unit as a reader sees them: writes that the channel has accepted stand over the array. -/
def State.unitBytes (s : State) (u : Nat) : List Byte :=
  (s.channel (channelOf u)).queue.foldl (fun bs a =>
    match a.kind with
    | .write w _ => if a.pa = u then List.zipWith (fun (b : Byte) (o : Option Byte) => o.getD b) bs w else bs
    | .lineRead .. => bs) (s.rd u 32)

/-- Lines of all eight weight caches that hold a byte of `[pa, pa+n)` are invalidated (R192). -/
def State.invalidate (s : State) (pa n : Nat) : State :=
  forEach (List.range 8) s (fun s c =>
    let k := s.caldera c
    let lo := pa / 256
    let hi := (pa + n + 255) / 256
    let hits := k.lines.filter (fun e => decide (lo ≤ e.1 ∧ e.1 < hi))
    let k' := { k with
      lines := k.lines.filter (fun e => !(decide (lo ≤ e.1 ∧ e.1 < hi)))
      fetches := k.fetches.map (fun f => if lo ≤ f.line ∧ f.line < hi then { f with discard := true } else f) }
    if hits = [] ∧ k' = k then s
    else (s.setCaldera c k').bumpSatBy (0x2280 + c) 3 hits.length)

/-- A write that lands in package memory: valid code, lines invalidated, a pending scrub write-back of the unit
cancelled (R192, R202). -/
def State.writePkg (s : State) (pa : Nat) (bs : List Byte) : State :=
  let s := (s.put pa bs).invalidate pa bs.length
  match s.scrubPending with
  | some u => if u / 32 * 32 < pa + bs.length ∧ pa < u / 32 * 32 + 32 then (s.withScrubPending none) else s
  | none => s

/-- Writes the enabled bytes of one unit. -/
def State.writeUnit (s : State) (pa : Nat) (bs : List (Option Byte)) : State :=
  let old := s.rd pa 32
  s.writePkg pa (List.zipWith (fun (b : Byte) (o : Option Byte) => o.getD b) old (bs ++ List.replicate (32 - bs.length) none))

/-- Queues a write of one unit at its channel, with the translation that it took (R177, R200); and whether the host posted
it. -/
def State.queueWrite (s : State) (part pa : Nat) (bs : List (Option Byte)) (owner : Option (Nat × Nat)) (page : Nat × Nat)
    (fromHost : Bool) : State :=
  s.modChannel (channelOf pa) (fun c => { c with queue := c.queue ++ [⟨part, pa, .write bs owner, page, fromHost⟩] })

/-- A correctable and an uncorrectable event of package memory (R204). -/
def State.codeEvent (s : State) (pa : Nat) (symbol : Option Nat) (scrub : Bool) : State :=
  let s := match symbol with
    | some _ => s.bumpSat 0x2238 1
    | none => s.bumpSat 0x2238 2
  (s.setReg 0x2238 3 (pa / 32 * 32)).setReg 0x2238 4
    (channelOf pa * 2 ^ 16 + (symbol.getD 0x3F) * 2 ^ 10 + b2n (symbol == none) * 2 ^ 9 + b2n scrub * 2 ^ 8)

/-- Code events that a read of package bytes leaves behind. -/
def State.noteRead (s : State) (pa n : Nat) (scrub : Bool) : State :=
  let s := (s.correctedIn pa n).foldl (fun s e => s.codeEvent (16 * e.1) (some e.2) scrub) s
  if s.badRange pa n then
    ((codewords pa n).filter (fun cw => s.codeAt cw == .uncorrectable)).foldl
      (fun s cw => s.codeEvent (16 * cw) none scrub) s
  else s

/-! ### Host memory (R426) -/

/-- Device accesses to host memory are possible. -/
def State.hostUp (s : State) : Bool := s.reg 0x2E30 3 == 1
def State.hostByte (s : State) (bus : Nat) : Byte := tblGet (Config.hostByte bus) s.hostMem bus
def State.hostRead (s : State) (bus n : Nat) : List Byte := (List.range n).map (fun i => s.hostByte (bus + i))
def hostPut (m : List Host.Cell) (a : Nat) : List Byte → List Host.Cell
  | [] => m
  | b :: r => hostPut (tblPut (Config.hostByte a) m a b) (a + 1) r
def State.hostWrite (s : State) (bus : Nat) (bs : List Byte) : State :=
  (s.withHostMem (hostPut s.hostMem bus bs)).bumpBy 0x2E30 0x0A bs.length

/-! ### Whole accesses

`readDev` and `writeDev` move the bytes of a checked access in one piece; the checks of R175 stand in front of them. -/

/-- Status of reading `n` bytes at a place: 30h uncorrectable, 25h refused late or unmapped (R198, R207, R426). -/
def State.readStatus (s : State) (p : Place) (n : Nat) : Nat :=
  match p with
  | .pkg pa => if s.bankLate pa then 0x25 else if s.badRange pa n then 0x30 else 0
  | .buf k => if s.badRange k n then 0x30 else 0
  | .host _ => if s.hostUp then 0 else 0x25
  | .spad k => if s.badRange k n then 0x30 else 0
  | .lstore k => if s.badRange k n then 0x30 else 0
  | .unmapped => 0x25

/-- Bytes at a place, no more than one 32-byte unit. -/
def State.placeBytes (s : State) (p : Place) (n : Nat) : List Byte :=
  match p with
  | .pkg pa => ((s.unitBytes (pa / 32 * 32)).drop (pa % 32)).take n
  | .buf k => s.rd k n
  | .host b => s.hostRead b n
  | .spad k => s.rd k n
  | .lstore k => s.rd k n
  | .unmapped => zeros n

/-- Pieces of `[da, da+n)` within 32-byte units: address and length. -/
def pieces (da n : Nat) : List (Nat × Nat) :=
  (List.range ((da + n + 31) / 32 - da / 32)).map (fun i =>
    let lo := max da ((da / 32 + i) * 32)
    let hi := min (da + n) ((da / 32 + i + 1) * 32)
    (lo, hi - lo))

/-- What a read gave: status, address of the first failing piece, the bytes. -/
structure ReadResult where
  status : Nat
  at_ : Nat
  bytes : List Byte
  deriving DecidableEq, Repr

/-- Reads device addresses under translations `held`, else those in force. -/
def State.readDev (s : State) (held : List (Nat × Nat)) (da n : Nat) : ReadResult :=
  match (pieces da n).find? (fun p => s.readStatus (s.placeFor held p.1) p.2 ≠ 0) with
  | some p => ⟨s.readStatus (s.placeFor held p.1) p.2, p.1, []⟩
  | none => ⟨0, 0, ((pieces da n).map (fun p => s.placeBytes (s.placeFor held p.1) p.2)).flatten⟩

/-- Skein whose scratchpad holds the address. -/
def spadSkein (da : Nat) : Nat := (da - scratchBase) / 0x80000
/-- What the read leaves behind: code events of package memory, a late refusal, bytes from the host; an on-chip RAM writes
its corrected codewords back, and a scratchpad's are counted (R189, R204). -/
def State.readEvents (s : State) (held : List (Nat × Nat)) (da n : Nat) : State :=
  (pieces da n).foldl (fun s p =>
    match s.placeFor held p.1 with
    | .pkg pa => if s.bankLate pa then s.lateRefusal pa else s.noteRead pa p.2 false
    | .host _ => if s.hostUp then s.bumpBy 0x2E30 0x0A p.2 else s
    | .buf k => if s.correctedIn k p.2 = [] then s else s.heal k p.2
    | .spad k =>
      if s.correctedIn k p.2 = [] then s
      else (s.heal k p.2).bumpSatBy (0x2D40 + spadSkein k / 8) (0x21 + spadSkein k % 8) (s.correctedIn k p.2).length
    | _ => s) s

/-- Writes one piece at once: status, and the state. -/
def State.writePiece (s : State) (p : Place) (bs : List Byte) : State × Nat :=
  match p with
  | .pkg pa => if s.bankLate pa then (s.lateRefusal pa, 0x25) else (s.writePkg pa bs, 0)
  | .buf k => (s.put k bs, 0)
  | .host b => if s.hostUp then (s.hostWrite b bs, 0) else (s, 0x25)
  | .spad k => (s.put k bs, 0)
  | .lstore k => (s.put k bs, 0)
  | .unmapped => (s, 0x25)

/-- Writes device addresses at once; the first failing status, with the earlier pieces landed (R126). -/
def State.writeDev (s : State) (held : List (Nat × Nat)) (da : Nat) (bs : List Byte) : State × Nat :=
  (pieces da bs.length).foldl (fun (r : State × Nat) p =>
    if r.2 ≠ 0 then r
    else r.1.writePiece (r.1.placeFor held p.1) ((bs.drop (p.1 - da)).take p.2)) (s, 0)

/-- A descriptor's device range lies in one region: package memory, buffers, host memory, or other. -/
inductive Region where
  | pkg | buf | host | spad | lstore | unmapped
  deriving DecidableEq, Repr
def regionOf (da : Nat) : Region :=
  match placeWith 0 da with
  | .pkg _ => .pkg
  | .buf _ => .buf
  | .host _ => .host
  | .spad _ => .spad
  | .lstore _ => .lstore
  | .unmapped => .unmapped
/-- Device address of an offset in the scratchpad of skein g. -/
def spadAt (g off : Nat) : Nat := scratchBase + g * 0x80000 + off

end Sys2Proof.Machine
end

