-- ==== Sys2Proof/Machine/Alarm.lean ====
section
/-! DEFINITION. Alarm: the shared operations that many commands end in: global counters (R464), trace packets (R458 to
R460), MSI-X (R430), waits (R111), queue pushes and pops (R115), synchronisation updates (R111), and the reaction to a
fault or a warning (R332 to R336). -/
namespace Sys2Proof.Machine

/-! ### Global counters (R464) -/

/-- Adds `n` to every global counter that counts this event of this unit. -/
def State.count (s : State) (ev unit n : Nat) : State :=
  if s.reg 0x2D60 1 = 0 ∨ n = 0 then s else
  forEach (List.range 8) s (fun s k => if s.reg 0x2D60 (k + 2) = ev * 256 + unit then s.bumpBy 0x2D60 (k + 0x0A) n else s)

/-! ### Long operations (R386, R387) -/

/-- A run begins. -/
def State.opStart (s : State) (k total : Nat) : State :=
  (((((s.setReg (0x2F00 + k) 2 1).setReg (0x2F00 + k) 4 0).setReg (0x2F00 + k) 5 total).setReg (0x2F00 + k) 6 0).setReg
    (0x2F00 + k) 7 s.stamp).bump (0x2F00 + k) 8
/-- A run ends with a result; POSITION reaches TOTAL where it completed. -/
def State.opEnd (s : State) (k result : Nat) : State :=
  let s := if result = 0 then s.setReg (0x2F00 + k) 4 (s.reg (0x2F00 + k) 5) else s
  (s.setReg (0x2F00 + k) 2 (if result = 0 then 2 else 3)).setReg (0x2F00 + k) 6 result

/-! ### Trace (R458 to R461) -/

/-- A trace packet (R459). -/
def tracePacket (type src data16 time data64 : Nat) : List Byte :=
  leBytes 1 type ++ leBytes 1 src ++ leBytes 2 data16 ++ leBytes 4 time ++ leBytes 8 data64
/-- Puts a packet into the FIFO of 4,096, keeping 8 places for SYNC and LOST packets. -/
def State.traceRaw (s : State) (reserved : Bool) (pkt : List Byte) : State :=
  if s.reg 0x2D20 1 = 0 then s else
  let d := s.dbg
  let lost := tracePacket 3 0 0 s.time.nanos d.lostSince
  if d.fifo.length < 4088 then
    let f := if d.lostSince = 0 then d.fifo ++ [pkt] else d.fifo ++ [lost, pkt]
    (s.withDbg { d with fifo := f, lostSince := 0 }).maxReg 0x2D20 0x0B f.length
  else if reserved ∧ d.fifo.length < 4096 then
    (s.withDbg { d with fifo := d.fifo ++ [pkt] }).maxReg 0x2D20 0x0B (d.fifo.length + 1)
  else (s.withDbg { d with lostSince := d.lostSince + 1 }).bumpSat 0x2D20 0x0A
/-- A packet of source bit `b` (R460). -/
def State.trace (s : State) (b type src data16 data64 : Nat) : State :=
  if bit (s.reg 0x2D20 6) b then s.traceRaw false (tracePacket type src data16 s.time.nanos data64) else s
/-- STOP and STRETCH of a stamp taken at caldera c's bridge (R309). -/
def State.bridgeBits (s : State) (c : Nat) : Nat :=
  let k := s.caldera c
  b2n (k.stopped || k.stopMark) * 2 ^ 31 + b2n (decide (s.reg (0x2320 + c) 5 ≠ 0) || k.overrunSeen) * 2 ^ 30
/-- A packet of a skein: bits 0 to 2 are fed by the skeins of SKEINS. -/
def State.traceSkein (s : State) (b type g data16 data64 : Nat) : State :=
  if bit (s.reg 0x2D20 6) b && bit (s.reg 0x2D20 7) g then
    s.traceRaw false (tracePacket type g data16 (s.time.nanos + s.bridgeBits (g / 8)) data64)
  else s
/-- A STOP packet of a caldera (R459, R460): its stamp carries STOP and STRETCH (R309). -/
def State.traceStop (s : State) (c data16 : Nat) : State :=
  if bit (s.reg 0x2D20 6) 4 then s.traceRaw false (tracePacket 0x21 c data16 (s.time.nanos + s.bridgeBits c) 0) else s

/-! ### MSI-X (R430) -/

/-- The vector's entry of the MSI-X table masks it (R423, R430). -/
def State.msixMasked (s : State) (v : Nat) : Bool := bit (tblGet 0 s.msixTable v) 96
/-- The vector's bit of the pending bit array (R423): the entry masks it and holds a message. -/
def State.msixPending (s : State) (v : Nat) : Bool := s.msixMasked v && s.out.contains (.msixHeld v)
/-- A vector is sent, or held where its entry masks it. -/
def State.msix (s : State) (v : Nat) : State :=
  if ¬ s.hostUp then s
  else if s.msixMasked v then s.emit (.msixHeld v)
  else (s.emit (.msix v)).bumpBy 0x2E30 0x0A 4

/-! ### Waits (R111, R112) -/

/-- (counter − target) read as a signed 32-bit value is zero or positive (R111). -/
def syncReached (counter target : Nat) : Bool := decide ((counter + 2 ^ 32 - target % 2 ^ 32) % 2 ^ 32 < 2 ^ 31)
/-- Operand of a WAIT or SIGNAL: VALUE + ITERATION × ITER_MUL, modulo 2^32. -/
def iterOperand (value iter mul : Nat) : Nat := (value + iter * mul) % 2 ^ 32
/-- The WAIT descriptor `w` of skein g is satisfied (R112). -/
def State.waitSatisfied (s : State) (g w : Nat) : Bool :=
  if bit w 206 then decide (bits w 255 224 ≤ (s.queue (bits w 220 207)).count)
  else syncReached (s.sync (bits w 223 207)) (iterOperand (bits w 255 224) (s.reg (0x2440 + g) 8) (bits w 189 174))
/-- Opcode of a descriptor (R93). -/
def opOf (w : Nat) : Nat := w % 256
/-- A stream enters a state of R90; the change is traced. -/
def State.setStreamState (s : State) (g st : Nat) : State :=
  (s.setReg (0x2440 + g) 1 st).traceSkein 1 0x11 g (s.reg (0x2440 + g) 2 * 256 + st) (s.reg (0x2440 + g) 3)
/-- TAG of the descriptor at POSITION, once it has been fetched (R89). -/
def State.syncTag (s : State) (g : Nat) : State :=
  match (s.skein g).fetched with
  | (a, w) :: _ => if a = s.reg (0x2440 + g) 3 then s.setReg (0x2440 + g) 6 (bits w 31 16) else s
  | [] => s
/-- A stream in WAITING whose WAIT is satisfied returns to RUNNING (R111). -/
def State.wakeSkein (s : State) (g : Nat) : State :=
  if s.reg (0x2440 + g) 1 ≠ 2 then s else
  match (s.skein g).flights.find? (fun f => opOf f.word == 0x10 && f.started) with
  | some f =>
    if s.waitSatisfied g f.word then
      (((s.modSkein g (fun k => { k with flights := k.flights.filter (fun x => x.serial ≠ f.serial) })).setReg
        (0x2440 + g) 3 (f.addr + 32)).syncTag g).setStreamState g 1
    else s
  | none => s
/-- Every waiting stream is looked at again after an update. -/
def State.wakeAll (s : State) : State :=
  forEach ((s.skeins.map (·.1)).filter (fun g => s.reg (0x2440 + g) 1 = 2)) s State.wakeSkein

/-- An update or a push from outside the caldera has satisfied the WAIT that holds stream g: it crosses the bridge, and the
stream goes on when the event takes effect (R222). -/
def State.crossWake (s : State) (g : Nat) : State :=
  match (s.skein g).flights.find? (fun f => opOf f.word == 0x10 && f.started) with
  | some f =>
    if s.waitSatisfied g f.word ∧ ¬ (s.caldera (g / 8)).external.contains (.wake g) then
      s.modCaldera (g / 8) (fun k => { k with external := k.external ++ [.wake g] })
    else s
  | none => s
/-- Every waiting stream is looked at again after an update from outside. -/
def State.crossAll (s : State) : State :=
  forEach ((s.skeins.map (·.1)).filter (fun g => s.reg (0x2440 + g) 1 = 2)) s State.crossWake

/-! ### Queues and synchronisation objects (R111, R115) -/

/-- A skein adds to a synchronisation object (R111). -/
def State.syncAdd (s : State) (n v : Nat) : State := ((s.setSync n (s.sync n + v)).count 7 0 1).wakeAll
/-- A skein sets a synchronisation object. -/
def State.syncSet (s : State) (n v : Nat) : State := ((s.setSync n v).count 7 0 1).wakeAll
/-- The host, a block of the I/O die or another device adds to a synchronisation object (R111, R222). -/
def State.outerAdd (s : State) (n v : Nat) : State := ((s.setSync n (s.sync n + v)).count 7 0 1).crossAll
/-- The host, a block of the I/O die or another device sets a synchronisation object. -/
def State.outerSet (s : State) (n v : Nat) : State := ((s.setSync n v).count 7 0 1).crossAll

/-- Device address of ring entry i. -/
def ringAddr (k : Queue) (i : Nat) : Nat := k.ringBase + 32 * (i % 2 ^ k.log2)
/-- Writes entries into the ring from index `t`. -/
def State.ringWrite (s : State) (k : Queue) (t : Nat) : List (List Byte) → State
  | [] => s
  | e :: r => ((s.writePiece (s.place (ringAddr k t)) (slice e 0 32)).1).ringWrite k (t + 1) r
/-- An armed queue whose COUNT is not zero sends its vector and is disarmed (R428). -/
def State.sendArmed (s : State) (q : Nat) : State :=
  let k := s.queue q
  match k.armed with
  | some v => if k.count = 0 then s else (s.setQueue q { k with armed := none }).msix v
  | none => s
/-- Push of several entries, whole or refused: status 22h another partition's, 26h disabled or full (R32, R115, R117). `who`
is the partition of the skein that pushes, none for the host, a block or another device. Waiting streams are not looked at
yet. -/
def State.queuePut (s : State) (who : Option Nat) (q : Nat) (entries : List (List Byte)) : State × Nat :=
  let k := s.queue q
  if 16383 < q then (s, 0x26)
  else if who ≠ none ∧ who ≠ some (s.queuePart q) then (s, 0x22)
  else if ¬ k.enabled then (s, 0x26)
  else if 2 ^ k.log2 < k.count + entries.length then
    (s.setQueue q { k with fullRefusals := Nat.min (k.fullRefusals + 1) (2 ^ 32 - 1) }, 0x26)
  else
    let s := s.ringWrite k k.tail entries
    let s := s.setQueue q { k with count := k.count + entries.length, tail := (k.tail + entries.length) % 2 ^ k.log2 }
    ((s.count 7 0 1).sendArmed q, 0)
/-- A push of a skein of partition `p`. -/
def State.queuePush (s : State) (p q : Nat) (entries : List (List Byte)) : State × Nat :=
  let r := s.queuePut (some p) q entries
  (if r.2 = 0 then r.1.wakeAll else r.1, r.2)
/-- A push of the host, of a block of the I/O die or of another device: external to the streams that wait (R222). -/
def State.outerPush (s : State) (q : Nat) (entries : List (List Byte)) : State × Nat :=
  let r := s.queuePut none q entries
  (if r.2 = 0 then r.1.crossAll else r.1, r.2)
/-- The first `n` entries of a queue, with the first failing read status. -/
def State.queuePeek (s : State) (q n : Nat) : Nat × List (List Byte) :=
  let k := s.queue q
  let rs := (List.range n).map (fun i => s.readDev [] (ringAddr k (k.head + i)) 32)
  (((rs.find? (fun r => r.status ≠ 0)).map ReadResult.status).getD 0, rs.map (fun r => r.bytes))
/-- Removes `n` entries from the head. -/
def State.queueDrop (s : State) (q n : Nat) : State :=
  let k := s.queue q
  (s.setQueue q { k with count := k.count - n, head := (k.head + n) % 2 ^ k.log2 }).count 7 0 1
/-- Push of one entry to a queue named in a register, judged again as R484 says; `drop` is its drop counter. -/
def State.pushNamed (s : State) (q : Nat) (consumer : Option Nat) (part : Option Nat) (e : List Byte) (dropIx dropSub : Nat) :
    State :=
  if 16383 < q ∨ (consumer ≠ none ∧ consumer ≠ some (s.queue q).consumer) ∨ (part ≠ none ∧ part ≠ some (s.queuePart q))
  then s.bumpSat dropIx dropSub
  else
    let r := s.outerPush q [e]
    if r.2 = 0 then r.1 else r.1.bumpSat dropIx dropSub

/-! ### Faults and warnings (R330 to R336, R342) -/

/-- Class of a code: 1 detected, 2 timing, 3 warning (R331). -/
def faultClass (code : Nat) : Nat :=
  if 0x80 ≤ code then 3
  else if code = 7 ∨ code = 9 ∨ code = 0x0A ∨ code = 0x0B ∨ code = 0x0D ∨ code = 0x0E ∨ code = 0x10 ∨ code = 0x18 then 2
  else 1
/-- Codes for which R340 gives a retry. -/
def isRetried (code : Nat) : Bool :=
  code == 1 || code == 2 || code == 3 || code == 4 || code == 5 || code == 6 || code == 8 || code == 9 || code == 0x0F
    || code == 0x12 || code == 0x14 || code == 0x15 || code == 0x17
/-- State of a partition (R342). -/
def State.partState (s : State) (p : Nat) : Nat := s.reg (0x2B08 + p) 1
/-- Value of 1001h: bit 0 while any partition is not NORMAL, bit 7 while any warning is in force (R334). -/
def State.errorRegister (s : State) : Nat :=
  b2n ((List.range 8).any (fun p => s.partState p != 0)) + b2n (s.safety.warnings != []) * 128
/-- A controller is present and its NMT state is Pre-operational or Operational (R381). -/
def State.canEnabled (s : State) (c : Nat) : Bool :=
  ((s.can c).nmt == .preOperational || (s.can c).nmt == .operational) && !(s.can c).busOff
/-- The error list 1003h with a new field at its front (R382). -/
def State.errorList (s : State) (v : Nat) : State :=
  let olds := (List.range 7).map (fun i => s.reg 0x1003 (i + 1))
  let s := (olds.zipIdx).foldl (fun s e => s.setReg 0x1003 (e.2 + 2) e.1) s
  (s.setReg 0x1003 1 v).setReg 0x1003 0 (Nat.min (s.reg 0x1003 0 + 1) 8)
/-- EMCY on each enabled controller (R334); error code 0000h is the error reset. -/
def State.emcy (s : State) (err code cls part source : Nat) : State :=
  let s := if err = 0 then s else s.errorList (part * 2 ^ 24 + code * 2 ^ 16 + err)
  let msg := leBytes 2 err ++ leBytes 1 s.errorRegister ++ leBytes 1 code ++ leBytes 1 cls ++ leBytes 1 part
    ++ leBytes 2 source
  forEach [0, 1] s (fun s c => if s.canEnabled c then s.emit (.emcy c msg) else s)
/-- A fault-log entry (R335). -/
def State.logPush (s : State) (code result part source detail stamp : Nat) : State :=
  let e := leBytes 1 0x40 ++ leBytes 1 code ++ leBytes 1 (faultClass code + result * 4) ++ leBytes 1 part
    ++ leBytes 2 source ++ zeros 2 ++ leBytes 8 detail ++ leBytes 8 stamp ++ leBytes 4 s.safety.logSeq ++ zeros 4
  let q := s.reg 0x2B00 4
  if 16383 < q ∨ (s.queue q).consumer ≠ 0x100 then s.bumpSat 0x2B00 9
  else
    let r := s.outerPush q [e]
    if r.2 = 0 then (r.1.withSafety { r.1.safety with logSeq := r.1.safety.logSeq + 1 }) else r.1.bumpSat 0x2B00 9
/-- The partitions of a scope. -/
def scopeList (scope : Option Nat) : List Nat := match scope with
  | some p => [p]
  | none => List.range 8
/-- One partition takes a class D or T event: its unsafe latch is set (R332, R342). -/
def State.latch (s : State) (code p source detail key : Nat) (everyPart : Bool) : State :=
  let s := s.modPart p (fun k =>
    { k with pending := if code = 0x16 then k.pending else k.pending ++ [⟨code, source, detail, s.stamp, everyPart, key, 0, none⟩]
             geyserPassed := [], acked := false })
  let s := s.setReg (0x2B08 + p) 1 (if s.partState p = 3 ∨ code = 0x16 then 3 else 1)
  ((s.setReg (0x2B08 + p) 5 code).setReg (0x2B08 + p) 6 s.stamp).bumpSat (0x2B08 + p) 7
/-- A class D or T event (R332): latch, EMCY, log entry, trace packet; `key` names its retry (R340). -/
def State.raiseKey (s : State) (code : Nat) (scope : Option Nat) (source detail key : Nat) : State :=
  let part := scope.getD 0xFF
  let s := forEach (scopeList scope) s (fun s p => s.latch code p source detail key (scope == none))
  let s := s.bumpSat 0x2B00 5
  let s := s.emcy (if faultClass code = 1 then 0x5000 else 0x8000) code (faultClass code) part source
  let s := s.logPush code (if isRetried code then 0 else 3) part source detail s.stamp
  s.trace 3 0x20 part (faultClass code * 256 + code) detail
/-- An event whose SOURCE alone names its retry. -/
def State.raise (s : State) (code : Nat) (scope : Option Nat) (source detail : Nat) : State :=
  s.raiseKey code scope source detail 0
/-- The work that is the retry of some pending faults has passed or failed (R340). -/
def State.verdict (s : State) (code source key : Nat) (ok : Bool) : State :=
  let of := fun (f : PendingFault) => f.code == code && f.source == source && f.key == key && f.verdict == none
  forEach (List.range 8) s (fun s p =>
    if (s.part p).pending.any of then
      s.modPart p (fun k => { k with pending := k.pending.map (fun f => if of f then { f with verdict := some ok } else f) })
    else s)
/-- A frame or an iteration of a SOURCE ends: the first one met the fault itself, the second decides (R340); `done` decides
at once. -/
def State.ageFault (s : State) (code source : Nat) (done ok : Bool) : State :=
  let of := fun (f : PendingFault) => f.code == code && f.source == source && f.verdict == none
  forEach (List.range 8) s (fun s p =>
    if (s.part p).pending.any of then
      s.modPart p (fun k => { k with pending := k.pending.map (fun f =>
        if ¬ of f then f else if done ∨ 0 < f.passes then { f with verdict := some ok } else { f with passes := f.passes + 1 }) })
    else s)
/-- The fault leaves every partition that holds it. -/
def State.unpend (s : State) (f : PendingFault) (lasting : Bool) : State :=
  forEach (List.range 8) s (fun s p =>
    if (s.part p).pending.contains f then
      s.modPart p (fun k => { k with pending := k.pending.erase f, lasting := k.lasting || lasting })
    else s)
/-- A RETRYING partition whose pending faults are all classified leaves that state. So does a RECOVERING one for which a fault
that was still pending when ACTIVATE took it there turned out to be lasting (R342). -/
def State.settlePart (s : State) (p : Nat) : State :=
  let k := s.part p
  if k.pending = [] ∧ (s.partState p = 1 ∨ (s.partState p = 2 ∧ k.lasting)) then
    (s.setPart p { k with lasting := false, acked := false, geyserPassed := [] }).setReg (0x2B08 + p) 1
      (if k.lasting then 3 else 2)
  else s
/-- The condition of every pending fault without a retry for which `ended` holds has ended (R340). -/
def State.conditionEnd (s : State) (ended : PendingFault → Bool) : State :=
  let ends := ((List.range 8).flatMap (fun p => (s.part p).pending)).filter (fun f => !isRetried f.code && ended f)
  if ends = [] then s else forEach (List.range 8) (ends.foldl (fun s f => s.unpend f false) s) State.settlePart
/-- A warning (R336): no validity changes; it is the last event of the partitions in its scope (R360). -/
def State.warn (s : State) (code : Nat) (scope : Option Nat) (source detail : Nat) : State :=
  let part := scope.getD 0xFF
  let s := forEach (scopeList scope) s (fun s p => (s.setReg (0x2B08 + p) 5 code).setReg (0x2B08 + p) 6 s.stamp)
  let s := (s.withSafety { s.safety with
    warnings := if s.safety.warnings.contains (code, source) then s.safety.warnings
                else s.safety.warnings ++ [(code, source)] })
  let s := s.bumpSat 0x2B00 8
  let s := s.emcy 0xFF00 code 3 part source
  let s := s.logPush code 3 part source detail s.stamp
  s.trace 3 0x20 part (3 * 256 + code) detail
/-- Some partition of FAULTN_MASK is not NORMAL. -/
def State.maskUnsafe (s : State) : Bool := (List.range 8).any (fun p => bit (s.reg 0x2B00 3) p && s.partState p != 0)
/-- A warning's condition ends; the last one sends the error reset unless a partition of the mask is unsafe (R336). -/
def State.warnEnd (s : State) (code source : Nat) : State :=
  if s.safety.warnings.contains (code, source) then
    let w := s.safety.warnings.filter (fun x => x ≠ (code, source))
    let s := s.withSafety { s.safety with warnings := w }
    if w = [] ∧ ¬ s.maskUnsafe then s.emcy 0 0 0 0xFF 0 else s
  else s
/-- Level of FAULT_N as 2B00h:01 reports it: 01h driven low or not driven high (R333, R359). -/
def State.faultN (s : State) : Nat :=
  if s.safety.refreshed && !s.safety.monitorLost && !s.maskUnsafe then 0 else 1

end Sys2Proof.Machine
end

