-- ==== Sys2Proof/Machine/Flags.lean ====
section
/-! DEFINITION. Flags: number formats, exact arithmetic with its rounding points, requantisation, function tables, and the
four arithmetic flags that each operation sets (02_arithmetic.md, R37 to R62). A floating-point number is worked on as
an exact value and rounded where the rules round it. -/
namespace Sys2Proof.Machine

/-! ### Arithmetic flags (R62) -/

def flNan : Nat := 8
def flFpOvf : Nat := 4
def flAccSat : Nat := 2
def flOutSat : Nat := 1
/-- A result with the flags it sets. -/
abbrev Flagged (α : Type) := α × Nat

/-! ### Formats (R37, R39) -/

/-- A floating-point encoding. -/
structure FpFmt where
  ebits : Nat
  mbits : Nat
  bias : Nat
  hasInf : Bool
  deriving DecidableEq, Repr

def e4m3 : FpFmt := ⟨4, 3, 7, false⟩
def e5m2 : FpFmt := ⟨5, 2, 15, true⟩
def bf16 : FpFmt := ⟨8, 7, 127, true⟩
def fp16 : FpFmt := ⟨5, 10, 15, true⟩
def fp32 : FpFmt := ⟨8, 23, 127, true⟩
def fp64 : FpFmt := ⟨11, 52, 1023, true⟩

/-- Floating-point format of a code (R37). -/
def fpOf (code : Nat) : Option FpFmt :=
  if code = 4 then some e4m3 else if code = 5 then some e5m2 else if code = 6 then some bf16
  else if code = 7 then some fp16 else if code = 8 then some fp32 else none

/-- Bits of an integer format that has elements of its own: INT8, INT4, INT16, INT32, INT48 (R37). -/
def intOf (code : Nat) : Option Nat :=
  if code = 0 ∨ code = 2 then some 8 else if code = 1 ∨ code = 3 then some 4 else if code = 9 then some 16
  else if code = 10 then some 32 else if code = 11 then some 64 else none

/-- Element size in bits (R37); 0 for a code that is refused. -/
def elemBits (code : Nat) : Nat :=
  if code = 0 ∨ code = 2 ∨ code = 4 ∨ code = 5 then 8 else if code = 1 ∨ code = 3 then 4
  else if code = 6 ∨ code = 7 ∨ code = 9 then 16 else if code = 8 ∨ code = 10 then 32 else if code = 11 then 64 else 0

/-- Integer code of the vector unit (R107). -/
def isIntCode (code : Nat) : Bool := code == 0 || code == 1 || code == 9 || code == 10
/-- Floating-point code (R107). -/
def isFpCode (code : Nat) : Bool := decide (4 ≤ code ∧ code ≤ 8)

/-- A floating-point value: the sign is the first field; a number is m × 2^e. -/
inductive Fv where
  | nan
  | inf (neg : Bool)
  | num (neg : Bool) (m : Nat) (e : Int)
  deriving DecidableEq, Repr

/-- Value of an encoding (R39). -/
def fpDecode (f : FpFmt) (v : Nat) : Fv :=
  let neg := bit v (f.ebits + f.mbits)
  let e := bits v (f.ebits + f.mbits - 1) f.mbits
  let m := v % 2 ^ f.mbits
  if e = 2 ^ f.ebits - 1 ∧ f.hasInf ∧ m = 0 then .inf neg
  else if e = 2 ^ f.ebits - 1 ∧ (f.hasInf ∨ m = 2 ^ f.mbits - 1) then .nan
  else if e = 0 then .num neg m (1 - f.bias - f.mbits)
  else .num neg (2 ^ f.mbits + m) ((e : Int) - f.bias - f.mbits)

/-- Canonical NaN (R40). -/
def fpNan (f : FpFmt) : Nat :=
  if f.hasInf then (2 ^ f.ebits - 1) * 2 ^ f.mbits + 2 ^ (f.mbits - 1) else 2 ^ (f.ebits + f.mbits) - 1
def fpSign (f : FpFmt) (neg : Bool) : Nat := b2n neg * 2 ^ (f.ebits + f.mbits)
/-- Encoding of ±infinity; of the canonical NaN where the format has none. -/
def fpInf (f : FpFmt) (neg : Bool) : Nat :=
  if f.hasInf then fpSign f neg + (2 ^ f.ebits - 1) * 2 ^ f.mbits else fpNan f
/-- Largest finite encoding, without the sign. -/
def fpMax (f : FpFmt) : Nat := if f.hasInf then (2 ^ f.ebits - 1) * 2 ^ f.mbits - 1 else 2 ^ (f.ebits + f.mbits) - 2

/-- ⌊m / 2^k⌉ to nearest, ties to even. -/
def shrRne (m k : Nat) : Nat :=
  let q := m / 2 ^ k
  let r := m % 2 ^ k
  if 2 ^ k < 2 * r ∨ (2 * r = 2 ^ k ∧ q % 2 = 1) then q + 1 else q

/-- Magnitude of the encoding nearest to m × 2^e, ties to even; it may lie beyond `fpMax`. -/
def fpRoundMag (f : FpFmt) (m : Nat) (e : Int) : Nat :=
  if m = 0 then 0 else
  let emin : Int := 1 - f.bias - f.mbits
  let q := max ((Nat.log2 m : Int) + e - f.mbits) emin
  let n := if q ≤ e then m * 2 ^ (e - q).toNat else shrRne m (q - e).toNat
  (q - emin).toNat * 2 ^ f.mbits + n

/-- Encoding of a value rounded to nearest, ties to even, with the flags of R62. `ovf` false saturates at the largest
finite value, true follows IEEE 754, where E4M3 gives its canonical NaN (R53, R56). -/
def fpEncode (f : FpFmt) (ovf : Bool) (v : Fv) : Flagged Nat :=
  match v with
  | .nan => (fpNan f, 0)
  | .inf neg =>
    if ovf then (fpInf f neg, if f.hasInf then 0 else flNan) else (fpSign f neg + fpMax f, 0)
  | .num neg m e =>
    let n := fpRoundMag f m e
    if n ≤ fpMax f then (fpSign f neg + n, 0)
    else if ovf then (fpInf f neg, if f.hasInf then flFpOvf else flFpOvf + flNan)
    else (fpSign f neg + fpMax f, flFpOvf)

/-- Signed mantissa. -/
def fvInt (neg : Bool) (m : Nat) : Int := if neg then -(m : Int) else m
/-- Exact integer as a value. -/
def fvOfInt (i : Int) : Fv := .num (decide (i < 0)) i.natAbs 0

/-! ### Operations of a format: sum, product, fused multiply-add, quotient (R40, R41, R47, R57) -/

/-- Exact sum; a NaN made here from non-NaN inputs is flagged. -/
def fvAdd (a b : Fv) : Flagged Fv :=
  match a, b with
  | .nan, _ => (.nan, 0)
  | _, .nan => (.nan, 0)
  | .inf s, .inf t => if s = t then (.inf s, 0) else (.nan, flNan)
  | .inf s, .num .. => (.inf s, 0)
  | .num .., .inf t => (.inf t, 0)
  | .num s m e, .num t n f =>
    let g := min e f
    let i := fvInt s (m * 2 ^ (e - g).toNat) + fvInt t (n * 2 ^ (f - g).toNat)
    if i = 0 then (.num (s && t) 0 0, 0) else (.num (decide (i < 0)) i.natAbs g, 0)

/-- Exact product. -/
def fvMul (a b : Fv) : Flagged Fv :=
  match a, b with
  | .nan, _ => (.nan, 0)
  | _, .nan => (.nan, 0)
  | .inf s, .inf t => (.inf (s != t), 0)
  | .inf s, .num t m _ => if m = 0 then (.nan, flNan) else (.inf (s != t), 0)
  | .num s m _, .inf t => if m = 0 then (.nan, flNan) else (.inf (s != t), 0)
  | .num s m e, .num t n f => (.num (s != t) (m * n) (e + f), 0)

/-- Quotient rounded to format `f` (R57). -/
def fpDivV (f : FpFmt) (a b : Fv) : Flagged Nat :=
  match a, b with
  | .nan, _ => (fpNan f, 0)
  | _, .nan => (fpNan f, 0)
  | .inf _, .inf _ => (fpNan f, flNan)
  | .inf s, .num t _ _ => (fpInf f (s != t), 0)
  | .num s _ _, .inf t => (fpSign f (s != t), 0)
  | .num s m e, .num t n g =>
    if n = 0 then (if m = 0 then (fpNan f, flNan) else (fpInf f (s != t), 0))
    else
      let k := f.mbits + 4 + Nat.log2 n
      let q := m * 2 ^ k / n
      let sticky := if m * 2 ^ k % n = 0 then 0 else 1
      fpEncode f true (.num (s != t) (2 * q + sticky) (e - g - k - 1))

/-- Rounds a flagged exact value into a format, IEEE overflow. -/
def fpRound (f : FpFmt) (v : Flagged Fv) : Flagged Nat :=
  let r := fpEncode f true v.1
  (r.1, r.2 ||| v.2)

def fpAdd (f : FpFmt) (a b : Nat) : Flagged Nat := fpRound f (fvAdd (fpDecode f a) (fpDecode f b))
/-- Changes the sign of a number, not of a NaN. -/
def fvNeg : Fv → Fv
  | .nan => .nan
  | .inf s => .inf (!s)
  | .num s m e => .num (!s) m e
def fpSub (f : FpFmt) (a b : Nat) : Flagged Nat := fpRound f (fvAdd (fpDecode f a) (fvNeg (fpDecode f b)))
def fpMul (f : FpFmt) (a b : Nat) : Flagged Nat := fpRound f (fvMul (fpDecode f a) (fpDecode f b))
/-- a × b + c with one rounding. A NaN operand, the addend among them, gives a NaN that sets no flag (R62). -/
def fpFma (f : FpFmt) (a b c : Nat) : Flagged Nat :=
  if fpDecode f c = .nan then (fpNan f, 0)
  else
    let p := fvMul (fpDecode f a) (fpDecode f b)
    let t := fvAdd p.1 (fpDecode f c)
    fpRound f (t.1, p.2 ||| t.2)
def fpDiv (f : FpFmt) (a b : Nat) : Flagged Nat := fpDivV f (fpDecode f a) (fpDecode f b)

/-- Exact comparison of two values that are not NaN: a < b, zeros of either sign equal. -/
def fvLt (a b : Fv) : Bool :=
  match a, b with
  | .nan, _ => false
  | _, .nan => false
  | .inf s, .inf t => s && !t
  | .inf s, .num .. => s
  | .num .., .inf t => !t
  | .num s m e, .num t n f =>
    let g := min e f
    decide (fvInt s (m * 2 ^ (e - g).toNat) < fvInt t (n * 2 ^ (f - g).toNat))
def fvLe (a b : Fv) : Bool := match a, b with
  | .nan, _ => false
  | _, .nan => false
  | _, _ => !fvLt b a
def fpIsNan (f : FpFmt) (a : Nat) : Bool := fpDecode f a == .nan
def fpLt (f : FpFmt) (a b : Nat) : Bool := fvLt (fpDecode f a) (fpDecode f b)
def fpLe (f : FpFmt) (a b : Nat) : Bool := fvLe (fpDecode f a) (fpDecode f b)
/-- Finite encoding. -/
def fpFinite (f : FpFmt) (a : Nat) : Bool := match fpDecode f a with
  | .num .. => true
  | _ => false
/-- Order of R57, with −0 less than +0: the rank of an encoding that is not a NaN. -/
def fpRank (f : FpFmt) (a : Nat) : Int :=
  let m := a % 2 ^ (f.ebits + f.mbits)
  if bit a (f.ebits + f.mbits) then -(m : Int) - 1 else m
def fpMin (f : FpFmt) (a b : Nat) : Nat :=
  if fpIsNan f a || fpIsNan f b then fpNan f else if fpRank f b < fpRank f a then b else a
def fpMaxOp (f : FpFmt) (a b : Nat) : Nat :=
  if fpIsNan f a || fpIsNan f b then fpNan f else if fpRank f a < fpRank f b then b else a

/-! ### Integer rounding and saturation (R46, R54, R55, R57) -/

/-- ⌊p / 2^k⌉ in a rounding mode of R54. -/
def roundShift (p : Int) (k mode : Nat) : Int :=
  let d : Int := (2 ^ k : Nat)
  let q := p / d
  let r := p % d
  if mode = 0 then (if d < 2 * r ∨ (2 * r = d ∧ q % 2 = 1) then q + 1 else q)
  else if mode = 1 then (if d < 2 * r ∨ (2 * r = d ∧ 0 ≤ p) then q + 1 else q)
  else if mode = 2 then (if p < 0 ∧ r ≠ 0 then q + 1 else q)
  else q

/-- Saturation to `w`-bit two's complement, with the flag it sets when it clips. -/
def satBits (w fl : Nat) (i : Int) : Flagged Int :=
  let hi : Int := (2 ^ (w - 1) : Nat) - 1
  let lo : Int := -((2 ^ (w - 1) : Nat) : Int)
  if i < lo then (lo, fl) else if hi < i then (hi, fl) else (i, 0)
def sat48 (i : Int) : Flagged Int := satBits 48 flAccSat i
def sat32 (i : Int) : Flagged Int := satBits 32 flOutSat i

/-- Value to integer format of `w` bits: rounds by `mode`, saturates; a NaN gives 0 and sets NAN (R57). -/
def fvToInt (w mode : Nat) (v : Fv) : Flagged Int :=
  match v with
  | .nan => (0, flNan)
  | .inf neg => satBits w flOutSat (if neg then -((2 ^ w : Nat) : Int) else (2 ^ w : Nat))
  | .num neg m e =>
    if 0 ≤ e then satBits w flOutSat (fvInt neg (m * 2 ^ (if m = 0 then 0 else Nat.min e.toNat 1100)))
    else satBits w flOutSat (roundShift (fvInt neg m) (-e).toNat mode)

/-- Conversion of an FP32 encoding to a format code (R56, R57), OVF as given. -/
def cvtFromFp32 (code mode : Nat) (ovf : Bool) (a : Nat) : Flagged Nat :=
  match fpOf code, intOf code with
  | some f, _ => fpEncode f ovf (fpDecode fp32 a)
  | none, some w => let r := fvToInt w mode (fpDecode fp32 a); (enc w r.1, r.2)
  | none, none => (0, 0)

/-- Conversion of an exact integer to a format code (R57). -/
def cvtFromInt (code : Nat) (i : Int) : Flagged Nat :=
  match fpOf code, intOf code with
  | some f, _ => fpEncode f false (fvOfInt i)
  | none, some w => let r := satBits w flOutSat i; (enc w r.1, r.2)
  | none, none => (0, 0)

/-- Widening of an element to FP32: exact for every narrower floating-point format (R57). -/
def widenFp (code v : Nat) : Nat :=
  match fpOf code with
  | some f => (fpEncode fp32 true (fpDecode f v)).1
  | none => 0
/-- Widening of an element to INT32. -/
def widenInt (code v : Nat) : Int :=
  match intOf code with
  | some w => sgn w v
  | none => 0

/-! ### Reduction orders (R48, R50, R58) -/

/-- One level of the pairwise tree: adjacent results are combined, an odd last one passes on. -/
def treeLevel {α : Type} (f : α → α → α) : List α → List α
  | a :: b :: r => f a b :: treeLevel f r
  | l => l
/-- The pairwise tree of `n` levels. -/
def tree {α : Type} (f : α → α → α) : Nat → List α → List α
  | 0, l => l
  | n + 1, l => tree f n (treeLevel f l)

/-- FP32 sum of two flagged values. -/
def addF (a b : Flagged Nat) : Flagged Nat :=
  let r := fpAdd fp32 a.1 b.1
  (r.1, r.2 ||| a.2 ||| b.2)
/-- Product of two elements of floating-point formats, rounded once to FP32 (R47). -/
def prodF (ca cb a b : Nat) : Flagged Nat :=
  match fpOf ca, fpOf cb with
  | some fa, some fb => fpRound fp32 (fvMul (fpDecode fa a) (fpDecode fb b))
  | _, _ => (0, 0)
/-- Six-level tree over the 64 products of a K-block (R48). -/
def kTree (ps : List (Flagged Nat)) : Flagged Nat := ((tree addF 6 ps).head?).getD (0, 0)
/-- Scaled block value (R43): exact integer sum times 2^(Xa+Xb−254), one rounding. -/
def blockValue (sum : Int) (xa xb : Nat) : Flagged Nat :=
  if xa = 0xFF ∨ xb = 0xFF then (fpNan fp32, 0)
  else fpEncode fp32 true (.num (decide (sum < 0)) sum.natAbs ((xa : Int) + xb - 254))

/-! ### Requantisation records (R52 to R56) -/

/-- Output code of an integer record (R52). -/
def isReqInt (fmt : Nat) : Bool := fmt == 0 || fmt == 1 || fmt == 9 || fmt == 10
/-- The record is accepted for an accumulator kind and output format (R52, R53). -/
def reqOk (int48 : Bool) (fmt r : Nat) : Bool :=
  let kind := bits r 79 78
  if isReqInt fmt then
    int48 && kind == 0 && bits r 77 74 == 0 && decide (bits r 71 64 ≤ 63)
      && decide (sgn 16 (bits r 111 96) ≤ sgn 16 (bits r 127 112))
  else
    isFpCode fmt && kind == (if int48 then 1 else 2) && bits r 127 80 == 0 && bits r 77 73 == 0 && bits r 71 64 == 0

/-- Integer record (R55). -/
def reqInt (fmt r : Nat) (acc : Int) : Flagged Nat :=
  let v := sat48 (acc + sgn 32 (bits r 31 0))
  let p := v.1 * sgn 32 (bits r 63 32)
  let q := roundShift p (bits r 71 64) (bits r 73 72) + sgn 16 (bits r 95 80)
  let q := max (sgn 16 (bits r 111 96)) (min (sgn 16 (bits r 127 112)) q)
  let o := satBits (elemBits fmt) flOutSat q
  (enc (elemBits fmt) o.1, v.2 ||| o.2)

/-- Floating-point record (R56); `acc` is an FP32 encoding unless `int48`. -/
def reqFp (int48 : Bool) (fmt r : Nat) (acc : Int) : Flagged Nat :=
  let a : Flagged Nat :=
    if int48 then
      let v := sat48 (acc + sgn 32 (bits r 31 0))
      let c := fpEncode fp32 true (fvOfInt v.1)
      (c.1, c.2 ||| v.2)
    else fpAdd fp32 acc.toNat (bits r 31 0)
  let y := fpMul fp32 a.1 (bits r 63 32)
  match fpOf fmt with
  | some f => let o := fpEncode f (bit r 72) (fpDecode fp32 y.1); (o.1, a.2 ||| y.2 ||| o.2)
  | none => (0, 0)

/-- One drained element. -/
def requant (int48 : Bool) (fmt r : Nat) (acc : Int) : Flagged Nat :=
  if isReqInt fmt then reqInt fmt r acc else reqFp int48 fmt r acc

/-! ### Function tables (R59, R60) -/

def tabBreak (t : List Byte) (i : Nat) : Nat := field t (4 + 4 * i) 4
def tabSlope (t : List Byte) (i : Nat) : Nat := field t (128 + 4 * i) 4
def tabIcpt (t : List Byte) (i : Nat) : Nat := field t (256 + 4 * i) 4
def tabCount (t : List Byte) : Nat := field t 0 1

/-- Conditions of R59 on the 384 bytes of a table. -/
def tableOk (t : List Byte) : Bool :=
  let n := tabCount t
  decide (1 ≤ n ∧ n ≤ 32) && field t 1 3 == 0
    && (List.range (n - 1)).all (fun i => fpFinite fp32 (tabBreak t i))
    && (List.range (n - 2)).all (fun i => fpLt fp32 (tabBreak t i) (tabBreak t (i + 1)))
    && (List.range 31).all (fun i => decide (i < n - 1) || tabBreak t i == 0)
    && (List.range 32).all (fun i => decide (i < n) || (tabSlope t i == 0 && tabIcpt t i == 0))

/-- The same number, or the canonical NaN for any NaN (R40). -/
def fpCanonical (f : FpFmt) (a : Nat) : Nat := if fpIsNan f a then fpNan f else a

/-- Evaluation for an FP32 input (R60). -/
def tableEval (t : List Byte) (x : Nat) : Flagged Nat :=
  if fpIsNan fp32 x then (fpNan fp32, 0)
  else
    let i := ((List.range (tabCount t - 1)).filter (fun j => fpLe fp32 (tabBreak t j) x)).length
    let slope := tabSlope t i
    if ¬ fpFinite fp32 x ∧ slope % 2 ^ 31 = 0 then (fpCanonical fp32 (tabIcpt t i), 0)
    else fpFma fp32 slope x (tabIcpt t i)

end Sys2Proof.Machine
end

