-- ==== Sys2Proof/Machine/Operands.lean ====
section
/-! DEFINITION. Operands: the fields of descriptors (R92 to R121), the checks that every descriptor meets before it is
dispatched, the ranges it reads and writes (R95, R144), the spindle operand pairs (R44, R68, R71, R72) and the geometry
block of a CONV (R134 to R142, R147, R148). A descriptor is its 256-bit value; a field is `bits w msb lsb`. -/
namespace Sys2Proof.Machine

def spmOf (w : Nat) : Nat := bits w 15 12
def tagOf (w : Nat) : Nat := bits w 31 16
/-- Spindles of a mask, ascending. -/
def spmList (w : Nat) : List Nat := (List.range 4).filter (fun u => bit (spmOf w) u)

/-! ### Header and reserved fields (R93, R94, status 10h and 11h) -/

def opcodeListed (op : Nat) : Bool := decide (1 ≤ op ∧ op ≤ 8) || decide (0x10 ≤ op ∧ op ≤ 0x16) || op == 0x1F
/-- SPM must be non-zero for MATMUL, CONV, DRAIN and a LOAD into a distaff, and zero otherwise. -/
def spmOk (w : Nat) : Bool :=
  let op := opOf w
  let need := op == 3 || op == 4 || op == 5 || (op == 1 && (bits w 56 55 == 1 || bits w 56 55 == 2))
  if need then spmOf w != 0 else spmOf w == 0
/-- Reserved fields and sub-encodings of a layout (R98 to R121). -/
def layoutOk (w : Nat) : Bool :=
  match opOf w with
  | 0x01 => bits w 51 32 == 0 && bits w 56 55 != 3 && (bit w 53 || bits w 207 160 == 0)
      && (!bit w 52 || bits w 255 222 == 0) && (bits w 56 55 == 0 || bits w 75 60 == 0)
  | 0x02 => bits w 100 32 == 0
  | 0x03 => bits w 255 81 == 0 && bits w 63 52 == 0
  | 0x04 => bits w 147 32 == 0
  | 0x05 => bits w 179 32 == 0
  | 0x06 => bits w 116 32 == 0 && decide (bits w 162 155 ≤ 8)
  | 0x07 => bits w 190 32 == 0 && bits w 193 192 != 3
  | 0x08 => bits w 233 32 == 0
  | 0x10 => bits w 173 32 == 0 && (!bit w 206 || (bits w 223 221 == 0 && bits w 189 174 == 0))
  | 0x11 => bits w 188 32 == 0
  | 0x12 => bits w 255 32 == 0
  | 0x13 => bits w 151 32 == 0 && bits w 156 155 != 3
  | 0x14 => bits w 212 32 == 0
  | 0x15 => bits w 251 32 == 0
  | 0x16 => bits w 132 32 == 0 && (!bit w 151 || bits w 188 183 == 0)
  | 0x1F => bits w 255 33 == 0
  | _ => true
/-- 10h, 11h or 0. -/
def headerStatus (w : Nat) : Nat :=
  if ¬ opcodeListed (opOf w) then 0x10
  else if bits w 11 8 ≠ 0 ∨ ¬ spmOk w ∨ ¬ layoutOk w then 0x11
  else 0

/-! ### Pitches and device ranges -/

/-- A pitch of 0 means the row. -/
def pitchOr (p row : Nat) : Nat := if p = 0 then row else p
/-- Rows as address and length; a run without gaps is one range. -/
def rowRanges (base pitch rows row : Nat) : List (Nat × Nat) :=
  if pitch = row then [(base, rows * row)] else (List.range rows).map (fun i => (base + i * pitch, row))
/-- Device-address ranges that a descriptor moves data through: address, length, written (R97). -/
def devRanges (w : Nat) : List (Nat × Nat × Bool) :=
  match opOf w with
  | 0x01 =>
    if bit w 52 then [] else
    (rowRanges (bits w 255 208) (pitchOr (bits w 159 128) (bits w 111 96)) (bits w 127 112) (bits w 111 96)).map
      (fun r => (r.1, r.2, false)) ++ (if bit w 53 then [(bits w 207 160, 128, false)] else [])
  | 0x02 =>
    (rowRanges (bits w 255 208) (pitchOr (bits w 207 176) (bits w 159 144)) (bits w 175 160) (bits w 159 144)).map
      (fun r => (r.1, r.2, true))
  | 0x13 => if bits w 156 155 = 1 ∧ bits w 207 176 ≠ 0 then [(bits w 255 208, bits w 207 176, false)] else []
  | _ => []
/-- Page IDs that a range touches. -/
def pagesOf (r : Nat × Nat × Bool) : List Nat :=
  if r.2.1 = 0 then [] else
  (List.range ((r.1 + r.2.1 - 1) / 0x200000 - r.1 / 0x200000 + 1)).filterMap
    (fun i => pageId ((r.1 / 0x200000 + i) * 0x200000))
/-- Distinct page IDs of a descriptor. -/
def descPages (w : Nat) : List Nat := (((devRanges w).map pagesOf).flatten).eraseDups

/-! ### Geometry block (R134) -/

structure Geom where
  imgW : Nat
  imgH : Nat
  c : Nat
  kh : Nat
  kw : Nat
  ty0 : Nat
  tx0 : Nat
  th : Nat
  tw : Nat
  sh : Nat
  sw : Nat
  dh : Nat
  dw : Nat
  pt : Nat
  pb : Nat
  pl : Nat
  pr : Nat
  outW : Nat
  outH : Nat
  regX0 : Nat
  regY0 : Nat
  regW : Nat
  regH : Nat
  orX0 : Nat
  orY0 : Nat
  orW : Nat
  orH : Nat
  rowPitch : Nat
  pixPitch : Nat
  pad : Nat
  mode : Nat
  tileK : Nat
  poolFmt : Nat
  poolRound : Nat
  poolDst : Nat
  poolPitch : Nat
  scalePitch : Nat
  scaleOff : Nat
  deriving DecidableEq, Repr

def geomOf (b : List Byte) : Geom :=
  { imgW := field b 0 2, imgH := field b 2 2, c := field b 4 2, kh := field b 6 1, kw := field b 7 1,
    ty0 := field b 8 1, tx0 := field b 9 1, th := field b 10 1, tw := field b 11 1, sh := field b 12 1,
    sw := field b 13 1, dh := field b 14 1, dw := field b 15 1, pt := field b 16 1, pb := field b 17 1,
    pl := field b 18 1, pr := field b 19 1, outW := field b 20 2, outH := field b 22 2, regX0 := field b 24 2,
    regY0 := field b 26 2, regW := field b 28 2, regH := field b 30 2, orX0 := field b 32 2, orY0 := field b 34 2,
    orW := field b 36 2, orH := field b 38 2, rowPitch := field b 40 4, pixPitch := field b 44 2, pad := field b 46 2,
    mode := field b 48 1, tileK := field b 49 1, poolFmt := field b 50 1, poolRound := field b 51 1,
    poolDst := field b 52 4, poolPitch := field b 56 2, scalePitch := field b 58 2, scaleOff := field b 60 4 }

def inRange (v lo hi : Nat) : Bool := decide (lo ≤ v ∧ v ≤ hi)
/-- Codes of scaled blocks. -/
def isBlockCode (f : Nat) : Bool := f == 2 || f == 3
/-- Bytes of one pixel's channels. -/
def pixelBytes (fmt c : Nat) : Nat := (c * elemBits fmt + 7) / 8
/-- Field ranges of R134 and the output size of R136. -/
def geomFieldsOk (g : Geom) (fmt : Nat) : Bool :=
  let nx : Int := (g.imgW : Int) + g.pl + g.pr - g.dw * ((g.kw : Int) - 1) - 1
  let ny : Int := (g.imgH : Int) + g.pt + g.pb - g.dh * ((g.kh : Int) - 1) - 1
  inRange g.imgW 1 16383 && inRange g.imgH 1 16383 && inRange g.c 1 4096 && inRange g.kh 1 63 && inRange g.kw 1 63
    && decide (g.ty0 < g.kh) && decide (g.tx0 < g.kw) && inRange g.th 1 7 && inRange g.tw 1 7
    && decide (g.ty0 + g.th ≤ g.kh) && decide (g.tx0 + g.tw ≤ g.kw) && inRange g.sh 1 64 && inRange g.sw 1 64
    && inRange g.dh 1 255 && inRange g.dw 1 255
    && decide (0 ≤ nx ∧ 0 ≤ ny) && decide ((g.outW : Int) = nx / g.sw + 1) && decide ((g.outH : Int) = ny / g.sh + 1)
    && decide (1 ≤ g.regW ∧ g.regX0 + g.regW ≤ g.imgW) && decide (1 ≤ g.regH ∧ g.regY0 + g.regH ≤ g.imgH)
    && decide (1 ≤ g.orW ∧ g.orX0 + g.orW ≤ g.outW) && decide (1 ≤ g.orH ∧ g.orY0 + g.orH ≤ g.outH)
    && decide (g.regW * g.pixPitch ≤ g.rowPitch) && decide (pixelBytes fmt g.c ≤ g.pixPitch)
    && decide (g.mode ≤ 4) && decide (g.tileK ≤ 1)
    && decide (g.pad < 2 ^ Nat.min 16 (elemBits fmt))
    && decide (g.poolRound < 4)
    && (if g.mode = 0 then g.poolFmt == 0 && g.poolDst == 0 && g.poolPitch == 0
        else decide (g.poolDst % 32 = 0 ∧ g.poolDst < 0x80000) && decide (g.poolPitch % 32 = 0))
    && decide (g.scaleOff < 0x80000)
/-- Positions that spindle `u` takes (R137): first and number. -/
def convFirst (w u : Nat) : Nat := bits w 217 194 + u * bits w 193 178
def convRows (w : Nat) : Nat := bits w 158 152
def convFmt (w : Nat) : Nat := bits w 151 148
def convKb (w : Nat) : Nat := bits w 177 162
def convSlot (w : Nat) : Nat := bits w 161 159
/-- Output of position p: row and column (R137). -/
def geomOut (g : Geom) (p : Nat) : Nat × Nat := (g.orY0 + p / g.orW, g.orX0 + p % g.orW)
/-- Input pixel of a tap (R139): row, column. -/
def geomPixel (g : Geom) (oy ox ky kx : Nat) : Int × Int :=
  ((oy : Int) * g.sh - g.pt + ky * g.dh, (ox : Int) * g.sw - g.pl + kx * g.dw)
def pixelInMap (g : Geom) (p : Int × Int) : Bool :=
  decide (0 ≤ p.1 ∧ p.1 < g.imgH ∧ 0 ≤ p.2 ∧ p.2 < g.imgW)
def pixelHeld (g : Geom) (p : Int × Int) : Bool :=
  decide ((g.regY0 : Int) ≤ p.1 ∧ p.1 < g.regY0 + g.regH ∧ (g.regX0 : Int) ≤ p.2 ∧ p.2 < g.regX0 + g.regW)
/-- Taps of the pass in ascending ky, then kx. -/
def geomTaps (g : Geom) : List (Nat × Nat) :=
  ((List.range g.th).map (fun i => (List.range g.tw).map (fun j => (g.ty0 + i, g.tx0 + j)))).flatten
/-- Reduction length of the pass (R138). -/
def geomK (g : Geom) : Nat := g.th * g.tw * g.c
/-- Taps that the A row of a K-block reads. -/
def tapsOfRow (g : Geom) (kb tileK : Nat) : List (Nat × Nat) :=
  let lo := kb * 64 / g.c
  let hi := Nat.min (kb * 64 + tileK) (geomK g)
  ((geomTaps g).drop lo).take ((hi + g.c - 1) / g.c - lo)
/-- Reduction elements of an A row. -/
def geomTileK (g : Geom) : Nat := if g.tileK = 1 then 128 else 64
/-- Row bytes in distaff A (R141); 0 for a combination that is refused. -/
def convRowBytes (fmt tileK : Nat) : Nat :=
  if fmt = 0 ∨ fmt = 2 ∨ fmt = 4 ∨ fmt = 5 then (if tileK = 0 then 64 else 0)
  else if fmt = 1 ∨ fmt = 3 then (if tileK = 0 then 32 else 64)
  else if fmt = 6 ∨ fmt = 7 then (if tileK = 0 then 128 else 0) else 0
/-- Every map pixel that the CONV reads lies in the held region (R139). -/
def convHeldOk (g : Geom) (w : Nat) (taps : List (Nat × Nat)) : Bool :=
  (spmList w).all (fun u => (List.range (convRows w)).all (fun r =>
    let o := geomOut g (convFirst w u + r)
    taps.all (fun t =>
      let p := geomPixel g o.1 o.2 t.1 t.2
      !pixelInMap g p || pixelHeld g p)))
/-- Checks of R134 to R142 and R148 on a CONV (R135): true where no breach gives 18h. In unroll mode the held region is asked
for the taps that the K-block's A row reads, not for every tap of the pass (DESIGN CHOICE, log 100). -/
def convOk (g : Geom) (w : Nat) : Bool :=
  let fmt := convFmt w
  let kb := convKb w
  let positions := (spmList w).all (fun u => decide (convFirst w u + convRows w ≤ g.orW * g.orH))
  geomFieldsOk g fmt && positions && inRange (convRows w) 1 64 &&
  (if g.mode = 0 then
    decide (kb < ceilDiv (geomK g) 64) && (g.tileK == 0 || decide (kb % 2 = 0))
      && convRowBytes fmt g.tileK != 0
      && (if fmt = 6 ∨ fmt = 7 then decide (convSlot w % 2 = 0) else !isBlockCode fmt || decide (convSlot w ≤ 6))
      && (if isBlockCode fmt then
            decide (g.c % 64 = 0) && decide (g.regW * (g.c / 64) ≤ g.scalePitch) && g.scaleOff != 0
          else g.scaleOff == 0 && g.scalePitch == 0)
      && convHeldOk g w (tapsOfRow g kb (geomTileK g))
  else
    g.ty0 == 0 && g.tx0 == 0 && g.th == g.kh && g.tw == g.kw && g.tileK == 0 && convSlot w == 0
      && g.scaleOff == 0 && g.scalePitch == 0
      && ((isIntCode fmt && isIntCode g.poolFmt) || (isFpCode fmt && isFpCode g.poolFmt))
      && decide (kb < ceilDiv g.c 256) && convHeldOk g w (geomTaps g))
/-- Offset of the pooled result of position p (R148). -/
def poolAt (g : Geom) (kb p : Nat) : Nat := g.poolDst + p * g.poolPitch + kb * 256 * elemBits g.poolFmt / 8
/-- Channels of a pooling group. -/
def poolChannels (g : Geom) (kb : Nat) : Nat := Nat.min g.c (256 * kb + 256) - 256 * kb
def poolBytes (g : Geom) (kb : Nat) : Nat := (poolChannels g kb * elemBits g.poolFmt + 7) / 8
/-- Scratchpad ranges that a CONV reads: geometry, held region, scale array (R144). -/
def convReads (g : Geom) (w : Nat) : List (Nat × Nat) :=
  [(bits w 255 237, 64), (bits w 236 218, g.regH * g.rowPitch)]
    ++ (if isBlockCode (convFmt w) then [(g.scaleOff, g.regH * g.scalePitch)] else [])
/-- Ranges that a pooling CONV writes. -/
def convWrites (g : Geom) (w : Nat) : List (Nat × Nat) :=
  if g.mode = 0 then [] else
  ((spmList w).map (fun u => (List.range (convRows w)).map (fun r =>
    (poolAt g (convKb w) (convFirst w u + r), poolBytes g (convKb w))))).flatten

/-! ### Status of a CONV (R125, R134, R135, R148) -/

/-- The range lies in one scratchpad. -/
def spadFits (off n : Nat) : Bool := decide (off + n ≤ 0x80000)
def convSrc (w : Nat) : Nat := bits w 236 218
/-- 12h or 17h before the geometry block is read. A GEOM that is not 64-byte aligned, or whose block leaves the scratchpad,
is a misaligned operand, 17h (DESIGN CHOICE, log 100). -/
def convPreStatus (w : Nat) : Nat :=
  if 11 < convFmt w then 0x12
  else if bits w 255 237 % 64 ≠ 0 ∨ ¬ spadFits (bits w 255 237) 64 then 0x17 else 0
/-- 17h, 18h or 0 from the geometry block. A held region or scale array that leaves the scratchpad is 17h, like the output
range of R148 (DESIGN CHOICE, log 100). -/
def convStatus (q : Geom) (w : Nat) : Nat :=
  if ¬ convOk q w then 0x18
  else if ¬ spadFits (convSrc w) (q.regH * q.rowPitch) ∨ ¬ spadFits q.scaleOff (q.regH * q.scalePitch) then 0x17
  else if (convWrites q w).any (fun x => !spadFits x.1 x.2
      || (convReads q w).any (fun r => decide (x.1 < r.1 + r.2 ∧ r.1 < x.1 + x.2))) then 0x17
  else 0
/-- Parts of a pooling CONV: its masked position ranges. -/
def poolPart (u : Nat) : Nat := 0x100 + u

/-! ### Ranges for the order of a stream (R95) -/

/-- A range of scratchpad or device addresses, with whether it is written. -/
abbrev Range := Nat × Nat × Bool
/-- Model's own names of things that are ordered like ranges: function table slot t, and the windows of a skein. -/
def tableKey (g t : Nat) : Nat := 2 ^ 52 + g * 16 + t
def windowKey (g : Nat) : Nat := 2 ^ 52 + 2 ^ 20 + g
def spanOf (pitch rows row : Nat) : Nat := if rows = 0 then 0 else (rows - 1) * pitch + row
/-- Ranges of a descriptor of skein g; a block of rows counts from its first byte to its last. -/
def State.descRanges (s : State) (g w : Nat) : List Range :=
  let sp := fun (off n : Nat) (wr : Bool) => ((spadAt g off, n, wr) : Range)
  match opOf w with
  | 0x01 =>
    (if bit w 52 then [] else
      [(bits w 255 208, spanOf (pitchOr (bits w 159 128) (bits w 111 96)) (bits w 127 112) (bits w 111 96), false)])
    ++ (if bit w 53 then [(bits w 207 160, 128, false)] else [])
    ++ (if bits w 56 55 = 0 then
          [sp (bits w 75 57) (spanOf (pitchOr (bits w 95 76) (bits w 111 96)) (bits w 127 112) (bits w 111 96)) true]
        else [])
  | 0x02 =>
    [(bits w 255 208, spanOf (pitchOr (bits w 207 176) (bits w 159 144)) (bits w 175 160) (bits w 159 144), true),
     sp (bits w 123 105) (spanOf (pitchOr (bits w 143 124) (bits w 159 144)) (bits w 175 160) (bits w 159 144)) false]
  | 0x04 =>
    let q := geomOf (s.rd (spadAt g (bits w 255 237)) 64)
    (convReads q w).map (fun r => sp r.1 r.2 false) ++ (convWrites q w).map (fun r => sp r.1 r.2 true)
  | 0x05 =>
    let row := 64 * elemBits (bits w 197 194) / 8
    let pitch := pitchOr (bits w 236 217) row
    (spmList w).map (fun u => sp (bits w 255 237 + u * 64 * pitch) (spanOf pitch (bits w 191 185) row) true)
      ++ (if bit w 184 then [] else [sp (bits w 216 198) 1024 false])
  | 0x06 =>
    let n := bits w 198 175
    let sz := fun f => (n * elemBits f + 7) / 8
    let op := bits w 162 155
    [sp (bits w 255 237) (sz (bits w 174 171)) false, sp (bits w 217 199) (sz (bits w 166 163)) true]
      ++ (if bit w 154 ∨ op = 7 ∨ op = 8 then [] else [sp (bits w 236 218) (sz (bits w 170 167)) false])
      ++ (if op = 8 then [(tableKey g (bits w 151 149), 1, false)] else [])
  | 0x07 =>
    let n := 256 * bits w 217 202
    let m := if bit w 191 then 256 else 1
    [sp (bits w 255 237) ((n * elemBits (bits w 201 198) + 7) / 8) false,
     sp (bits w 236 218) ((m * elemBits (bits w 197 194) + 7) / 8) true]
  | 0x08 => [sp (bits w 255 237) 384 false, (tableKey g (bits w 236 234), 1, true)]
  | 0x13 =>
    if bits w 156 155 = 1 then [(bits w 255 208, bits w 207 176, false)]
    else if bits w 156 155 = 2 then [sp (bits w 175 157) 32 true] else []
  | 0x14 => [(windowKey g, 1, true)]
  | 0x15 => [(windowKey g, 1, true)]
  | 0x16 =>
    let own := !bit w 151 && (bits w 212 199 == 0 || bits w 212 199 == s.reg 0x2E00 1) && bits w 198 193 == g
    let win := tblGet Window.init (s.skein g).windows (bits w 192 189)
    [sp (bits w 255 237) (bits w 236 213) false]
      ++ (if own then [(windowKey g, 1, false), sp (win.base + bits w 188 169) (bits w 236 213) true] else [])
  | _ => []
/-- The queue that a descriptor pops, or pushes to on this device. -/
def State.queueUsed (s : State) (w : Nat) : Option Nat :=
  match opOf w with
  | 0x01 => if bit w 52 then some (bits w 221 208) else none
  | 0x10 => if bit w 206 then some (bits w 220 207) else none
  | 0x16 => if bit w 151 && (bits w 212 199 == 0 || bits w 212 199 == s.reg 0x2E00 1) then some (bits w 182 169) else none
  | _ => none
/-- The synchronisation object that a descriptor updates on this device, or that a WAIT reads. -/
def State.syncUsed (s : State) (w : Nat) : Option Nat :=
  match opOf w with
  | 0x10 => if bit w 206 then none else some (bits w 223 207)
  | 0x11 => some (bits w 223 207)
  | 0x16 => if bit w 133 && (bits w 212 199 == 0 || bits w 212 199 == s.reg 0x2E00 1) then some (bits w 150 134) else none
  | _ => none
/-- Two descriptors use one queue, or one synchronisation object: the later takes effect after the earlier is complete
(R95). -/
def State.sameStore (s : State) (a b : Nat) : Bool :=
  ((s.queueUsed a).isSome && s.queueUsed a == s.queueUsed b) || ((s.syncUsed a).isSome && s.syncUsed a == s.syncUsed b)
/-- Two ranges share a byte and one of them is written. -/
def rangesMeet (a b : Range) : Bool :=
  (a.2.2 || b.2.2) && decide (a.1 < b.1 + b.2.1 ∧ b.1 < a.1 + a.2.1)

/-! ### Elements in bytes (R10, R38) -/

/-- Element `i` of packed elements of `b` bits, as its unsigned encoding. -/
def elemAt (bs : List Byte) (b i : Nat) : Nat :=
  if b = 4 then bits (field bs (i / 2) 1) (4 * (i % 2) + 3) (4 * (i % 2)) else field bs (i * (b / 8)) (b / 8)
def unpack (bs : List Byte) (b n : Nat) : List Nat := (List.range n).map (elemAt bs b)
/-- Packed bytes of elements; an odd INT4 count is padded with 0 (R38). -/
def packElems (b : Nat) : List Nat → List Byte
  | [] => []
  | x :: r =>
    if b = 4 then
      match r with
      | [] => [BitVec.ofNat 8 (x % 16)]
      | y :: t => BitVec.ofNat 8 (x % 16 + 16 * (y % 16)) :: packElems b t
    else leBytes (b / 8) x ++ packElems b r

/-! ### Spindle operands (R44, R68, R71, R72) -/

/-- Accumulator of a pair: integer codes. -/
def pairInt (a b : Nat) : Bool := decide (a ≤ 1 ∧ b ≤ 1)
/-- Pairs of R44. -/
def pairOk (a b : Nat) : Bool :=
  pairInt a b || (isBlockCode a && isBlockCode b) || (inRange a 4 5 && inRange b 4 5) || (a == 6 && b == 6)
    || (a == 7 && b == 7)
def is4Bit (f : Nat) : Bool := f == 1 || f == 3
/-- K-blocks in a tile (R68). -/
def pairKBlocks (a b : Nat) : Nat := if is4Bit a && is4Bit b then 2 else 1
/-- Bytes of an A row (R68). -/
def pairRowBytes (a b : Nat) : Nat :=
  if is4Bit a && !is4Bit b then 32 else if elemBits a = 16 then 128 else 64
/-- Slots that the A block, and the B tile, occupy. -/
def pairSlots (f : Nat) : Nat := if elemBits f = 16 then 2 else 1
/-- Steps of an A row. -/
def pairSteps (a : Nat) : Nat := if elemBits a = 16 then 4 else if a = 4 ∨ a = 5 then 2 else 1
/-- Bytes of a B tile. -/
def tileBytes (a b : Nat) : Nat := 64 * pairKBlocks a b * 64 * elemBits b / 8
/-- The instruction meets R69, R71 and R72. -/
def instrOk (i : SpInstr) : Bool :=
  pairOk i.fmtA i.fmtB && inRange i.m 1 64
    && (!isBlockCode i.fmtA || (decide (i.aSlot ≤ 6) && decide (i.bSlot ≤ 6)))
    && (elemBits i.fmtA ≠ 16 || (decide (i.aSlot % 2 = 0) && decide (i.bSlot % 2 = 0)))
    && (!i.column || ((i.fmtA == 0 && i.fmtB == 0) || inRange i.fmtA 4 7))
/-- Instruction k of a MATMUL (R101, R102). -/
def matmulInstr (w addr serial k : Nat) : SpInstr :=
  { fmtA := bits w 80 77, fmtB := bits w 76 73, aSlot := (bits w 51 49 + k * bits w 69 67) % 8,
    bSlot := (bits w 48 46 + k * bits w 66 64) % 8, column := bit w 45, m := bits w 44 38, set := bits w 37 36,
    init := bit w 35 && k == 0, descending := bit w 34, relA := bit w 33, relB := bit w 32, addr := addr,
    tag := tagOf w, serial := serial }
/-- The instructions a MATMUL places in each masked queue. -/
def matmulInstrs (w addr serial : Nat) : List SpInstr :=
  (List.range (bits w 72 70 + 1)).map (matmulInstr w addr serial)

end Sys2Proof.Machine
end

