-- ==== Sys2Proof/Machine/Stream.lean ====
section
/-! DEFINITION. Stream: command streams and their descriptors in flight: start, end, prefetch, dispatch, waits, signals,
fences, digests and sinter records (04_command_streams.md R88 to R126; R226 to R233; R431). -/
namespace Sys2Proof.Machine

/-! ### The scratchpad as the stream's own units read it -/

/-- Reads the own scratchpad: corrected codewords are counted and written back, an uncorrectable one gives none (R204). -/
def State.spadRead (s : State) (g off n : Nat) : State × Option (List Byte) :=
  let a := spadAt g off
  if s.badRange a n then (s, none)
  else
    let fixed := s.correctedIn a n
    let s := if fixed = [] then s else (s.heal a n).bumpSatBy (0x2D40 + g / 8) (0x21 + g % 8) fixed.length
    (s, some (s.rd a n))
/-- Uncorrectable data in a RAM of the compute die: RAM_UNCORR of the skein's partition (R331). -/
def State.ramUncorr (s : State) (g addr : Nat) : State := s.raise 2 (some (s.skeinPart g)) g (s.firstBad addr)

/-- Uncorrectable package memory or buffer: MEM_UNCORR of a partition; SOURCE is the channel (R331, R335). -/
def State.memUncorr (s : State) (p : Nat) (held : List (Nat × Nat)) (da : Nat) : State :=
  s.raise 3 (some p) (match s.placeFor held da with | .pkg pa => channelOf pa | _ => 0) da
/-- Bytes through a caldera's bridge port (R464, event 04h). -/
def State.bridge (s : State) (g n : Nat) : State := s.count 4 (g / 8) n

/-! ### States of a stream -/

def State.streamState (s : State) (g : Nat) : Nat := s.reg (0x2440 + g) 1
/-- RUNNING, WAITING, HALTED or STOPPED. -/
def State.streamLive (s : State) (g : Nat) : Bool :=
  let st := s.streamState g
  st == 1 || st == 2 || st == 3 || st == 5
/-- IDLE or ERROR. -/
def State.streamIdle (s : State) (g : Nat) : Bool := s.streamState g == 0 || s.streamState g == 4
/-- The caldera is out of service (R35, 2B00h:0B). -/
def State.oos (s : State) (c : Nat) : Bool := bit (s.reg 0x2B00 0x0B) c
/-- Descriptors that take effect only while the stream goes on: WAIT, SIGNAL with RELEASE = 1b, FENCE, END. A dispatched
SIGNAL without RELEASE is applied whatever becomes of the stream (R113). -/
def isControl (w : Nat) : Bool :=
  opOf w == 0x10 || (opOf w == 0x11 && bit w 205) || opOf w == 0x12 || opOf w == 0x1F
/-- The descriptor is a DIGEST FINAL. -/
def isFinal (w : Nat) : Bool := opOf w == 0x13 && bits w 156 155 == 2
/-- Descriptor `n` of a stream raises arithmetic flags: FLAGS, and the second set, where they belong to the record of the
first FINAL after it in stream order (R62, R95, R228). -/
def State.addFlags (s : State) (g n fl : Nat) : State :=
  if fl = 0 then s else
  (s.setReg (0x2440 + g) 7 (s.reg (0x2440 + g) 7 ||| fl)).modSkein g (fun k =>
    if k.flights.any (fun f => isFinal f.word && decide (f.serial < n)) then { k with flagsLater := k.flagsLater ++ [(n, fl)] }
    else { k with flags2 := k.flags2 ||| fl })

/-- Entry of the stream-event queue (R431). -/
def State.streamEntry (s : State) (g : Nat) : List Byte :=
  let r := s.reg (0x2440 + g)
  leBytes 1 0x51 ++ leBytes 1 g ++ leBytes 1 (r 1) ++ leBytes 1 (r 2) ++ leBytes 4 (r 0x0A) ++ leBytes 8 (r 3)
    ++ leBytes 2 (r 6) ++ leBytes 1 (s.skeinPart g) ++ zeros 5 ++ leBytes 8 s.stamp
/-- The stream ends: IDLE for a status below 10h, else ERROR (R126). Data descriptors in flight complete on their own;
the host is told (R431); 31h raises PATH_PARITY, 32h and 42h raise STREAM (R331); 22h is counted against the skein (R32). -/
def State.endStream (s : State) (g status addr tag : Nat) : State :=
  let s := (((s.setReg (0x2440 + g) 2 status).setReg (0x2440 + g) 3 addr).setReg (0x2440 + g) 6 tag).modSkein g
    (fun k => { k with flights := k.flights.filter (fun f => !isControl f.word), fetched := [], haltPage := none,
                       abandoned := false, violations := k.violations + b2n (status == 0x22) })
  let s := s.setStreamState g (if status < 0x10 then 0 else 4)
  let s := if status = 0x32 ∨ status = 0x42 then s.raise 0x13 (some (s.skeinPart g)) g status
    else if status = 0x31 then s.raiseKey 1 (some (s.skeinPart g)) g status (1 + g / 8) else s
  let s := s.ageFault 6 g true false
  if s.reg 0x2E30 4 = 0xFFFF then s
  else s.pushNamed (s.reg 0x2E30 4) (some 0x100) none (s.streamEntry g) 0x2E30 5

/-! ### Descriptors in flight -/

/-- The flight at a place, where its opcode is the one asked for. -/
def State.flightAt (s : State) (g i op : Nat) : Option Flight :=
  match (s.skein g).flights[i]? with
  | some f => if opOf f.word = op then some f else none
  | none => none
def State.setFlight (s : State) (g : Nat) (f : Flight) : State :=
  s.modSkein g (fun k => { k with flights := k.flights.map (fun x => if x.serial = f.serial then f else x) })
def State.dropFlight (s : State) (g serial : Nat) : State :=
  s.modSkein g (fun k => { k with flights := k.flights.filter (fun x => x.serial ≠ serial) })
/-- Flights before a serial. -/
def State.earlier (s : State) (g serial : Nat) : List Flight :=
  (s.skein g).flights.filter (fun x => decide (x.serial < serial))
/-- Digest context that a descriptor feeds by DG = 1b, or works on (R110). -/
def ctxOf (w : Nat) : Option Nat :=
  match opOf w with
  | 0x02 => if bit w 104 then some (bits w 103 101) else none
  | 0x05 => if bit w 183 then some (bits w 182 180) else none
  | 0x13 => some (bits w 154 152)
  | _ => none
def State.ctx (s : State) (g c : Nat) : DigestCtx := tblGet DigestCtx.init (s.skein g).ctxs c
def State.setCtx (s : State) (g c : Nat) (x : DigestCtx) : State :=
  s.modSkein g (fun k => { k with ctxs := tblPut DigestCtx.init k.ctxs c x })
/-- Instructions and results of the skein's spindles outstanding: none queued, none stepping, none on its way (R114). -/
def State.spindlesQuiet (s : State) (g : Nat) : Bool :=
  (List.range 4).all (fun u =>
    let k := s.spindle (4 * g + u)
    k.queue == [] && k.running == none && k.landing == [])
/-- An abandoned stream whose descriptors are complete and whose instructions have retired ends with 41h (R91). -/
def State.settleAbandon (s : State) (g : Nat) : State :=
  if (s.skein g).abandoned ∧ (s.skein g).flights = [] ∧
      (List.range 4).all (fun u => (s.spindle (4 * g + u)).queue == [] && (s.spindle (4 * g + u)).running == none)
  then s.endStream g 0x41 (s.reg (0x2440 + g) 3) (s.reg (0x2440 + g) 6) else s

/-- Output rows of a DG descriptor, read back from its destination in the order of R230: address and length. -/
def dgRanges (g w : Nat) : List (Nat × Nat) :=
  if opOf w = 5 then
    let row := 64 * elemBits (bits w 197 194) / 8
    let pitch := pitchOr (bits w 236 217) row
    ((spmList w).map (fun u => (List.range (bits w 191 185)).map (fun r =>
      (spadAt g (bits w 255 237 + (u * 64 + r) * pitch), row)))).flatten
  else
    (List.range (bits w 175 160)).map (fun r =>
      (bits w 255 208 + r * pitchOr (bits w 207 176) (bits w 159 144), bits w 159 144))
/-- A descriptor ends its stream with a status of R126; where the stream has ended already it only leaves. -/
def State.fail (s : State) (g : Nat) (f : Flight) (status : Nat) : State :=
  let s := s.dropFlight g f.serial
  if s.streamLive g then s.endStream g status f.addr (tagOf f.word) else s
/-- A read or write of a descriptor fails: the status, and the address in FAULT_ADDR (R89); 30h raises the fault of the place
that it came from (R331). -/
def State.failAt (s : State) (g : Nat) (f : Flight) (status addr : Nat) : State :=
  let s := if s.streamLive g then s.setReg (0x2440 + g) 5 addr else s
  let s := s.fail g f status
  if status = 0x30 then
    (if regionOf addr = .spad then s.ramUncorr g addr else s.memUncorr (s.skeinPart g) f.pages addr)
  else s
/-- Absorbs the landed bytes of a DG descriptor, which is then complete; one that cannot be read back ends it (R230). -/
def State.absorbDg (s : State) (g c : Nat) (f : Flight) : State :=
  let rs := (dgRanges g f.word).map (fun r => s.readDev f.pages r.1 r.2)
  let s := (dgRanges g f.word).foldl (fun s r => s.readEvents f.pages r.1 r.2) s
  match rs.find? (fun r => r.status ≠ 0) with
  | some r => s.failAt g f r.status r.at_
  | none =>
    let x := s.ctx g c
    (s.setCtx g c { x with bytes := x.bytes ++ (rs.map ReadResult.bytes).flatten }).dropFlight g f.serial
/-- A STORE or DRAIN whose parts are all done completes, first absorbing its bytes in stream order where DG is set; the digest
engine absorbs nothing during a reserved slot (R217). -/
def State.settleFlight (s : State) (g : Nat) (f : Flight) : State :=
  if ¬ ((opOf f.word = 2 ∨ opOf f.word = 5) ∧ f.started ∧ f.left = [] ∧ f.unacked = 0) then s
  else if f.status ≠ 0 then s.fail g f f.status
  else
    match ctxOf f.word with
    | some c =>
      if (s.earlier g f.serial).any (fun x => ctxOf x.word == some c) ∨ (s.caldera (g / 8)).reserved then s
      else s.absorbDg g c f
    | none => s.dropFlight g f.serial
/-- Completes what is now complete, in stream order. -/
def State.settle (s : State) (g : Nat) : State :=
  ((s.skein g).flights.foldl (fun s f => s.settleFlight g f) s).settleAbandon g
/-- A descriptor completes. -/
def State.complete (s : State) (g serial : Nat) : State := (s.dropFlight g serial).settle g
/-! ### CONTROL (R91) -/

/-- PLAN_DIGEST of the skein's plan; zeros when BASE was written by the host (R229). -/
def State.chainDigest (s : State) (g : Nat) : List Byte :=
  if s.reg (0x2440 + g) 0x0A = 0 then zeros 32 else leBytes 32 (s.reg (0x2490 + s.skeinPart g) 7)
/-- Seeds the chain (R229) and clears what an iteration gathers. -/
def State.seedChain (s : State) (g : Nat) : State :=
  let ch := sha3 (s.chainDigest g ++ leBytes 1 g ++ leBytes 4 (s.reg (0x2440 + g) 8))
  s.modSkein g (fun k => { k with chain := ch, layers := 0, iterFlags := 0 })
/-- The partition holds a plan that was accepted: LOADED or ACTIVE (R36). -/
def State.planHeld (s : State) (p : Nat) : Bool := s.reg (0x2490 + p) 8 == 2 || s.reg (0x2490 + p) 8 == 3
/-- START is accepted: IDLE or ERROR, the caldera in service, no LOAD of the partition's plan in progress. A stream whose BASE
a plan set runs only while the device holds that plan as accepted (R36); one whose BASE the host wrote has PLAN_ID 0. -/
def State.startOk (s : State) (g : Nat) : Bool :=
  s.streamIdle g && !s.oos (g / 8) && s.reg 0x2108 (g / 8 + 1) == 1 && s.reg (0x2490 + s.skeinPart g) 8 != 1
    && (s.reg (0x2440 + g) 0x0A == 0 || s.planHeld (s.skeinPart g))
/-- START (R91). -/
def State.startStream (s : State) (g : Nat) : State :=
  let s := ((((s.setReg (0x2440 + g) 3 (s.reg (0x2440 + g) 4)).setReg (0x2440 + g) 2 0).setReg (0x2440 + g) 7 0).setReg
    (0x2440 + g) 8 0).setReg (0x2440 + g) 5 0
  let s := s.modSkein g (fun k => { k with fetched := [], haltPage := none, abandoned := false, flags2 := 0, flagsLater := [], recorded := 0, batch := none })
  ((s.seedChain g).setStreamState g 1).conditionEnd (fun f => f.code == 0x13 && f.source == g)
/-- ABANDON (R91): a held WAIT is given up; the rest in flight completes. -/
def State.abandonStream (s : State) (g : Nat) : State :=
  (s.modSkein g (fun k =>
    { k with abandoned := true, fetched := [], haltPage := none,
             flights := k.flights.filter (fun f => opOf f.word ≠ 0x10) })).settleAbandon g
/-- A write of CONTROL, 2440h + g:09: the state and the abort code. -/
def State.writeControl (s : State) (g v : Nat) : State × Nat :=
  if v = 1 then (if s.startOk g then (s.startStream g, 0) else (s, 0x08000022))
  else if v = 2 then (if s.streamLive g then (s.abandonStream g, 0) else (s, 0x08000022))
  else if v = 3 then (s.setReg (0x2440 + g) 7 0, 0)
  else (s, 0x06090030)

/-! ### Prefetch and page faults (R122, R123) -/

/-- Page-fault entry (R181), pushed and counted. -/
def State.pageFault (s : State) (g kind : Nat) : State :=
  let r := s.reg (0x2440 + g)
  let e := leBytes 8 (r 5) ++ leBytes 1 g ++ leBytes 1 (s.skeinPart g) ++ leBytes 1 kind ++ zeros 1
    ++ leBytes 4 (r 0x0A) ++ leBytes 8 (r 3) ++ leBytes 2 (r 6) ++ zeros 6
  (s.bump 0x2220 2).pushNamed (s.reg 0x2220 1) (some 0x100) none e 0x2220 3
/-- The stream halts with status 20h on a not-present page (R123). -/
def State.haltStream (s : State) (g addr fault kind : Nat) : State :=
  let s := ((s.setReg (0x2440 + g) 2 0x20).setReg (0x2440 + g) 3 addr).setReg (0x2440 + g) 5 fault
  let s := (s.syncTag g).modSkein g (fun k => { k with haltPage := pageId fault })
  (s.setStreamState g 3).pageFault g kind
/-- Streams halted on a page that is now present return to RUNNING (R123). -/
def State.resumeHalted (s : State) : State :=
  forEach ((List.range 64).filter (fun g => s.streamState g = 3)) s (fun s g =>
    match (s.skein g).haltPage with
    | some id =>
      if entPresent (s.entry id) then
        ((s.setReg (0x2440 + g) 2 0).modSkein g (fun k => { k with haltPage := none })).setStreamState g 1
      else s
    | none => s)

/-- The prefetcher stops behind a FENCE or END until it completes. -/
def stopsFetch (w : Nat) : Bool := opOf w == 0x12 || opOf w == 0x1F
/-- Address of the next descriptor to fetch. -/
def State.nextFetch (s : State) (g : Nat) : Nat :=
  match (s.skein g).fetched.getLast? with
  | some (a, _) => a + 32
  | none =>
    match (s.skein g).flights.find? (fun f => (opOf f.word == 0x10 && f.started) || opOf f.word == 3) with
    | some f => f.addr + 32
    | none => s.reg (0x2440 + g) 3
/-- Descriptors of one read up to and with the first that stops fetching. -/
def takeFetch : List (Nat × Nat) → List (Nat × Nat)
  | [] => []
  | d :: r => if stopsFetch d.2 then [d] else d :: takeFetch r
/-- A fetch that cannot be made. With nothing left to dispatch, the stream halts or ends. -/
def State.fetchFails (s : State) (g a status : Nat) : State :=
  if (s.skein g).fetched ≠ [] ∨ s.streamState g ≠ 1 then s
  else if status = 0x20 then s.haltStream g a a 0
  else if status = 0x30 then ((s.setReg (0x2440 + g) 5 a).endStream g 0x30 a (s.reg (0x2440 + g) 6)).memUncorr
    (s.skeinPart g) [] a
  else (s.setReg (0x2440 + g) 5 a).endStream g status a (s.reg (0x2440 + g) 6)

/-! ### Sinter records (R226 to R233, R344, R356) -/

/-- An expected entry names the record (R232). -/
def expectMatch (e : List Byte) (g kind tag iter : Nat) : Bool :=
  field e 0 1 == g && field e 1 1 == kind && field e 2 2 == tag && field e 4 4 == iter
/-- Expected entries in force: those of the GOLDEN pattern stand before the plan's own of the same names (R356). -/
def State.expectedList (s : State) (p : Nat) : List (List Byte) :=
  let golden := ((s.part p).golden.map Golden.entries).getD []
  golden ++ (s.plan p).expected.filter (fun e =>
    !golden.any (fun x => field x 0 4 == field e 0 4))
/-- Entry of a record: a specific ITERATION before FFFF_FFFFh (R233). -/
def State.expectedFor (s : State) (p g kind tag iter : Nat) : Option (List Byte) :=
  match (s.expectedList p).find? (fun e => expectMatch e g kind tag iter) with
  | some e => some e
  | none => (s.expectedList p).find? (fun e => expectMatch e g kind tag 0xFFFFFFFF)
/-- The entry is a geyser expected entry (R356). -/
def State.geyserEntry (s : State) (p : Nat) (e : List Byte) : Bool :=
  field e 4 4 == 0xFFFFFFFF && inRange (field e 2 2) (s.reg (0x2B38 + p) 6) (s.reg (0x2B38 + p) 7)
/-- Compares a record with its expected entry (R233). -/
def State.compareRecord (s : State) (p g kind tag iter : Nat) (digest : List Byte) : State :=
  match s.expectedFor p g kind tag iter with
  | none => s
  | some e =>
    let ok := (e.drop 16).take 32 == digest
    let s := s.verdict 6 g (kind * 2 ^ 16 + tag) ok
    let s := if s.geyserEntry p e then
        s.modPart p (fun k => if ok then { k with matched := k.matched ++ [(g, kind, tag)] }
                              else { k with mismatched := k.mismatched ++ [g / 8] })
      else s
    if ok then s
    else (((s.bumpSat (0x2330 + p) 5).setReg (0x2330 + p) 6 (g * 2 ^ 16 + tag)).raiseKey 6 (some p) g (tag * 2 ^ 8 + g)
      (kind * 2 ^ 16 + tag))
/-- A record of R227 as 64 bytes. -/
def recordBytes (r : SinterRec) : List Byte :=
  leBytes 1 r.kind ++ leBytes 1 r.flags ++ leBytes 1 r.skein ++ leBytes 1 r.ctx ++ leBytes 2 r.tag ++ zeros 2
    ++ leBytes 4 r.iteration ++ leBytes 4 r.planId ++ leBytes 8 r.bytes ++ leBytes 8 r.stamp ++ slice r.digest 0 32
/-- Flags that wait for a record behind FINAL `n`: those of the next record, and those of records after it (R228). -/
def Skein.flagsNext (k : Skein) (n : Nat) : Nat × List (Nat × Nat) :=
  let next := k.flights.find? (fun f => isFinal f.word && decide (n < f.serial))
  let mine := fun (x : Nat × Nat) => match next with
    | some f => decide (x.1 < f.serial)
    | none => true
  ((k.flagsLater.filter mine).foldl (fun a x => a ||| x.2) 0, k.flagsLater.filter (fun x => !mine x))
/-- A LAYER (kind 1) or RESULT (kind 2) record of descriptor `serial` is formed, chained, compared and pushed (R226). -/
def State.formRecord (s : State) (g serial kind ctx tag nbytes : Nat) (digest : List Byte) : State :=
  let p := s.skeinPart g
  let k := s.skein g
  let async := kind == 1 && ctx == 7
  let later := k.flagsNext serial
  let fl := if kind = 1 then k.flags2 else k.iterFlags
  let r : SinterRec :=
    { kind := kind, flags := fl + b2n async * 16 + b2n (s.dbg.broken.contains (g / 8)) * 32, skein := g,
      ctx := if kind = 1 then ctx else 0, tag := tag, iteration := s.reg (0x2440 + g) 8,
      planId := s.reg (0x2440 + g) 0x0A, bytes := nbytes, stamp := s.stamp + s.bridgeBits (g / 8), digest := digest }
  let rb := recordBytes r
  let s := if kind = 1 then s.setSkein g
      { k with flags2 := later.1, flagsLater := later.2, iterFlags := k.iterFlags ||| fl,
               chain := if async then k.chain else sha3 (k.chain ++ rb.take 24 ++ rb.drop 32),
               layers := if async then k.layers else k.layers + 1 }
    else s
  let s := s.bump (0x2330 + p) 2
  let q := s.reg (0x2330 + p) 1
  let s := if 16383 < q ∨ s.queuePart q ≠ p then s.bumpSat (0x2330 + p) 3
    else
      let t := s.queuePush p q [rb.take 32, rb.drop 32]
      if t.2 = 0 then t.1 else t.1.bumpSat (0x2330 + p) 3
  let s := if kind = 1 ∧ 4 ≤ ctx ∧ ctx ≤ 6 then
      s.setPair (g / 16) { s.pair (g / 16) with arrivals := (s.pair (g / 16)).arrivals ++ [r] }
    else s
  let s := s.traceSkein 2 (if kind = 1 then 0x12 else 0x13) g tag (field rb 32 8)
  if async then s else s.compareRecord p g kind tag r.iteration digest

/-! ### Digests (R110) -/

/-- Nothing before it in flight works on its context, and no reserved slot holds the engine (R217). -/
def State.ctxFree (s : State) (g : Nat) (f : Flight) : Bool :=
  !(s.caldera (g / 8)).reserved && !(s.earlier g f.serial).any (fun x => (ctxOf x.word).isSome && ctxOf x.word == ctxOf f.word)
/-- The descriptor runs on the vector unit: ELTWISE, REDUCE, TABLE, or a pooling CONV. -/
def usesVector (f : Flight) : Bool :=
  opOf f.word == 6 || opOf f.word == 7 || opOf f.word == 8 || (opOf f.word == 4 && f.left.any (fun p => decide (0x100 ≤ p)))
/-- A FINAL takes effect in stream order (R95, R226, R228): every FINAL before it is complete, and so is everything before it
that raises arithmetic flags. -/
def State.finalReady (s : State) (g : Nat) (f : Flight) : Bool :=
  s.ctxFree g f
    && !(s.earlier g f.serial).any (fun x => isFinal x.word || usesVector x || opOf x.word == 3 || opOf x.word == 5)
    && (List.range 4).all (fun u =>
      let k := s.spindle (4 * g + u)
      k.queue.all (fun i => decide (f.serial ≤ i.serial)) && k.landing.all (fun l => decide (f.serial ≤ l.serial))
        && (match k.running with
            | some r => decide (f.serial ≤ r.1.serial)
            | none => true))
/-- DIGEST INIT: empties the context and opens it. -/
def doDigestInit (g i : Nat) (s : State) : State :=
  match s.flightAt g i 0x13 with
  | some f =>
    if bits f.word 156 155 ≠ 0 ∨ ¬ s.ctxFree g f then s
    else (s.setCtx g (bits f.word 154 152) ⟨true, []⟩).complete g f.serial
  | none => s
/-- Status of a source that a LOAD with DST_KIND 00b, or an ABSORB, may read (R99): 17h, 24h or 0. -/
def sourceStatus (g da n : Nat) : Nat :=
  match regionOf da with
  | .lstore => 0x24
  | .spad => if spadSkein da = g ∧ (n = 0 ∨ spadSkein (da + n - 1) = g) then 0 else 0x17
  | .unmapped => 0x25
  | _ => 0
/-- DIGEST ABSORB: the bytes enter the context in address order. -/
def doDigestAbsorb (g i : Nat) (s : State) : State :=
  match s.flightAt g i 0x13 with
  | some f =>
    let c := bits f.word 154 152
    let da := bits f.word 255 208
    let n := bits f.word 207 176
    if bits f.word 156 155 ≠ 1 ∨ ¬ s.ctxFree g f then s
    else if sourceStatus g da n ≠ 0 then s.fail g f (sourceStatus g da n)
    else if ¬ (s.ctx g c).isOpen then s.fail g f 0x19
    else
      let r := s.readDev f.pages da n
      let s := (s.readEvents f.pages da n).bridge g (if regionOf da = .spad then 0 else n)
      if r.status ≠ 0 then s.failAt g f r.status r.at_
      else (s.setCtx g c { (s.ctx g c) with bytes := (s.ctx g c).bytes ++ r.bytes }).complete g f.serial
  | none => s
/-- DIGEST FINAL: writes the digest, closes the context and emits a LAYER record. -/
def doDigestFinal (g i : Nat) (s : State) : State :=
  match s.flightAt g i 0x13 with
  | some f =>
    let c := bits f.word 154 152
    let dst := bits f.word 175 157
    if bits f.word 156 155 ≠ 2 ∨ ¬ s.finalReady g f then s
    else if dst % 32 ≠ 0 then s.fail g f 0x17
    else if ¬ (s.ctx g c).isOpen then s.fail g f 0x19
    else
      let bs := (s.ctx g c).bytes
      let d := sha3 bs
      let s := (s.put (spadAt g dst) d).setCtx g c DigestCtx.init
      (s.formRecord g f.serial 1 c (tagOf f.word) bs.length d).complete g f.serial
  | none => s

/-! ### Waits, signals, fences and ends (R112 to R114, R121) -/

/-- Status of a WAIT before it waits (R112). -/
def State.waitStatus (s : State) (g w : Nat) : Nat :=
  if bit w 206 then
    if ¬ inRange (bits w 255 224) 1 (2 ^ 20) then 0x17
    else if s.queuePart (bits w 220 207) ≠ s.skeinPart g then 0x22
    else if (s.queue (bits w 220 207)).consumer ≠ g then 0x28
    else 0
  else if s.syncPart (bits w 223 207) ≠ s.skeinPart g then 0x22 else 0
/-- WAIT: satisfied, it completes; else dispatch is held in WAITING. It sees what earlier descriptors of its stream did to its
object or queue (R95), and an update from outside once that has taken effect at the caldera (R222). -/
def doWait (g i : Nat) (s : State) : State :=
  match s.flightAt g i 0x10 with
  | some f =>
    if f.started then (if (s.caldera (g / 8)).external.contains (.wake g) then s else s.wakeSkein g)
    else if (s.earlier g f.serial).any (fun x => s.sameStore x.word f.word) then s
    else if s.waitStatus g f.word ≠ 0 then s.fail g f (s.waitStatus g f.word)
    else if s.waitSatisfied g f.word then s.complete g f.serial
    else
      let s := (s.setFlight g { f with started := true }).setReg (0x2440 + g) 3 f.addr
      let s := s.setReg (0x2440 + g) 6 (tagOf f.word)
      if s.streamState g = 5 then s.modSkein g (fun k => { k with recorded := 2 }) else s.setStreamState g 2
  | none => s
/-- The TIMEOUT of a held WAIT expires: the expiry crosses the bridge (R222). -/
def doWaitTimeout (g : Nat) (s : State) : State :=
  if s.streamState g ≠ 2 then s else
  match (s.skein g).flights.find? (fun f => opOf f.word == 0x10 && f.started) with
  | some f =>
    if bits f.word 205 190 = 0 ∨ (s.caldera (g / 8)).external.contains (.timeout g f.serial) then s
    else s.modCaldera (g / 8) (fun k => { k with external := k.external ++ [.timeout g f.serial] })
  | none => s
/-- The expiry takes effect: status 40h. A WAIT that is satisfied by now completes instead (R127). -/
def State.timeoutEffect (s : State) (g n : Nat) : State :=
  match (s.skein g).flights.find? (fun f => opOf f.word == 0x10 && f.started && f.serial == n) with
  | some f =>
    if s.streamState g ≠ 2 then s
    else if s.waitSatisfied g f.word then s.wakeSkein g
    else s.fail g f 0x40
  | none => s
/-- Operand of a SIGNAL. -/
def State.signalOperand (s : State) (g w : Nat) : Nat :=
  iterOperand (bits w 255 224) (s.reg (0x2440 + g) 8) (bits w 204 189)
/-- The SIGNAL's update, refused with 22h for an object of another partition (R113). -/
def State.signalApply (s : State) (g : Nat) (f : Flight) : State :=
  let n := bits f.word 223 207
  if s.syncPart n ≠ s.skeinPart g then s.fail g f 0x22
  else
    let v := s.signalOperand g f.word
    (if bit f.word 206 then s.syncSet n v else s.syncAdd n v).complete g f.serial
def doSignalAdd (g i : Nat) (s : State) : State :=
  match s.flightAt g i 0x11 with
  | some f => if bit f.word 205 ∨ bit f.word 206 then s else s.signalApply g f
  | none => s
def doSignalSet (g i : Nat) (s : State) : State :=
  match s.flightAt g i 0x11 with
  | some f => if bit f.word 205 ∨ ¬ bit f.word 206 then s else s.signalApply g f
  | none => s
/-- SIGNAL with RELEASE = 1b: applied once every earlier descriptor is complete. -/
def doSignalReleaseApply (g i : Nat) (s : State) : State :=
  match s.flightAt g i 0x11 with
  | some f => if ¬ bit f.word 205 ∨ s.earlier g f.serial ≠ [] then s else s.signalApply g f
  | none => s
/-- FENCE: completes when everything before it is complete (R114). -/
def doFence (g i : Nat) (s : State) : State :=
  match s.flightAt g i 0x12 with
  | some f => if s.earlier g f.serial ≠ [] ∨ ¬ s.spindlesQuiet g then s else s.complete g f.serial
  | none => s
/-- END of a form: RESULT record, then IDLE with 01h, or the next iteration (R121, R91). -/
def State.endApply (s : State) (g : Nat) (f : Flight) (loop : Bool) : State :=
  let s := s.formRecord g f.serial 2 0 (tagOf f.word) (s.skein g).layers (s.skein g).chain
  let s := s.dropFlight g f.serial
  if loop then
    let s := ((s.bump (0x2440 + g) 8).setReg (0x2440 + g) 3 (s.reg (0x2440 + g) 4)).modSkein g
      (fun k => { k with fetched := [] })
    ((s.seedChain g).ageFault 6 g false false).settleAbandon g
  else if (s.skein g).abandoned then s.settleAbandon g
  else s.endStream g 1 f.addr (tagOf f.word)
def doEnd (loop : Bool) (g i : Nat) (s : State) : State :=
  match s.flightAt g i 0x1F with
  | some f =>
    if bit f.word 32 ≠ loop ∨ s.earlier g f.serial ≠ [] ∨ ¬ s.spindlesQuiet g then s else s.endApply g f loop
  | none => s

/-! ### The commands -/

/-- WAIT (R112). -/
def execWait (g : SkeinId) (i : Nat) (s : State) : Host.Outcome State Fault Refusal := .next (doWait g.val i s)
/-- WAIT_TIMEOUT (R112). -/
def execWaitTimeout (g : SkeinId) (s : State) : Host.Outcome State Fault Refusal := .next (doWaitTimeout g.val s)
/-- SIGNAL_ADD (R113). -/
def execSignalAdd (g : SkeinId) (i : Nat) (s : State) : Host.Outcome State Fault Refusal :=
  .next (doSignalAdd g.val i s)
/-- SIGNAL_SET (R113). -/
def execSignalSet (g : SkeinId) (i : Nat) (s : State) : Host.Outcome State Fault Refusal :=
  .next (doSignalSet g.val i s)
/-- SIGNAL_RELEASE_APPLY (R113). -/
def execSignalReleaseApply (g : SkeinId) (i : Nat) (s : State) : Host.Outcome State Fault Refusal :=
  .next (doSignalReleaseApply g.val i s)
/-- FENCE (R114). -/
def execFence (g : SkeinId) (i : Nat) (s : State) : Host.Outcome State Fault Refusal := .next (doFence g.val i s)
/-- DIGEST_INIT (R110). -/
def execDigestInit (g : SkeinId) (i : Nat) (s : State) : Host.Outcome State Fault Refusal :=
  .next (doDigestInit g.val i s)
/-- DIGEST_ABSORB (R110). -/
def execDigestAbsorb (g : SkeinId) (i : Nat) (s : State) : Host.Outcome State Fault Refusal :=
  .next (doDigestAbsorb g.val i s)
/-- DIGEST_FINAL (R110). -/
def execDigestFinal (g : SkeinId) (i : Nat) (s : State) : Host.Outcome State Fault Refusal :=
  .next (doDigestFinal g.val i s)
/-- END (R121). -/
def execEndStream (g : SkeinId) (i : Nat) (s : State) : Host.Outcome State Fault Refusal :=
  .next (doEnd false g.val i s)
/-- END_LOOP (R121). -/
def execEndLoop (g : SkeinId) (i : Nat) (s : State) : Host.Outcome State Fault Refusal := .next (doEnd true g.val i s)

end Sys2Proof.Machine
end

