-- ==== Sys2Proof/Machine/Move.lean ====
section
/-! DEFINITION. Move: LOAD, LOAD with QPOP and STORE (R98 to R100), the caldera weight caches they read through (R190 to
R193), the prefetcher (R122) and the dispatch of descriptors (R95 to R97, R123, R455). -/
namespace Sys2Proof.Machine

/-! ### Weight caches (R190 to R194) -/

def Caldera.line (k : Caldera) (l : Nat) : Option WcLine := (k.lines.find? (fun e => e.1 == l)).map (·.2)
/-- A fetch of a line begins: eight units through the partition's channel time. A bank that is not ON refuses them (R207), and
the LOADs that wait for the line get 25h. -/
def State.startFetch (s : State) (c part l : Nat) (page : Nat × Nat) (refetch : Bool) (waiters : List (Nat × Nat)) : State :=
  if s.bankLate (l * 256) then
    (forEach (List.range 8) s (fun s i => s.lateRefusal (l * 256 + 32 * i))).modCaldera c (fun k =>
      { k with delivered := k.delivered ++ waiters.map (fun w => ⟨w.1, w.2, l, 0x25, []⟩) })
  else
    let s := s.modCaldera c (fun k =>
      { k with fetches := k.fetches ++ [⟨l, part, page, [], false, false, false, refetch, waiters⟩] })
    (s.bump (0x2280 + c) 2).modChannel (channelOf (l * 256)) (fun q =>
      { q with queue := q.queue ++ (List.range 8).map (fun i => ⟨part, l * 256 + 32 * i, .lineRead c l, page, false⟩) })
/-- Asks for a line that is absent: misses to the same line merge into one fetch (R191). An early fill waits for nothing. -/
def State.requestLine (s : State) (c part l : Nat) (page : Nat × Nat) (waiters : List (Nat × Nat)) : State :=
  if (s.caldera c).fetches.any (fun f => f.line == l && !f.discard) then
    s.modCaldera c (fun k => { k with fetches := k.fetches.map (fun f =>
      if f.line = l ∧ ¬ f.discard then { f with waiters := f.waiters ++ waiters } else f) })
  else s.startFetch c part l page false waiters
/-- A line enters the cache in place of the least recently used of its set of 16 ways. -/
def State.fillLine (s : State) (c l : Nat) (bs : List Byte) : State :=
  let k := s.caldera c
  let same := k.lines.filter (fun e => e.1 % 1024 == l % 1024 && e.1 != l)
  let oldest := same.foldl (fun (b : Option (Nat × WcLine)) e => match b with
    | some x => if e.2.used < x.2.used then some e else some x
    | none => some e) none
  let lines := if same.length < 16 then k.lines else
    match oldest with
    | some x => tblDel k.lines x.1
    | none => k.lines
  s.setCaldera c { k with lines := tblIns (tblDel lines l) l ⟨bs, k.useClock, 0⟩, useClock := k.useClock + 1 }
/-- A LOAD asks for a line. A hit gives it the line's bytes, with a correction counted; a line found uncorrectable is
discarded and fetched again once (R193), which is the retry of the event that is raised (R340). -/
def State.askLine (s : State) (g serial l : Nat) (page : Nat × Nat) : State :=
  let c := g / 8
  let k := s.caldera c
  match k.line l with
  | some w =>
    if w.damage = 2 then
      let s := ((s.setCaldera c { k with lines := tblDel k.lines l }).bumpSat (0x2280 + c) 5).startFetch c (s.skeinPart g) l page
        true [(g, serial)]
      let s := s.raiseKey 2 (some (s.calderaPart c)) c (l * 256) (l + 1)
      if s.bankLate (l * 256) then s.verdict 2 c (l + 1) false else s
    else
      let s := s.setCaldera c
        { k with lines := tblIns (tblDel k.lines l) l { w with used := k.useClock, damage := 0 }, useClock := k.useClock + 1
                 delivered := k.delivered ++ [⟨g, serial, l, 0, w.bytes⟩] }
      (if w.damage = 1 then s.bumpSat (0x2280 + c) 4 else s).bump (0x2280 + c) 1
  | none => s.requestLine c (s.skeinPart g) l page [(g, serial)]
/-- What the LOAD got for a line, once it has it. -/
def State.lineGot (s : State) (g serial l : Nat) : Option LineGot :=
  (s.caldera (g / 8)).delivered.find? (fun e => e.skein == g && e.serial == serial && e.line == l)
/-- The first fetch with all units ends: its line goes to the LOADs that waited; unless it was invalidated meanwhile, was
refused or came back uncorrectable, the cache keeps it (R191 to R193, R207). -/
def State.fetchDone (s : State) (c : Nat) (f : WcFetch) : State :=
  let st := if f.refused then 0x25 else if f.bad then 0x30 else 0
  let bs := if st = 0 then f.units.flatten else []
  let s := s.modCaldera c (fun k =>
    { k with fetches := k.fetches.erase f
             delivered := k.delivered ++ f.waiters.map (fun w => ⟨w.1, w.2, f.line, st, bs⟩) })
  let s := s.count 4 c (if st = 0 then 256 else 0)
  if st ≠ 0 ∨ f.discard then s else s.fillLine c f.line bs
/-- WC_LINE_FETCH_COMPLETE. A refetch decides its event: transient where the new copy reads correctly, else lasting (R193,
R340); a first copy that is uncorrectable is a fault of the memory (R198). -/
def doWcLineFetchComplete (c : Nat) (s : State) : State :=
  match (s.caldera c).fetches.find? (fun f => decide (8 ≤ f.units.length)) with
  | none => s
  | some f =>
    let s := s.fetchDone c f
    if f.refetch then s.verdict 2 c (f.line + 1) (!f.bad && !f.refused)
    else if f.bad then s.raise 3 (some f.part) (channelOf (f.line * 256)) (f.line * 256)
    else s
/-- WC_FLUSH: every line is invalidated (R194). -/
def State.wcFlush (s : State) (c : Nat) : State :=
  let k := s.caldera c
  (s.setCaldera c { k with lines := [], fetches := k.fetches.map (fun f => { f with discard := true }) }).bumpSatBy
    (0x2280 + c) 3 k.lines.length

/-! ### LOAD (R98, R99) -/

def loadSrc (w : Nat) : Nat := bits w 255 208
def loadRows (w : Nat) : Nat := bits w 127 112
def loadRow (w : Nat) : Nat := bits w 111 96
def loadSrcPitch (w : Nat) : Nat := pitchOr (bits w 159 128) (loadRow w)
def loadDstPitch (w : Nat) : Nat := pitchOr (bits w 95 76) (loadRow w)
def loadKind (w : Nat) : Nat := bits w 56 55
def loadTotal (w : Nat) : Nat := loadRows w * loadRow w
def rowOk (rows row : Nat) : Bool := decide (1 ≤ rows) && decide (32 ≤ row ∧ row % 32 = 0)
/-- Slots of a distaff fill: parts 16 × spindle + slot. -/
def fillParts (w first n base : Nat) : List Nat :=
  ((spmList w).map (fun u => (List.range n).map (fun j => 16 * u + base + first + j))).flatten
def loadParts (w : Nat) : List Nat :=
  if loadKind w = 0 then [] else
  fillParts w (bits w 59 57) (ceilDiv (loadTotal w) 4096) (if loadKind w = 1 then 0 else 8)
/-- Alignment, kinds and combinations (R99): 17h, 24h or 0. -/
def loadStatus (g w : Nat) : Nat :=
  let src := loadSrc w
  let n := spanOf (loadSrcPitch w) (loadRows w) (loadRow w)
  let pkg := regionOf src == .pkg
  let wc := bit w 54
  let scaled := bit w 53
  if ¬ rowOk (loadRows w) (loadRow w) ∨ src % 32 ≠ 0 ∨ bits w 159 128 % 32 ≠ 0 ∨ bits w 95 76 % 32 ≠ 0 then 0x17
  else if sourceStatus g src n ≠ 0 then sourceStatus g src n
  else if wc ∧ ¬ pkg then 0x17
  else if loadKind w = 0 then
    if scaled ∨ bits w 75 57 % 32 ≠ 0
        ∨ ¬ spadFits (bits w 75 57) (spanOf (loadDstPitch w) (loadRows w) (loadRow w)) then 0x17 else 0
  else
    let first := bits w 59 57
    let fits := loadTotal w == 2048 || (loadTotal w % 4096 == 0 && decide (first * 4096 + loadTotal w ≤ 0x8000))
    let own := regionOf src == .spad
    let srcOk := if loadKind w = 1 then own else if wc then pkg else own
    let ss := bits w 207 160
    let sOk := !scaled || (decide (ss % 32 = 0) && decide (loadTotal w ≤ 4096) && decide (first ≤ 6)
      && (if loadKind w = 2 ∧ wc then regionOf ss == .pkg else regionOf ss == .spad && sourceStatus g ss 128 == 0))
    if fits && srcOk && sOk then 0 else 0x17
/-- One row or the scale bytes through the cache or past it: none while a line is awaited. -/
def State.readVia (s : State) (g : Nat) (f : Flight) (da n : Nat) : Option ReadResult :=
  let parts := (pieces da n).map (fun p =>
    match s.placeFor f.pages p.1 with
    | .pkg pa =>
      if bit f.word 54 && entCacheable (s.pageFor f.pages p.1).2 then
        (s.lineGot g f.serial (pa / 256)).map (fun x =>
          if x.status ≠ 0 then (⟨x.status, p.1, []⟩ : ReadResult) else ⟨0, 0, (x.bytes.drop (pa % 256)).take p.2⟩)
      else some (s.readDev f.pages p.1 p.2)
    | _ => some (s.readDev f.pages p.1 p.2))
  if parts.any (·.isNone) then none
  else
    let rs := parts.filterMap id
    match rs.find? (fun r => r.status ≠ 0) with
    | some r => some r
    | none => some ⟨0, 0, (rs.map ReadResult.bytes).flatten⟩
/-- Lines of a range that the caldera's cache may hold, each with the translation that names it. -/
def State.cacheLines (s : State) (held : List (Nat × Nat)) (da n : Nat) : List (Nat × Nat × Nat) :=
  ((pieces da n).filterMap (fun p => match s.placeFor held p.1 with
    | .pkg pa => if entCacheable (s.pageFor held p.1).2 then some (pa / 256, s.pageFor held p.1) else none
    | _ => none)).eraseDups
/-- Lines that a LOAD through the cache reads: its rows, and the scale bytes. -/
def State.loadCacheLines (s : State) (held : List (Nat × Nat)) (w : Nat) : List (Nat × Nat × Nat) :=
  (((List.range (loadRows w)).map (fun i => s.cacheLines held (loadSrc w + i * loadSrcPitch w) (loadRow w))).flatten
    ++ (if bit w 53 then s.cacheLines held (bits w 207 160) 128 else [])).eraseDups
/-- What a LOAD reads past the cache leaves its events behind (R198, R204). -/
def State.loadEvents (s : State) (f : Flight) : State :=
  let w := f.word
  let rs := (List.range (loadRows w)).map (fun i => (loadSrc w + i * loadSrcPitch w, loadRow w))
    ++ (if bit w 53 then [(bits w 207 160, 128)] else [])
  (rs.map (fun r => pieces r.1 r.2)).flatten.foldl (fun s p =>
    if bit w 54 && regionOf p.1 == .pkg && entCacheable (s.pageFor f.pages p.1).2 then s
    else s.readEvents f.pages p.1 p.2) s
/-- All rows of a LOAD. -/
def State.loadRead (s : State) (g : Nat) (f : Flight) : Option ReadResult :=
  let w := f.word
  let rs := (List.range (loadRows w)).map (fun i => s.readVia g f (loadSrc w + i * loadSrcPitch w) (loadRow w))
  let sc := if bit w 53 then [s.readVia g f (bits w 207 160) 128] else []
  if (rs ++ sc).any (·.isNone) then none
  else
    let all := (rs ++ sc).filterMap id
    match all.find? (fun r => r.status ≠ 0) with
    | some r => some r
    | none => some ⟨0, 0, (all.map ReadResult.bytes).flatten⟩
/-- A LOAD asks for its cached lines when it starts. -/
def State.loadLines (s : State) (g : Nat) (f : Flight) : State :=
  if ¬ bit f.word 54 then s else
  (s.loadCacheLines f.pages f.word).foldl (fun s l => s.askLine g f.serial l.1 l.2) s
/-- Lines given to a LOAD are let go when it has its data. -/
def State.loadRelease (s : State) (g : Nat) (f : Flight) : State :=
  if ¬ bit f.word 54 then s else
  s.modCaldera (g / 8) (fun k =>
    { k with delivered := k.delivered.filter (fun e => !(e.skein == g && e.serial == f.serial)) })
/-- Some line given to the LOAD ended with 30h: the fault of its fetch has been raised already. -/
def State.lineFailed (s : State) (g : Nat) (f : Flight) : Bool :=
  (s.caldera (g / 8)).delivered.any (fun e => e.skein == g && e.serial == f.serial && e.status == 0x30)
/-- Rows written to a pitch in the own scratchpad. -/
def State.putRows (s : State) (g dst pitch row : Nat) : Nat → List Byte → State
  | 0, _ => s
  | n + 1, bs => (s.put (spadAt g dst) (bs.take row)).putRows g (dst + pitch) pitch row n (bs.drop row)
/-- A slot becomes present (R79). -/
def State.slotPresent (s : State) (u slot : Nat) : State :=
  s.modSpindle u (fun k => { k with present := if k.present.contains slot then k.present else k.present ++ [slot] })
/-- Local-store address of a slot: A slot n as n, B slot n as 8 + n (R64). -/
def slotAt (u slot : Nat) : Nat := storeBase + u * 0x20000 + slot * 0x1000
/-- An earlier descriptor in flight is still to fill the same part. -/
def State.partTaken (s : State) (g : Nat) (f : Flight) (part : Nat) : Bool :=
  (s.earlier g f.serial).any (fun x => x.left.contains part)
/-- Fills that can proceed: their slots are not present and no earlier fill of them waits (R83). -/
def State.openParts (s : State) (g : Nat) (f : Flight) : List Nat :=
  f.left.filter (fun p => !(s.spindle (4 * g + p / 16)).present.contains (p % 16) && !s.partTaken g f p)
/-- Fills the open parts of a distaff fill; the descriptor completes with its last. -/
def State.fillOpen (s : State) (g : Nat) (f : Flight) (first : Nat) : State :=
  let go := s.openParts g f
  let s := forEach go s (fun s p =>
    let u := 4 * g + p / 16
    let j := p % 16 - first
    let s := s.put (slotAt u (p % 16)) ((f.data.drop (4096 * j)).take 4096)
    let s := if f.scales = [] then s else
      s.put (slotAt u (if p % 16 < 8 then 7 else 15) + 128 * (p % 8)) f.scales
    s.slotPresent u (p % 16))
  let f := { f with left := f.left.filter (fun p => !go.contains p) }
  if f.left = [] then s.complete g f.serial else s.setFlight g f
/-- LOAD without QPOP. A fill waits for its slots, a cached LOAD for its lines; the command can then be given again. -/
def doLoad (g i : Nat) (s : State) : State :=
  match s.flightAt g i 1 with
  | none => s
  | some f =>
    let w := f.word
    if bit w 52 then s
    else if loadStatus g w ≠ 0 then s.fail g f (loadStatus g w)
    else if f.data ≠ [] then s.fillOpen g f (if loadKind w = 1 then bits w 59 57 else 8 + bits w 59 57)
    else
      let s := if f.started then s else (s.loadLines g f).setFlight g { f with started := true }
      match s.loadRead g f with
      | none => s
      | some r =>
        let known := s.lineFailed g f
        let s := (s.loadEvents f).loadRelease g f
        let s := if bit w 54 ∨ regionOf (loadSrc w) = .spad then s else s.bridge g (loadTotal w)
        if known ∧ r.status = 0x30 then (if s.streamLive g then s.setReg (0x2440 + g) 5 r.at_ else s).fail g f 0x30
        else if r.status ≠ 0 then s.failAt g f r.status r.at_
        else if loadKind w = 0 then
          (s.putRows g (bits w 75 57) (loadDstPitch w) (loadRow w) (loadRows w) r.bytes).complete g f.serial
        else
          let f := { f with started := true, data := r.bytes.take (loadTotal w), scales := r.bytes.drop (loadTotal w) }
          (s.setFlight g f).fillOpen g f (if loadKind w = 1 then bits w 59 57 else 8 + bits w 59 57)
/-- A batch entry among entries that skein g popped: the last one says on which frame its stream works (R26, R296). -/
def State.tookBatch (s : State) (g : Nat) (es : List (List Byte)) : State :=
  match es.reverse.find? (fun e => field e 0 1 == 0x20) with
  | some e => s.modSkein g (fun k => { k with batch := some (field e 1 1, field e 8 4) })
  | none => s
/-- LOAD with QPOP: pops ROWS entries (R99). -/
def doLoadQpop (g i : Nat) (s : State) : State :=
  match s.flightAt g i 1 with
  | none => s
  | some f =>
    let w := f.word
    let q := bits w 221 208
    let n := loadRows w
    if ¬ bit w 52 ∨ (s.earlier g f.serial).any (fun x => s.sameStore x.word w) then s
    else if n = 0 ∨ loadRow w ≠ 32 ∨ loadKind w ≠ 0 ∨ bits w 159 128 % 32 ≠ 0 ∨ bit w 53 ∨ bit w 54 ∨ bits w 75 57 % 32 ≠ 0
        ∨ bits w 95 76 % 32 ≠ 0 ∨ ¬ spadFits (bits w 75 57) (spanOf (loadDstPitch w) n 32) then s.fail g f 0x17
    else if s.queuePart q ≠ s.skeinPart g then s.fail g f 0x22
    else if (s.queue q).consumer ≠ g then s.fail g f 0x28
    else if (s.queue q).count < n then s.fail g f 0x27
    else
      let r := s.queuePeek q n
      let k := s.queue q
      let at_ := ringAddr k (k.head + ((List.range n).find? (fun i => (s.readDev [] (ringAddr k (k.head + i)) 32).status != 0)).getD 0)
      let s := (List.range n).foldl (fun s i => s.readEvents [] (ringAddr k (k.head + i)) 32) s
      if r.1 ≠ 0 then s.failAt g f r.1 at_
      else
        let s := ((s.queueDrop q n).bridge g (32 * n)).putRows g (bits w 75 57) (loadDstPitch w) 32 n r.2.flatten
        (s.tookBatch g r.2).complete g f.serial

/-! ### STORE (R100) -/

def storeDst (w : Nat) : Nat := bits w 255 208
def storeRows (w : Nat) : Nat := bits w 175 160
def storeRow (w : Nat) : Nat := bits w 159 144
def storeDstPitch (w : Nat) : Nat := pitchOr (bits w 207 176) (storeRow w)
def storeSrcPitch (w : Nat) : Nat := pitchOr (bits w 143 124) (storeRow w)
def storeSrc (w : Nat) : Nat := bits w 123 105
/-- 17h, 24h, 25h or 0. -/
def storeStatus (w : Nat) : Nat :=
  let n := spanOf (storeSrcPitch w) (storeRows w) (storeRow w)
  if ¬ rowOk (storeRows w) (storeRow w) ∨ storeDst w % 32 ≠ 0 ∨ bits w 207 176 % 32 ≠ 0 ∨ bits w 143 124 % 32 ≠ 0
      ∨ storeSrc w % 32 ≠ 0 ∨ ¬ spadFits (storeSrc w) n then 0x17
  else match regionOf (storeDst w) with
    | .spad => 0x17
    | .lstore => 0x24
    | .unmapped => 0x25
    | _ => 0
/-- Sends one row: package units queue at their channels, other places take it at once. Stops at the first refusal: the state,
the status, and the units queued or the address refused. -/
def State.storeRow (s : State) (g : Nat) (f : Flight) (da : Nat) (bs : List Byte) : State × Nat × Nat :=
  (pieces da bs.length).foldl (fun (r : State × Nat × Nat) p =>
    if r.2.1 ≠ 0 then r
    else
      let b := (bs.drop (p.1 - da)).take p.2
      match r.1.placeFor f.pages p.1 with
      | .pkg pa =>
        if r.1.bankLate pa then (r.1.lateRefusal pa, 0x25, p.1)
        else (r.1.queueWrite (s.skeinPart g) pa (b.map some) (some (g, f.serial)) (s.pageFor f.pages p.1) false, 0,
          r.2.2 + 1)
      | pl => let t := r.1.writePiece pl b; (t.1, t.2, if t.2 = 0 then r.2.2 else p.1)) (s, 0, 0)
/-- STORE: completes when its last byte has landed, and, with DG, has been absorbed. -/
def doStore (g i : Nat) (s : State) : State :=
  match s.flightAt g i 2 with
  | none => s
  | some f =>
    let w := f.word
    if f.started then s
    else if storeStatus w ≠ 0 then s.fail g f (storeStatus w)
    else if bit w 104 ∧ (s.earlier g f.serial).any (fun x => opOf x.word == 0x13 && ctxOf x.word == ctxOf w) then s
    else if bit w 104 ∧ ¬ (s.ctx g (bits w 103 101)).isOpen then s.fail g f 0x19
    else
      let rows := List.range (storeRows w)
      match rows.find? (fun r => s.badRange (spadAt g (storeSrc w + r * storeSrcPitch w)) (storeRow w)) with
      | some r => s.failAt g f 0x30 (spadAt g (storeSrc w + r * storeSrcPitch w))
      | none =>
        let t := rows.foldl (fun (t : State × Nat × Nat) r =>
          if t.2.1 ≠ 0 then t
          else
            let x := t.1.spadRead g (storeSrc w + r * storeSrcPitch w) (storeRow w)
            let u := x.1.storeRow g f (storeDst w + r * storeDstPitch w) (x.2.getD [])
            (u.1, u.2.1, if u.2.1 = 0 then t.2.2 + u.2.2 else u.2.2)) (s, 0, 0)
        if t.2.1 ≠ 0 then t.1.failAt g f t.2.1 t.2.2
        else ((t.1.bridge g (storeRows w * storeRow w)).setFlight g { f with started := true, unacked := t.2.2 }).settle g
/-- One queued write of a STORE has landed; the owner is its skein and serial (R100). -/
def State.storeAck (s : State) (owner : Option (Nat × Nat)) : State :=
  match owner with
  | some (g, n) =>
    (s.modSkein g (fun k => { k with flights := k.flights.map (fun f =>
      if f.serial = n then { f with unacked := f.unacked - 1 } else f) })).settle g
  | none => s

/-! ### PREFETCH_READ (R122, R123) -/

/-- The descriptor bars early work behind it: a FENCE, or a WAIT that is not satisfied. -/
def State.barsEarly (s : State) (g w : Nat) : Bool := opOf w == 0x12 || (opOf w == 0x10 && !s.waitSatisfied g w)
/-- Early fill of the weight cache for LOADs with VIA_WC = 1b whose source no earlier descriptor writes (R122). -/
def State.earlyFill (s : State) (g : Nat) : State :=
  let k := s.skein g
  let before := k.fetched.takeWhile (fun d => !s.barsEarly g d.2)
  if k.flights.any (fun f => s.barsEarly g f.word) then s else
  (before.zipIdx).foldl (fun s d =>
    let w := d.1.2
    if opOf w = 1 ∧ bit w 54 ∧ ¬ bit w 52 ∧ headerStatus w = 0 ∧ loadStatus g w = 0 then
      let older := (k.flights.map Flight.word) ++ (before.take d.2).map (·.2)
      let writes := ((older.map (fun x => s.descRanges g x)).flatten).filter (fun r => r.2.2)
      let own := (s.descRanges g w).filter (fun r => !r.2.2)
      let okPages := (devRanges w).all (fun r => (s.rangeStatus (some (s.skeinPart g)) false r.1 r.2.1).1 == 0)
      if ¬ okPages ∨ own.any (fun r => writes.any (fun x => rangesMeet x r)) then s
      else
        (s.loadCacheLines [] w).foldl (fun s l =>
          if ((s.caldera (g / 8)).line l.1).isSome then s else s.requestLine (g / 8) (s.skeinPart g) l.1 l.2 []) s
    else s) s
/-- One read of up to 8 descriptors into the buffer of 64; a prefetcher that may not fetch looks for early fills alone. -/
def doPrefetchRead (g : Nat) (s : State) : State :=
  let k := s.skein g
  if (s.streamState g ≠ 1 ∧ s.streamState g ≠ 2) ∨ k.abandoned then s
  else if 56 < k.fetched.length ∨ k.fetched.any (fun d => stopsFetch d.2) ∨ k.flights.any (fun f => stopsFetch f.word) then
    s.earlyFill g
  else
    let a := s.nextFetch g
    if regionOf a ≠ .pkg then s.fetchFails g a (if regionOf a = .unmapped then 0x25 else 0x17)
    else
      let st := s.accessStatus (some (s.skeinPart g)) false a
      if st ≠ 0 then s.fetchFails g a st
      else
        let n := Nat.min 8 ((0x200000 - a % 0x200000) / 32)
        let r := s.readDev [] a (32 * n)
        let s := (s.readEvents [] a (32 * n)).bridge g (32 * n)
        if r.status ≠ 0 then s.fetchFails g a r.status
        else
          let ds := takeFetch ((List.range n).map (fun j => (a + 32 * j, leNat ((r.bytes.drop (32 * j)).take 32))))
          ((s.modSkein g (fun k => { k with fetched := k.fetched ++ ds })).syncTag g).earlyFill g

/-! ### DESCRIPTOR_DISPATCH (R95 to R97, R455) -/

/-- Nothing is dispatched past a WAIT, a FENCE, an END, a MATMUL that waits for room or a SIGNAL not yet applied. -/
def blocksDispatch (f : Flight) : Bool :=
  let w := f.word
  opOf w == 0x10 || opOf w == 0x12 || opOf w == 0x1F || opOf w == 3 || (opOf w == 0x11 && !bit w 205)
/-- The first failing translation of a descriptor: status, address, written (R97). -/
def State.translateDesc (s : State) (g w : Nat) : Nat × Nat × Bool :=
  match (devRanges w).find? (fun r => (s.rangeStatus (some (s.skeinPart g)) r.2.2 r.1 r.2.1).1 ≠ 0) with
  | some r => let t := s.rangeStatus (some (s.skeinPart g)) r.2.2 r.1 r.2.1; (t.1, t.2, r.2.2)
  | none => (0, 0, false)
/-- A device range that host requests cannot serve now (R426). -/
def State.hostRefused (s : State) (w : Nat) : Option Nat :=
  if s.hostUp then none else ((devRanges w).find? (fun r => regionOf r.1 == .host)).map (·.1)
/-- Parts outstanding when a descriptor is dispatched. -/
def State.startParts (s : State) (g w : Nat) : List Nat :=
  match opOf w with
  | 0x01 => if bit w 52 then [] else loadParts w
  | 0x04 =>
    let q := geomOf (s.rd (spadAt g (bits w 255 237)) 64)
    if q.mode ≠ 0 then (spmList w).map poolPart else fillParts w (convSlot w) (if elemBits (convFmt w) = 16 then 2 else 1) 0
  | 0x05 => spmList w
  | _ => []
/-- The plane holds the tile that the instruction names, in its mode. -/
def tileFor (t : Option Tile) (i : SpInstr) : Bool :=
  match t with
  | some x => x.live && x.slot == i.bSlot && x.column == i.column && x.fmtB == i.fmtB
  | none => false
def aSlots (i : SpInstr) : List Nat := (List.range (pairSlots i.fmtA)).map (fun j => i.aSlot + j)
def bSlots (i : SpInstr) : List Nat := (List.range (pairSlots i.fmtB)).map (fun j => i.bSlot + j)
/-- Slots are present; B slot n is number 8 + n. -/
def Spindle.aPresent (k : Spindle) (i : SpInstr) : Bool := (aSlots i).all (fun n => k.present.contains n)
def Spindle.bPresent (k : Spindle) (i : SpInstr) : Bool := (bSlots i).all (fun n => k.present.contains (8 + n))
/-- The instruction waits for slots that are not filled: of its A block, or of a B tile that no plane holds. -/
def Spindle.starved (k : Spindle) (i : SpInstr) : Bool :=
  !k.aPresent i || (!tileFor k.active i && !tileFor k.shadow i && !k.bPresent i)
/-- The head drain waits for an instruction that is queued before it. -/
def Spindle.drainStuck (k : Spindle) : Bool :=
  match k.drains with
  | [] => false
  | j :: _ => !j.begun && k.queue.any (fun i => i.set == j.set && decide (i.serial < j.serial))
/-- A descriptor in flight that waits for a slot release, or for a set that a queued instruction is still to write. -/
def State.stuckFlight (s : State) (g : Nat) (f : Flight) : Bool :=
  f.started && f.left != [] &&
    (((opOf f.word == 1 || (opOf f.word == 4 && !usesVector f)) && s.openParts g f == [])
      || (opOf f.word == 5 && f.left.all (fun u => (s.spindle (4 * g + u)).drainStuck)))
/-- 16 descriptors are in flight, each waits for a slot or a set, nothing steps or is on its way, and the head of every queue
waits for slots that no descriptor in flight can fill (R96). -/
def State.deadlocked (s : State) (g : Nat) : Bool :=
  let fl := (s.skein g).flights
  decide (16 ≤ fl.length) && fl.all (s.stuckFlight g)
    && (List.range 4).all (fun u =>
      let k := s.spindle (4 * g + u)
      k.running == none && k.landing == [] && !k.shadowBusy && k.queue.head?.all k.starved)
/-- The breakpoint of 2D10h:07 names this descriptor (R455). -/
def State.breakHit (s : State) (g w : Nat) : Bool :=
  let b := s.reg 0x2D10 7
  bit b 31 && bits b 30 25 == g && bits b 15 0 == tagOf w
/-- A stop in force over calderas `cs` (R451): STOP_TIME, SCOPE, STATE, count; it crosses to each caldera (R222). -/
def State.issueStop (s : State) (cs : List Nat) : State :=
  let scope := cs.foldl (fun n c => n + 2 ^ c) 0
  let s := (((s.setReg 0x2D10 3 1).setReg 0x2D10 4 scope).setReg 0x2D10 5 s.stamp).bump 0x2D10 8
  let s := s.withDbg { s.dbg with untaken := cs }
  forEach cs s (fun s c => s.modCaldera c (fun k => { k with external := k.external ++ [.stop] }))
/-- Status of a CONV that its checks end at dispatch, against the geometry block as it stands then (R135). -/
def State.convDispatch (s : State) (g w : Nat) : Nat :=
  if opOf w ≠ 4 then 0
  else if convPreStatus w ≠ 0 then convPreStatus w
  else if s.badRange (spadAt g (bits w 255 237)) 64 then 0x30
  else convStatus (geomOf (s.rd (spadAt g (bits w 255 237)) 64)) w
/-- The geometry block that a CONV takes at dispatch. -/
def State.geomRead (s : State) (g w : Nat) : State × Option (List Byte) :=
  if opOf w = 4 then s.spadRead g (bits w 255 237) 64 else (s, some [])
/-- A descriptor that may dispatch does so: it enters flight. -/
def State.enterFlight (s : State) (g a w : Nat) (rest : List (Nat × Nat)) : State :=
  let k := s.skein g
  let r := s.geomRead g w
  let f : Flight :=
    { addr := a, word := w, pages := (descPages w).map (fun id => (id, s.entry id)), started := false,
      left := s.startParts g w, data := r.2.getD [], scales := [], unacked := 0, status := 0, xid := 0,
      serial := k.serials }
  let s := r.1.setSkein g { k with fetched := rest, flights := k.flights ++ [f], serials := k.serials + 1 }
  let s := if opOf w = 3 then s else s.setReg (0x2440 + g) 3 (a + 32)
  let s := s.traceSkein 0 0x10 g (tagOf w) (opOf w * 2 ^ 48 + a)
  s.syncTag g
/-- The next descriptor, in no range conflict with those in flight, is translated and checked, and dispatches (R94, R95, R135). -/
def State.dispatchDesc (s : State) (g a w : Nat) (rest : List (Nat × Nat)) : State :=
  let t := s.translateDesc g w
  if t.1 = 0x20 then s.haltStream g a t.2.1 (if t.2.2 then 2 else 1)
  else if t.1 ≠ 0 then (s.setReg (0x2440 + g) 5 t.2.1).endStream g t.1 a (tagOf w)
  else match s.hostRefused w with
    | some da => (s.setReg (0x2440 + g) 5 da).endStream g 0x25 a (tagOf w)
    | none =>
      if s.convDispatch g w = 0x30 then
        ((s.setReg (0x2440 + g) 5 (spadAt g (bits w 255 237))).endStream g 0x30 a (tagOf w)).ramUncorr g
          (spadAt g (bits w 255 237))
      else if s.convDispatch g w ≠ 0 then s.endStream g (s.convDispatch g w) a (tagOf w)
      else s.enterFlight g a w rest
/-- Dispatch of the next descriptor. POSITION stays at a MATMUL until its instructions have entered the queues (R95). -/
def doDescriptorDispatch (g : Nat) (s : State) : State :=
  let k := s.skein g
  if s.streamState g ≠ 1 ∨ k.abandoned ∨ k.flights.any blocksDispatch ∨ (s.caldera (g / 8)).reserved then s
  else if 16 ≤ k.flights.length then
    (if s.deadlocked g then s.endStream g 0x1B (s.reg (0x2440 + g) 3) (s.reg (0x2440 + g) 6) else s)
  else match k.fetched with
    | [] => s
    | (a, w) :: rest =>
      if s.breakHit g w then
        if s.reg 0x2D10 3 ≠ 0 then s
        else (s.setReg 0x2D10 7 (clearBit (s.reg 0x2D10 7) 31)).issueStop (s.partCalderas (s.skeinPart g))
      else if headerStatus w ≠ 0 then s.endStream g (headerStatus w) a (tagOf w)
      else if 32 < (descPages w).length then s.endStream g 0x17 a (tagOf w)
      else if (s.descRanges g w).any (fun r => k.flights.any (fun f => (s.descRanges g f.word).any (fun x => rangesMeet x r)))
      then s
      else s.dispatchDesc g a w rest

/-! ### The commands -/

/-- LOAD (R99). -/
def execLoad (g : SkeinId) (i : Nat) (s : State) : Host.Outcome State Fault Refusal := .next (doLoad g.val i s)
/-- LOAD_QPOP (R99). -/
def execLoadQpop (g : SkeinId) (i : Nat) (s : State) : Host.Outcome State Fault Refusal :=
  .next (doLoadQpop g.val i s)
/-- STORE (R100). -/
def execStore (g : SkeinId) (i : Nat) (s : State) : Host.Outcome State Fault Refusal := .next (doStore g.val i s)
/-- WC_LINE_FETCH_COMPLETE (R191, R193). -/
def execWcLineFetchComplete (c : CalderaId) (s : State) : Host.Outcome State Fault Refusal :=
  .next (doWcLineFetchComplete c.val s)
/-- PREFETCH_READ (R122). -/
def execPrefetchRead (g : SkeinId) (s : State) : Host.Outcome State Fault Refusal := .next (doPrefetchRead g.val s)
/-- DESCRIPTOR_DISPATCH (R95). -/
def execDescriptorDispatch (g : SkeinId) (s : State) : Host.Outcome State Fault Refusal :=
  .next (doDescriptorDispatch g.val s)

end Sys2Proof.Machine
end

