-- ==== Sys2Proof/Machine/Spindle.lean ====
section
/-! DEFINITION. Spindle: the local store as the spindle reads it, MATMUL and DRAIN descriptors, the shadow plane, issue,
the array's steps, landing results and drains (03_spindle.md R64 to R87; R43 to R51, R101, R102, R104). -/
namespace Sys2Proof.Machine

/-! ### Local store and side array (R64, R65, R84) -/

/-- Key of row `i` of accumulator set `q`, and of its upper halves in the side array. -/
def accAt (u q i : Nat) : Nat := storeBase + u * 0x20000 + 0x10000 + q * 0x4000 + 256 * i
def sideAt (u q i : Nat) : Nat := sideBase + u * 0x8000 + q * 0x2000 + 128 * i
/-- A spindle reads its own RAM: corrections are counted and written back. -/
def State.storeRead (s : State) (u a n : Nat) : State × List Byte :=
  let fixed := s.correctedIn a n
  let s := if fixed = [] then s else (s.heal a n).bumpSatBy (0x2D40 + u / 32) (u % 32 + 1) fixed.length
  (s, s.rd a n)
/-- The 64 accumulators of a row: integers, or FP32 encodings. -/
def State.accRow (s : State) (u q i : Nat) (int48 : Bool) : List Int :=
  let lo := unpack (s.rd (accAt u q i) 256) 32 64
  if int48 then
    List.zipWith (fun (l h : Nat) => sgn 48 (h * 2 ^ 32 + l)) lo (unpack (s.rd (sideAt u q i) 128) 16 64)
  else lo.map Int.ofNat
def State.accBad (s : State) (u q i : Nat) (int48 : Bool) : Bool :=
  s.badRange (accAt u q i) 256 || (int48 && s.badRange (sideAt u q i) 128)
/-- Reads a row with its corrections. -/
def State.accRead (s : State) (u q i : Nat) (int48 : Bool) : State :=
  let s := (s.storeRead u (accAt u q i) 256).1
  if int48 then (s.storeRead u (sideAt u q i) 128).1 else s
/-- Writes a row; an FP32 set leaves the side array unused. -/
def State.accWrite (s : State) (u q i : Nat) (int48 : Bool) (vs : List Int) : State :=
  let s := s.put (accAt u q i) ((vs.map (fun v => leBytes 4 (enc 48 v % 2 ^ 32))).flatten)
  if int48 then s.put (sideAt u q i) ((vs.map (fun v => leBytes 2 (enc 48 v / 2 ^ 32))).flatten) else s
/-- Poisons a set and reports the fault of the codeword (R84). -/
def State.poisonSet (s : State) (u q addr : Nat) : State :=
  (s.modSpindle u (fun k => { k with poison := if k.poison.contains q then k.poison else k.poison ++ [q] })).raise 2
    (some (s.skeinPart (u / 4))) u (s.firstBad addr)

/-! ### MATMUL (R101, R102) -/

/-- 12h, 13h or 0. -/
def matmulStatus (w : Nat) : Nat :=
  if 7 < bits w 80 77 ∨ 7 < bits w 76 73 then 0x12
  else if (matmulInstrs w 0 0).all instrOk then 0 else 0x13
/-- Instructions not yet queued, as 16 × spindle + k. -/
def matmulParts (w : Nat) : List Nat :=
  ((spmList w).map (fun u => (List.range (bits w 72 70 + 1)).map (fun k => 16 * u + k))).flatten
/-- Queues one instruction where its queue of four has room, behind those of its spindle before it. -/
def State.queueInstr (s : State) (g : Nat) (f : Flight) (p : Nat) : State × List Nat :=
  let u := 4 * g + p / 16
  if (s.spindle u).queue.length < 4 then
    (s.modSpindle u (fun k => { k with queue := k.queue ++ [matmulInstr f.word f.addr f.serial (p % 16)] }), [])
  else (s, [p])
/-- All instructions of a MATMUL have entered the queues: it is complete, and the sequencer goes past it (R95, R102). -/
def State.matmulDone (s : State) (g : Nat) (f : Flight) : State :=
  let s := if s.streamLive g ∧ s.reg (0x2440 + g) 3 = f.addr then (s.setReg (0x2440 + g) 3 (f.addr + 32)).syncTag g else s
  s.complete g f.serial
/-- MATMUL: all instructions are checked first; those for which there is room enter the queues; the command can be given
again for the rest. -/
def doMatmul (g i : Nat) (s : State) : State :=
  match s.flightAt g i 3 with
  | none => s
  | some f =>
    if matmulStatus f.word ≠ 0 then s.fail g f (matmulStatus f.word)
    else
      let left := if f.started then f.left else matmulParts f.word
      let r := left.foldl (fun (r : State × List Nat) p =>
        let t := r.1.queueInstr g f p
        (t.1, r.2 ++ t.2)) (s, [])
      if r.2 = [] then r.1.matmulDone g f else r.1.setFlight g { f with started := true, left := r.2 }

/-! ### Shadow plane (R70, R73) -/

/-- The first queued instruction whose tile is not in the active plane. -/
def Spindle.wanted (k : Spindle) : Option SpInstr := k.queue.find? (fun i => !tileFor k.active i)
/-- The caldera's array is released no step now: a reserved slot is in progress, or it is stopped (R217, R451). -/
def State.held (s : State) (u : Nat) : Bool := (s.caldera (u / 32)).reserved
/-- SHADOW_LOAD_START: the B tile of the first queued instruction that needs one begins to load. -/
def doShadowLoadStart (u : Nat) (s : State) : State :=
  let k := s.spindle u
  match k.wanted with
  | none => s
  | some i =>
    if k.shadowBusy ∨ tileFor k.shadow i ∨ ¬ k.bPresent i ∨ s.held u ∨ s.oos (u / 32) then s
    else
      let a := slotAt u (8 + i.bSlot)
      let n := 4096 * pairSlots i.fmtB
      let sc := slotAt u 15 + 128 * i.bSlot
      let bad := s.badRange a n || (isBlockCode i.fmtB && s.badRange sc 128)
      let r := s.storeRead u a n
      let t := if isBlockCode i.fmtB then r.1.storeRead u sc 128 else (r.1, [])
      let s := t.1.setSpindle u { k with shadowBusy := true, shadow := some ⟨i.bSlot, i.column, i.fmtB, true, r.2, t.2, bad⟩ }
      if bad then s.raise 2 (some (s.skeinPart (u / 4))) u (s.firstBad a) else s
/-- SHADOW_LOAD_COMPLETE: the load has taken its 64 steps. -/
def doShadowLoadComplete (u : Nat) (s : State) : State :=
  if s.held u then s else s.modSpindle u (fun k => { k with shadowBusy := false })

/-! ### The slot guard (R217) -/

/-- Steps that caldera c can still take before its next reserved slot; none where no slot is reserved. A free-running
caldera counts them at the floor rate of 190 M steps/s. -/
def State.guardLeft (s : State) (c : Nat) : Option Nat :=
  let p := s.calderaPart c
  let ticks := s.reg (0x2310 + p) 4
  let len := ticks / 64
  let n := (s.plan p).tick
  let set := (List.range 64).filter (fun k => bit (s.reg (0x2320 + c) 2) k)
  let left := match set.find? (fun k => decide (n ≤ k * len)) with
    | some k => some (k * len - n)
    | none => (set.head?).map (fun k => ticks + k * len - n)
  if s.reg (0x2310 + p) 2 = 0 then left
  else left.map (fun t => t * s.reg (0x2310 + p) 6 * 190000000 / (ticks * 1000000000 * 65536))
/-- Work of `n` steps ends before the next reserved slot. -/
def State.guardOk (s : State) (u n : Nat) : Bool :=
  match s.guardLeft (u / 32) with
  | some t => decide (n ≤ t)
  | none => true

/-! ### Issue (R74, R75, R83) -/

/-- An earlier drain of the set is still to read rows: queued on the spindle, or not yet begun in the stream. -/
def State.drainBefore (s : State) (u set serial : Nat) : Bool :=
  (s.spindle u).drains.any (fun d => d.set == set && decide (d.serial < serial))
    || (s.skein (u / 4)).flights.any (fun f => opOf f.word == 5 && !f.started && decide (f.serial < serial)
        && bits f.word 193 192 == set && bit (spmOf f.word) (u % 4))
/-- The set carries the tag of the pair's accumulator type. -/
def Spindle.tagOk (k : Spindle) (i : SpInstr) : Bool := k.int48.contains i.set == pairInt i.fmtA i.fmtB
/-- The conditions of R74 for the head instruction, in a caldera in service that is not stopped; the guard stands beside them. -/
def State.issueReady (s : State) (u : Nat) (i : SpInstr) : Bool :=
  let k := s.spindle u
  k.running == none && k.aPresent i && (tileFor k.active i || (tileFor k.shadow i && !k.shadowBusy))
    && !s.drainBefore u i.set i.serial && (i.init || k.tagOk i) && !s.held u && !(s.caldera (u / 32)).stopped
    && !s.oos (u / 32)
/-- Steps of an instruction (R72). -/
def instrSteps (i : SpInstr) : Nat := i.m * pairSteps i.fmtA
/-- Issue: the planes swap where the tile waits in the shadow plane; INIT sets the tag and clears the poison bit. -/
def Spindle.issue (k : Spindle) (i : SpInstr) : Spindle :=
  let k := if tileFor k.active i then k else { k with active := k.shadow, shadow := none }
  let k := { k with queue := k.queue.tail, running := some (i, 0) }
  if i.init then
    { k with poison := k.poison.filter (· != i.set)
             int48 := k.int48.filter (· != i.set) ++ (if pairInt i.fmtA i.fmtB then [i.set] else []) }
  else k
/-- INSTRUCTION_ISSUE. A tag mismatch at the head ends the stream with 14h and leaves the set unchanged, whether or not the
instruction before it is still stepping. -/
def doInstructionIssue (u : Nat) (s : State) : State :=
  let k := s.spindle u
  match k.queue with
  | [] => s
  | i :: rest =>
    if ¬ i.init ∧ ¬ k.tagOk i then
      let s := s.setSpindle u { k with queue := rest }
      (if s.streamLive (u / 4) then s.endStream (u / 4) 0x14 i.addr i.tag else s).settleAbandon (u / 4)
    else if s.issueReady u i ∧ s.guardOk u (instrSteps i) then s.setSpindle u (k.issue i)
    else s

/-! ### A step of the array (R45 to R49, R68, R76, R77) -/

/-- Element of the array: reduction index `kk`, output column `j`, of a tile in its mode (R70). -/
def tileElem (t : Tile) (kk j : Nat) : Nat :=
  if t.column then elemAt t.bytes (elemBits t.fmtB) (j * 64 + kk) else elemAt t.bytes (elemBits t.fmtB) (kk * 64 + j)
/-- Value of output column `j` for K-block `b` of an A row: INT48 sum or FP32 encoding, with flags. -/
def columnSum (i : SpInstr) (t : Tile) (row scaleA : List Byte) (r b j : Nat) : Flagged Int :=
  let ea := fun k => elemAt row (elemBits i.fmtA) (64 * b + k)
  let eb := fun k => tileElem t (64 * b + k) j
  if pairInt i.fmtA i.fmtB ∨ isBlockCode i.fmtA then
    let sum := (List.range 64).foldl (fun (a : Int) k => a + widenInt i.fmtA (ea k) * widenInt i.fmtB (eb k)) 0
    if pairInt i.fmtA i.fmtB then (sum, 0)
    else
      let v := blockValue sum (field scaleA (64 * b + r) 1) (field t.scales (64 * b + j) 1)
      ((v.1 : Int), v.2)
  else
    let v := kTree ((List.range 64).map (fun k => prodF i.fmtA i.fmtB (ea k) (eb k)))
    ((v.1 : Int), v.2)
/-- K-blocks in the order in which they are added (R72, R77). -/
def blockOrder (i : SpInstr) : List Nat :=
  if pairKBlocks i.fmtA i.fmtB = 2 then (if i.descending then [1, 0] else [0, 1]) else [0]
/-- 64 values that the spec leaves open: sums over an uncorrectable operand. -/
def freeRow (n : Nat) (int48 : Bool) : List Int :=
  (List.range 64).map (fun j => if int48 then sgn 48 (Config.freeValue (n + j)) else ((Config.freeValue (n + j) % 2 ^ 32 : Nat) : Int))
/-- The A row `r` is complete: its column sums start on their way to the set. -/
def State.rowDone (s : State) (u : Nat) (i : SpInstr) (r : Nat) : State :=
  let k := s.spindle u
  let int48 := pairInt i.fmtA i.fmtB
  let n := pairRowBytes i.fmtA i.fmtB
  let a := slotAt u i.aSlot + r * n
  let sa := slotAt u 7 + 128 * i.aSlot
  let aBad := s.badRange a n || (isBlockCode i.fmtA && s.badRange sa 128)
  let bBad := (k.active.map Tile.bad).getD false
  let x := s.storeRead u a n
  let y := if isBlockCode i.fmtA then x.1.storeRead u sa 128 else (x.1, [])
  let s := y.1
  let push := fun (s : State) (blocks : List (List Int)) =>
    s.modSpindle u (fun k => { k with landing := k.landing ++ [⟨i.set, r, i.init, int48, blocks, 8, i.serial⟩] })
  if aBad || bBad then
    let s := push (s.withFreeUsed (s.freeUsed + 64)) [freeRow s.freeUsed int48]
    if aBad then s.poisonSet u i.set a
    else s.modSpindle u (fun k => { k with poison := if k.poison.contains i.set then k.poison else k.poison ++ [i.set] })
  else
    match k.active with
    | none => s
    | some t =>
      let vals := (blockOrder i).map (fun b => (List.range 64).map (fun j => columnSum i t x.2 y.2 r b j))
      let fl := (vals.flatten).foldl (fun (n : Nat) v => n ||| v.2) 0
      (push s (vals.map (fun b => b.map (·.1)))).addFlags (u / 4) i.serial fl
/-- Slots released by a retiring instruction; a tile of which a slot is released is never used again (R75, R83). -/
def Spindle.retire (k : Spindle) (i : SpInstr) : Spindle :=
  let gone := (if i.relA then aSlots i else []) ++ (if i.relB then (bSlots i).map (8 + ·) else [])
  let kill := fun (t : Option Tile) => t.map (fun x =>
    if i.relB ∧ (List.range (pairSlots x.fmtB)).any (fun j => (bSlots i).contains (x.slot + j)) then { x with live := false } else x)
  { k with running := none, present := k.present.filter (fun n => !gone.contains n), active := kill k.active,
           shadow := kill k.shadow }
/-- One step of the issued instruction; `true` where one was executed. -/
def State.arrayStep (s : State) (u : Nat) : State × Bool :=
  match (s.spindle u).running with
  | none => (s, false)
  | some (i, n) =>
    let per := pairSteps i.fmtA
    let s := if (n + 1) % per = 0 then s.rowDone u i (n / per) else s
    let s := s.modSpindle u (fun k =>
      if n + 1 < i.m * per then { k with running := some (i, n + 1) } else k.retire i)
    (s, true)

/-! ### Landing (R46, R48, R72, R77) -/

/-- Adds one value to an accumulator. -/
def accAdd (int48 : Bool) (acc v : Int) : Flagged Int :=
  if int48 then sat48 (acc + v) else let r := fpAdd fp32 acc.toNat v.toNat; ((r.1 : Int), r.2)
/-- One row takes the K-block values in their order; where `start`, the first replaces its content. -/
def landRow (int48 start : Bool) (old : List Int) : List (List Int) → List (Flagged Int)
  | [] => old.map (fun v => (v, 0))
  | b :: r =>
    let first := if start then b.map (fun v => ((v, 0) : Flagged Int)) else List.zipWith (accAdd int48) old b
    r.foldl (fun acc blk => List.zipWith (fun (a : Flagged Int) v =>
      let x := accAdd int48 a.1 v; (x.1, x.2 ||| a.2)) acc blk) first
/-- RESULT_LAND: the oldest row due reaches its set. -/
def doResultLand (u : Nat) (s : State) : State :=
  match (s.spindle u).landing with
  | [] => s
  | l :: rest =>
    if l.steps ≠ 0 then s
    else
      let s := s.modSpindle u (fun k => { k with landing := rest })
      let bad := !l.init && s.accBad u l.set l.row l.int48
      let s := if l.init then s else s.accRead u l.set l.row l.int48
      let old := if bad then freeRow s.freeUsed l.int48 else s.accRow u l.set l.row l.int48
      let s := if bad then (s.withFreeUsed (s.freeUsed + 64)).poisonSet u l.set (accAt u l.set l.row) else s
      let vs := landRow l.int48 l.init old l.blocks
      (((s.accWrite u l.set l.row l.int48 (vs.map (·.1))).addFlags (u / 4) l.serial
        (vs.foldl (fun (n : Nat) v => n ||| v.2) 0))).settleAbandon (u / 4)

/-! ### DRAIN (R80, R81, R104) -/

def drainFmt (w : Nat) : Nat := bits w 197 194
def drainRow (fmt : Nat) : Nat := 64 * elemBits fmt / 8
def drainPitch (w : Nat) : Nat := pitchOr (bits w 236 217) (drainRow (drainFmt w))
/-- 12h, 17h, or 0. -/
def drainStatus (w : Nat) : Nat :=
  let fmt := drainFmt w
  let row := drainRow fmt
  let dst := bits w 255 237
  if fmt = 2 ∨ fmt = 3 ∨ 11 < fmt then 0x12
  else if dst % 32 ≠ 0 ∨ bits w 236 217 % 32 ≠ 0 ∨ drainPitch w < row ∨ ¬ inRange (bits w 191 185) 1 64
      ∨ (spmList w).any (fun u => !spadFits (dst + u * 64 * drainPitch w) (spanOf (drainPitch w) (bits w 191 185) row))
      ∨ (¬ bit w 184 ∧ (bits w 216 198 % 16 ≠ 0 ∨ ¬ spadFits (bits w 216 198) 1024)) then 0x17
  else 0
/-- A DRAIN before it in its stream has still to join the order of a spindle that both name (R80). -/
def State.drainOpen (s : State) (g : Nat) (f : Flight) : Bool :=
  (s.earlier g f.serial).any (fun x => opOf x.word == 5 && !x.started && (spmList x.word).any (fun u => bit (spmOf f.word) u))
/-- DRAIN: its parameters pass, and a drain joins the order of each masked spindle, in stream order (R80). -/
def doDrain (g i : Nat) (s : State) : State :=
  match s.flightAt g i 5 with
  | none => s
  | some f =>
    let w := f.word
    if f.started ∨ s.drainOpen g f then s
    else if drainStatus w ≠ 0 then s.fail g f (drainStatus w)
    else if bit w 183 ∧ (s.earlier g f.serial).any (fun x => opOf x.word == 0x13 && ctxOf x.word == ctxOf w) then s
    else if bit w 183 ∧ ¬ (s.ctx g (bits w 182 180)).isOpen then s.fail g f 0x19
    else
      let r := if bit w 184 then (s, some []) else s.spadRead g (bits w 216 198) 1024
      match r.2 with
      | none => s.failAt g f 0x30 (spadAt g (bits w 216 198))
      | some _ =>
        let s := r.1.setFlight g { f with started := true, left := spmList w, unacked := 1 }
        forEach (spmList w) s (fun s u => s.modSpindle (4 * g + u) (fun k =>
          { k with drains := k.drains ++
            [⟨bits w 255 237 + u * 64 * drainPitch w, drainPitch w, bits w 216 198, drainFmt w, bits w 193 192,
              bits w 191 185, bit w 184, f.serial, false, 0, false⟩] }))
/-- The drain's part on a spindle is over, with a status. -/
def State.drainOver (s : State) (u : Nat) (j : DrainJob) (status : Nat) : State :=
  let g := u / 4
  let s := s.modSpindle u (fun k => { k with drains := k.drains.filter (fun x => x.serial != j.serial) })
  let s := s.modSkein g (fun k => { k with flights := k.flights.map (fun f =>
    if f.serial = j.serial ∧ opOf f.word = 5 then
      { f with left := f.left.filter (· != u % 4), status := if f.status = 0 then status else f.status } else f) })
  s.settle g
/-- The format checks of the drain's descriptor are still to be made. -/
def State.drainUnchecked (s : State) (u : Nat) (j : DrainJob) : Bool :=
  (s.skein (u / 4)).flights.any (fun f => f.serial == j.serial && f.unacked != 0)
/-- Spindles on which the descriptor's drain waits or runs. -/
def State.drainUnits (s : State) (u : Nat) (j : DrainJob) : List Nat :=
  ((List.range 4).map (fun i => 4 * (u / 4) + i)).filter (fun v => (s.spindle v).drains.any (fun x => x.serial == j.serial))
/-- An instruction before the drain on its set is still queued. -/
def Spindle.setAwaited (k : Spindle) (j : DrainJob) : Bool :=
  k.queue.any (fun i => i.set == j.set && decide (i.serial < j.serial))
/-- Tag, OUT_FMT and every record agree (R53, R104). -/
def State.drainAgrees (s : State) (u : Nat) (j : DrainJob) : Bool :=
  let int48 := (s.spindle u).int48.contains j.set
  if j.raw then j.fmt == (if int48 then 11 else 8)
  else (List.range 64).all (fun c => reqOk int48 j.fmt (s.rdLe (spadAt (u / 4) (j.recs + 16 * c)) 16))
/-- The head drain may begin but for the guard (R80). The first of a descriptor to begin makes the checks for all its spindles,
so the tag of each set must be final: no instruction before it is queued on any of them. -/
def State.drainReady (s : State) (u : Nat) (j : DrainJob) : Bool :=
  let k := s.spindle u
  let before := fun (i : SpInstr) => i.set == j.set && decide (i.serial < j.serial)
  !j.begun && !k.setAwaited j && !k.running.any (fun r => before r.1) && !k.landing.any (fun l => l.set == j.set)
    && !s.held u && !(s.caldera (u / 32)).stopped && !s.oos (u / 32)
    && (!s.drainUnchecked u j || (s.drainUnits u j).all (fun v => !(s.spindle v).setAwaited j))
/-- Steps of a drain (R80). -/
def drainSteps (j : DrainJob) : Nat := if j.raw && j.fmt == 11 then 2 * j.m else j.m
/-- A DRAIN whose checks fail ends with 15h on all its spindles, and writes nothing (R53, R81). -/
def State.drainRefused (s : State) (u : Nat) (j : DrainJob) : State :=
  match (s.skein (u / 4)).flights.find? (fun f => f.serial == j.serial) with
  | some f => (forEach (s.drainUnits u j) s (fun s v =>
      s.modSpindle v (fun k => { k with drains := k.drains.filter (fun x => x.serial != j.serial) }))).fail (u / 4) f 0x15
  | none => s
/-- The checks of the drain's descriptor are made. -/
def State.drainChecked (s : State) (u : Nat) (j : DrainJob) : State :=
  s.modSkein (u / 4) (fun k => { k with flights := k.flights.map (fun f =>
    if f.serial = j.serial then { f with unacked := 0 } else f) })
/-- DRAIN_BEGIN: every earlier result on the set has landed; the format checks of the whole descriptor come before the poison
bit of the spindle's set (R81). -/
def doDrainBegin (u : Nat) (s : State) : State :=
  let k := s.spindle u
  match k.drains with
  | [] => s
  | j :: rest =>
    if ¬ s.drainReady u j ∨ ¬ s.guardOk u (drainSteps j) then s
    else if s.drainUnchecked u j ∧ ¬ (s.drainUnits u j).all (fun v => s.drainAgrees v j) then s.drainRefused u j
    else
      let s := s.drainChecked u j
      if k.poison.contains j.set then s.drainOver u j 0x30
      else s.setSpindle u { k with drains := { j with begun := true } :: rest }
/-- Output bytes of a row. -/
def State.drainOut (s : State) (u : Nat) (j : DrainJob) (int48 : Bool) : List Byte × Nat :=
  let vs := s.accRow u j.set j.row int48
  if j.raw then ((vs.map (fun v => leBytes (if int48 then 8 else 4) (enc 64 v))).flatten, 0)
  else
    let os := (vs.zipIdx).map (fun v => requant int48 j.fmt (s.rdLe (spadAt (u / 4) (j.recs + 16 * v.2)) 16) v.1)
    (packElems (elemBits j.fmt) (os.map (·.1)), os.foldl (fun (n : Nat) o => n ||| o.2) 0)
/-- One step of the drain in progress: a row each step, or each second step where the output is raw INT48. -/
def State.drainStep (s : State) (u : Nat) : State :=
  match (s.spindle u).drains with
  | [] => s
  | j :: rest =>
    let int48 := (s.spindle u).int48.contains j.set
    if ¬ j.begun then s
    else if j.raw ∧ j.fmt = 11 ∧ ¬ j.half then
      s.modSpindle u (fun k => { k with drains := { j with half := true } :: rest })
    else if s.accBad u j.set j.row int48 then (s.poisonSet u j.set (accAt u j.set j.row)).drainOver u j 0x30
    else
      let s := s.accRead u j.set j.row int48
      let o := s.drainOut u j int48
      let s := (s.put (spadAt (u / 4) (j.dst + j.row * j.pitch)) o.1).addFlags (u / 4) j.serial o.2
      if j.row + 1 = j.m then s.drainOver u j 0
      else s.modSpindle u (fun k => { k with drains := { j with row := j.row + 1, half := false } :: rest })

/-! ### One step of a caldera (R76, R462) -/

/-- Results on their way come one step nearer. -/
def State.landStep (s : State) (u : Nat) : State :=
  if (s.spindle u).landing = [] then s else
  s.modSpindle u (fun k => { k with landing := k.landing.map (fun l => { l with steps := l.steps - 1 }) })
/-- The array, the drain paths and the results of the 32 spindles take one step; the counters follow. -/
def State.calderaStep (s : State) (c : Nat) : State :=
  let us := (List.range 32).map (fun i => 32 * c + i)
  let s := forEach us s State.landStep
  let r := us.foldl (fun (r : State × Nat) u => let t := r.1.arrayStep u; (t.1, r.2 + b2n t.2)) (s, 0)
  let s := (forEach us r.1 State.drainStep).bump (0x2320 + c) 4
  let s := if r.2 = 0 then s else (s.bump (0x2D40 + c) 0x29).bumpBy (0x2D40 + c) 0x2A r.2
  forEach ((List.range 8).map (fun i => 8 * c + i)) s State.settle

/-! ### Status words (R86, R87) -/

/-- WAIT of the head instruction. -/
def State.spindleWait (s : State) (u : Nat) : Nat :=
  let k := s.spindle u
  match k.queue with
  | [] => 0
  | i :: _ =>
    if k.running ≠ none ∨ (¬ i.init ∧ ¬ k.tagOk i) then 0
    else if ¬ k.aPresent i ∨ (¬ tileFor k.active i ∧ ¬ tileFor k.shadow i ∧ ¬ k.bPresent i) then 1
    else if ¬ tileFor k.active i ∧ (k.shadowBusy ∨ ¬ tileFor k.shadow i) then 2
    else if s.drainBefore u i.set i.serial then 3
    else if s.held u ∨ ¬ s.guardOk u (instrSteps i) then 5
    else 0
/-- The status word of a spindle. -/
def State.spindleWord (s : State) (u : Nat) : Nat :=
  let k := s.spindle u
  let mask := fun (l : List Nat) => (List.range 4).foldl (fun n q => n + b2n (l.contains q) * 2 ^ q) 0
  let wait := s.spindleWait u
  let st := if k.running ≠ none then 2 else if k.queue = [] then 0
    else if (s.caldera (u / 32)).stopped ∧ wait ≠ 5 then 3 else 1
  mask k.poison * 2 ^ 16 + mask k.int48 * 2 ^ 12 + k.queue.length * 2 ^ 9 + b2n k.shadowBusy * 2 ^ 8 + wait * 2 ^ 4
    + b2n (s.oos (u / 32)) * 8 + b2n ((k.active.map Tile.column).getD false) * 4 + st

/-! ### The commands -/

/-- MATMUL (R102). -/
def execMatmul (g : SkeinId) (i : Nat) (s : State) : Host.Outcome State Fault Refusal := .next (doMatmul g.val i s)
/-- DRAIN (R104). -/
def execDrain (g : SkeinId) (i : Nat) (s : State) : Host.Outcome State Fault Refusal := .next (doDrain g.val i s)
/-- SHADOW_LOAD_START (R73). -/
def execShadowLoadStart (u : SpindleId) (s : State) : Host.Outcome State Fault Refusal :=
  .next (doShadowLoadStart u.val s)
/-- SHADOW_LOAD_COMPLETE (R73). -/
def execShadowLoadComplete (u : SpindleId) (s : State) : Host.Outcome State Fault Refusal :=
  .next (doShadowLoadComplete u.val s)
/-- INSTRUCTION_ISSUE (R74). -/
def execInstructionIssue (u : SpindleId) (s : State) : Host.Outcome State Fault Refusal :=
  .next (doInstructionIssue u.val s)
/-- RESULT_LAND (R77). -/
def execResultLand (u : SpindleId) (s : State) : Host.Outcome State Fault Refusal := .next (doResultLand u.val s)
/-- DRAIN_BEGIN (R80). -/
def execDrainBegin (u : SpindleId) (s : State) : Host.Outcome State Fault Refusal := .next (doDrainBegin u.val s)

end Sys2Proof.Machine
end

