-- ==== Sys2Proof/Machine/Vector.lean ====
section
/-! DEFINITION. Vector: the vector unit's ELTWISE, REDUCE and TABLE (R57 to R61, R105 to R109), and the convolution
address generator: unrolled fills and pooling (R103, R134 to R151). -/
namespace Sys2Proof.Machine

/-! ### Order in the vector unit (R95, R109, R151) -/

/-- The vector unit is this descriptor's: no earlier one uses it, and no reserved slot holds its steps (R217). -/
def State.vectorFree (s : State) (g : Nat) (f : Flight) : Bool :=
  !(s.earlier g f.serial).any usesVector && !(s.caldera (g / 8)).reserved

/-! ### ELTWISE (R57, R105 to R107) -/

/-- 12h or 0 (R107). -/
def eltFmtStatus (w : Nat) : Nat :=
  let a := bits w 174 171
  let b := bits w 170 167
  let d := bits w 166 163
  let op := bits w 162 155
  let lane := fun f => isIntCode f || isFpCode f
  if op = 7 ∨ op = 8 then (if lane a ∧ lane d then 0 else 0x12)
  else if isIntCode a ∧ isIntCode b ∧ isIntCode d then 0
  else if isFpCode a ∧ isFpCode b ∧ isFpCode d ∧ op ≠ 6 then 0
  else 0x12
/-- Bytes of `n` elements of a format. -/
def spanBytes (fmt n : Nat) : Nat := (n * elemBits fmt + 7) / 8
def eltUsesB (w : Nat) : Bool := !bit w 154 && decide (bits w 162 155 ≤ 6)
/-- Two scratchpad ranges overlap without starting together. -/
def skewed (a n b m : Nat) : Bool := decide (a ≠ b) && decide (a < b + m ∧ b < a + n)
/-- 12h, 17h or 0. -/
def eltStatus (w : Nat) : Nat :=
  let n := bits w 198 175
  let a := bits w 255 237
  let b := bits w 236 218
  let d := bits w 217 199
  let na := spanBytes (bits w 174 171) n
  let nb := spanBytes (bits w 170 167) n
  let nd := spanBytes (bits w 166 163) n
  if eltFmtStatus w ≠ 0 then eltFmtStatus w
  else if n = 0 ∨ a % 32 ≠ 0 ∨ d % 32 ≠ 0 ∨ ¬ spadFits a na ∨ ¬ spadFits d nd
      ∨ (eltUsesB w ∧ (b % 32 ≠ 0 ∨ ¬ spadFits b nb))
      ∨ skewed d nd a na ∨ (eltUsesB w ∧ skewed d nd b nb) then 0x17
  else 0
/-- Saturating integer lane operation. -/
def intLane (op : Nat) (mode : Nat) (a b d : Int) : Flagged Int :=
  match op with
  | 0 => sat32 (a + b)
  | 1 => sat32 (a - b)
  | 2 => sat32 (a * b)
  | 3 => let p := sat32 (a * b); let q := sat32 (p.1 + d); (q.1, q.2 ||| p.2)
  | 4 => (min a b, 0)
  | 5 => (max a b, 0)
  | _ => (roundShift a (clampI 0 31 b).toNat mode, 0)
/-- FP32 lane operation. -/
def fpLane (op a b d : Nat) : Flagged Nat :=
  match op with
  | 0 => fpAdd fp32 a b
  | 1 => fpSub fp32 a b
  | 2 => fpMul fp32 a b
  | 3 => fpFma fp32 a b d
  | 4 => (fpMin fp32 a b, 0)
  | _ => (fpMaxOp fp32 a b, 0)
/-- An element of any lane format as FP32: exact, or the exact integer rounded once (R57, R60). -/
def toFp32 (fmt v : Nat) : Flagged Nat :=
  if isFpCode fmt then (widenFp fmt v, 0) else cvtFromInt 8 (widenInt fmt v)
/-- An FP32 result of a lane stored in FMT_D: FP32 as it is, infinities included, a narrower format under R56 with OVF = 0,
an integer format under R54 (R57). -/
def laneStore (fd mode a : Nat) : Flagged Nat := cvtFromFp32 fd mode (fd == 8) a
/-- One element of CVT. -/
def cvtElem (fa fd mode v : Nat) : Flagged Nat :=
  if isFpCode fa then laneStore fd mode (widenFp fa v) else cvtFromInt fd (widenInt fa v)
/-- One result element of an ELTWISE in FMT_D from raw elements. -/
def eltElem (w : Nat) (table : List Byte) (a b d : Nat) : Flagged Nat :=
  let fa := bits w 174 171
  let fb := bits w 170 167
  let fd := bits w 166 163
  let op := bits w 162 155
  let mode := bits w 153 152
  if op = 7 then cvtElem fa fd mode a
  else if op = 8 then
    let x := toFp32 fa a
    let y := tableEval table x.1
    let z := laneStore fd mode y.1
    (z.1, x.2 ||| y.2 ||| z.2)
  else if isIntCode fa then
    let bv := if bit w 154 then sgn 32 b else widenInt fb b
    let r := intLane op mode (widenInt fa a) bv (widenInt fd d)
    let o := cvtFromInt fd r.1
    (o.1, r.2 ||| o.2)
  else
    let bv := if bit w 154 then b else widenFp fb b
    let r := fpLane op (widenFp fa a) bv (widenFp fd d)
    let o := laneStore fd mode r.1
    (o.1, r.2 ||| o.2)
/-- Elements `[lo, lo + n)` of an operand in the own scratchpad. -/
def State.elems (s : State) (g off fmt lo n : Nat) : List Nat :=
  unpack (s.rd (spadAt g (off + lo * elemBits fmt / 8)) (spanBytes fmt n)) (elemBits fmt) n
/-- One vector of up to 256 elements is read, computed and written. -/
def State.eltVector (s : State) (g w serial lo n : Nat) : State :=
  let as := s.elems g (bits w 255 237) (bits w 174 171) lo n
  let bs := if eltUsesB w then s.elems g (bits w 236 218) (bits w 170 167) lo n else List.replicate n (bits w 148 117)
  let ds := s.elems g (bits w 217 199) (bits w 166 163) lo n
  let t := tblGet [] (s.skein g).tables (bits w 151 149)
  let os := (List.zip as (List.zip bs ds)).map (fun x => eltElem w t x.1 x.2.1 x.2.2)
  let fd := bits w 166 163
  (s.put (spadAt g (bits w 217 199 + lo * elemBits fd / 8)) (packElems (elemBits fd) (os.map (·.1)))).addFlags g serial
    (os.foldl (fun (n : Nat) o => n ||| o.2) 0)
/-- Source ranges of an ELTWISE: SRC_A, SRC_B where used, DST for FMA. -/
def eltSources (w : Nat) : List (Nat × Nat) :=
  let n := bits w 198 175
  [(bits w 255 237, spanBytes (bits w 174 171) n)]
    ++ (if eltUsesB w then [(bits w 236 218, spanBytes (bits w 170 167) n)] else [])
    ++ (if bits w 162 155 = 3 then [(bits w 217 199, spanBytes (bits w 166 163) n)] else [])
/-- Reads ranges of the own scratchpad for their code: the first uncorrectable one, and the corrections. -/
def State.checkSources (s : State) (g : Nat) (rs : List (Nat × Nat)) : State × Option Nat :=
  match rs.find? (fun r => s.badRange (spadAt g r.1) r.2) with
  | some r => (s, some (spadAt g r.1))
  | none => (rs.foldl (fun s r => (s.spadRead g r.1 r.2).1) s, none)
/-- ELTWISE of one operation (R105 to R107). -/
def doEltwise (op g i : Nat) (s : State) : State :=
  match s.flightAt g i 6 with
  | none => s
  | some f =>
    let w := f.word
    let n := bits w 198 175
    if bits w 162 155 ≠ op ∨ ¬ s.vectorFree g f then s
    else if eltStatus w ≠ 0 then s.fail g f (eltStatus w)
    else if op = 8 ∧ tblGet [] (s.skein g).tables (bits w 151 149) = [] then s.fail g f 0x16
    else
      let r := s.checkSources g (eltSources w)
      match r.2 with
      | some a => r.1.failAt g f 0x30 a
      | none =>
        (forEach (List.range (ceilDiv n 256)) r.1 (fun s v =>
          s.eltVector g w f.serial (256 * v) (Nat.min 256 (n - 256 * v)))).complete g f.serial

/-! ### REDUCE and TABLE (R58, R108, R109) -/

def reduceStatus (w : Nat) : Nat :=
  let fi := bits w 201 198
  let fo := bits w 197 194
  let n := 256 * bits w 217 202
  if ¬ ((isIntCode fi ∧ isIntCode fo) ∨ (isFpCode fi ∧ isFpCode fo)) then 0x12
  else if n = 0 ∨ bits w 255 237 % 32 ≠ 0 ∨ bits w 236 218 % 32 ≠ 0 ∨ ¬ spadFits (bits w 255 237) (spanBytes fi n)
      ∨ ¬ spadFits (bits w 236 218) (spanBytes fo (if bit w 191 then 256 else 1)) then 0x17
  else 0
/-- Combines two integers of a reduction, or two FP32 encodings. -/
def reduceInt (rop : Nat) (a b : Flagged Int) : Flagged Int :=
  if rop = 0 then let r := sat48 (a.1 + b.1); (r.1, r.2 ||| a.2 ||| b.2)
  else if rop = 1 then (max a.1 b.1, a.2 ||| b.2) else (min a.1 b.1, a.2 ||| b.2)
def reduceFp (rop : Nat) (a b : Flagged Nat) : Flagged Nat :=
  if rop = 0 then addF a b
  else if rop = 1 then (fpMaxOp fp32 a.1 b.1, a.2 ||| b.2) else (fpMin fp32 a.1 b.1, a.2 ||| b.2)
/-- Vectors combined one at a time; without AXIS each vector is first reduced by the tree of eight levels. -/
def reduceAll {α : Type} (f : α → α → α) (axis : Bool) (vs : List (List α)) : List α :=
  let vs := if axis then vs else vs.map (tree f 8)
  match vs with
  | [] => []
  | v :: r => r.foldl (fun acc x => List.zipWith f acc x) v
/-- Result elements in FMT_OUT. -/
def reduceOut (w : Nat) (xs : List Nat) : List (Flagged Nat) :=
  let fi := bits w 201 198
  let fo := bits w 197 194
  let vec := fun (v : Nat) => (xs.drop (256 * v)).take 256
  if isIntCode fi then
    (reduceAll (reduceInt (bits w 193 192)) (bit w 191)
      ((List.range (bits w 217 202)).map (fun v => (vec v).map (fun x => ((widenInt fi x, 0) : Flagged Int))))).map
      (fun r => let o := cvtFromInt fo r.1; (o.1, o.2 ||| r.2))
  else
    (reduceAll (reduceFp (bits w 193 192)) (bit w 191)
      ((List.range (bits w 217 202)).map (fun v => (vec v).map (fun x => ((widenFp fi x, 0) : Flagged Nat))))).map
      (fun r => let o := cvtFromFp32 fo 0 false r.1; (o.1, o.2 ||| r.2))
/-- REDUCE of one ROP. -/
def doReduce (rop g i : Nat) (s : State) : State :=
  match s.flightAt g i 7 with
  | none => s
  | some f =>
    let w := f.word
    let n := 256 * bits w 217 202
    if bits w 193 192 ≠ rop ∨ ¬ s.vectorFree g f then s
    else if reduceStatus w ≠ 0 then s.fail g f (reduceStatus w)
    else
      let r := s.checkSources g [(bits w 255 237, spanBytes (bits w 201 198) n)]
      match r.2 with
      | some a => r.1.failAt g f 0x30 a
      | none =>
        let s := r.1
        let os := reduceOut w (s.elems g (bits w 255 237) (bits w 201 198) 0 n)
        ((s.put (spadAt g (bits w 236 218)) (packElems (elemBits (bits w 197 194)) (os.map (·.1)))).addFlags g f.serial
          (os.foldl (fun (n : Nat) o => n ||| o.2) 0)).complete g f.serial
/-- TABLE: a table that breaks R59 is refused with 16h and the slot keeps its contents. -/
def doTable (g i : Nat) (s : State) : State :=
  match s.flightAt g i 8 with
  | none => s
  | some f =>
    let src := bits f.word 255 237
    if ¬ s.vectorFree g f then s
    else if src % 32 ≠ 0 ∨ ¬ spadFits src 384 then s.fail g f 0x17
    else
      let r := s.spadRead g src 384
      match r.2 with
      | none => r.1.failAt g f 0x30 (spadAt g src)
      | some t =>
        if ¬ tableOk t then r.1.fail g f 0x16
        else (r.1.modSkein g (fun k => { k with tables := tblPut [] k.tables (bits f.word 236 234) t })).complete g f.serial

/-! ### Unrolled fills (R137 to R142, R151) -/

/-- Offset of a held pixel. -/
def pixelAt (q : Geom) (w : Nat) (p : Int × Int) : Nat :=
  convSrc w + (p.1 - q.regY0).toNat * q.rowPitch + (p.2 - q.regX0).toNat * q.pixPitch
/-- Tap and channel of reduction index κ, with the pixel, for output (oy, ox); none at K or above. -/
def kappaAt (q : Geom) (o : Nat × Nat) (k : Nat) : Option ((Int × Int) × Nat) :=
  if geomK q ≤ k then none
  else
    let t := k / q.c
    some (geomPixel q o.1 o.2 (q.ty0 + t / q.tw) (q.tx0 + t % q.tw), k % q.c)
/-- Element κ of an A row, as raw bits: zero at K or above, PAD outside the map (R138, R139). -/
def State.convElem (s : State) (g : Nat) (q : Geom) (w : Nat) (o : Nat × Nat) (k : Nat) : Nat :=
  match kappaAt q o k with
  | none => 0
  | some (p, c) =>
    if pixelInMap q p then
      let b := elemBits (convFmt w)
      elemAt (s.rd (spadAt g (pixelAt q w p + c * b / 8)) (max 1 (b / 8))) b (if b = 4 then c % 2 else 0)
    else q.pad
/-- Scale byte of K-block index `kb` for an output (R142). -/
def scaleAt (q : Geom) (o : Nat × Nat) (kb : Nat) : Option Nat :=
  match kappaAt q o (64 * kb) with
  | none => none
  | some (p, c) =>
    if pixelInMap q p then
      some (q.scaleOff + (p.1 - q.regY0).toNat * q.scalePitch + (p.2 - q.regX0).toNat * (q.c / 64) + c / 64)
    else none
/-- Scratchpad bytes that an A row reads. -/
def rowReads (q : Geom) (w : Nat) (o : Nat × Nat) : List (Nat × Nat) :=
  let b := elemBits (convFmt w)
  ((List.range (geomTileK q)).filterMap (fun j =>
    match kappaAt q o (64 * convKb w + j) with
    | some (p, c) => if pixelInMap q p then some (pixelAt q w p + c * b / 8, max 1 (b / 8)) else none
    | none => none))
  ++ (if isBlockCode (convFmt w) then
        (List.range (geomTileK q / 64)).filterMap (fun b => (scaleAt q o (convKb w + b)).map (fun a => (a, 1)))
      else [])
/-- The bytes of an A row (R141). -/
def State.convRow (s : State) (g : Nat) (q : Geom) (w : Nat) (o : Nat × Nat) : List Byte :=
  packElems (elemBits (convFmt w)) ((List.range (geomTileK q)).map (fun j => s.convElem g q w o (64 * convKb w + j)))
/-- Row `r` of spindle `u`'s block is read and written: its scale bytes go to slot 7 (R142). -/
def State.convFill (s : State) (g : Nat) (q : Geom) (w u r : Nat) : State :=
  let o := geomOut q (convFirst w u + r)
  let n := convRowBytes (convFmt w) q.tileK
  let bs := s.convRow g q w o
  let s := if s.flips = [] then s else (rowReads q w o).foldl (fun s x => (s.spadRead g x.1 x.2).1) s
  let s := s.put (slotAt (4 * g + u) (convSlot w) + r * n) bs
  if isBlockCode (convFmt w) then
    forEach (List.range (geomTileK q / 64)) s (fun s b =>
      let x : Byte := match scaleAt q o (convKb w + b) with
        | some a => s.byteAt (spadAt g a)
        | none => 0x7F
      s.put (slotAt (4 * g + u) 7 + 128 * convSlot w + 64 * b + r) [x])
  else s
/-- Rows that fall in part `p` (16 × spindle + slot). -/
def convPartRows (q : Geom) (w p : Nat) : List Nat :=
  let per := Nat.min 64 (4096 / convRowBytes (convFmt w) q.tileK)
  let lo := (p % 16 - convSlot w) * per
  (List.range (Nat.min (convRows w) (lo + per) - lo)).map (fun r => lo + r)
/-- Fills the open parts in turn; the first uncorrectable row ends the stream with 30h and its slot stays absent. -/
def State.convParts (s : State) (g : Nat) (f : Flight) (q : Geom) : List Nat → State
  | [] =>
    match (s.skein g).flights.find? (fun x => x.serial == f.serial) with
    | some x => if x.left = [] then s.complete g f.serial else s
    | none => s
  | p :: rest =>
    let u := p / 16
    let rows := convPartRows q f.word p
    let bad := fun r => (rowReads q f.word (geomOut q (convFirst f.word u + r))).any (fun x => s.badRange (spadAt g x.1) x.2)
    match (if s.flips = [] then none else rows.find? bad) with
    | some r =>
      let s := (rows.takeWhile (fun x => x != r)).foldl (fun s x => s.convFill g q f.word u x) s
      let a := (((rowReads q f.word (geomOut q (convFirst f.word u + r))).find? (fun x => s.badRange (spadAt g x.1) x.2)).map
        (·.1)).getD 0
      s.failAt g f 0x30 (spadAt g a)
    | none =>
      let s := rows.foldl (fun s x => s.convFill g q f.word u x) s
      let s := s.slotPresent (4 * g + u) (p % 16)
      let s := s.modSkein g (fun k => { k with flights := k.flights.map (fun x =>
        if x.serial = f.serial then { x with started := true, left := x.left.filter (· != p) } else x) })
      s.convParts g f q rest
/-- UNROLL: fills the slots that are free; the command can be given again for the others (R83). Its checks were made, and its
geometry block read, at its dispatch (R135). -/
def doUnroll (g i : Nat) (s : State) : State :=
  match s.flightAt g i 4 with
  | none => s
  | some f =>
    if (geomOf f.data).mode ≠ 0 ∨ (s.caldera (g / 8)).reserved then s
    else (s.setFlight g { f with started := true }).convParts g { f with started := true } (geomOf f.data) (s.openParts g f)

/-! ### Pooling (R147 to R149) -/

/-- Padding value of a pooling mode, as raw bits of the input format (R139). -/
def poolPad (fmt pad : Nat) : Nat :=
  if fmt = 10 then enc 32 (sgn 16 pad) else if fmt = 8 then pad * 2 ^ 16 else pad
/-- Taps of an output: pixel, and whether it lies in the map. -/
def poolTaps (q : Geom) (o : Nat × Nat) : List ((Int × Int) × Bool) :=
  (geomTaps q).map (fun t => let p := geomPixel q o.1 o.2 t.1 t.2; (p, pixelInMap q p))
/-- Exact quotient rounded in a mode of R54. -/
def divRound (a : Int) (m mode : Nat) : Int :=
  let d : Int := m
  let n := a / d
  let r := a % d
  if mode = 0 then (if d < 2 * r ∨ (2 * r = d ∧ n % 2 = 1) then n + 1 else n)
  else if mode = 1 then (if d < 2 * r ∨ (2 * r = d ∧ 0 ≤ a) then n + 1 else n)
  else if mode = 2 then (if a < 0 ∧ r ≠ 0 then n + 1 else n)
  else n
/-- One lane: the values of the taps taking part, as raw bits of FMT (R149). -/
def poolLane (q : Geom) (fmt : Nat) (vs : List Nat) : Flagged Nat :=
  let out := q.poolFmt
  if isIntCode fmt then
    match vs with
    | [] => cvtFromInt out (widenInt fmt (poolPad fmt q.pad))
    | v :: r =>
      let xs := r.map (widenInt fmt)
      if q.mode ≤ 2 then cvtFromInt out (xs.foldl max (widenInt fmt v))
      else cvtFromInt out (divRound (xs.foldl (· + ·) (widenInt fmt v)) vs.length (q.poolRound % 4))
  else
    let fin := fun (a : Flagged Nat) => let o := cvtFromFp32 out 0 false a.1; ((o.1, o.2 ||| a.2) : Flagged Nat)
    match vs with
    | [] => fin (widenFp fmt (poolPad fmt q.pad), 0)
    | v :: r =>
      let xs := r.map (fun x => ((widenFp fmt x, 0) : Flagged Nat))
      if q.mode ≤ 2 then fin (xs.foldl (fun a x => (fpMaxOp fp32 a.1 x.1, 0)) (widenFp fmt v, 0))
      else
        let sum := xs.foldl addF (widenFp fmt v, 0)
        let d := fpDiv fp32 sum.1 (cvtFromInt 8 (vs.length : Int)).1
        fin (d.1, d.2 ||| sum.2)
/-- One position: all lanes of the channel group. -/
def State.poolPos (s : State) (g : Nat) (q : Geom) (w : Nat) (o : Nat × Nat) : List (Flagged Nat) :=
  let fmt := convFmt w
  let b := elemBits fmt
  let taps := (poolTaps q o).filter (fun t => t.2 || q.mode == 1 || q.mode == 3)
  (List.range (poolChannels q (convKb w))).map (fun l =>
    let c := 256 * convKb w + l
    poolLane q fmt (taps.map (fun t =>
      if t.2 then elemAt (s.rd (spadAt g (pixelAt q w t.1 + c * b / 8)) (max 1 (b / 8))) b (if b = 4 then c % 2 else 0)
      else poolPad fmt q.pad)))
/-- Scratchpad bytes that a position reads. -/
def poolReads (q : Geom) (w : Nat) (o : Nat × Nat) : List (Nat × Nat) :=
  let b := elemBits (convFmt w)
  ((poolTaps q o).filter (·.2)).map (fun t =>
    (pixelAt q w t.1 + 256 * convKb w * b / 8, (poolChannels q (convKb w) * b + 7) / 8))
/-- Positions of one masked spindle's range, in ascending order. -/
def poolPositions (w u : Nat) : List Nat := (List.range (convRows w)).map (fun r => convFirst w u + r)
/-- Produces position after position; an uncorrectable pixel ends the stream, earlier positions stay. After the last position
the descriptor goes on to its next range, or is complete. -/
def State.poolAll (s : State) (g : Nat) (f : Flight) (q : Geom) : List Nat → State
  | [] => if f.left = [] then s.complete g f.serial else s.setFlight g f
  | p :: rest =>
    let o := geomOut q p
    let r := s.checkSources g (poolReads q f.word o)
    match r.2 with
    | some a => r.1.failAt g f 0x30 a
    | none =>
      let os := r.1.poolPos g q f.word o
      ((r.1.put (spadAt g (poolAt q (convKb f.word) p)) (packElems (elemBits q.poolFmt) (os.map (·.1)))).addFlags g f.serial
        (os.foldl (fun (n : Nat) x => n ||| x.2) 0)).poolAll g f q rest
/-- A pooling CONV of one MODE: its next position range, in ascending spindle. A stopped caldera begins no range (R151). -/
def doPool (mode g i : Nat) (s : State) : State :=
  match s.flightAt g i 4 with
  | none => s
  | some f =>
    if (geomOf f.data).mode ≠ mode ∨ ¬ s.vectorFree g f ∨ (s.caldera (g / 8)).stopped then s
    else match f.left with
      | [] => s.complete g f.serial
      | p :: rest =>
        s.poolAll g { f with started := true, left := rest } (geomOf f.data) (poolPositions f.word (p - poolPart 0))

/-! ### The commands -/

/-- UNROLL (R137). -/
def execUnroll (g : SkeinId) (i : Nat) (s : State) : Host.Outcome State Fault Refusal := .next (doUnroll g.val i s)
/-- MAX_INCL (R149). -/
def execMaxIncl (g : SkeinId) (i : Nat) (s : State) : Host.Outcome State Fault Refusal := .next (doPool 1 g.val i s)
/-- MAX_EXCL (R149). -/
def execMaxExcl (g : SkeinId) (i : Nat) (s : State) : Host.Outcome State Fault Refusal := .next (doPool 2 g.val i s)
/-- AVG_INCL (R149). -/
def execAvgIncl (g : SkeinId) (i : Nat) (s : State) : Host.Outcome State Fault Refusal := .next (doPool 3 g.val i s)
/-- AVG_EXCL (R149). -/
def execAvgExcl (g : SkeinId) (i : Nat) (s : State) : Host.Outcome State Fault Refusal := .next (doPool 4 g.val i s)
/-- ADD (R106). -/
def execAdd (g : SkeinId) (i : Nat) (s : State) : Host.Outcome State Fault Refusal := .next (doEltwise 0 g.val i s)
/-- SUB (R106). -/
def execSub (g : SkeinId) (i : Nat) (s : State) : Host.Outcome State Fault Refusal := .next (doEltwise 1 g.val i s)
/-- MUL (R106). -/
def execMul (g : SkeinId) (i : Nat) (s : State) : Host.Outcome State Fault Refusal := .next (doEltwise 2 g.val i s)
/-- FMA (R106). -/
def execFma (g : SkeinId) (i : Nat) (s : State) : Host.Outcome State Fault Refusal := .next (doEltwise 3 g.val i s)
/-- MIN (R106). -/
def execMin (g : SkeinId) (i : Nat) (s : State) : Host.Outcome State Fault Refusal := .next (doEltwise 4 g.val i s)
/-- MAX (R106). -/
def execMax (g : SkeinId) (i : Nat) (s : State) : Host.Outcome State Fault Refusal := .next (doEltwise 5 g.val i s)
/-- SHR (R106). -/
def execShr (g : SkeinId) (i : Nat) (s : State) : Host.Outcome State Fault Refusal := .next (doEltwise 6 g.val i s)
/-- CVT (R106). -/
def execCvt (g : SkeinId) (i : Nat) (s : State) : Host.Outcome State Fault Refusal := .next (doEltwise 7 g.val i s)
/-- TBL (R106). -/
def execTbl (g : SkeinId) (i : Nat) (s : State) : Host.Outcome State Fault Refusal := .next (doEltwise 8 g.val i s)
/-- REDUCE_SUM (R108). -/
def execReduceSum (g : SkeinId) (i : Nat) (s : State) : Host.Outcome State Fault Refusal :=
  .next (doReduce 0 g.val i s)
/-- REDUCE_MAX (R108). -/
def execReduceMax (g : SkeinId) (i : Nat) (s : State) : Host.Outcome State Fault Refusal :=
  .next (doReduce 1 g.val i s)
/-- REDUCE_MIN (R108). -/
def execReduceMin (g : SkeinId) (i : Nat) (s : State) : Host.Outcome State Fault Refusal :=
  .next (doReduce 2 g.val i s)
/-- TABLE (R109). -/
def execTable (g : SkeinId) (i : Nat) (s : State) : Host.Outcome State Fault Refusal := .next (doTable g.val i s)

end Sys2Proof.Machine
end

