-- ==== Sys2Proof/Machine/Windows.lean ====
section
/-! DEFINITION. Windows: scratchpad windows and remote writes (R119, R183 to R188), SEND within the device and over the
device links (R120, R437), and the sending side of a link end (R434 to R438). -/
namespace Sys2Proof.Machine

/-! ### Sending on a device link (R434 to R436) -/

/-- Own node ID (R445). -/
def State.nodeId (s : State) : Nat := s.reg 0x2E00 1
/-- WRITE and PUSH travel on VC0, all others on VC1. -/
def onVc0 (f : LinkFrame) : Bool := f.type == 1 || f.type == 2
def State.linkUp (s : State) (l : Nat) : Bool := s.reg (0x2E08 + l) 2 == 2
/-- A frame leaves: it takes a SEQ and a credit, and stays in the replay buffer until it is acknowledged. -/
def State.transmit (s : State) (l : Nat) (f : LinkFrame) : State :=
  let k := s.link l
  let f := { f with seq := k.txSeq }
  let k := { k with
    txSeq := (k.txSeq + 1) % 4096, replay := k.replay ++ [(f, 0)]
    credit0 := if onVc0 f then k.credit0 - 1 else k.credit0
    credit1 := if onVc0 f then k.credit1 else k.credit1 - 1 }
  (((s.setLink l k).bump (0x2E08 + l) 5).count 6 l f.payload.length).emit (.frame l f)
/-- A credit of the frame's VC is held and the replay buffer of 32 has room. -/
def Link.canSend (k : Link) (f : LinkFrame) : Bool :=
  decide (k.replay.length < 32) && (if onVc0 f then decide (0 < k.credit0) else decide (0 < k.credit1))
/-- Sends waiting frames in their order, neither VC waiting for the other. -/
def State.pump (s : State) (l : Nat) : State :=
  let r := (s.link l).waiting.foldl (fun (r : State × List LinkFrame) f =>
    if (r.1.link l).canSend f && !r.2.any (fun x => onVc0 x == onVc0 f) then (r.1.transmit l f, r.2)
    else (r.1, r.2 ++ [f])) (s, [])
  r.1.modLink l (fun k => { k with waiting := r.2 })
/-- Queues a frame on a link that is up. -/
def State.linkPush (s : State) (l : Nat) (f : LinkFrame) : State :=
  if ¬ s.linkUp l then s else
  let k := s.link l
  let waits := k.waiting.any (fun x => onVc0 x == onVc0 f) || !k.canSend f
  if waits then (s.setLink l { k with waiting := k.waiting ++ [f] }).bumpSat (0x2E08 + l) 0x0A else s.transmit l f
/-- Link toward a node (R438). -/
def State.routeOf (s : State) (node : Nat) : Option Nat :=
  if s.reg 0x2E00 4 ≠ 4 ∨ s.reg 0x2E00 5 = 2 then none
  else match s.discovery.routes.find? (fun r => r.1 == node) with
    | some r => some r.2
    | none => if s.reg 0x2E00 9 < 4 then some (s.reg 0x2E00 9) else none
/-- RESP to a WRITE or PUSH: its XID, with the status in WIN. -/
def State.respTo (s : State) (f : LinkFrame) (status : Nat) : LinkFrame :=
  { type := 4, flags := 1, seq := 0, dst := f.src, src := s.nodeId, srcPart := f.srcPart, srcSkein := f.dstSkein,
    dstSkein := f.srcSkein, win := status, off := 0, epoch := 0, len := 0, xid := f.xid, payload := [] }

/-! ### A SEND's acknowledgements (R120, R437) -/

/-- Skein or queue number, kind and RSYNC of a SEND. -/
def sendSkein (w : Nat) : Nat := bits w 198 193
def sendNode (w : Nat) : Nat := bits w 212 199
def sendLen (w : Nat) : Nat := bits w 236 213
def State.sendLocal (s : State) (w : Nat) : Bool := sendNode w == 0 || sendNode w == s.nodeId
/-- A SEND all of whose parts are answered ends, or applies RSIG and completes. -/
def State.sendFinish (s : State) (g : Nat) (f : Flight) : State :=
  if f.status ≠ 0 then s.fail g f f.status
  else if bit f.word 133 ∧ s.sendLocal f.word then
    if s.syncPart (bits f.word 150 134) ≠ s.skeinPart g then s.fail g f 0x22
    else (s.syncAdd (bits f.word 150 134) 1).complete g f.serial
  else s.complete g f.serial
/-- One answer to a SEND of skein g. -/
def State.sendAck (s : State) (g xid status : Nat) : State :=
  match (s.skein g).flights.find? (fun f => opOf f.word == 0x16 && f.started && f.xid == xid && decide (0 < f.unacked)) with
  | none => s
  | some f =>
    let f := { f with unacked := f.unacked - 1, status := if f.status = 0 then status else f.status }
    if f.unacked = 0 then (s.setFlight g f).sendFinish g f else s.setFlight g f
/-- The answer to a WRITE or PUSH of skein g crosses to its caldera (R222). One that no SEND waits for is dropped. -/
def State.crossAck (s : State) (g xid status : Nat) : State :=
  if (s.skein g).flights.any (fun f => opOf f.word == 0x16 && f.started && f.xid == xid && decide (0 < f.unacked)) then
    s.modCaldera (g / 8) (fun k => { k with external := k.external ++ [.ack g xid status] })
  else s
/-- Answers a WRITE or PUSH to its origin. -/
def State.respond (s : State) (f : LinkFrame) (status : Nat) : State :=
  if f.src = s.nodeId then s.crossAck f.srcSkein f.xid status
  else match s.routeOf f.src with
    | some l => s.linkPush l (s.respTo f status)
    | none => s
/-- Sends or forwards a frame toward its destination; one that cannot go is answered with 32h (R435, R438). -/
def State.route (s : State) (f : LinkFrame) : State :=
  match s.routeOf f.dst with
  | some l => if s.linkUp l then s.linkPush l f else if onVc0 f then s.respond f 0x32 else s
  | none => if onVc0 f then s.respond f 0x32 else s

/-! ### Windows (R119, R184 to R188) -/

def State.window (s : State) (g w : Nat) : Window := tblGet Window.init (s.skein g).windows w
def State.setWindow (s : State) (g w : Nat) (x : Window) : State :=
  s.modSkein g (fun k => { k with windows := tblPut Window.init k.windows w x })
/-- Status word of a window (R188). -/
def windowWord (x : Window) : Nat :=
  let st := match x.state with
    | .closed => 0
    | .opened => 1
    | .closing => 2
  x.epoch * 2 ^ 48 + st * 2 ^ 46 + x.size * 2 ^ 19 + x.base
/-- Epoch after an opening: FFFFh is followed by 0001h (R186). -/
def nextEpoch (e : Nat) : Nat := if e = 0xFFFF then 1 else e + 1
/-- WOPEN (R119). -/
def doWopen (g i : Nat) (s : State) : State :=
  match s.flightAt g i 0x14 with
  | none => s
  | some f =>
    let base := bits f.word 255 237
    let size := bits f.word 236 217
    let w := bits f.word 216 213
    let x := s.window g w
    let meets := (List.range 16).any (fun v =>
      let y := s.window g v
      y.state == .opened && decide (y.base < base + size ∧ base < y.base + y.size))
    if base % 32 ≠ 0 ∨ size % 32 ≠ 0 ∨ ¬ inRange size 32 0x80000 ∨ ¬ spadFits base size then s.fail g f 0x17
    else if x.state ≠ .closed ∨ meets then s.fail g f 0x1A
    else (s.setWindow g w ⟨.opened, base, size, nextEpoch x.epoch⟩).complete g f.serial
/-- A window in CLOSING with no accepted write left enters CLOSED, and its WCLOSE completes (R185). -/
def State.closeSettle (s : State) (g : Nat) : State :=
  forEach (List.range 16) s (fun s w =>
    let x := s.window g w
    if x.state = .closing ∧ ¬ (s.skein g).accepted.any (fun r => r.win == some w) then
      let s := s.setWindow g w { x with state := .closed }
      match (s.skein g).flights.find? (fun f => opOf f.word == 0x15 && f.started && bits f.word 255 252 == w) with
      | some f => s.complete g f.serial
      | none => s
    else s)
/-- WCLOSE: the close point (R185). -/
def doWclose (g i : Nat) (s : State) : State :=
  match s.flightAt g i 0x15 with
  | none => s
  | some f =>
    let w := bits f.word 255 252
    let x := s.window g w
    if f.started then s.closeSettle g
    else if x.state ≠ .opened then s.fail g f 0x1A
    else ((s.setFlight g { f with started := true }).setWindow g w { x with state := .closing }).closeSettle g

/-! ### The window logic (R183, R184, R437) -/

/-- A frame of another device counts as the partition's own (R437). -/
def State.importOk (s : State) (p node part : Nat) : Bool :=
  inRange node (s.reg (0x2E10 + p) 1) (s.reg (0x2E10 + p) 2) && bit (s.reg (0x2E10 + p) 3) part
/-- The sender belongs to the skein's partition; the host is exempt. -/
def State.senderOk (s : State) (g : Nat) : Sender → Bool
  | .host => true
  | .debug => true
  | .skein h => s.skeinPart h == s.skeinPart g
  | .loader p => p == s.skeinPart g
  | .node id part _ => s.importOk (s.skeinPart g) id part
/-- Window of a remote write: the one it names, or the open one that holds all its bytes; with the offset in it. -/
def State.writeWindow (s : State) (g : Nat) (r : RemoteWrite) : Option (Nat × Nat) :=
  match r.win with
  | some w => some (w, r.off)
  | none =>
    ((List.range 16).find? (fun w =>
      let x := s.window g w
      x.state == .opened && decide (x.base ≤ r.off ∧ r.off + r.bytes.length ≤ x.base + x.size))).map
      (fun w => (w, r.off - (s.window g w).base))
/-- Verdict on a write: status and the subindex of its refusal counter. -/
def State.judgeWrite (s : State) (g : Nat) (r : RemoteWrite) : Nat × Nat :=
  match s.writeWindow g r with
  | none => (0x23, 0x13)
  | some (w, off) =>
    let x := s.window g w
    if x.state ≠ .opened then (0x23, 0x11)
    else if ¬ s.senderOk g r.sender then (0x22, 0x14)
    else if x.size < off + r.bytes.length then (0x23, 0x13)
    else if r.epoch ≠ none ∧ r.epoch ≠ some x.epoch then (0x23, 0x12)
    else (0, 0)
/-- A host request refused: counted and recorded (R424). -/
def State.hostRefusal (s : State) (status da : Nat) : State :=
  (s.bumpSat 0x2E30 6).setReg 0x2E30 7 (status * 2 ^ 56 + da)
/-- A refusal that is also answered, and logged, as a Completer Abort (R424). -/
def State.hostAbort (s : State) (status da : Nat) : State := (s.hostRefusal status da).emit (.completerAbort da status)
/-- The frame that a write from another device came in, as far as its answer needs it. -/
def frameOf (g : Nat) (r : RemoteWrite) : LinkFrame :=
  match r.sender with
  | .node id part sk =>
    { type := 1, flags := 0, seq := 0, dst := 0, src := id, srcPart := part, srcSkein := sk, dstSkein := g, win := 0,
      off := 0, epoch := 0, len := 0, xid := r.xid, payload := [] }
  | _ =>
    { type := 1, flags := 0, seq := 0, dst := 0, src := 0, srcPart := 0, srcSkein := 0, dstSkein := g, win := 0, off := 0,
      epoch := 0, len := 0, xid := r.xid, payload := [] }
/-- Status of a write goes back to its sender. -/
def State.answerWrite (s : State) (g : Nat) (r : RemoteWrite) (status : Nat) : State :=
  match r.sender with
  | .skein h => s.sendAck h r.xid status
  | .host => if status = 0 then s else s.hostAbort status (spadAt g r.off)
  | .debug => s.modDebug (fun d => { d with shifted := status })
  | .loader _ => s
  | .node id _ sk =>
    let s := if status = 0 then s else s.modSkein g (fun k =>
      { k with refusedXids := if k.refusedXids.any (fun x => x.1 == id * 256 + sk && x.2.1 == r.xid) then k.refusedXids
                              else k.refusedXids ++ [(id * 256 + sk, r.xid, status)] })
    let s := if r.last then s.modSkein g (fun k =>
      { k with refusedXids := k.refusedXids.filter (fun x => !(x.1 == id * 256 + sk && x.2.1 == r.xid)) }) else s
    s.respond (frameOf g r) status
/-- A refused write: its counter, LAST_REFUSED, and the status to its sender. -/
def State.refuseWrite (s : State) (g : Nat) (r : RemoteWrite) (v : Nat × Nat) : State :=
  let who := match r.sender with
    | .skein h => h * 2 ^ 10
    | .host => 2 ^ 16
    | .debug => 2 ^ 16
    | .loader _ => 2 ^ 16
    | .node id _ sk => id * 2 ^ 18 + sk * 2 ^ 10
  let s := (s.bumpSat (0x2240 + g) v.2).setReg (0x2240 + g) 0x15 (who + v.1)
  let s := match r.sender with
    | .node .. => if v.1 = 0x22 then s.bumpSat (0x2E10 + s.skeinPart g) 4 else s
    | _ => s
  s.answerWrite g r v.1
/-- A closing frame with RSIG: answered once the earlier accepted frames of its XID have landed (R437). -/
def State.closingFrame (s : State) (g : Nat) (r : RemoteWrite) (id part sk : Nat) : State :=
  let p := s.skeinPart g
  let k := s.skein g
  let done := s.setSkein g { k with arrivals := k.arrivals.tail
                                    refusedXids := k.refusedXids.filter (fun x => !(x.1 == id * 256 + sk && x.2.1 == r.xid)) }
  if k.accepted.any (fun x => x.sender == r.sender && x.xid == r.xid) then s
  else if ¬ s.importOk p id part then (done.bumpSat (0x2E10 + p) 4).respond (frameOf g r) 0x22
  else match k.refusedXids.find? (fun x => x.1 == id * 256 + sk && x.2.1 == r.xid) with
    | some x => done.respond (frameOf g r) x.2.2
    | none =>
      if s.syncPart r.off ≠ p then done.respond (frameOf g r) 0x22
      else (done.outerAdd r.off 1).respond (frameOf g r) 0
/-- REMOTE_WRITE: the head of the arrivals is taken, or waits for room in the 4 KiB. -/
def doRemoteWrite (g : Nat) (s : State) : State :=
  match (s.skein g).arrivals with
  | [] => s
  | r :: rest =>
    match r.bytes, r.sender with
    | [], .node id part sk => s.closingFrame g r id part sk
    | _, _ =>
      let v := s.judgeWrite g r
      if v.1 ≠ 0 then (s.modSkein g (fun k => { k with arrivals := rest })).refuseWrite g r v
      else match s.writeWindow g r with
        | none => s
        | some (w, off) =>
          let held := ((s.skein g).accepted.map (fun x => x.bytes.length)).foldl (· + ·) 0
          if 4096 < held + r.bytes.length then s
          else (s.count 5 (g / 8) 1).modSkein g (fun k =>
            { k with arrivals := rest, accepted := k.accepted ++ [{ r with win := some w, off := off }] })
/-- Writes the enabled bytes into a memory with code. -/
def State.putEnabled (s : State) (a : Nat) : List (Option Byte) → State
  | [] => s
  | b :: r => (match b with
    | some v => s.put a [v]
    | none => s).putEnabled (a + 1) r
/-- Writes the enabled bytes; a whole write is one. -/
def State.putMasked (s : State) (a : Nat) (bs : List (Option Byte)) : State :=
  if bs.all (·.isSome) then s.put a (bs.filterMap id) else s.putEnabled a bs
/-- REMOTE_WRITE_LAND: the oldest accepted write lands and is acknowledged. -/
def doRemoteWriteLand (g : Nat) (s : State) : State :=
  match (s.skein g).accepted with
  | [] => s
  | r :: rest =>
    let x := s.window g (r.win.getD 0)
    let s := s.modSkein g (fun k => { k with accepted := rest })
    let s := s.putMasked (spadAt g (x.base + r.off)) r.bytes
    (s.answerWrite g r 0).closeSettle g

/-! ### SEND (R120) -/

/-- Writes of at most 256 bytes, none across a 256-byte boundary of the window offset: offset and length. -/
def sendChunks (off n : Nat) : List (Nat × Nat) :=
  (List.range ((off + n + 255) / 256 - off / 256)).map (fun i =>
    let lo := max off ((off / 256 + i) * 256)
    let hi := min (off + n) ((off / 256 + i + 1) * 256)
    (lo, hi - lo))
/-- 17h or 0. -/
def sendStatus (w : Nat) : Nat :=
  if bits w 255 237 % 32 ≠ 0 ∨ sendLen w % 32 ≠ 0 ∨ sendLen w < 32 ∨ ¬ spadFits (bits w 255 237) (sendLen w)
      ∨ (¬ bit w 151 ∧ bits w 188 169 % 32 ≠ 0) then 0x17 else 0
/-- Frame of a SEND, without SEQ. -/
def State.sendFrame (s : State) (g xid w type off : Nat) (closing last : Bool) (bs : List Byte) : LinkFrame :=
  { type := type, flags := b2n (bit w 152) * 2 + b2n last * 4 + b2n closing * 8, seq := 0, dst := sendNode w,
    src := s.nodeId, srcPart := s.skeinPart g, srcSkein := g, dstSkein := sendSkein w,
    win := if type = 1 then bits w 192 189 else 0, off := off, epoch := bits w 168 153, len := bs.length, xid := xid,
    payload := bs }
/-- Sends the parts of a SEND to another node; RSIG adds the closing frame (R437). -/
def State.sendRemote (s : State) (g : Nat) (f : Flight) (type : Nat) (parts : List (Nat × List Byte)) : State :=
  let w := f.word
  let rsig := bit w 133
  let n := parts.length
  let s := s.setFlight g { f with started := true, unacked := n + b2n rsig }
  let s := (parts.zipIdx).foldl (fun s p =>
    s.route (s.sendFrame g f.xid w type p.1.1 false (!rsig && p.2 + 1 == n) p.1.2)) s
  if rsig then s.route (s.sendFrame g f.xid w type (bits w 150 134) true true []) else s
/-- The source bytes and a fresh XID of a SEND whose checks pass; none where it ended. -/
def State.sendBegin (s : State) (g : Nat) (f : Flight) : State × Option (Flight × List Byte) :=
  let w := f.word
  if sendStatus w ≠ 0 then (s.fail g f (sendStatus w), none)
  else if ¬ s.sendLocal w ∧ s.routeOf (sendNode w) = none then (s.fail g f 0x32, none)
  else
    let r := s.spadRead g (bits w 255 237) (sendLen w)
    match r.2 with
    | none => (r.1.failAt g f 0x30 (spadAt g (bits w 255 237)), none)
    | some bs =>
      let f := { f with started := true, xid := (r.1.skein g).nextXid }
      ((r.1.modSkein g (fun k => { k with nextXid := (k.nextXid + 1) % 2 ^ 32 })).setFlight g f, some (f, bs))
/-- SEND with KIND = window. -/
def doSend (g i : Nat) (s : State) : State :=
  match s.flightAt g i 0x16 with
  | none => s
  | some f =>
    if bit f.word 151 ∨ f.started then s
    else
      let r := s.sendBegin g f
      match r.2 with
      | none => r.1
      | some (f, bs) =>
        let w := f.word
        let off := bits w 188 169
        let parts := (sendChunks off (sendLen w)).map (fun c => (c.1, (bs.drop (c.1 - off)).take c.2))
        if r.1.sendLocal w then
          let s := r.1.setFlight g { f with unacked := parts.length }
          s.modSkein (sendSkein w) (fun k => { k with arrivals := k.arrivals ++ parts.map (fun p =>
            { sender := .skein g, win := some (bits w 192 189), off := p.1,
              epoch := if bit w 152 then some (bits w 168 153) else none, bytes := p.2.map some, xid := f.xid, last := false }) })
        else r.1.sendRemote g f 1 parts
/-- Bytes as queue entries of 32. -/
def entriesOf : Nat → List Byte → List (List Byte)
  | 0, _ => []
  | n + 1, bs => bs.take 32 :: entriesOf n (bs.drop 32)
/-- SEND with KIND = queue: pushes of at most 8 entries. -/
def doSendQueue (g i : Nat) (s : State) : State :=
  match s.flightAt g i 0x16 with
  | none => s
  | some f =>
    if ¬ bit f.word 151 ∨ f.started ∨ (s.earlier g f.serial).any (fun x => s.sameStore x.word f.word) then s
    else
      let r := s.sendBegin g f
      match r.2 with
      | none => r.1
      | some (f, bs) =>
        let w := f.word
        let q := bits w 182 169
        let parts := (sendChunks 0 (sendLen w)).map (fun c => (q, (bs.drop c.1).take c.2))
        if r.1.sendLocal w then
          let t := parts.foldl (fun (t : State × Nat) p =>
            let u := t.1.queuePush (s.skeinPart g) q (entriesOf (p.2.length / 32) p.2)
            (u.1, if t.2 = 0 then u.2 else t.2)) (r.1, 0)
          t.1.sendFinish g { f with status := t.2 }
        else r.1.sendRemote g f 2 parts
/-- A RESP reaches the skein that sent the WRITE or PUSH (R437); it takes effect there as an external event (R222). -/
def doResp (g xid status : Nat) (s : State) : State := s.crossAck g xid (status % 256)

/-! ### The commands -/

/-- WOPEN (R119). -/
def execWopen (g : SkeinId) (i : Nat) (s : State) : Host.Outcome State Fault Refusal := .next (doWopen g.val i s)
/-- WCLOSE (R185). -/
def execWclose (g : SkeinId) (i : Nat) (s : State) : Host.Outcome State Fault Refusal := .next (doWclose g.val i s)
/-- SEND (R120). -/
def execSend (g : SkeinId) (i : Nat) (s : State) : Host.Outcome State Fault Refusal := .next (doSend g.val i s)
/-- SEND_QUEUE (R120). -/
def execSendQueue (g : SkeinId) (i : Nat) (s : State) : Host.Outcome State Fault Refusal :=
  .next (doSendQueue g.val i s)
/-- REMOTE_WRITE (R184). -/
def execRemoteWrite (g : SkeinId) (s : State) : Host.Outcome State Fault Refusal := .next (doRemoteWrite g.val s)
/-- REMOTE_WRITE_LAND (R184). -/
def execRemoteWriteLand (g : SkeinId) (s : State) : Host.Outcome State Fault Refusal :=
  .next (doRemoteWriteLand g.val s)
/-- RESP (R437). -/
def execResp (g : SkeinId) (xid status : Nat) (s : State) : Host.Outcome State Fault Refusal :=
  .next (doResp g.val xid status s)

end Sys2Proof.Machine
end

