-- ==== Sys2Proof/Machine/Channels.lean ====
section
/-! DEFINITION. Channels: the memory channels' wheels and queues, refresh, scrubbing and banks (R195 to R209). -/
namespace Sys2Proof.Machine

/-! ### The wheel (R200, R201) -/

/-- 6-bit bit reversal. -/
def bitRev6 (k : Nat) : Nat := (List.range 6).foldl (fun n i => n + b2n (bit k i) * 2 ^ (5 - i)) 0
/-- Partition that owns a rank: ranks are dealt in ascending partition number by share. -/
def State.rankOwner (s : State) (r : Nat) : Option Nat :=
  (List.range 8).find? (fun p =>
    let before := ((List.range p).map (fun i => s.reg 0x2203 (i + 1))).foldl (· + ·) 0
    decide (before ≤ r ∧ r < before + s.reg 0x2203 (p + 1)))
/-- WHEEL_PERIOD_START: every channel begins its wheel again, and accepted shares come into force. -/
def doWheelPeriodStart (s : State) : State :=
  let s := forEach (List.range 8) s (fun s p => s.setReg 0x2203 (p + 1) (s.acc 0x2202 (p + 1)))
  forEach (s.channels.map (·.1)) s (fun s q => s.modChannel q (fun k => { k with slot := 0 }))
/-- One unit of a line fetch arrives. A read that a controller took before its bank began to close is still carried out; in a
bank that has closed it is refused (R207). -/
def State.fetchUnit (s : State) (c l pa : Nat) : State :=
  let gone := s.bankState (bankOf pa) != 2 && s.bankState (bankOf pa) != 3
  let bad := !gone && s.badRange pa 32
  let bs := if gone then [] else s.rd pa 32
  let s := if gone then s.lateRefusal pa else s.noteRead pa 32 false
  let put := fun (fs : List WcFetch) => (fs.foldl (fun (r : List WcFetch × Bool) f =>
    if !r.2 && f.line == l && decide (f.units.length < 8) then
      (r.1 ++ [{ f with units := f.units ++ [bs], bad := f.bad || bad, refused := f.refused || gone }], true)
    else (r.1 ++ [f], r.2)) ([], false)).1
  s.modCaldera c (fun k => { k with fetches := put k.fetches })
/-- Carries out a queued access. -/
def State.carry (s : State) (a : Access) : State :=
  match a.kind with
  | .write bs owner => (s.writeUnit a.pa bs).storeAck owner
  | .lineRead c l => s.fetchUnit c l a.pa
/-- CHANNEL_ACCESS_SLOT: the slot carries the next queued access of its owner. A slot that meets refresh-busy is lost;
whether the busy time has ended by this slot is left open, up to the 22 slots that 190 ns can cover (R199). -/
def doChannelAccessSlot (q : Nat) (s : State) : State :=
  if ¬ s.boot.filled then s else
  let c := s.channel q
  let f := s.free
  let next := (c.slot + 1) % 64
  let lost := c.busy ≠ 0 ∧ c.busy ≤ 22 ∧ f.1 % 2 = 0
  let s := if c.busy ≠ 0 then f.2 else s
  if lost then s.setChannel q { c with slot := next, busy := c.busy + 1 }
  else
    let c := { c with slot := next, busy := 0 }
    match s.rankOwner (bitRev6 ((s.channel q).slot)) with
    | none => s.setChannel q c
    | some p =>
      match c.queue.find? (fun a => a.part == p) with
      | none => (s.setChannel q c).count 2 p 1
      | some a =>
        let s := s.setChannel q { c with queue := c.queue.erase a }
        (s.carry a).count 1 p 1
/-- REFRESH_BUSY: the channel's accesses wait. -/
def doRefreshBusy (q : Nat) (s : State) : State :=
  let c := s.channel q
  if c.busy ≠ 0 then s else (s.setChannel q { c with busy := 1 }).count 3 0 1

/-! ### Scrubbing (R202, R203) -/

/-- Next unit of the pass whose bank is ON; none where no bank from here on is. -/
def State.scrubNext (s : State) (pos : Nat) : Option Nat :=
  if s.bankState (bankOf pos) = 2 then some pos
  else ((List.range 16).find? (fun b => decide (bankOf pos < b) && s.bankState b == 2)).map (· * 0x20000000)
/-- Partition whose present entry maps the frame, else partition 0. -/
def State.framePart (s : State) (pa : Nat) : Nat :=
  (((List.range 4096).find? (fun id => entPresent (s.entry id) && entFrame (s.entry id) == pa / 0x200000)).map
    (fun id => entPart (s.entry id))).getD 0
/-- The next slot of the channel is partition 0's, and nothing of partition 0 waits for it. -/
def State.scrubSlot (s : State) (q : Nat) : Bool :=
  let c := s.channel q
  c.busy == 0 && s.rankOwner (bitRev6 c.slot) == some 0 && !c.queue.any (fun a => a.part == 0)
/-- A scrub access takes that slot, which the partition left idle. -/
def State.scrubTake (s : State) (q : Nat) : State :=
  (s.modChannel q (fun k => { k with slot := (k.slot + 1) % 64 })).count 2 0 1
/-- The present pass has taken longer than PASS_TIME. -/
def State.scrubLate (s : State) : Bool :=
  (s.reg 0x2F03 2 == 1 || s.reg 0x2F03 2 == 4) && decide (s.reg 0x2230 2 * 1000000 < s.sinceStamp (s.reg 0x2F03 7))
/-- The pass waits for an idle slot: suspended (R387). -/
def State.scrubWait (s : State) : State := if s.reg 0x2F03 2 = 1 then s.setReg 0x2F03 2 4 else s
/-- The pass goes on; the first one begins. -/
def State.scrubGo (s : State) : State :=
  if s.reg 0x2F03 2 = 1 then s else if s.reg 0x2F03 2 = 4 then s.setReg 0x2F03 2 1 else s.opStart 3 0x200000000
/-- A pass ends and the next begins; LATE tells of the pass that ended until the next one is late (R203). -/
def State.scrubWrap (s : State) : State :=
  let s := s.setReg 0x2230 7 (b2n s.scrubLate)
  ((s.bump 0x2230 3).setReg 0x2230 6 0).opStart 3 0x200000000
/-- SCRUB_READ: the next unit of the pass is read in a slot that partition 0 leaves idle. -/
def doScrubRead (s : State) : State :=
  if s.reg 0x2230 1 = 0 ∨ ¬ s.boot.filled ∨ s.scrubPending ≠ none then s
  else match s.scrubNext (s.reg 0x2230 6) with
    | none => s.scrubWrap
    | some u =>
      if ¬ s.scrubSlot (channelOf u) then s.scrubWait
      else
      let s := (if s.scrubLate then s.setReg 0x2230 7 1 else s).scrubTake (channelOf u)
      let s := s.scrubGo
      let bad := (codewords u 32).filter (fun cw => s.codeAt cw == .uncorrectable)
      let fixed := s.correctedIn u 32
      let s := s.noteRead u 32 true
      let s := if fixed = [] then s else s.withScrubPending (some u)
      let s := if bad = [] then s
        else (s.bumpSatBy 0x2230 5 bad.length).raise 3 (some (s.framePart u)) (channelOf u) u
      if u + 32 = 0x200000000 then s.scrubWrap else s.setReg 0x2230 6 (u + 32)
/-- SCRUB_WRITE_BACK: the corrected codewords of the pending unit are written with valid code, in the next slot that partition 0
leaves idle; a bank that has left ON takes no write. -/
def doScrubWriteBack (s : State) : State :=
  match s.scrubPending with
  | none => s
  | some u =>
    if s.bankState (bankOf u) ≠ 2 then s.withScrubPending none
    else if ¬ s.scrubSlot (channelOf u) then s.scrubWait
    else (((s.scrubGo.scrubTake (channelOf u)).withScrubPending none).heal u 32).bumpSat 0x2230 4

/-! ### Banks (R206 to R208) -/

/-- Some present package entry maps a frame of the bank. -/
def State.bankMapped (s : State) (b : Nat) : Bool :=
  (List.range 4096).any (fun id => entPresent (s.entry id) && entFrame (s.entry id) / 256 == b)
/-- A bank command: the state and the abort code. `bankTargets` marks a bank that goes to, or comes from, OFF. R207 names RETAIN
and OFF as the states that a request for ON leaves; in ON, CLOSING and OPENING the request is refused (DESIGN CHOICE, log 101). -/
def State.bankCommand (s : State) (b target : Nat) : State × Nat :=
  let st := s.bankState b
  if target = 2 then
    if st = 0 then
      let s := s.withBankTargets (tblPut 0 s.bankTargets b 1)
      let joined := (List.range 16).any (fun x => s.bankState x == 4 && tblGet 0 s.bankTargets x == 1)
      let s := if joined then s.setReg 0x2F02 5 (s.reg 0x2F02 5 + 0x20000000) else s.opStart 2 0x20000000
      (s.setReg 0x2290 (b + 1) 4, 0)
    else if st = 1 then (((s.withBankTargets (tblPut 0 s.bankTargets b 0))).setReg 0x2290 (b + 1) 4, 0)
    else (s, 0x08000022)
  else if st ≠ 2 ∨ s.bankMapped b then (s, 0x08000022)
  else (((s.withBankTargets (tblPut 0 s.bankTargets b (if target = 0 then 1 else 0)))).setReg 0x2290 (b + 1) 3, 0)
/-- Contents lost: the bank reads as zero when it is next filled. -/
def State.bankWipe (s : State) (b : Nat) : State :=
  (s.withMem (wipe s.mem (b * 0x20000000) 0x20000000)).withFlips (
    s.flips.filter (fun e => !(decide (b * 0x20000000 ≤ e.1 / 36 * 16 ∧ e.1 / 36 * 16 < (b + 1) * 0x20000000))))
/-- BANK_CLOSE_COMPLETE: no queue holds an accepted write to the bank. -/
def doBankCloseComplete (b : Nat) (s : State) : State :=
  let held := s.channels.any (fun c => c.2.queue.any (fun a =>
    (match a.kind with | .write .. => true | .lineRead .. => false) && bankOf a.pa == b))
  if s.bankState b ≠ 3 ∨ held then s
  else if tblGet 0 s.bankTargets b = 1 then
    (((s.withBankTargets (tblPut 0 s.bankTargets b 0))).bankWipe b).setReg 0x2290 (b + 1) 0
  else s.setReg 0x2290 (b + 1) 1
/-- BANK_OPEN_COMPLETE: retention exit or the zero fill has ended. -/
def doBankOpenComplete (b : Nat) (s : State) : State :=
  if s.bankState b ≠ 4 then s
  else
    let filled := tblGet 0 s.bankTargets b = 1
    let s := (s.withBankTargets (tblPut 0 s.bankTargets b 0)).setReg 0x2290 (b + 1) 2
    let s := if filled then s.bankWipe b else s
    let more := (List.range 16).any (fun x => s.bankState x == 4 && tblGet 0 s.bankTargets x == 1)
    if filled ∧ ¬ more then s.opEnd 2 0 else s

/-! ### The commands -/

/-- WHEEL_PERIOD_START (R200). -/
def execWheelPeriodStart (s : State) : Host.Outcome State Fault Refusal := .next (doWheelPeriodStart s)
/-- CHANNEL_ACCESS_SLOT (R200). -/
def execChannelAccessSlot (q : ChannelId) (s : State) : Host.Outcome State Fault Refusal :=
  .next (doChannelAccessSlot q.val s)
/-- REFRESH_BUSY (R199). -/
def execRefreshBusy (q : ChannelId) (s : State) : Host.Outcome State Fault Refusal := .next (doRefreshBusy q.val s)
/-- SCRUB_READ (R202). -/
def execScrubRead (s : State) : Host.Outcome State Fault Refusal := .next (doScrubRead s)
/-- SCRUB_WRITE_BACK (R202). -/
def execScrubWriteBack (s : State) : Host.Outcome State Fault Refusal := .next (doScrubWriteBack s)
/-- BANK_CLOSE_COMPLETE (R207). -/
def execBankCloseComplete (b : BankId) (s : State) : Host.Outcome State Fault Refusal :=
  .next (doBankCloseComplete b.val s)
/-- BANK_OPEN_COMPLETE (R207). -/
def execBankOpenComplete (b : BankId) (s : State) : Host.Outcome State Fault Refusal :=
  .next (doBankOpenComplete b.val s)

end Sys2Proof.Machine
end

