-- ==== Sys2Proof/Machine/Cbor.lean ====
section
/-! DEFINITION. Cbor: the decoder of range samples: the CBOR subset, the schema's fields, points and their entries
(08_sensor_ports.md R256 to R262, R266). -/
namespace Sys2Proof.Machine

/-! ### Items (R256) -/

/-- A cause and the offset of the first byte not decoded. -/
abbrev CborErr := Nat × Nat
/-- Result of a reading step. -/
inductive Parsed (α : Type) where
  | ok (v : α)
  | err (cause at_ : Nat)

/-- Initial byte and argument of a data item at `pos`: major type, additional information, argument, position after. -/
def cborHead (bs : List Byte) (pos : Nat) : Parsed (Nat × Nat × Nat × Nat) :=
  match bs[pos]? with
  | none => .err 1 pos
  | some b =>
    let maj := b.toNat / 32
    let ai := b.toNat % 32
    if ai < 24 then .ok (maj, ai, ai, pos + 1)
    else if ai ≤ 27 then
      let n := 2 ^ (ai - 24)
      if bs.length < pos + 1 + n then .err 1 pos else .ok (maj, ai, beNat ((bs.drop (pos + 1)).take n), pos + 1 + n)
    else .err 1 pos

/-- A value that a mapped key may have, or the mark of one that it may not. -/
inductive CScalar where
  | int (v : Int)
  | float (v : Fv)
  | null
  | refused
  deriving DecidableEq, Repr

/-- A scalar of major type 0, 1 or 7 (R256); undefined and two-byte simple values below 32 are not well formed here. -/
def cborScalar (maj ai arg : Nat) : Option CScalar :=
  if maj = 0 then some (if arg < 2 ^ 53 then .int arg else .refused)
  else if maj = 1 then some (if arg + 1 < 2 ^ 53 then .int (-(arg : Int) - 1) else .refused)
  else if maj = 7 then
    (if ai = 25 then some (.float (fpDecode fp16 arg)) else if ai = 26 then some (.float (fpDecode fp32 arg))
     else if ai = 27 then some (.float (fpDecode fp64 arg)) else if ai = 22 then some .null
     else if ai = 23 ∨ (ai = 24 ∧ arg < 32) then none else some .refused)
  else some .refused

/-- Skips data items: the stack holds how many items each open container still owes; its height is the nesting depth. -/
def cborSkip (bs : List Byte) : Nat → List Nat → Nat → Parsed Nat
  | 0, _, pos => .err 1 pos
  | _ + 1, [], pos => .ok pos
  | fuel + 1, 0 :: st, pos => cborSkip bs fuel st pos
  | fuel + 1, (n + 1) :: st, pos =>
    match cborHead bs pos with
    | .err c p => .err c p
    | .ok (maj, ai, arg, nx) =>
      if maj = 2 ∨ maj = 3 then
        (if bs.length < nx + arg then .err 1 pos else cborSkip bs fuel (n :: st) (nx + arg))
      else if maj = 4 ∨ maj = 5 then
        (if 4 ≤ st.length + 1 then .err 4 pos
         else cborSkip bs fuel ((if maj = 4 then arg else 2 * arg) :: n :: st) nx)
      else if maj = 6 then .err 1 pos
      else if (cborScalar maj ai arg).isNone then .err 1 pos
      else cborSkip bs fuel (n :: st) nx
/-- Position after the data item at `pos` inside an item's map. -/
def cborNext (bs : List Byte) (pos : Nat) : Parsed Nat := cborSkip bs (3 * bs.length + 4) [1] pos

/-- One pair of an item's map: the key as an integer or, for other keys, its bytes; where its value starts and ends. -/
structure CPair where
  key : Int ⊕ List Byte
  start : Nat
  stop : Nat

/-- The `n` pairs of a map; a key that appears twice is malformed. The pairs read, and where the map ends or the error. -/
def cborPairs (bs : List Byte) : Nat → List CPair → Nat → List CPair × Parsed Nat
  | 0, acc, pos => (acc, .ok pos)
  | n + 1, acc, pos =>
    match cborNext bs pos with
    | .err c p => (acc, .err c p)
    | .ok v =>
      let key : Int ⊕ List Byte := match cborHead bs pos with
        | .ok (maj, _, arg, _) =>
          if maj = 0 then .inl arg else if maj = 1 then .inl (-(arg : Int) - 1) else .inr ((bs.drop pos).take (v - pos))
        | .err _ _ => .inr []
      if acc.any (fun p => p.key == key) then (acc, .err 1 pos)
      else match cborNext bs v with
        | .err c p => (acc, .err c p)
        | .ok e => cborPairs bs n (acc ++ [⟨key, v, e⟩]) e

/-- The scalar value at a position. -/
def scalarAt (bs : List Byte) (pos : Nat) : CScalar :=
  match cborHead bs pos with
  | .ok (maj, ai, arg, _) => (cborScalar maj ai arg).getD .refused
  | .err _ _ => .refused
/-- The scalars of an array of definite length at a position, each with the position it stands at. -/
def scalarsFrom (bs : List Byte) : Nat → Nat → List (Nat × CScalar)
  | 0, _ => []
  | n + 1, pos =>
    match cborNext bs pos with
    | .ok e => (pos, scalarAt bs pos) :: scalarsFrom bs n e
    | .err _ _ => [(pos, .refused)]
/-- A value that is an array: its elements. -/
def arrayAt (bs : List Byte) (pos : Nat) : Option (List (Nat × CScalar)) :=
  match cborHead bs pos with
  | .ok (4, _, arg, nx) => some (scalarsFrom bs arg nx)
  | _ => none

/-! ### Fields (R259, R261) -/

/-- An entry of a schema. -/
structure SchemaEntry where
  kind : Nat
  code : Nat
  required : Bool
  key : Int
  scale : Nat
  deriving DecidableEq, Repr
def schemaEntries (sc : List Byte) : List SchemaEntry :=
  (List.range (field sc 1 1)).map (fun i =>
    let o := 48 + 16 * i
    ⟨field sc o 1, field sc (o + 1) 1, bit (field sc (o + 2) 1) 0, sgn 16 (field sc (o + 4) 2), field sc (o + 8) 8⟩)
/-- f64(v) × scale, rounded once to FP64: its value. -/
def scaled64 (v : CScalar) (scale : Nat) : Fv :=
  let x : Fv := match v with
    | .int i => fvOfInt i
    | .float f => f
    | _ => .nan
  fpDecode fp64 (fpRound fp64 (fvMul x (fpDecode fp64 scale))).1
/-- Range of a field's output. -/
def fieldRange (code : Nat) : Int × Int :=
  if code ≤ 3 then (-(2 ^ 31), 2 ^ 31 - 1) else if code ≤ 5 then (0, 65535) else if code = 6 then (0, 255)
  else if code = 7 then (-(2 ^ 63), 2 ^ 63 - 1) else if code = 0x12 then (0, 2 ^ 64 - 1)
  else if code = 0x13 then (0, 999999999) else (0, 2 ^ 32 - 1)
/-- An exact value as an integer, or rounded half to even. -/
def fvRound (v : Fv) : Int :=
  match v with
  | .num neg m e => if 0 ≤ e then fvInt neg (m * 2 ^ e.toNat) else roundShift (fvInt neg m) (-e).toNat 0
  | _ => 0
def fvIsInt (v : Fv) : Bool :=
  match v with
  | .num _ m e => decide (0 ≤ e) || m % 2 ^ (-e).toNat == 0
  | _ => false
/-- Value of a header field: an integer within its range. -/
def headerValue (v : CScalar) (e : SchemaEntry) : Option Nat :=
  let w := scaled64 v e.scale
  let r := fieldRange e.code
  if fvIsInt w ∧ r.1 ≤ fvRound w ∧ fvRound w ≤ r.2 then some (fvRound w).toNat else none
/-- Value of a point field with its CLIPPED bit; none where it is not finite. -/
def pointValue (v : CScalar) (e : SchemaEntry) : Option (Int × Bool) :=
  match scaled64 v e.scale with
  | .num neg m x =>
    let f := fvRound (.num neg m x)
    let r := fieldRange e.code
    some (clampI r.1 r.2 f, decide (f < r.1 ∨ r.2 < f))
  | _ => none

/-- A base time, seconds and nanoseconds, as a stamp (R262). -/
def timeStamp (sec ns : Nat) : Nat := sec % 2 ^ 32 * 2 ^ 32 + ns
/-- TIME of a point: base plus T_OFFSET, normalised. -/
def addOffset (stamp : Nat) (off : Int) : Nat :=
  let t : Int := ((stamp / 2 ^ 32 * 1000000000 + stamp % 2 ^ 32 : Nat) : Int) + off
  ((t / 1000000000) % (2 ^ 32 : Nat)).toNat * 2 ^ 32 + (t % 1000000000).toNat

/-- What decoding of a sample has come to. -/
structure Decoded where
  cause : Nat
  offset : Nat
  item : Nat
  sequence : Option Nat
  sec : Option Nat
  ns : Option Nat
  points : List (List Byte)
  bad : Nat
  deriving DecidableEq, Repr

/-- Fields that a point gets from the mapped values: dropped where one is not finite, or the values. -/
inductive PointFields where
  | drop
  | ok (vals : List (Nat × Int)) (clipped defaulted : Bool)
  deriving DecidableEq, Repr

/-- A mapped value of an item, with the offset it stands at; none where it is absent. -/
abbrev CellOf := SchemaEntry × Option (Nat × CScalar)
/-- What refuses an item, the lowest offset first: a mapped value that may not stand there (01h), and, at the item's end, a
REQUIRED field that is absent or null (02h). -/
def itemFault (cells : List CellOf) (stop : Nat) : Option (Nat × Nat) :=
  let wrong := cells.filterMap (fun c => match c.2 with
    | some (a, .refused) => some a
    | _ => none)
  match wrong with
  | a :: r => some (1, r.foldl Nat.min a)
  | [] =>
    if cells.any (fun c => c.1.required && (match c.2 with
      | none => true
      | some (_, v) => v == .null)) then some (2, stop) else none
/-- One point from the values of an item that has no fault. -/
def pointOf : List CellOf → PointFields → PointFields
  | [], r => r
  | (e, v) :: rest, r =>
    match r with
    | .drop => .drop
    | .ok vals c d =>
      match v with
      | none => pointOf rest (.ok (vals ++ [(e.code, 0)]) c true)
      | some (_, .null) => pointOf rest (.ok (vals ++ [(e.code, 0)]) c true)
      | some (_, x) =>
        match pointValue x e with
        | some (i, cl) => pointOf rest (.ok (vals ++ [(e.code, i)]) (c || cl) d)
        | none => .drop
/-- A point as its 32-byte queue entry (R262). -/
def pointBytes (vals : List (Nat × Int)) (clipped defaulted : Bool) (base stream sample : Nat) : List Byte :=
  let v := fun (c : Nat) => ((vals.find? (fun x => x.1 == c)).map (·.2)).getD 0
  leBytes 4 (enc 32 (v 1)) ++ leBytes 4 (enc 32 (v 2)) ++ leBytes 4 (enc 32 (v 3)) ++ leBytes 2 (v 4).toNat
    ++ leBytes 2 (v 5).toNat ++ leBytes 8 (addOffset base (v 7)) ++ leBytes 1 (v 6).toNat
    ++ leBytes 1 (b2n clipped * 2 + b2n defaulted * 4) ++ leBytes 1 stream ++ zeros 1 ++ leBytes 4 sample

/-- Parameters of a sample's decoding. -/
structure SampleEnv where
  schema : List Byte
  stamp : Nat
  stream : Nat
  sample : Nat
/-- The base time of R258, where it is known. -/
def baseOf (env : SampleEnv) (d : Decoded) : Option Nat :=
  if field env.schema 30 1 = 1 then some (addOffset env.stamp (-(field env.schema 32 4 : Int)))
  else match d.sec, d.ns with
    | some a, some b => some (timeStamp a b)
    | _, _ => none
/-- The pair of a key. -/
def pairOf (ps : List CPair) (k : Int) : Option CPair := ps.find? (fun p => p.key == Sum.inl k)

/-- The fields of the HEADER in the order of the map's pairs, up to `limit` bytes of the payload. -/
def headerFields (env : SampleEnv) (bs : List Byte) (limit : Nat) : List CPair → Decoded → Decoded
  | [], d => d
  | p :: rest, d =>
    if d.cause ≠ 0 ∨ limit < p.stop then d
    else
      let es := (schemaEntries env.schema).filter (fun e => e.kind == 0 && p.key == Sum.inl e.key)
      match es with
      | [] => headerFields env bs limit rest d
      | e :: _ =>
        match scalarAt bs p.start with
        | .null => headerFields env bs limit rest d
        | .refused => { d with cause := 1, offset := p.start }
        | v =>
          match headerValue v e with
          | none => { d with cause := 2, offset := p.start }
          | some x =>
            if e.code = 0x10 then
              (if field env.schema 8 4 ≠ 0xFFFFFFFF ∧ x ≠ field env.schema 8 4 then { d with cause := 3, offset := p.stop }
               else headerFields env bs limit rest d)
            else if e.code = 0x11 then headerFields env bs limit rest { d with sequence := some x }
            else if e.code = 0x12 then headerFields env bs limit rest { d with sec := some x }
            else headerFields env bs limit rest { d with ns := some x }
/-- A required header field is absent. -/
def headerLacks (env : SampleEnv) (bs : List Byte) (ps : List CPair) : Bool :=
  (schemaEntries env.schema).any (fun e => e.kind == 0 && e.required &&
    (match pairOf ps e.key with
     | some p => scalarAt bs p.start == .null
     | none => true))
/-- Adds points in array order, up to MAX_POINTS. -/
def addPoints (env : SampleEnv) (base stop : Nat) : List (List CellOf) → Decoded → Decoded
  | [], d => d
  | pt :: rest, d =>
    if d.cause ≠ 0 then d
    else match pointOf pt (.ok [] false false) with
      | .drop => addPoints env base stop rest { d with bad := d.bad + 1 }
      | .ok vals c df =>
        if field env.schema 12 2 ≤ d.points.length then { d with cause := 4, offset := stop }
        else addPoints env base stop rest { d with points := d.points ++ [pointBytes vals c df base env.stream env.sample] }
/-- The points of an item, unless the item has a fault. -/
def itemPoints (env : SampleEnv) (base stop : Nat) (pts : List (List CellOf)) (d : Decoded) : Decoded :=
  match itemFault pts.flatten stop with
  | some (c, a) => { d with cause := c, offset := a }
  | none => addPoints env base stop pts d
/-- One item after the HEADER: POINT (1) or BLOCK (2). -/
def bodyItem (env : SampleEnv) (bs : List Byte) (kind stop : Nat) (ps : List CPair) (d : Decoded) : Decoded :=
  let es := (schemaEntries env.schema).filter (fun e => e.kind == 1)
  let base := (baseOf env d).getD 0
  if kind = 1 then
    itemPoints env base stop [es.map (fun e => (e, (pairOf ps e.key).map (fun p => (p.start, scalarAt bs p.start))))] d
  else
    let cols := es.map (fun e => (e, (pairOf ps e.key).map (fun p => (p, arrayAt bs p.start))))
    match cols.find? (fun c => match c.2 with
        | some (_, none) => true
        | some (_, some xs) => !(decide (1 ≤ xs.length ∧ xs.length ≤ 1024))
        | none => false) with
    | some (_, some (p, _)) => { d with cause := 1, offset := p.start }
    | _ =>
      let lens := (cols.filterMap (fun c => c.2.bind (fun x => x.2.map List.length))).eraseDups
      if 1 < lens.length then { d with cause := 2, offset := stop }
      else if cols.any (fun c => c.1.required && c.2.isNone) then { d with cause := 2, offset := stop }
      else
        itemPoints env base stop ((List.range (lens.headD 0)).map (fun i =>
          cols.map (fun c => (c.1, c.2.bind (fun x => (x.2.getD [])[i]?))))) d
/-- An item whose map breaks off at an offset: the fields of a HEADER that stand before it are decoded (R261, R267). What lies
past `limit` was not read. -/
def brokenItem (env : SampleEnv) (bs : List Byte) (limit : Nat) (ps : List CPair) (cause at_ : Nat) (d : Decoded) : Decoded :=
  let d := if d.item = 0 ∧ (pairOf ps 0).map (fun p => scalarAt bs p.start) = some (.int 0) then headerFields env bs limit ps d else d
  if d.cause ≠ 0 ∨ limit ≤ at_ then d else { d with cause := cause, offset := at_ }
/-- Decodes items until the payload ends. Only pairs that end within `limit` bytes count. -/
def decodeItems (env : SampleEnv) (bs : List Byte) (limit : Nat) : Nat → Nat → Decoded → Decoded
  | 0, pos, d => if pos < bs.length then { d with cause := 1, offset := pos } else d
  | fuel + 1, pos, d =>
    if d.cause ≠ 0 then d
    else if bs.length ≤ pos then (if d.item = 0 then { d with cause := 1, offset := pos } else d)
    else if limit ≤ pos then d
    else match cborHead bs pos with
      | .err c p => if limit ≤ p then d else { d with cause := c, offset := p }
      | .ok (maj, _, arg, nx) =>
        if maj ≠ 5 then { d with cause := 1, offset := pos }
        else match cborPairs bs (Nat.min arg bs.length) [] nx with
          | (ps, .err c p) => brokenItem env bs limit ps c p d
          | (ps, .ok stop) =>
            match (pairOf ps 0).map (fun p => scalarAt bs p.start) with
            | some (.int k) =>
              if k < 0 ∨ 2 < k then { d with cause := 1, offset := pos }
              else if decide (k = 0) ≠ decide (d.item = 0) then { d with cause := 2, offset := pos }
              else if k ≠ 0 ∧ limit < stop then d
              else
                let d' := if k = 0 then
                    (let h := headerFields env bs limit ps d
                     if h.cause = 0 ∧ headerLacks env bs ps then { h with cause := 2, offset := stop } else h)
                  else bodyItem env bs k.toNat stop ps d
                if d'.cause ≠ 0 then d'
                else if limit < stop then d'
                else decodeItems env bs limit fuel stop { d' with item := d'.item + 1 }
            | _ => { d with cause := 1, offset := pos }
/-- A whole sample (R256, R261). -/
def decodeSample (env : SampleEnv) (bs : List Byte) : Decoded :=
  decodeItems env bs bs.length 256 0 ⟨0, 0, 0, none, none, none, [], 0⟩
/-- What had been decoded when decoding stood at an offset (R265). -/
def decodeUpTo (env : SampleEnv) (bs : List Byte) (limit : Nat) : Decoded :=
  decodeItems env bs limit 256 0 ⟨0, 0, 0, none, none, none, [], 0⟩

end Sys2Proof.Machine
end

