-- ==== Sys2Proof/Machine/Queues.lean ====
section
/-! DEFINITION. Queues: the settings of a queue, its enabling and disabling, and pushes and pops that arrive at the queue
store (R115, R117, R484). -/
namespace Sys2Proof.Machine

/-- CONSUMER values that R117 accepts. -/
def consumerOk (v : Nat) : Bool := decide (v < 64) || v == 0x100 || inRange v 0x200 0x2FF || v == 0xFFFF
/-- `[da, da+n)` lies in present pages of a partition (and writable ones, for a write). -/
def State.pagesOk (s : State) (part : Nat) (write : Bool) (da n : Nat) : Bool :=
  (pageId da).isSome && (pageId (da + n - 1)).isSome && regionOf da == regionOf (da + n - 1)
    && (s.rangeStatus (some part) write da n).1 == 0
/-- The ring lies in present pages of the queue's partition. -/
def State.ringOk (s : State) (part base log2 : Nat) : Bool := base % 32 == 0 && s.pagesOk part false base (32 * 2 ^ log2)
/-- ENABLE of a queue: the state and an abort code. -/
def State.queueEnable (s : State) (q : Nat) : State × Nat :=
  let k := s.queue q
  if k.enabled then (s, 0)
  else if k.consumer = 0xFFFF ∨ ¬ s.ringOk (s.queuePart q) k.ringBase k.log2 then (s, 0x08000022)
  else (s.setQueue q { k with enabled := true }, 0)
/-- A queue is disabled: its entries are discarded. -/
def State.queueDisable (s : State) (q : Nat) : State :=
  s.modQueue q (fun k => { k with enabled := false, count := 0, head := 0, tail := 0, armed := none })
/-- Partition of a producer; the host and the I/O die's blocks are not checked. -/
def producerPart : Producer → Option Nat
  | .host => none
  | .block => none
  | .partition p => some p.val
/-- QUEUE_PUSH: entries arrive at the queue store and land whole, or are refused whole. -/
def doQueuePush (src : Producer) (q : Nat) (entries : List (List Byte)) (s : State) : State :=
  if entries = [] then s
  else match producerPart src with
    | some p => (s.queuePush p q entries).1
    | none => (s.outerPush q entries).1
/-- QUEUE_POP: the queue's consumer takes entries that it holds. -/
def doQueuePop (q n : Nat) (s : State) : State :=
  if 16383 < q ∨ (s.queue q).count < n then s else s.queueDrop q n

/-- Condition of R484 on the queue that a subindex names; none where the subindex names no queue. -/
def State.queueNameOk (s : State) (ix sub q : Nat) : Option Bool :=
  if (ix = 0x2220 ∧ sub = 1) ∨ (ix = 0x2B00 ∧ sub = 4) ∨ (ix = 0x2E30 ∧ sub = 4) then some ((s.queue q).consumer == 0x100)
  else if 0x2330 ≤ ix ∧ ix ≤ 0x2337 ∧ sub = 1 then some (s.queuePart q == ix - 0x2330)
  else if ix = 0x2E00 ∧ sub = 0x0E then some (s.queuePart q == 0 && (s.queue q).consumer == 0x230)
  else none

/-! ### The commands -/

/-- QUEUE_PUSH (R115). -/
def execQueuePush (src : Producer) (q : Nat) (entries : List (List Byte)) (s : State) : Host.Outcome State Fault Refusal :=
  .next (doQueuePush src q entries s)
/-- QUEUE_POP (R115). -/
def execQueuePop (q n : Nat) (s : State) : Host.Outcome State Fault Refusal := .next (doQueuePop q n s)

end Sys2Proof.Machine
end

