-- ==== Sys2Proof/Machine/Treadle.lean ====
section
/-! DEFINITION. Treadle: frames, ticks and steps, reserved slots, deliveries, external events and the cut of a stop
(07_pacing_and_determinism.md R210 to R223; R309, R338, R342, R451 to R454). -/
namespace Sys2Proof.Machine

/-! ### Settings and frames (R210 to R213) -/

/-- Some spindle of the caldera still steps, lands or drains. -/
def State.calderaBusy (s : State) (c : Nat) : Bool :=
  (List.range 32).any (fun i =>
    let k := s.spindle (32 * c + i)
    k.running != none || k.landing != [] || k.drains.any (·.begun))
/-- The caldera is idle: its streams are, and nothing of it steps, lands or drains. -/
def State.calderaIdle (s : State) (c : Nat) : Bool :=
  (List.range 8).all (fun i => s.streamIdle (8 * c + i)) && !s.calderaBusy c
/-- TREADLE_SETTINGS_APPLY: accepted settings of a partition come into force; a mode or a rate not while a caldera of the
partition works (R29). -/
def doTreadleSettingsApply (p : Nat) (s : State) : State :=
  if [1, 3, 5].any (fun i => s.reg (0x2310 + p) (i + 1) != s.acc (0x2310 + p) i)
      ∧ ¬ (s.partCalderas p).all s.calderaIdle then s
  else forEach [1, 3, 5, 7, 9] s (fun s i => s.setReg (0x2310 + p) (i + 1) (s.acc (0x2310 + p) i))
/-- RATE: TICKS × 10^9 × 65,536 / PERIOD, to nearest. -/
def State.treadleRate (s : State) (p : Nat) : Nat :=
  let d := s.reg (0x2310 + p) 6
  (2 * (s.reg (0x2310 + p) 4 * 1000000000 * 65536) + d) / (2 * d)
/-- A RECOVERING partition meets the conditions of R342. -/
def State.recovered (s : State) (p : Nat) : Bool :=
  let k := s.part p
  k.pending == []
    && (s.reg (0x2B38 + p) 1 == 0 || (s.partCalderas p).all (fun c => k.geyserPassed.contains c))
    && (s.reg (0x2B08 + p) 3 == 0 || k.acked)
/-- RECOVERY_TO_NORMAL (R342): the last unsafe partition of the mask sends the error reset (R334). -/
def State.toNormal (s : State) (p : Nat) : State :=
  if s.partState p = 2 ∧ s.recovered p then
    let was := s.maskUnsafe
    let s := s.setReg (0x2B08 + p) 1 0
    if was ∧ ¬ s.maskUnsafe then s.emcy 0 0 0 0xFF 0 else s
  else s
/-- MARGIN of the frame that ends: what the replica gave, in percent; below 10 in a paced partition it is a warning, and a
frame at or above 10 ends the warning (R219, R336). -/
def State.frameMargin (s : State) (p c : Nat) : State :=
  let m := Config.margin s.freeUsed % 101
  let s := (s.withFreeUsed (s.freeUsed + 1)).setReg (0x2320 + c) 0x0A m
  if m < 10 then (if s.reg (0x2310 + p) 2 = 0 then s.warn 0x80 (some p) c m else s) else s.warnEnd 0x80 c
/-- Frame-start work of one caldera: SLIP_MAX, SLIP, RESERVE, and an OVERRUN whose next frame has had none (R340). -/
def State.frameCaldera (s : State) (p c : Nat) : State :=
  let s := s.maxReg (0x2320 + c) 6 (s.reg (0x2320 + c) 5)
  let s := ((s.setReg (0x2320 + c) 5 0).setReg (0x2320 + c) 2 (s.acc (0x2320 + c) 1)).ageFault 9 c false true
  (s.modCaldera c (fun k => { k with overrunSeen := false })).frameMargin p c
/-- The partition runs a plan, whose treadle frames all hold TICKS ticks (R214). -/
def State.planRuns (s : State) (p : Nat) : Bool := s.reg (0x2490 + p) 8 == 3 && !(s.plan p).starting
/-- TREADLE_FRAME_START: the frame of a running plan ends with its last tick; otherwise the generator may realign (R210, R214).
A plan that waits for the frame starts at its tick 0 (R213). -/
def doTreadleFrameStart (p : Nat) (s : State) : State :=
  if s.planRuns p ∧ (s.plan p).tick < s.reg (0x2310 + p) 4 then s
  else
  let s := (s.bump (0x2310 + p) 0x0C).modPlan p (fun k =>
    { k with tick := 0, frame := k.frame + 1, startDue := k.starting })
  (forEach (s.partCalderas p) s (fun s c => s.frameCaldera p c)).toNormal p

/-! ### Ticks (R76, R217, R218) -/

/-- Something of the caldera would issue or begin but for the guard. -/
def State.guardHolds (s : State) (c : Nat) : Bool :=
  (List.range 32).any (fun i =>
    let u := 32 * c + i
    let k := s.spindle u
    (match k.queue.head? with
     | some x => s.issueReady u x && !s.guardOk u (instrSteps x)
     | none => false)
    || (match k.drains.head? with
     | some j => s.drainReady u j && !s.guardOk u (drainSteps j)
     | none => false))
/-- The gate may release a step: no reserved slot is in progress; a caldera that is stopped or out of service only finishes what
has begun (R75). -/
def State.gateOpen (s : State) (c : Nat) : Bool :=
  !(s.caldera c).reserved && (!((s.caldera c).stopped || s.oos c) || s.calderaBusy c)
/-- A step is released; the first tick after a release of a stop has come (R309). -/
def State.releaseStep (s : State) (c : Nat) : State :=
  let s := if s.guardHolds c then s.bump (0x2320 + c) 0x0B else s
  (if s.gateOpen c then s.calderaStep c else s).modCaldera c (fun k =>
    if k.stopped then k else { k with stopMark := false })
/-- One tick at a paced caldera (R218). -/
def State.tickCaldera (s : State) (c : Nat) (late : Bool) : State :=
  if s.oos c ∧ ¬ s.calderaBusy c then s
  else if late then
    let first := !(s.caldera c).handshakeLate
    let s := (s.modCaldera c (fun k => { k with handshakeLate := true, overrunSeen := true })).bumpSat (0x2320 + c) 5
    if first then ((s.bumpSat (0x2320 + c) 9).ageFault 9 c false false).raise 9 (some (s.calderaPart c)) c 0 else s
  else (s.modCaldera c (fun k => { k with handshakeLate := false })).releaseStep c
/-- TREADLE_TICK: in a free-running partition the tick train places slots only. A frame holds TICKS ticks (R210), the first of
them after the plan that is due has started (R213). -/
def doTreadleTick (p late : Nat) (s : State) : State :=
  if s.reg (0x2310 + p) 4 ≤ (s.plan p).tick ∨ (s.plan p).startDue then s
  else
  let s := if s.reg (0x2310 + p) 2 = 0 then
      forEach (s.partCalderas p) s (fun s c => s.tickCaldera c (bit late c))
    else s
  s.modPlan p (fun k => { k with tick := k.tick + 1 })
/-- STEP_HANDSHAKE_COMPLETE: a free-running caldera releases its next step. -/
def doStepHandshakeComplete (c : Nat) (s : State) : State :=
  if s.reg (0x2310 + s.calderaPart c) 2 = 0 then s else s.releaseStep c
/-- Slot of the treadle frame in which the next tick falls. -/
def State.slotNow (s : State) (p : Nat) : Nat := (s.plan p).tick / (s.reg (0x2310 + p) 4 / 64)
/-- RESERVED_SLOT_BEGIN, at a slot that RESERVE marks. -/
def doReservedSlotBegin (c : Nat) (s : State) : State :=
  if bit (s.reg (0x2320 + c) 2) (s.slotNow (s.calderaPart c)) then
    s.modCaldera c (fun k => { k with reserved := true })
  else s
/-- RESERVED_SLOT_END. A sweep that has not ended waits for the next slot (R351, R387); the digest engine goes on. -/
def doReservedSlotEnd (c : Nat) (s : State) : State :=
  let s := s.modCaldera c (fun k => { k with reserved := false })
  let s := forEach ((List.range 8).map (fun i => 8 * c + i)) s State.settle
  if s.reg 0x2F04 2 = 1 ∧ ¬ s.calderas.any (fun k => k.2.reserved) then s.setReg 0x2F04 2 4 else s
/-- STATE of a treadle gate (R216): idle while nothing of the caldera runs. -/
def State.gateState (s : State) (c : Nat) : Nat :=
  if s.oos c then 4
  else if (s.caldera c).stopped then 3
  else if s.calderaIdle c then 0
  else if s.reg (0x2310 + s.calderaPart c) 2 = 0 then 1 else 2

/-! ### Deliveries (R220, R221) -/

/-- Ticks in `ns` nanoseconds, rounded up. -/
def State.ticksUp (s : State) (p ns : Nat) : Nat :=
  ceilDiv (ns * 65536 * s.reg (0x2310 + p) 4) (s.reg (0x2310 + p) 6)
/-- COMPLETION_DELIVERY: a completion that arrives after its delivery time, EQ and SLIP ticks behind its request, raises SLIP to
its lateness against EQ rounded up to a tick. -/
def doCompletionDelivery (c latencyNs : Nat) (refresh : Bool) (s : State) : State :=
  let p := s.calderaPart c
  let late := s.ticksUp p latencyNs - s.ticksUp p (s.reg (0x2310 + p) 0x0A)
  if s.reg (0x2310 + p) 2 ≠ 0 ∨ late ≤ s.reg (0x2320 + c) 5 then s
  else (s.setReg (0x2320 + c) 5 (Nat.min late 0xFFFF)).bumpSat (0x2320 + c) (if refresh then 7 else 8)

/-! ### External events, stops and the cut (R222, R124, R451 to R454) -/

/-- The stop takes effect: streams enter STOPPED with what they were, and the break flag is set. -/
def State.stopCaldera (s : State) (c : Nat) : State :=
  let s := forEach ((List.range 8).map (fun i => 8 * c + i)) s (fun s g =>
    let st := s.streamState g
    if st = 1 ∨ st = 2 ∨ st = 3 then (s.modSkein g (fun k => { k with recorded := st })).setStreamState g 5 else s)
  let s := s.modCaldera c (fun k => { k with stopped := true, stopMark := true })
  let s := s.modDebug (fun d => { d with
    broken := if d.broken.contains c then d.broken else d.broken ++ [c], untaken := d.untaken.filter (· != c) })
  s.traceStop c 1
/-- RELEASE is over once every caldera of the scope has taken it (R455). -/
def State.releaseDone (s : State) : State :=
  if s.reg 0x2D10 3 = 3 ∧ s.dbg.untaken.all s.oos then (s.setReg 0x2D10 3 0).setReg 0x2D10 4 0 else s
/-- The release takes effect: streams return to what they recorded; a page or an update that came meanwhile counts. -/
def State.releaseCaldera (s : State) (c : Nat) : State :=
  let s := forEach ((List.range 8).map (fun i => 8 * c + i)) s (fun s g =>
    if s.streamState g = 5 then
      let r := (s.skein g).recorded
      (s.modSkein g (fun k => { k with recorded := 0 })).setStreamState g r
    else s)
  let s := s.modCaldera c (fun k => { k with stopped := false })
  let s := s.modDebug (fun d => { d with untaken := d.untaken.filter (· != c) })
  ((s.resumeHalted.wakeAll).traceStop c 2).releaseDone
/-- EXTERNAL_EVENT_EFFECT: the oldest event that crossed the bridge takes effect. -/
def doExternalEventEffect (c : Nat) (s : State) : State :=
  match (s.caldera c).external with
  | [] => s
  | e :: rest =>
    let s := s.modCaldera c (fun k => { k with external := rest })
    match e with
    | .stop => s.stopCaldera c
    | .releaseStop => s.releaseCaldera c
    | .wake g => s.wakeSkein g
    | .timeout g n => s.timeoutEffect g n
    | .ack g xid status => s.sendAck g xid status
/-- Every caldera of the scope has taken the stop and finished its in-flight work; a pooling CONV rests between its position
ranges (R151). -/
def State.cutReady (s : State) : Bool :=
  s.dbg.untaken.all s.oos && (List.range 8).all (fun c =>
    !bit (s.reg 0x2D10 4) c || s.oos c ||
      (!s.calderaBusy c && (List.range 8).all (fun i =>
        (s.skein (8 * c + i)).flights.all (fun f =>
          opOf f.word == 0x10 || (opOf f.word == 4 && usesVector f)))))
/-- CUT_COMPLETE. -/
def doCutComplete (s : State) : State :=
  if s.reg 0x2D10 3 = 1 ∧ s.cutReady then
    ((s.setReg 0x2D10 6 s.stamp).setReg 0x2D10 3 2).trace 4 0x21 0xFF 3 0
  else s

/-! ### The commands -/

/-- TREADLE_SETTINGS_APPLY (R212). -/
def execTreadleSettingsApply (p : PartId) (s : State) : Host.Outcome State Fault Refusal :=
  .next (doTreadleSettingsApply p.val s)
/-- TREADLE_FRAME_START (R210). -/
def execTreadleFrameStart (p : PartId) (s : State) : Host.Outcome State Fault Refusal :=
  .next (doTreadleFrameStart p.val s)
/-- TREADLE_TICK (R76). -/
def execTreadleTick (p : PartId) (late : Nat) (s : State) : Host.Outcome State Fault Refusal :=
  .next (doTreadleTick p.val late s)
/-- STEP_HANDSHAKE_COMPLETE (R76). -/
def execStepHandshakeComplete (c : CalderaId) (s : State) : Host.Outcome State Fault Refusal :=
  .next (doStepHandshakeComplete c.val s)
/-- RESERVED_SLOT_BEGIN (R217). -/
def execReservedSlotBegin (c : CalderaId) (s : State) : Host.Outcome State Fault Refusal :=
  .next (doReservedSlotBegin c.val s)
/-- RESERVED_SLOT_END (R217). -/
def execReservedSlotEnd (c : CalderaId) (s : State) : Host.Outcome State Fault Refusal :=
  .next (doReservedSlotEnd c.val s)
/-- COMPLETION_DELIVERY (R220, R221). -/
def execCompletionDelivery (c : CalderaId) (latencyNs : Nat) (refresh : Bool) (s : State) : Host.Outcome State Fault Refusal :=
  .next (doCompletionDelivery c.val latencyNs refresh s)
/-- EXTERNAL_EVENT_EFFECT (R222). -/
def execExternalEventEffect (c : CalderaId) (s : State) : Host.Outcome State Fault Refusal :=
  .next (doExternalEventEffect c.val s)
/-- CUT_COMPLETE (R452). -/
def execCutComplete (s : State) : Host.Outcome State Fault Refusal := .next (doCutComplete s)

end Sys2Proof.Machine
end

