-- ==== Sys2Proof/Machine/Pipeline.lean ====
section
/-! DEFINITION. Pipeline: the chains of the input pipeline, the projector, the pyramid, tile masks, the gather engines and
batch entries (09_input_pipeline.md R270 to R302; R26). -/
namespace Sys2Proof.Machine

/-! ### Numbers -/

/-- Nearest integer to p / q, ties to even; q positive (R273). -/
def rhe (p : Int) (q : Nat) : Int :=
  let d : Int := q
  let k := p / d
  let r := p % d
  if d < 2 * r ∨ (2 * r = d ∧ k % 2 = 1) then k + 1 else k
/-- The full seconds that seconds modulo 2^32 stand for, nearest to the timebase's `now`, the later where two are as
near, never below zero (R303). -/
def fullSeconds (now r : Nat) : Nat :=
  let d := (r % 2 ^ 32 + 2 ^ 32 - now % 2 ^ 32) % 2 ^ 32
  if d ≤ 2 ^ 31 ∨ now + d < 2 ^ 32 then now + d else now + d - 2 ^ 32
/-- A stamp in ns since timebase zero (R303). -/
def fullNs (now st : Nat) : Nat := fullSeconds now (st / 2 ^ 32) * 1000000000 + st % 2 ^ 32
/-- Difference of two stamps in ns, read at timebase seconds `now`. -/
def stampDiff (now a b : Nat) : Int := (fullNs now a : Int) - fullNs now b
/-- Signed field of a record. -/
def sfield (b : List Byte) (off n : Nat) : Int := sgn (8 * n) (field b off n)

/-! ### Accesses of a block of the I/O die (R175, R189) -/

/-- A range touches a scratchpad, which no block of the I/O die reads or writes (R182). -/
def inScratch (da n : Nat) : Bool := regionOf da == .spad || regionOf (da + (n - 1)) == .spad
/-- Reads for a partition: status, address, bytes; a scratchpad is unmapped for a block. -/
def State.blockRead (s : State) (p da n : Nat) : ReadResult :=
  let c := s.rangeStatus (some p) false da n
  if inScratch da n then ⟨0x25, da, []⟩ else if c.1 ≠ 0 then ⟨c.1, c.2, []⟩ else s.readDev [] da n
/-- The events of a read: corrected code, and MEM_UNCORR of the reader, or of the owner of a buffer page (R189, R198). -/
def State.blockReadEvents (s : State) (p da n : Nat) : State :=
  let r := s.blockRead p da n
  let s := if inScratch da n then s else s.readEvents [] da n
  if r.status = 0x30 then
    (if regionOf da = .buf then
      s.memUncorr (entPart (s.entry ((pageId r.at_).getD 0))) [] r.at_
     else s.memUncorr p [] r.at_)
  else s
/-- Writes for a partition; a refused write lands nowhere. -/
def State.blockWrite (s : State) (p da : Nat) (bs : List Byte) : State × Nat :=
  let c := s.rangeStatus (some p) true da bs.length
  if inScratch da bs.length then (s, 0x25) else if c.1 ≠ 0 then (s, c.1) else s.writeDev [] da bs
/-- Device address of a byte offset in the I/O-die buffers (R258). -/
def bufAt (off : Nat) : Nat := bufferBase + off

/-! ### Chains (R270 to R291) -/

def State.chain (s : State) (n : Nat) : List Byte := tblGet [] s.chains n
def chainStages (c : List Byte) : List (List Byte) := (List.range (field c 1 1)).map (fun i => slice c (32 + 128 * i) 128)
/-- The stage record of a type. -/
def stage? (c : List Byte) (t : Nat) : Option (List Byte) := (chainStages c).find? (fun r => field r 0 1 == t)
def stage (c : List Byte) (t : Nat) : List Byte := (stage? c t).getD []
def hasStage (c : List Byte) (t : Nat) : Bool := (stage? c t).isSome
def chW (c : List Byte) : Nat := field (stage c 5) 4 2
def chH (c : List Byte) : Nat := field (stage c 5) 6 2
def pixBytes (c : List Byte) : Nat := field (stage c 5) 8 1
def holdLines (c : List Byte) : Nat := field c 2 1
def slotsOf (c : List Byte) : Nat := field (stage c 6) 4 1
def haloOf (c : List Byte) : Nat := field (stage c 6) 5 1
def maxBatches (c : List Byte) : Nat := field (stage c 6) 10 2
def tileW (c : List Byte) : Nat := 64 + 2 * haloOf c
def gatherRow (c : List Byte) : Nat := ceilTo (tileW c * pixBytes c) 32
def slotBytes (c : List Byte) : Nat := tileW c * gatherRow c
def listStride (c : List Byte) : Nat := ceilTo (maxBatches c * slotsOf c * 4) 32
/-- Colour of a phase (R274). -/
def cfaColour (cfa k : Nat) : Nat := bits cfa (2 * k + 1) (2 * k)
def cfaPhase (x y : Nat) : Nat := 4 * (y % 4) + x % 4
/-- Pixels of the window of a radius about (x, y), clipped to the image. -/
def windowAt (w h x y r : Nat) : List (Nat × Nat) :=
  ((List.range (2 * r + 1)).map (fun j => (List.range (2 * r + 1)).filterMap (fun i =>
    if r ≤ x + i ∧ x + i - r < w ∧ r ≤ y + j ∧ y + j - r < h then some (x + i - r, y + j - r) else none))).flatten
/-- The window's pixels of a colour. -/
def ofColour (cfa c : Nat) (ps : List (Nat × Nat)) : List (Nat × Nat) :=
  ps.filter (fun p => cfaColour cfa (cfaPhase p.1 p.2) == c)
/-- R_EFF (R275), found on an image of 12 × 12 pixels, which holds every phase and every clipping. -/
def rEff (cfa radius : Nat) : Nat :=
  let falls := (List.range (12 - radius)).any (fun y => (List.range 12).any (fun x => (List.range 4).any (fun c =>
    ofColour cfa c (windowAt 12 12 x y radius) == [])))
  if falls then radius + 2 else radius
def chREff (c : List Byte) : Nat := rEff (field (stage c 2) 4 4) (field (stage c 2) 8 1)

/-! ### Pixels (R273 to R277, R285) -/

def ChainFrame.raw (f : ChainFrame) (x y : Nat) : Nat := ((f.lines.getD y ([], false)).1).getD x 0
/-- BLACK. -/
def blackAt (c : List Byte) (f : ChainFrame) (p : Nat × Nat) : Nat :=
  let b := stage c 1
  let k := cfaPhase p.1 p.2
  let d : Int := (f.raw p.1 p.2 : Int) - field b (4 + 2 * k) 2
  if d ≤ 0 then 0 else Nat.min 65535 (rhe (d * field b (36 + 2 * k) 2) 4096).toNat
/-- DEMOSAIC: one colour of one pixel. -/
def colourAt (c : List Byte) (f : ChainFrame) (x y col : Nat) : Int :=
  let d := stage c 2
  let cfa := field d 4 4
  let r := field d 8 1
  if cfaColour cfa (cfaPhase x y) = col then blackAt c f (x, y)
  else
    let near := ofColour cfa col (windowAt (chW c) (chH c) x y r)
    let ps := if near = [] then ofColour cfa col (windowAt (chW c) (chH c) x y (r + 2)) else near
    rhe ((ps.map (blackAt c f)).sum : Nat) ps.length
/-- VINDEX, from the four colours. -/
def vindexOf (v : List Byte) (px : List Int) : Int :=
  let dot := fun (o : Nat) => ((List.range 4).map (fun i => sfield v (o + 2 * i) 2 * px.getD i 0)).sum
  let q := dot 12 + sfield v 20 4
  if q ≤ 0 then 0 else max (-128) (min 127 (rhe (field v 24 1 * dot 4) q.toNat))
/-- Value of the height plane at a pixel. -/
def heightAt (c : List Byte) (f : ChainFrame) (x y : Nat) : Nat :=
  let hs := field (stage c 4) 5 1
  f.plane.getD (y / 2 ^ hs * (chW c / 2 ^ hs) + x / 2 ^ hs) 255
/-- QUANT record of a channel. -/
def quant (c : List Byte) (i : Nat) : List Byte := slice (stage c 5) (32 + 8 * i) 8
/-- The eight channels of a level-0 pixel. -/
def level0 (c : List Byte) (f : ChainFrame) (x y : Nat) : List Int :=
  let px := (List.range 4).map (colourAt c f x y)
  (List.range 8).map (fun i =>
    let q := quant c i
    let src := field q 0 1
    let scaled := fun (v : Int) => roundShift (v * field q 4 2) (field q 1 1) 0 + sfield q 2 1
    if src = 0xFF then 0
    else if src = 5 then (if heightAt c f x y = 255 then -128 else max (-127) (min 127 (scaled (heightAt c f x y))))
    else max (-128) (min 127 (scaled (if src = 4 then vindexOf (stage c 3) px else px.getD src 0))))
/-- The eight channels of a pixel of a level. -/
def levelPixel (c : List Byte) (f : ChainFrame) : Nat → Nat → Nat → List Int
  | 0, x, y => level0 c f x y
  | k + 1, x, y =>
    let block := [levelPixel c f k (2 * x) (2 * y), levelPixel c f k (2 * x + 1) (2 * y),
      levelPixel c f k (2 * x) (2 * y + 1), levelPixel c f k (2 * x + 1) (2 * y + 1)]
    (List.range 8).map (fun i =>
      let vs := block.map (fun p => p.getD i 0)
      let src := field (quant c i) 0 1
      if src = 0xFF then 0
      else if src = 5 then
        let hs := vs.filter (· ≠ -128)
        if hs = [] then -128 else rhe hs.sum hs.length
      else rhe vs.sum 4)
/-- Offset of a level in a frame buffer (R286). -/
def levelOffset (c : List Byte) : Nat → Nat
  | 0 => 0
  | k + 1 => levelOffset c k + (chH c / 2 ^ k) * ceilTo (chW c / 2 ^ k * pixBytes c) 32
def levelPitch (c : List Byte) (k : Nat) : Nat := ceilTo (chW c / 2 ^ k * pixBytes c) 32
def planeBase (c : List Byte) (number : Nat) : Nat :=
  field (stage c 5) 16 8 + number % field (stage c 5) 9 1 * field (stage c 5) 24 8
/-- Bytes of one row of a level. -/
def levelRow (c : List Byte) (f : ChainFrame) (k y : Nat) : List Byte :=
  let bs := ((List.range (chW c / 2 ^ k)).map (fun x =>
    (levelPixel c f k x y).map (fun v => (BitVec.ofNat 8 (enc 8 v) : Byte)) ++ zeros (pixBytes c - 8))).flatten
  bs ++ zeros (levelPitch c k - bs.length)

/-! ### Frames in the chain -/

def State.setFrame (s : State) (n : Nat) (f : ChainFrame) : State :=
  s.modCamera n (fun k => { k with frames := k.frames.map (fun x => if x.number = f.number then f else x) })
/-- A frame as it enters the chain. -/
def newFrame (number t0 : Nat) (shiftY : Int) (projection : Nat) : ChainFrame :=
  { number := number, t0 := t0, shiftY := shiftY, lines := [], projection := projection, plane := [], projected := 0,
    marked := false, heightGap := false, holdAbandon := false, missing := false, geometry := false, fallback := false,
    closed := false, invalid := false, rows := [0, 0, 0, 0], released := [0, 0, 0, 0], tiles := none, slotsDone := 0,
    batches := 0, skipping := false, overflow := false, formed := false,
    pushed := false }
/-- Frames that are closed, whose last entry has been pushed and whose rows have all landed leave the chain. -/
def State.settleFrames (s : State) (n : Nat) : State :=
  let h := chH (s.chain n)
  s.modCamera n (fun k => { k with frames := k.frames.filter (fun f =>
    !(f.pushed && f.closed && (List.range 4).all (fun i => f.rows.getD i 0 == h / 2 ^ i))) })
def dimMode (s : State) : Bool := s.reg 0x2500 1 == 1
/-- Number of stripes of a level (R286). -/
def stripeCount (c : List Byte) (k : Nat) : Nat := ceilDiv (chH c / 2 ^ k) 64
def syncBase (c : List Byte) : Nat := field (stage c 5) 12 4

/-! ### Batches (R292 to R297) -/

/-- A batch's buffer is free (R295). -/
def State.batchFree (s : State) (n sub : Nat) : Bool :=
  let t := stage (s.chain n) 6
  let nb := field t 12 2
  decide (sub < nb) ||
    syncReached ((s.sync (field t 16 4) + 2 ^ 32 - (s.camera n).free0) % 2 ^ 32) ((sub - nb + 1) % 2 ^ 32)
/-- Some input line about a tile row carried the CONCEALED tag (R293). -/
def tileInvalid (c : List Byte) (f : ChainFrame) (ty : Nat) : Bool :=
  let ch := field (stage c 6) 6 1
  f.invalid || (List.range (64 + 2 * ch)).any (fun i =>
    decide (ch ≤ 64 * ty + i) && (f.lines.getD (64 * ty + i - ch) ([], false)).2)
/-- Tile-list entry (R156). -/
def listEntry (tile : Option (Nat × Nat)) (invalid : Bool) : Nat :=
  match tile with
  | none => 0x0000FFFF
  | some t => b2n invalid * 2 ^ 31 + t.2 * 2 ^ 16 + t.1
/-- Writes a tile-list entry; a real INVALID one is counted. -/
def State.writeList (s : State) (n da : Nat) (tile : Option (Nat × Nat)) (invalid : Bool) : State :=
  let s := (s.blockWrite (s.streamPart n) da (leBytes 4 (listEntry tile invalid))).1
  if tile.isSome && invalid then s.bumpSat (0x2710 + n) 7 else s
/-- Device address of a tile-list entry (R293). -/
def listAddr (c : List Byte) (number batch slot : Nat) : Nat :=
  field (stage c 6) 32 8 + number % 4 * listStride c + (batch * slotsOf c + slot) * 4
/-- Entries of the stream that may wait (R297, R299). -/
def State.waitLimit (s : State) (n : Nat) : Nat := if dimMode s then maxBatches (s.chain n) else 64
/-- Flags of a frame's entries; the last one carries more (R296). -/
def entryFlags (f : ChainFrame) (last nobuf : Bool) : Nat :=
  b2n (f.invalid || f.missing || f.geometry) + b2n last * 2 + b2n f.fallback * 4 + b2n (last && f.overflow) * 8
    + b2n (last && f.heightGap) * 16 + b2n f.missing * 32 + b2n nobuf * 64 + b2n f.geometry * 128
/-- TILE_OVF of a frame, counted once. -/
def State.tileOvf (s : State) (n number : Nat) : State :=
  match (s.camera n).frames.find? (fun f => f.number == number) with
  | some f => if f.overflow then s else (s.setFrame n { f with overflow := true }).bumpSat (0x2710 + n) 9
  | none => s
/-- LAST and the flags of a last entry go to the last entry of the frame that still waits, its own batch being dropped. -/
def State.moveLast (s : State) (n : Nat) (f : ChainFrame) : State :=
  let overflow := ((s.camera n).frames.find? (fun x => x.number == f.number)).any (·.overflow)
  if ¬ (s.camera n).entries.any (fun e => e.frame == f.number) then
    s.modCamera n (fun k => { k with frames := k.frames.map (fun x =>
      if x.number = f.number then { x with pushed := true } else x) })
  else s.modCamera n (fun k => { k with entries := (k.entries.reverse.foldl (fun (r : List BatchEntry × Bool) e =>
    if !r.2 && e.frame == f.number then
      ({ e with flags := e.flags ||| entryFlags { f with overflow := overflow } true false, flags2 := b2n f.holdAbandon } :: r.1, true)
    else (e :: r.1, r.2)) ([], false)).1 })
/-- Forms the batch that starts with the next slot of a frame: numbered, or dropped, its tiles if it has any under
TILE_OVF (R297); NOBUF where its buffer is not free. `ts` are its real tiles. -/
def State.formBatch (s : State) (n : Nat) (f : ChainFrame) (ts : List (Nat × Nat)) (last : Bool) : State :=
  let c := s.chain n
  let k := s.camera n
  if s.waitLimit n ≤ k.entries.length then
    let s := s.setFrame n { f with skipping := true }
    let s := if ts = [] then s else s.tileOvf n f.number
    if last then s.moveLast n f else s
  else
    let free := s.batchFree n k.nextSubmit
    let e : BatchEntry :=
      { submit := k.nextSubmit, frame := f.number, batch := f.batches, tiles := ts.length,
        slotsLeft := if free then slotsOf c else 0, flags := entryFlags f last (!free),
        flags2 := if last then b2n f.holdAbandon else 0, list := listAddr c f.number f.batches 0, t0 := f.t0,
        queue := field (stage c 6) 14 2, late := false, clean := [] }
    let s := s.setCamera n { k with entries := k.entries ++ [e], nextSubmit := k.nextSubmit + 1 }
    let s := s.setFrame n { f with skipping := !free, batches := f.batches + 1 }
    if free then s
    else
      let s := (ts.zipIdx).foldl (fun s t => s.writeList n (listAddr c f.number f.batches t.2) (some t.1) true) s
      let s := (List.range (slotsOf c - ts.length)).foldl (fun s i =>
        s.writeList n (listAddr c f.number f.batches (ts.length + i)) none false) s
      (s.bumpSat (0x2710 + n) 0x0A).raise 0x0D (some (s.streamPart n)) n (k.nextSubmit % 2 ^ 32)
/-- The slots of a frame in order: its tiles, then padding to whole batches; a frame without a tile has one batch. -/
def frameSlots (c : List Byte) (ts : List (Nat × Nat)) : List (Option (Nat × Nat)) :=
  let n := slotsOf c
  let total := if ts = [] then n else ceilTo ts.length n
  ts.map some ++ List.replicate (total - ts.length) none
/-- The frame's next slot is released: its batch is formed at its first slot, and the slot waits for an engine (R294). -/
def State.releaseSlot (s : State) (n number : Nat) (slots : List (Option (Nat × Nat))) : State :=
  match (s.camera n).frames.find? (fun f => f.number == number) with
  | none => s
  | some f =>
    let c := s.chain n
    let i := f.slotsDone
    let s := if i % slotsOf c = 0 then
        s.formBatch n { f with skipping := false } (((slots.drop i).take (slotsOf c)).filterMap id)
          (decide (slots.length ≤ i + slotsOf c))
      else s
    match (s.camera n).frames.find? (fun x => x.number == number) with
    | none => s
    | some f =>
      let s := s.setFrame n { f with slotsDone := i + 1, formed := decide (slots.length ≤ i + 1) }
      if f.skipping then s
      else (s.withGatherQueue (s.gatherQueue ++
        [⟨n, number, (s.camera n).nextSubmit - 1, i % slotsOf c, listAddr c number (f.batches - 1) (i % slotsOf c),
          slots.getD i none, (slots.getD i none).any (fun t => tileInvalid c f t.2), c⟩]))
/-- Slots of a frame that can be released: real tiles whose stripe has been released; padding after the last tile. -/
def releasable (f : ChainFrame) (slots : List (Option (Nat × Nat))) : Nat :=
  let ok := fun (t : Option (Nat × Nat)) => match t with
    | some t => decide (t.2 < f.released.getD 0 0)
    | none => true
  ((slots.drop f.slotsDone).takeWhile ok).length
/-- Releases slots in frame order: a frame waits for those before it to be wholly formed (R297, R302). -/
def State.releaseFrames (s : State) (n : Nat) : List Nat → State
  | [] => s
  | number :: rest =>
    match (s.camera n).frames.find? (fun f => f.number == number) with
    | none => s.releaseFrames n rest
    | some f =>
      if f.formed then s.releaseFrames n rest
      else match f.tiles with
        | none => s
        | some ts =>
          let slots := frameSlots (s.chain n) ts
          let s := (List.range (releasable f slots)).foldl (fun s _ => s.releaseSlot n number slots) s
          if ((s.camera n).frames.find? (fun x => x.number == number)).any (·.formed) then s.releaseFrames n rest else s
def State.formBatches (s : State) (n : Nat) : State := s.releaseFrames n ((s.camera n).frames.map (·.number))

/-! ### Tile masks (R288 to R290) -/

/-- Rows of the mask of a frame where it is taken. -/
def maskTaken (number : Nat) (r : ReadResult) : Option (List Byte) :=
  if r.status = 0 ∧ field r.bytes 0 4 = number % 2 ^ 32 ∧ field r.bytes 4 1 = 1 ∧ (slice r.bytes 5 27).all (· == 0)
  then some (slice r.bytes 32 512) else none
/-- Tile (tx, ty) of a mask; outside the grid 0. -/
def maskBit (c m : List Byte) (tx ty : Int) : Bool :=
  decide (0 ≤ tx ∧ tx < (chW c / 64 : Nat) ∧ 0 ≤ ty ∧ ty < (chH c / 64 : Nat))
    && bit (field m (8 * ty.toNat) 8) tx.toNat
/-- Shifted and widened marks in order (R290). -/
def markedTiles (c m : List Byte) (shiftY : Int) : List (Nat × Nat) :=
  let dx := field (stage c 6) 7 1
  let dy := field (stage c 6) 8 1
  let inGrid := fun (x y : Int) => decide (0 ≤ x ∧ x < (chW c / 64 : Nat) ∧ 0 ≤ y ∧ y < (chH c / 64 : Nat))
  let s := fun (x y : Int) => inGrid x y && maskBit c m x (y - shiftY)
  ((List.range (chH c / 64)).map (fun (ty : Nat) => (List.range (chW c / 64)).filterMap (fun (tx : Nat) =>
    if (List.range (2 * dx + 1)).any (fun i => (List.range (2 * dy + 1)).any (fun j =>
        s ((tx : Int) + i - dx) ((ty : Int) + j - dy))) then some (tx, ty) else none))).flatten
/-- Every tile, in order: what a fallback marks that has no mask, whatever SHIFT_Y is (R289). -/
def allTiles (c : List Byte) : List (Nat × Nat) :=
  ((List.range (chH c / 64)).map (fun ty => (List.range (chW c / 64)).map (fun tx => (tx, ty)))).flatten
/-- MASK_READ, at the release of level-0 stripe 0: the tiles of the frame, those beyond the last batch dropped (R292). -/
def State.readMask (s : State) (n : Nat) (f : ChainFrame) : State :=
  let c := s.chain n
  let p := s.streamPart n
  let da := field (stage c 6) 24 8 + f.number % 4 * 0x400
  let r := s.blockRead p da 544
  let s := s.blockReadEvents p da 544
  let taken := maskTaken f.number r
  let k := s.camera n
  let marks := match taken with
    | some m => some m
    | none => if field (stage c 6) 9 1 = 1 then k.lastMask else none
  let s := if taken.isSome then s.setCamera n { k with lastMask := taken } else s.bumpSat (0x2710 + n) 8
  let ts := match marks with
    | some m => markedTiles c m f.shiftY
    | none => allTiles c
  let most := maxBatches c * slotsOf c
  let f := { f with tiles := some (ts.take most), fallback := taken.isNone }
  let s := s.setFrame n f
  if most < ts.length then s.tileOvf n f.number else s

/-! ### Rows and stripes (R286, R287) -/

/-- A level has landed the rows that its next stripe needs. -/
def stripeReady (c : List Byte) (f : ChainFrame) (k : Nat) : Bool :=
  let j := f.released.getD k 0
  decide (j < stripeCount c k) && decide (Nat.min (64 * j + 67) (chH c / 2 ^ k - 1) < f.rows.getD k 0)
/-- STRIPE_RELEASE of one stripe of a level, and the frame's end signal. -/
def State.releaseStripe (s : State) (n k : Nat) (f : ChainFrame) : State :=
  let c := s.chain n
  let j := f.released.getD k 0
  let f := { f with released := f.released.set k (j + 1) }
  let s := (s.setFrame n f).outerAdd (syncBase c + k) 1
  let s := if (List.range 4).all (fun i => f.released.getD i 0 == stripeCount c i) then s.outerAdd (syncBase c + 4) 1 else s
  if k = 0 then (if j = 0 then s.readMask n f else s) else s
/-- Releases what is ready of a level: at most two stripes become ready with one row. -/
def State.releaseReady (s : State) (n k number : Nat) : Nat → State
  | 0 => s
  | m + 1 =>
    match (s.camera n).frames.find? (fun f => f.number == number) with
    | some f => if stripeReady (s.chain n) f k then (s.releaseStripe n k f).releaseReady n k number m else s
    | none => s
/-- The next row of a level of this frame can land. -/
def rowReady (c : List Byte) (f : ChainFrame) (k : Nat) : Bool :=
  let y := f.rows.getD k 0
  !f.missing && !f.geometry && decide (y < chH c / 2 ^ k)
    && (if k = 0 then (f.projection == 0 || f.projection == 3)
          && decide (Nat.min (chH c - 1) (y + chREff c) < f.lines.length)
        else decide (2 * y + 1 < f.rows.getD (k - 1) 0))
/-- ROW_LAND: the next row of a level, of the oldest frame that has rows of it to come. -/
def doRowLand (n k : Nat) (s : State) : State :=
  let c := s.chain n
  match (s.camera n).frames.find? (fun f => !f.missing && !f.geometry && decide (f.rows.getD k 0 < chH c / 2 ^ k)) with
  | none => s
  | some f =>
    if ¬ rowReady c f k then s
    else
      let y := f.rows.getD k 0
      let da := planeBase c f.number + levelOffset c k + y * levelPitch c k
      let s := (s.blockWrite (s.streamPart n) da (levelRow c f k y)).1
      let s := s.setFrame n { f with rows := f.rows.set k (y + 1) }
      ((s.releaseReady n k f.number 2).formBatches n).settleFrames n

/-! ### Frames opened, missing and closed (R283, R298, R299, R26) -/

/-- One batch of padding, and every synchronisation object advanced as by a whole frame (R298). -/
def State.emptyFrame (s : State) (n : Nat) (f : ChainFrame) : State :=
  let c := s.chain n
  let f := { f with tiles := some [], closed := true, invalid := true,
                    rows := (List.range 4).map (fun k => chH c / 2 ^ k), released := (List.range 4).map (stripeCount c) }
  let s := s.modCamera n (fun k => { k with frames := k.frames ++ [f] })
  let s := forEach (List.range 4) s (fun s k => s.outerAdd (syncBase c + k) (stripeCount c k))
  (s.outerAdd (syncBase c + 4) 1).formBatches n
/-- Device frame number of the next frame: frames closed or missing, and the one that is open (2540h + n:0C). -/
def State.nextNumber (s : State) (n : Nat) : Nat :=
  (s.reg (0x2540 + n) 0x0C + b2n (s.camera n).openFrame.isSome) % 2 ^ 32
/-- A frame enters the chain at its Frame Start; one of another size is a GEOMETRY frame. -/
def State.chainOpen (s : State) (n number t0 : Nat) : State :=
  let c := s.chain n
  if c = [] then s
  else
    let f := newFrame number t0 (sgn 8 (s.reg (0x2710 + n) 3)) (b2n (hasStage c 4))
    if s.reg (0x2540 + n) 4 ≠ chW c ∨ s.reg (0x2540 + n) 5 ≠ chH c then
      (s.emptyFrame n { f with geometry := true, projection := 0 }).raise 0x0C (some (s.streamPart n)) n number
    else s.modCamera n (fun k => { k with frames := k.frames ++ [f] })
/-- A missing frame (R298). -/
def State.chainMissing (s : State) (n number : Nat) : State :=
  if s.chain n = [] then s else s.emptyFrame n { newFrame number s.stamp 0 0 with missing := true }
/-- Cells of the height plane. -/
def cellCount (c : List Byte) : Nat :=
  let hs := field (stage c 4) 5 1
  chW c / 2 ^ hs * (chH c / 2 ^ hs)
/-- The bytes of a height plane land at HPLANE (R279); cells beyond the list hold 255. -/
def State.putPlane (s : State) (n : Nat) (plane : List Nat) : State :=
  let c := s.chain n
  (s.blockWrite (s.streamPart n) (bufAt (field (stage c 4) 12 4))
    ((List.range (cellCount c)).map (fun i => (BitVec.ofNat 8 (plane.getD i 255) : Byte)))).1
/-- The height plane of a frame without heights (R283): every cell 255. -/
def State.planeLost (s : State) (n : Nat) (f : ChainFrame) (abandon : Bool) : State :=
  let s := s.putPlane n []
  let s := s.withLanes (if f.projection = 2 then s.lanes.filter (· ≠ n) else s.lanes)
  let s := s.setFrame n { f with projection := 3, plane := [], heightGap := true, holdAbandon := abandon }
  let s := s.bumpSat (0x2710 + n) 0x0B
  if abandon then s.bumpSat (0x2710 + n) 0x0C else s
/-- A line is handed to the chain; a line too many for the hold abandons the projection (R283). -/
def State.chainLine (s : State) (n number : Nat) (px : List Nat) (tag : Bool) : State :=
  match (s.camera n).frames.find? (fun f => f.number == number && !f.closed) with
  | none => s
  | some f =>
    let late := (f.projection == 1 || f.projection == 2) && decide (holdLines (s.chain n) ≤ f.lines.length)
    let s := if late then s.planeLost n f true else s
    match (s.camera n).frames.find? (fun f => f.number == number) with
    | none => s
    | some f => s.setFrame n { f with lines := f.lines ++ [(px, tag)] }
/-- INVALID of a dimension-limit frame reaches its tiles and entries: none of them has been pushed, and tile-list entries
yet to be written take it when they are (R299). -/
def State.invalidate299 (s : State) (n : Nat) (f : ChainFrame) : State :=
  let written := (((s.camera n).entries.filter (fun e => e.frame == f.number)).map BatchEntry.clean).flatten
  let s := s.modCamera n (fun k => { k with entries := k.entries.map (fun e =>
    if e.frame = f.number then { e with flags := e.flags ||| 1, clean := [] } else e) })
  written.foldl (fun s t => s.writeList n t.1 (some t.2) true) s
/-- The frame record is formed. -/
def State.chainClose (s : State) (n number : Nat) (invalid : Bool) : State :=
  match (s.camera n).frames.find? (fun f => f.number == number && !f.closed) with
  | none => s
  | some f =>
    let f := { f with closed := true, invalid := invalid }
    let s := s.setFrame n f
    let s := if ¬ invalid then s
      else if dimMode s then s.invalidate299 n f
      else s.modCamera n (fun k => { k with entries := k.entries.map (fun e =>
         if e.frame = number then { e with flags := e.flags ||| 1 } else e) })
    s.settleFrames n
/-- A queue holds an entry of which `f` is true. -/
def State.queueHolds (s : State) (q : Nat) (f : List Byte → Bool) : Bool :=
  (s.queue q).enabled && (s.queuePeek q (s.queue q).count).2.any f
/-- Work on a frame of a stream still runs (R26): in the chain, in a batch entry waiting to be pushed or popped, in a skein
whose live stream popped one of its entries last, in a job of an engine or in one waiting for its block. DESIGN CHOICE of
what the device can tell to be that frame's work: log 104. -/
def State.frameRuns (s : State) (n number : Nat) : Bool :=
  let job := fun (e : List Byte) => field e 18 1 == n && field e 20 4 == number
  (s.camera n).frames.any (fun f => f.number == number) || (s.camera n).entries.any (fun e => e.frame == number)
    || s.queueHolds (field (stage (s.chain n) 6) 14 2) (fun e =>
      field e 0 1 == 0x20 && field e 1 1 == n && field e 8 4 == number)
    || (List.range 64).any (fun g => s.streamLive g && (s.skein g).batch == some (n, number))
    || s.engines.any (fun x => job x.2.entry) || s.blocks.any (fun b => s.queueHolds (field b.2 44 2) job)
/-- FRAME_LATE: the work of frame n − 2 still runs at this End of Frame (R26). -/
def State.frameLate (s : State) (n number : Nat) : State :=
  if s.frameRuns n ((number + 2 ^ 32 - 2) % 2 ^ 32) then s.raise 0x0A (some (s.streamPart n)) n number
  else s

/-! ### The projector (R278 to R283) -/

def entryTime (e : List Byte) : Nat := field e 16 8
def isMarker (e : List Byte) : Bool := bit (field e 25 1) 0
/-- Entries of a range stream's history ring, oldest first; none where one cannot be read. -/
def State.history (s : State) (d : Nat) : Option (List (List Byte)) :=
  let c := s.chain (40 + d)
  let size := 2 ^ field (stage c 7) 6 1
  let n := (s.decoder d).stored
  let cnt := Nat.min n size
  let rs := (List.range cnt).map (fun i =>
    s.blockRead (s.streamPart (40 + d)) (bufAt (field (stage c 7) 8 4) + 32 * ((n - cnt + i) % size)) 32)
  if rs.all (fun r => r.status == 0) then some (rs.map ReadResult.bytes) else none
/-- TIME lies in the window of a frame (R281). -/
def inWindow (now : Nat) (pj : List Byte) (t0 t : Nat) : Bool :=
  decide (-((field pj 16 4 * 1000 : Nat) : Int) ≤ stampDiff now t t0 ∧ stampDiff now t t0 ≤ (field pj 20 4 * 1000 : Nat))
/-- A marker's span overlaps the window (R282). -/
def markerIn (now : Nat) (pj cal e : List Byte) (t0 : Nat) : Bool :=
  let a := stampDiff now (entryTime e) t0
  let b := a + (field e 12 4 * field cal 72 4 : Nat)
  decide (a ≤ (field pj 20 4 * 1000 : Nat) ∧ -((field pj 16 4 * 1000 : Nat) : Int) ≤ b)
/-- Sensor coordinate in metres: 1/4,096 m. -/
def metres (e : List Byte) (o : Nat) : Nat :=
  let v := sfield e o 4
  (fpEncode fp32 true (.num (decide (v < 0)) v.natAbs (-12))).1
/-- dot of R281 over the row of a matrix at byte `o`. -/
def dot4 (cal : List Byte) (o : Nat) (x y z : Nat) : Nat :=
  let m := fun (i : Nat) => field cal (o + 4 * i) 4
  let a := (fpMul fp32 (m 0) x).1
  let a := (fpFma fp32 (m 1) y a).1
  let a := (fpFma fp32 (m 2) z a).1
  (fpAdd fp32 a (m 3)).1
/-- Integer part of a value that is not negative. -/
def floorFv : Fv → Nat
  | .num _ m e => if 0 ≤ e then m * 2 ^ e.toNat else m / 2 ^ (-e).toNat
  | _ => 0
/-- lo ≤ v < hi for integers lo, hi. -/
def fvWithin (v lo hi : Nat) : Bool :=
  fvLe (fvOfInt lo) (fpDecode fp32 v) && fvLt (fpDecode fp32 v) (fvOfInt hi)
/-- Projection of one point: cell, value, a2; none where it is dropped. -/
def projectPoint (c cal e : List Byte) : Option (Nat × Nat × Nat) :=
  let pj := stage c 4
  let hs := field pj 5 1
  let x := metres e 0
  let y := metres e 4
  let z := metres e 8
  let a0 := dot4 cal 0 x y z
  let a1 := dot4 cal 16 x y z
  let a2 := dot4 cal 32 x y z
  let u := (fpDiv fp32 a0 a2).1
  let v := (fpDiv fp32 a1 a2).1
  let h := dot4 cal 48 x y z
  if fpLt fp32 0 a2 && fvWithin u (field cal 64 2) (field cal 68 2) && fvWithin v (field cal 66 2) (field cal 70 2)
      && fpFinite fp32 h then
    let cell := floorFv (fpDecode fp32 v) / 2 ^ hs * (chW c / 2 ^ hs) + floorFv (fpDecode fp32 u) / 2 ^ hs
    let q := (fpDiv fp32 h (fpEncode fp32 true (fvOfInt (field pj 6 2))).1).1
    some (cell, (clampI 0 254 (fvToInt 32 0 (fpDecode fp32 q)).1).toNat, a2)
  else none
/-- The winner of a cell: |TIME − t0|, a2, source, value (R282). -/
abbrev Winner := Nat × Nat × Nat × Nat
/-- A later candidate wins only where it is strictly nearer, or as near with a smaller a2. -/
def better (a b : Winner) : Bool :=
  decide (a.1 < b.1) || (decide (a.1 = b.1) && decide (fpRank fp32 a.2.1 < fpRank fp32 b.2.1))
/-- Winners of the cells, from the points of the sources in order. -/
def winners (now : Nat) (c : List Byte) (t0 : Nat) (src : List (Nat × List Byte × List (List Byte))) : Tbl Winner :=
  src.foldl (fun t x => x.2.2.foldl (fun t e =>
    match projectPoint c x.2.1 e with
    | some (cell, val, a2) =>
      let w : Winner := ((stampDiff now (entryTime e) t0).natAbs, a2, x.1, val)
      match t.find? (fun y => y.1 == cell) with
      | some old => if better w old.2 then tblIns (tblDel t cell) cell w else t
      | none => tblIns t cell w
    | none => t) t) []
/-- A cell has a pixel in the RECT of a calibration entry. -/
def cellInRect (cal : List Byte) (hs cx cy : Nat) : Bool :=
  decide (cx * 2 ^ hs < field cal 68 2 ∧ field cal 64 2 < (cx + 1) * 2 ^ hs
    ∧ cy * 2 ^ hs < field cal 70 2 ∧ field cal 66 2 < (cy + 1) * 2 ^ hs)
/-- What a projection finds: plane, points in the window, whether a source is marked; none on a data error. -/
def State.projectFrame (s : State) (n : Nat) (f : ChainFrame) : Option (List Nat × Nat × Bool) :=
  let c := s.chain n
  let pj := stage c 4
  let hs := field pj 5 1
  let ds := (List.range 8).filter (fun d => bit (field pj 4 1) d)
  let srcs := ds.map (fun d =>
    let cal := s.blockRead (s.streamPart n) (bufAt (field pj 8 4) + 96 * d) 96
    (d, (if cal.status = 0 then some cal.bytes else none), s.history d))
  if srcs.any (fun x => x.2.1.isNone || x.2.2.isNone) then none
  else
    let full := srcs.map (fun x => (x.1, x.2.1.getD [], x.2.2.getD []))
    let pts := full.map (fun x => (x.1, x.2.1, x.2.2.filter (fun e => !isMarker e && inWindow s.time.seconds pj f.t0 (entryTime e))))
    let marked := full.filter (fun x => x.2.2.any (fun e => isMarker e && markerIn s.time.seconds pj x.2.1 e f.t0))
    let win := winners s.time.seconds c f.t0 pts
    let cw := chW c / 2 ^ hs
    let plane := (List.range (cw * (chH c / 2 ^ hs))).map (fun cell =>
      let w := win.find? (fun y => y.1 == cell)
      let inMarked := marked.any (fun x => cellInRect x.2.1 hs (cell % cw) (cell / cw))
      match w with
      | some y => if inMarked && marked.any (fun x => x.1 == y.2.2.2.1) then 255 else y.2.2.2.2
      | none => 255)
    some (plane, (pts.map (fun x => x.2.2.length)).sum, marked != [])
/-- The code events of the reads of a projection. -/
def State.projectEvents (s : State) (n : Nat) : State :=
  let c := s.chain n
  let pj := stage c 4
  forEach ((List.range 8).filter (fun d => bit (field pj 4 1) d)) s (fun s d =>
    let s := s.blockReadEvents (s.streamPart n) (bufAt (field pj 8 4) + 96 * d) 96
    let h := s.chain (40 + d)
    forEach (List.range (Nat.min (s.decoder d).stored (2 ^ field (stage h 7) 6 1))) s (fun s i =>
      s.blockReadEvents (s.streamPart (40 + d)) (bufAt (field (stage h 7) 8 4) + 32 * i) 32))
/-- The frame of a camera stream that waits for a lane. -/
def State.laneFrame (s : State) (n : Nat) : Option ChainFrame :=
  if s.lanes.contains n then none else (s.camera n).frames.find? (fun f => f.projection == 1)
/-- Start time of a frame's projection, in ns (R283). -/
def State.startTime (s : State) (n : Nat) (f : ChainFrame) : Nat :=
  let pj := stage (s.chain n) 4
  fullNs s.time.seconds f.t0 + (field pj 20 4 + field pj 24 4) * 1000
/-- No other stream's waiting frame comes first: by start time, then by stream (R283). -/
def State.laneTurn (s : State) (n : Nat) (f : ChainFrame) : Bool :=
  (List.range 40).all (fun m => m == n || match s.laneFrame m with
    | some g => decide (s.startTime n f < s.startTime m g ∨ (s.startTime n f = s.startTime m g ∧ n < m))
    | none => true)
/-- PROJECTION_START: the frame takes a free lane, in its turn; points popped from now on are late for it. -/
def doProjectionStart (n : Nat) (s : State) : State :=
  match s.laneFrame n with
  | none => s
  | some f =>
    if 8 ≤ s.lanes.length ∨ ¬ s.laneTurn n f then s
    else match s.projectFrame n f with
      | none => (s.planeLost n f false).projectEvents n
      | some r =>
        (s.withLanes (s.lanes ++ [n])).setFrame n
          { f with projection := 2, plane := r.1, projected := r.2.1, marked := r.2.2 }
/-- PROJECTION_COMPLETE: the height plane is whole, and stands at HPLANE. -/
def doProjectionComplete (n : Nat) (s : State) : State :=
  match (s.camera n).frames.find? (fun f => f.projection == 2) with
  | none => s
  | some f =>
    let s := (s.withLanes (s.lanes.filter (· ≠ n))).bumpBy 0x2700 4 f.projected
    let s := if f.marked then s.bumpSat (0x2710 + n) 0x0B else s
    let s := s.putPlane n f.plane
    s.setFrame n { f with projection := 3, heightGap := f.marked }
/-- A camera's PROJECT stage names a decoder as source. -/
def State.projectsFrom (s : State) (n d : Nat) : Bool :=
  hasStage (s.chain n) 4 && bit (field (stage (s.chain n) 4) 4 1) d
/-- A point that its frame's projection, started already, would have used. -/
def State.latePoint (s : State) (d : Nat) (e : List Byte) : Bool :=
  !isMarker e && (List.range 40).any (fun n => s.projectsFrom n d && (s.camera n).frames.any (fun f =>
    (f.projection == 2 || f.projection == 3) && inWindow s.time.seconds (stage (s.chain n) 4) f.t0 (entryTime e)))
/-- A stored point that is overwritten while some camera may still want it (2700h:05). -/
def State.overwrites (s : State) (d : Nat) (old : List Byte) : Bool :=
  !isMarker old && (List.range 40).any (fun n => s.projectsFrom n d &&
    decide (stampDiff s.time.seconds s.stamp (entryTime old) ≤ (field (stage (s.chain n) 4) 16 4 * 1000 : Nat)))
/-- Stores an entry at the next place of its stream's ring (R278). -/
def State.storePoint (s : State) (e : List Byte) : State :=
  let n := field e 26 1
  let c := s.chain n
  if n < 40 ∨ 47 < n ∨ ¬ hasStage c 7 then s.bumpSat 0x2700 6
  else
    let d := n - 40
    let k := s.decoder d
    let size := 2 ^ field (stage c 7) 6 1
    let da := bufAt (field (stage c 7) 8 4) + 32 * (k.stored % size)
    let old := s.blockRead (s.streamPart n) da 32
    let s := if size ≤ k.stored ∧ old.status = 0 ∧ s.overwrites d old.bytes then s.bumpSat 0x2700 5 else s
    let s := if s.latePoint d e then s.bumpSat 0x2700 6 else s
    let s := (s.blockWrite (s.streamPart n) da e).1
    (s.setDecoder d { k with stored := k.stored + 1 }).bump (0x2710 + n) 0x0E
/-- POINT_POP: the projector pops the first entry of the lowest queue that has one for it. -/
def doPointPop (s : State) : State :=
  match s.queues.find? (fun q => q.2.consumer == 0x210 && q.2.enabled && decide (0 < q.2.count)) with
  | none => s
  | some q =>
    let r := s.queuePeek q.1 1
    let a := ringAddr q.2 q.2.head
    let s := (s.queueDrop q.1 1).readEvents [] a 32
    if r.1 = 0 then s.storePoint r.2.flatten
    else if r.1 = 0x30 then s.memUncorr (s.queuePart q.1) [] a else s

/-! ### Gather engines (R294) -/

/-- SLOT_GATHER: a free engine takes the slot that was released first, and its tile-list entry is written. -/
def doSlotGather (e : Nat) (s : State) : State :=
  match s.gatherQueue with
  | [] => s
  | g :: rest =>
    if s.gatherBusy.any (fun x => x.1 == e) then s
    else
      let s := (s.withGatherQueue rest).withGatherBusy (tblIns s.gatherBusy e g)
      let inv := g.concealed || (s.camera g.stream).frames.any (fun f => f.number == g.frame && f.invalid)
      let s := s.writeList g.stream g.list g.tile inv
      match g.tile with
      | some t =>
        if inv then s
        else s.modCamera g.stream (fun k => { k with entries := k.entries.map (fun b =>
          if b.submit = g.submit ∧ b.frame = g.frame then { b with clean := b.clean ++ [(g.list, t)] } else b) })
      | none => s
/-- PAD of the eight channels, as a pixel. -/
def padPixel (c : List Byte) : List Byte := slice (stage c 6) 52 8 ++ zeros (pixBytes c - 8)
/-- Row r of a slot: bytes of the level-0 plane, PAD outside the image, zero beyond the pixels. A row that cannot be read
gives free bytes. -/
def State.gatherBytes (s : State) (g : GatherSlot) (r : Nat) : State × List Byte :=
  let c := g.chain
  let tw := tileW c
  let pad := (List.replicate tw (padPixel c)).flatten
  let tail := zeros (gatherRow c - tw * pixBytes c)
  match g.tile with
  | none => (s, pad ++ tail)
  | some t =>
    let y : Int := (64 * t.2 + r : Nat) - (haloOf c : Int)
    if y < 0 ∨ (chH c : Int) ≤ y then (s, pad ++ tail)
    else
      let p := s.streamPart g.stream
      let x0 := 64 * t.1 - haloOf c
      let left := haloOf c - 64 * t.1
      let n := Nat.min (chW c) (64 * t.1 + 64 + haloOf c) - x0
      let da := planeBase c g.frame + y.toNat * levelPitch c 0 + x0 * pixBytes c
      let rd := s.blockRead p da (n * pixBytes c)
      let s := s.blockReadEvents p da (n * pixBytes c)
      let got := if rd.status = 0 then rd.bytes
        else (List.range (n * pixBytes c)).map (fun i => (BitVec.ofNat 8 (Config.freeValue (s.freeUsed + i)) : Byte))
      let s := if rd.status = 0 then s else s.withFreeUsed (s.freeUsed + n * pixBytes c)
      (s, pad.take (left * pixBytes c) ++ got ++ pad.take ((tw - left - n) * pixBytes c) ++ tail)
/-- Writes the rows of a slot. -/
def State.gatherRows (s : State) (g : GatherSlot) (base : Nat) : List Nat → State
  | [] => s
  | r :: rest =>
    let t := s.gatherBytes g r
    ((t.1.blockWrite (t.1.streamPart g.stream) (base + r * gatherRow g.chain) t.2).1).gatherRows g base rest
/-- SLOT_GATHER_COMPLETE: the slot's bytes have landed. -/
def doSlotGatherComplete (e : Nat) (s : State) : State :=
  match s.gatherBusy.find? (fun x => x.1 == e) with
  | none => s
  | some x =>
    let g := x.2
    let c := g.chain
    let t := stage c 6
    let s := s.withGatherBusy (tblDel s.gatherBusy e)
    let base := field t 40 8 + g.submit % field t 12 2 * field t 48 4 + g.slot * slotBytes c
    let s := s.gatherRows g base (List.range (tileW c))
    s.modCamera g.stream (fun k => { k with entries := k.entries.map (fun b =>
      if b.submit = g.submit ∧ b.frame = g.frame then { b with slotsLeft := b.slotsLeft - 1 } else b) })

/-! ### Batch entries (R296, R297) -/

def batchBytes (n : Nat) (e : BatchEntry) : List Byte :=
  leBytes 1 0x20 ++ leBytes 1 n ++ leBytes 1 e.flags ++ leBytes 1 e.flags2 ++ leBytes 2 e.batch ++ leBytes 2 e.tiles
    ++ leBytes 4 e.frame ++ leBytes 4 e.submit ++ leBytes 8 e.list ++ leBytes 8 e.t0
/-- The first entry can be pushed: gathered, and in dimension-limit mode its frame closed (R299). -/
def State.entryReady (s : State) (n : Nat) (e : BatchEntry) : Bool :=
  e.slotsLeft == 0
    && !(dimMode s && (s.camera n).frames.any (fun f => f.number == e.frame && !f.closed))
/-- Batch entries of an unloaded chain still wait for a queue (R302). -/
def State.queueAwaited (s : State) (q : Nat) : Bool :=
  s.cameras.any (fun k => s.chain k.1 == [] && k.2.entries.any (fun e => e.queue == q))
/-- An unloaded plan's queue is disabled once the last entry kept for it has been pushed (R132, R302). -/
def State.queueLeave (s : State) (n q : Nat) : State :=
  if s.chain n = [] ∧ ¬ s.queueAwaited q ∧ ¬ s.plans.any (fun p => p.2.queues.contains q) then s.queueDisable q else s
/-- BATCH_PUSH: the stream's oldest entry, where it is ready; a refused push stays. -/
def doBatchPush (n : Nat) (s : State) : State :=
  match (s.camera n).entries with
  | [] => s
  | e :: rest =>
    if ¬ s.entryReady n e then s
    else
      let r := s.outerPush e.queue [batchBytes n e]
      let s := r.1
      if r.2 ≠ 0 then s
      else
        let last := bit e.flags 1
        let s := s.modCamera n (fun k => { k with
          entries := rest, frames := if last then k.frames.map (fun f =>
            if f.number = e.frame then { f with pushed := true } else f) else k.frames })
        let s := (s.settleFrames n).trace 6 0x31 n e.batch (e.frame * 2 ^ 32 + e.submit % 2 ^ 32)
        let s := (s.bump (0x2710 + n) 6).bumpBy (0x2710 + n) 5 e.tiles
        let s := if last then
            (s.bump (0x2710 + n) 4).setReg (0x2710 + n) 0x0D
              (Nat.min (stampDiff s.time.seconds s.stamp e.t0).toNat (2 ^ 32 - 1))
          else s
        s.queueLeave n e.queue
/-- BATCH_PUSH_TIMEOUT: the oldest entry that has waited 1 ms since it was ready, at the head or behind it, is reported
once, and keeps waiting. -/
def doBatchPushTimeout (n : Nat) (s : State) : State :=
  match (s.camera n).entries.find? (fun e => s.entryReady n e && !e.late) with
  | none => s
  | some e =>
    (s.modCamera n (fun k => { k with entries := k.entries.map (fun b =>
      if b.submit = e.submit ∧ b.frame = e.frame then { b with late := true } else b) })).raise 0x0D
      (some (s.streamPart n)) n (e.submit % 2 ^ 32)
/-- Every slot of a batch entry has been released: the batch in hand of a frame may lack some. -/
def entryFormed (c : List Byte) (k : Camera) (e : BatchEntry) : Bool :=
  e.slotsLeft == 0 || !k.frames.any (fun f => f.number == e.frame && f.batches == e.batch + 1 && f.slotsDone % slotsOf c != 0)
/-- UNLOAD of a chain: batch entries already formed are still gathered and pushed, and no further frame is processed
(R302). An entry of which a slot has not been released is not formed: log 37. -/
def State.chainUnload (s : State) (n : Nat) : State :=
  let kept := (s.camera n).entries.filter (entryFormed (s.chain n) (s.camera n))
  let keep := fun (g : GatherSlot) => g.stream != n || kept.any (fun e => e.submit == g.submit && e.frame == g.frame)
  let s := s.modCamera n (fun k => { k with frames := [], entries := kept })
  (((s.withChains (tblDel s.chains n)).withGatherQueue (s.gatherQueue.filter keep)).withGatherBusy (
    s.gatherBusy.filter (fun g => keep g.2))).withLanes (s.lanes.filter (· ≠ n))

/-! ### The commands -/

/-- POINT_POP (R278). -/
def execPointPop (s : State) : Host.Outcome State Fault Refusal := .next (doPointPop s)
/-- PROJECTION_START (R283). -/
def execProjectionStart (n : CamId) (s : State) : Host.Outcome State Fault Refusal :=
  .next (doProjectionStart n.val s)
/-- PROJECTION_COMPLETE (R282). -/
def execProjectionComplete (n : CamId) (s : State) : Host.Outcome State Fault Refusal :=
  .next (doProjectionComplete n.val s)
/-- ROW_LAND (R287). -/
def execRowLand (n : CamId) (level : Fin 4) (s : State) : Host.Outcome State Fault Refusal :=
  .next (doRowLand n.val level.val s)
/-- SLOT_GATHER (R294). -/
def execSlotGather (e : Fin 8) (s : State) : Host.Outcome State Fault Refusal := .next (doSlotGather e.val s)
/-- SLOT_GATHER_COMPLETE (R294). -/
def execSlotGatherComplete (e : Fin 8) (s : State) : Host.Outcome State Fault Refusal :=
  .next (doSlotGatherComplete e.val s)
/-- BATCH_PUSH (R296). -/
def execBatchPush (n : CamId) (s : State) : Host.Outcome State Fault Refusal := .next (doBatchPush n.val s)
/-- BATCH_PUSH_TIMEOUT (R297). -/
def execBatchPushTimeout (n : CamId) (s : State) : Host.Outcome State Fault Refusal :=
  .next (doBatchPushTimeout n.val s)

end Sys2Proof.Machine
end

