-- ==== Sys2Proof/Machine/Sensor.lean ====
section
/-! DEFINITION. Sensor: the A-PHY ports and camera streams with their concealment, the range MACs with reassembly, and the
range decoders (08_sensor_ports.md R236 to R269). -/
namespace Sys2Proof.Machine

/-! ### Ports (R239 to R242) -/

def State.camOn (s : State) (n : Nat) : Bool := s.reg (0x2540 + n) 1 == 1
def State.decOn (s : State) (d : Nat) : Bool := s.reg (0x2610 + d) 2 == 1
/-- Streams of a port. -/
def portStreams (p : Nat) : List Nat := (List.range 4).map (fun v => 4 * p + v)
/-- The enabled stream of a port that maps a virtual channel. -/
def State.streamOn (s : State) (p vc : Nat) : Option Nat :=
  (portStreams p).find? (fun n => s.camOn n && s.reg (0x2540 + n) 2 == vc)
def State.portUp (s : State) (p : Nat) : Bool := s.reg (0x2510 + p) 3 == 2
/-- A packet of no use is counted in UNMAPPED. -/
def State.unmapped (s : State) (p : Nat) : State := s.bumpSat (0x2510 + p) 9
/-- Bits of a pixel of a data type (R242). -/
def rawBits (dt : Nat) : Nat := if dt = 0x2B then 10 else if dt = 0x2C then 12 else if dt = 0x2D then 14 else 16
/-- Pixels of a packed CSI-2 line: groups of `g` pixels, their upper bytes first, then their lower bits (PRESUMED). -/
def unpackLine (b : Nat) (bs : List Byte) (n : Nat) : List Nat :=
  let low := b - 8
  let g := if low = 2 then 4 else if low = 4 then 2 else if low = 6 then 4 else 1
  let size := g * b / 8
  (List.range n).map (fun i =>
    let grp := slice bs (i / g * size) size
    field grp (i % g) 1 * 2 ^ low + leNat (grp.drop g) / 2 ^ (low * (i % g)) % 2 ^ low)
/-- The port's counters of what it found (R240); the PHY retransmits where RETX is set (R239). -/
def State.countDamage (s : State) (p : Nat) : PacketDamage → State
  | .none => s
  | .retransmitted n => if s.reg (0x2510 + p) 2 = 1 then s.bumpSatBy (0x2510 + p) 4 n else s
  | .headerCorrected => s.bumpSat (0x2510 + p) 5
  | .header => s.bumpSat (0x2510 + p) 6
  | .crc => s.bumpSat (0x2510 + p) 7
  | .overrun => s.bumpSat (0x2510 + p) 8
/-- The packet did not arrive. -/
def isLost (d : PacketDamage) : Bool := d == .header || d == .overrun
/-- A packet without a payload has no CRC. -/
def shortDamage (d : PacketDamage) : PacketDamage := if d = .crc then .none else d
/-- APHY_LINK_UP. -/
def doAphyLinkUp (p : Nat) (s : State) : State := if s.portUp p ∨ s.boot.released < 7 then s else s.setReg (0x2510 + p) 3 2

/-! ### Frames of a camera stream (R244 to R252) -/

def State.camW (s : State) (n : Nat) : Nat := s.reg (0x2540 + n) 4
def State.camH (s : State) (n : Nat) : Nat := s.reg (0x2540 + n) 5
def State.setOpen (s : State) (n : Nat) (o : Option OpenFrame) : State := s.modCamera n (fun k => { k with openFrame := o })
/-- One concealed index joins the run in hand, or begins the next; a 17th run is merged into the 16th (R246, R248). -/
def addRun (rs : List ConcealRun) (cause i : Nat) : List ConcealRun :=
  match rs.getLast? with
  | none => [⟨cause, i, 1, false⟩]
  | some r =>
    if (!r.merged && r.cause == cause && r.first + r.lines == i) then rs.dropLast ++ [{ r with lines := r.lines + 1 }]
    else if 16 ≤ rs.length then rs.dropLast ++ [{ r with lines := i + 1 - r.first, merged := true }]
    else rs ++ [⟨cause, i, 1, false⟩]
/-- The run of R246 that index `i` ends, whatever the records merge: LAST_RUN names it (R243). -/
def growRun (last : Option ConcealRun) (cause i : Nat) : ConcealRun :=
  match last with
  | some r => if r.cause = cause ∧ r.first + r.lines = i then { r with lines := r.lines + 1 } else ⟨cause, i, 1, false⟩
  | none => ⟨cause, i, 1, false⟩
/-- Hands a line to the chain and to the line history. -/
def State.deliver (s : State) (n : Nat) (o : OpenFrame) (px : List Nat) (tag : Bool) : State :=
  (s.setOpen n (some { o with handed := o.handed + 1, history := (px :: o.history).take 4 })).chainLine n o.number px tag
/-- Content of a concealed line (R247). -/
def State.substitute (s : State) (n : Nat) (o : OpenFrame) : List Nat :=
  if o.history.length < 4 then List.replicate (s.camW n) (s.reg (0x2540 + n) 8)
  else o.history.getD 3 []
/-- Conceals the next index under a cause (native mode). -/
def State.concealOne (s : State) (n cause : Nat) : State :=
  match (s.camera n).openFrame with
  | none => s
  | some o =>
    let r := growRun o.lastRun cause o.next
    let o' := { o with runs := addRun o.runs cause o.next, lastRun := some r, concealed := o.concealed + 1, next := o.next + 1 }
    ((s.bumpSat (0x2540 + n) 0x0D).deliver n o' (s.substitute n o) true).setReg (0x2540 + n) 0x0F
      (o.number * 2 ^ 32 + r.first * 2 ^ 20 + r.lines * 2 ^ 8 + r.cause)
/-- Conceals `k` indices. -/
def State.concealLines (s : State) (n cause : Nat) : Nat → State
  | 0 => s
  | k + 1 => (s.concealOne n cause).concealLines n cause k
/-- Hands on a received line. -/
def State.takeLine (s : State) (n : Nat) (o : OpenFrame) (px : List Nat) : State :=
  s.deliver n { o with next := o.next + 1, received := o.received + 1 } px false
/-- One line of a dimension-limit frame at its index: at once, or behind a lost index until the close (R252). `bad` counts in
CONCEALED; a line of the right length is `whole`, delivered as received even where its CRC does not match. -/
def State.dimLine (s : State) (n : Nat) (o : OpenFrame) (i : Nat) (px : List Nat) (bad whole padded : Bool) : State :=
  let o := { o with next := i + 1, deviated := o.deviated || bad || decide (o.handed ≠ i),
                    concealed := o.concealed + b2n bad, received := o.received + b2n whole }
  let s := if padded then s.bumpSat (0x2540 + n) 0x0D else s
  if o.handed = i then s.deliver n o px bad else s.setOpen n (some { o with held := o.held ++ [(i, px, bad)] })
/-- Fills a dimension-limit frame to HEIGHT: held lines at their indices, PAD elsewhere. -/
def State.dimFill (s : State) (n : Nat) : Nat → State
  | 0 => s
  | k + 1 =>
    match (s.camera n).openFrame with
    | none => s
    | some o =>
      let s := match o.held.find? (fun l => l.1 == o.handed) with
        | some l => s.deliver n o l.2.1 l.2.2
        | none => (s.bumpSat (0x2540 + n) 0x0D).deliver n { o with concealed := o.concealed + 1, deviated := true }
            (List.replicate (s.camW n) (s.reg (0x2540 + n) 8)) true
      s.dimFill n k
/-- Run record (R248). -/
def runBytes (n : Nat) (o : OpenFrame) (r : ConcealRun) : List Byte :=
  leBytes 1 0x10 ++ leBytes 1 n ++ leBytes 1 r.cause ++ leBytes 1 (b2n r.merged) ++ leBytes 2 r.first ++ leBytes 2 r.lines
    ++ leBytes 4 o.number ++ zeros 4 ++ leBytes 8 o.t0 ++ zeros 8
/-- Frame record (R249). -/
def frameBytes (n close : Nat) (o : OpenFrame) (runs : Nat) (invalid : Bool) (stamp : Nat) : List Byte :=
  leBytes 1 0x11 ++ leBytes 1 n ++ leBytes 1 close
    ++ leBytes 1 (b2n invalid + b2n (o.runs.any (·.merged)) * 2 + b2n o.skip * 4 + b2n o.extra * 8) ++ leBytes 2 o.csi
    ++ leBytes 2 runs ++ leBytes 4 o.number ++ leBytes 2 o.concealed ++ leBytes 2 o.received ++ leBytes 8 o.t0
    ++ leBytes 8 stamp
/-- Push to EVENT_QUEUE; a refused one is counted in EVENT_DROPS (R248). -/
def State.eventPush (s : State) (n : Nat) (es : List (List Byte)) : State :=
  let q := s.reg (0x2540 + n) 0x0B
  if q = 0xFFFF then s
  else if 16383 < q ∨ s.queuePart q ≠ s.streamPart n then s.bumpSat (0x2540 + n) 0x0E
  else
    let r := s.outerPush q es
    if r.2 = 0 then r.1 else r.1.bumpSat (0x2540 + n) 0x0E
/-- Closes the open frame: lines not received are concealed under a cause or filled; records; FRAMES (R246, R248, R249). -/
def State.closeFrame (s : State) (n close cause : Nat) : State :=
  match (s.camera n).openFrame with
  | none => s
  | some o =>
    let s := if dimMode s then s.dimFill n (s.camH n - o.handed) else s.concealLines n cause (s.camH n - o.next)
    match (s.camera n).openFrame with
    | none => s
    | some o =>
      let invalid := if dimMode s then o.deviated || o.extra else o.concealed == s.camH n
      let runs := if dimMode s then [] else o.runs
      let s := s.eventPush n (runs.map (runBytes n o) ++ [frameBytes n close o runs.length invalid s.stamp])
      let s := s.trace 5 0x30 n close (o.number * 2 ^ 32 + o.concealed * 2 ^ 16 + o.received)
      let s := ((s.setOpen n none).bump (0x2540 + n) 0x0C).chainClose n o.number invalid
      if close = 0 ∧ o.concealed = 0 ∧ ¬ invalid then s.conditionEnd (fun f => f.code == 0x0C && f.source == n) else s
/-- A Frame Start: it closes an open frame and opens the next. SKIP of the first frame after ENABLE, which has no frame before
it, is 0 (DESIGN CHOICE, log 103). -/
def State.frameStart (s : State) (p vc number : Nat) : State :=
  match s.streamOn p vc with
  | none => s.unmapped p
  | some n =>
    let s := s.closeFrame n 2 4
    let num := number % 65536
    let k := s.camera n
    let f := s.nextNumber n
    let t0 := nsStamp (s.now - s.reg 0x2900 0x0F)
    let o : OpenFrame :=
      { number := f, csi := num, t0 := t0, next := 0, lineStart := none, runs := [], lastRun := none, concealed := 0, received := 0,
        skip := (match k.lastCsi with | some l => decide (num ≠ (l + 1) % 65536 ∧ num ≠ 0) | none => false),
        extra := false, deviated := false, held := [], handed := 0, history := [] }
    (s.setCamera n { k with openFrame := some o, lastCsi := some num }).chainOpen n f t0
/-- FRAME_START: behind the port's counters, where the packet arrives. -/
def doFrameStart (p vc number : Nat) (damage : PacketDamage) (s : State) : State :=
  if ¬ s.portUp p then s
  else if isLost damage then s.countDamage p damage
  else (s.countDamage p (shortDamage damage)).frameStart p vc number
/-- A Frame End. -/
def State.frameEnd (s : State) (p vc : Nat) : State :=
  match s.streamOn p vc with
  | none => s.unmapped p
  | some n =>
    match (s.camera n).openFrame with
    | none => s.unmapped p
    | some o => (s.closeFrame n 0 4).frameLate n o.number
/-- FRAME_END: behind the port's counters, where the packet arrives. -/
def doFrameEnd (p vc : Nat) (damage : PacketDamage) (s : State) : State :=
  if ¬ s.portUp p then s
  else if isLost damage then s.countDamage p damage
  else (s.countDamage p (shortDamage damage)).frameEnd p vc
/-- A Line Start: the index of the next line, where LINE_SYNC asks for it. -/
def State.lineStart (s : State) (p vc number : Nat) : State :=
  match s.streamOn p vc with
  | none => s.unmapped p
  | some n =>
    match (s.camera n).openFrame with
    | none => s
    | some o =>
      if s.reg (0x2540 + n) 6 = 1 then
        s.setOpen n (some { o with lineStart := some ((number % 65536 : Nat) - (s.reg (0x2540 + n) 7 : Int)) })
      else s
/-- LINE_START: behind the port's counters, where the packet arrives. -/
def doLineStart (p vc number : Nat) (damage : PacketDamage) (s : State) : State :=
  if ¬ s.portUp p then s
  else if isLost damage then s.countDamage p damage
  else (s.countDamage p (shortDamage damage)).lineStart p vc number
/-- A Line End is ignored on a mapped channel. -/
def State.lineEnd (s : State) (p vc : Nat) : State :=
  match s.streamOn p vc with
  | none => s.unmapped p
  | some _ => s
/-- LINE_END: behind the port's counters, where the packet arrives. -/
def doLineEnd (p vc : Nat) (damage : PacketDamage) (s : State) : State :=
  if ¬ s.portUp p then s
  else if isLost damage then s.countDamage p damage
  else (s.countDamage p (shortDamage damage)).lineEnd p vc
/-- UNMAPPED_PACKET; one that did not arrive is counted as what it is alone. -/
def doUnmappedPacket (p : Nat) (damage : PacketDamage) (s : State) : State :=
  if ¬ s.portUp p then s
  else if isLost damage then s.countDamage p damage else (s.countDamage p damage).unmapped p
/-- An image line with its index `i` in native mode (R246). -/
def State.nativeLine (s : State) (n : Nat) (o : OpenFrame) (damage : PacketDamage) (payload : List Byte) : State :=
  let b := rawBits (s.reg (0x2540 + n) 3)
  if damage = .header then s.concealOne n 1
  else if damage = .overrun then s.concealOne n 6
  else if damage = .crc then s.concealOne n 2
  else if payload.length ≠ s.camW n * b / 8 then s.concealOne n 3
  else s.takeLine n o (unpackLine b payload (s.camW n))
/-- An image line at index `i` in dimension-limit mode (R252). -/
def State.dimImage (s : State) (n : Nat) (o : OpenFrame) (i : Nat) (damage : PacketDamage) (payload : List Byte) : State :=
  let b := rawBits (s.reg (0x2540 + n) 3)
  let w := s.camW n
  if isLost damage then s.setOpen n (some { o with next := i + 1, deviated := true })
  else
    let got := Nat.min w (payload.length * 8 / b)
    let px := unpackLine b payload got ++ List.replicate (w - got) (s.reg (0x2540 + n) 8)
    s.dimLine n o i px (damage == .crc || payload.length != w * b / 8) (payload.length == w * b / 8) (decide (got < w))
/-- An image line of an open frame. -/
def State.frameLine (s : State) (n : Nat) (o : OpenFrame) (damage : PacketDamage) (payload : List Byte) : State :=
  let sync := s.reg (0x2540 + n) 6 == 1
  let h := s.camH n
  let i : Int := match sync, o.lineStart with
    | true, some i => i
    | _, _ => o.next
  let o := { o with lineStart := none }
  let s := s.setOpen n (some o)
  if sync ∧ isLost damage then s
  else if (h : Int) ≤ i then s.setOpen n (some { o with extra := true })
  else if i < o.next then s
  else if dimMode s then s.dimImage n o i.toNat damage payload
  else
    let s := s.concealLines n 8 (i.toNat - o.next)
    match (s.camera n).openFrame with
    | some o => s.nativeLine n o damage payload
    | none => s
/-- IMAGE_LINE. -/
def doImageLine (p vc dataType : Nat) (damage : PacketDamage) (payload : List Byte) (s : State) : State :=
  if ¬ s.portUp p then s else
  let s := s.countDamage p damage
  match s.streamOn p vc with
  | none => if isLost damage then s else s.unmapped p
  | some n =>
    if ¬ isLost damage ∧ dataType ≠ s.reg (0x2540 + n) 3 then s.unmapped p
    else match (s.camera n).openFrame with
      | none => if isLost damage then s else s.unmapped p
      | some o => s.frameLine n o damage payload
/-- FRAME_TIMEOUT. -/
def doFrameTimeout (n : Nat) (s : State) : State := s.closeFrame n 1 5
/-- MISSING_FRAME (R250, R298). -/
def doMissingFrame (n : Nat) (s : State) : State :=
  if ¬ s.camOn n ∨ s.reg (0x2540 + n) 0x0A = 0 then s
  else
    let f := s.nextNumber n
    let rec_ := leBytes 1 0x12 ++ leBytes 1 n ++ zeros 6 ++ leBytes 4 f ++ zeros 4 ++ leBytes 8 s.stamp ++ zeros 8
    let s := (s.eventPush n [rec_]).bump (0x2540 + n) 0x0C
    (s.raise 0x0C (some (s.streamPart n)) n f).chainMissing n f
/-- APHY_LINK_LOSS (R241). -/
def doAphyLinkLoss (p : Nat) (s : State) : State :=
  if ¬ s.portUp p then s
  else
    let on := (portStreams p).filter s.camOn
    let s := (s.setReg (0x2510 + p) 3 1).bumpSat (0x2510 + p) 0x0A
    let s := forEach (portStreams p) s (fun s n => s.closeFrame n 3 7)
    let parts := (on.map s.streamPart).eraseDups
    forEach parts s (fun s q => s.raise 0x0C (some q) ((on.find? (fun n => s.streamPart n == q)).getD 0) p)
/-- Enabling camera stream n (R243): the state and the abort code. -/
def State.cameraEnable (s : State) (n : Nat) : State × Nat :=
  let p := s.streamPart n
  let q := s.reg (0x2540 + n) 0x0B
  if s.camOn n then (s, 0)
  else if (portStreams (n / 4)).any (fun m => m != n && s.camOn m && s.reg (0x2540 + m) 2 == s.reg (0x2540 + n) 2)
      ∨ ¬ (s.planHeld p ∧ (s.plan p).chains.contains n)
      ∨ ¬ (q = 0xFFFF ∨ (q ≤ 16383 ∧ s.queuePart q = p)) then (s, 0x08000022)
  else
    let k := s.camera n
    let s := s.setCamera n { k with openFrame := none, lastCsi := none, nextSubmit := 0, lastMask := none,
                                    free0 := s.sync (field (stage (s.chain n) 6) 16 4) }
    ((s.setReg (0x2540 + n) 1 1).setReg (0x2710 + n) 1 2, 0)
/-- Disabling it (R269). -/
def State.cameraDisable (s : State) (n : Nat) : State :=
  if ¬ s.camOn n then s
  else (((s.closeFrame n 4 4).setReg (0x2540 + n) 1 0).setReg (0x2710 + n) 1 (if s.chain n = [] then 0 else 1))

/-! ### Range MACs (R253 to R255) -/

def State.mac (s : State) (m sub : Nat) : Nat := s.reg (0x2530 + m) sub
def schemaPort (sc : List Byte) : Nat := field sc 2 2
def ringSize (k : Decoder) : Nat := field k.schema 28 2 * 1024
/-- Bytes of the RX ring in use: datagrams waiting, and the one whose sample is held. -/
def ringUsed (k : Decoder) : Nat :=
  (k.ring.map (fun x => x.2.1)).sum + ((k.sample.map Sample.len).getD 0)
/-- One's complement sum of 16-bit words, most significant byte first. -/
def ipSum : List Byte → Nat
  | a :: b :: r => a.toNat * 256 + b.toNat + ipSum r
  | [a] => a.toNat * 256
  | [] => 0
def ipFold (n : Nat) : Nat := let a := n / 65536 + n % 65536; let b := a / 65536 + a % 65536; b / 65536 + b % 65536
def ipSumOk (n : Nat) : Bool := ipFold (ipFold n) == 0xFFFF
def beField (bs : List Byte) (off n : Nat) : Nat := beNat (slice bs off n)
/-- IPV4 of a MAC as the number that its four bytes spell in network order: the register's bytes stand in that order (R255). -/
def State.macIpv4 (s : State) (m : Nat) : Nat := beNat (leBytes 4 (s.mac m 2))
/-- A UDP datagram to an event or general port of IEEE 1588 (PRESUMED ports 319 and 320, log 106). -/
def isPtpUdp (bs : List Byte) : Bool :=
  let ihl := 4 * (beField bs 0 1 % 16)
  beField bs 9 1 == 17 && beField bs 6 2 % 0x4000 == 0 && (beField bs (ihl + 2) 2 == 319 || beField bs (ihl + 2) 2 == 320)
/-- The UDP length and checksum of a whole datagram are right. -/
def udpOk (src dst : Nat) (u : List Byte) : Bool :=
  let n := beField u 4 2
  decide (8 ≤ n ∧ n ≤ u.length) &&
    (beField u 6 2 == 0 ||
      ipSumOk (src / 65536 + src % 65536 + dst / 65536 + dst % 65536 + 17 + n + ipSum (u.take n)))
/-- Slot of the MAC that a datagram belongs to (R254). -/
def State.macSlot (s : State) (m port src : Nat) (vlan : Option Nat) : Option Nat :=
  [2 * m, 2 * m + 1].find? (fun d =>
    let sc := (s.decoder d).schema
    sc != [] && schemaPort sc == port && (beField sc 4 4 == 0 || beField sc 4 4 == src)
      && (!bit (field sc 18 2) 12 || vlan == some (field sc 18 2 % 4096)))
def State.ipDiscard (s : State) (m : Nat) : State := s.bumpSat (0x2530 + m) 8
/-- Writes bytes round the RX ring. -/
def State.ringPut (s : State) (d off : Nat) (bs : List Byte) : State :=
  let k := s.decoder d
  let size := ringSize k
  let base := bufAt (field k.schema 24 4)
  let p := s.streamPart (40 + d)
  let first := bs.take (size - off)
  let s := (s.blockWrite p (base + off) first).1
  (s.blockWrite p base (bs.drop first.length)).1
/-- A whole datagram's payload enters the RX ring, where it fits; a disabled decoder's is discarded (R268). -/
def State.datagram (s : State) (m d : Nat) (payload : List Byte) : State :=
  let k := s.decoder d
  if ¬ s.decOn d then s
  else if 65507 < payload.length ∨ ringSize k < ringUsed k + payload.length then s.bumpSat (0x2530 + m) 0x0A
  else
    let s := s.ringPut d k.rxPos payload
    s.setDecoder d { k with ring := k.ring ++ [(k.rxPos, payload.length, s.stamp)]
                            rxPos := (k.rxPos + payload.length) % ringSize k }
/-- Fragments overlap. -/
def fragsOverlap (ps : List (Nat × List Byte)) (off n : Nat) : Bool :=
  ps.any (fun p => decide (off < p.1 + p.2.length ∧ p.1 < off + n))
/-- The fragments in order of offset, where they cover the datagram. -/
def assemble (ps : List (Nat × List Byte)) (total : Nat) : Option (List Byte) :=
  let sorted := ps.foldl (fun (t : Tbl (List Byte)) p => tblIns t p.1 p.2) []
  let whole := (sorted.map (·.2)).flatten
  if whole.length = total then some whole else none
def State.setReasm (s : State) (d : Nat) (r : Option Reassembly) : State :=
  s.modDecoder d (fun k => { k with reassembly := r })
def State.reasmFail (s : State) (m d : Nat) : State := (s.setReasm d none).bumpSat (0x2530 + m) 9
/-- Adds a fragment to the reassembly of a decoder, and takes the datagram when it is whole. -/
def State.fragment (s : State) (m d : Nat) (r : Reassembly) (dst off : Nat) (more : Bool) (data : List Byte) : State :=
  if fragsOverlap r.parts off data.length then s.reasmFail m d
  else
    let r := { r with parts := r.parts ++ [(off, data)], total := if more then r.total else some (off + data.length) }
    match r.total.bind (assemble r.parts) with
    | some u =>
      let s := s.setReasm d none
      if udpOk r.source dst u then s.datagram m d ((u.take (beField u 4 2)).drop 8) else s.ipDiscard m
    | none => s.setReasm d (some r)
/-- An accepted IPv4 packet that carries UDP, whole or a fragment. -/
def State.ipUdp (s : State) (m src dst ident off : Nat) (more : Bool) (vlan : Option Nat) (data : List Byte) : State :=
  if off = 0 then
    match s.macSlot m (beField data 2 2) src vlan with
    | none => s.ipDiscard m
    | some d =>
      if ¬ more then
        (if udpOk src dst data then s.datagram m d ((data.take (beField data 4 2)).drop 8) else s.ipDiscard m)
      else match (s.decoder d).reassembly with
        | some r =>
          if r.source = src ∧ r.ident = ident then s.fragment m d r dst 0 more data
          else (s.reasmFail m d).fragment m d ⟨src, ident, [], none, s.stamp⟩ dst 0 more data
        | none => s.fragment m d ⟨src, ident, [], none, s.stamp⟩ dst 0 more data
  else
    match [2 * m, 2 * m + 1].find? (fun d =>
        ((s.decoder d).reassembly).any (fun r => r.source == src && r.ident == ident)) with
    | some d =>
      match (s.decoder d).reassembly with
      | some r => s.fragment m d r dst off more data
      | none => s
    | none => s.ipDiscard m
/-- An IPv4 packet. -/
def State.ipPacket (s : State) (m : Nat) (vlan : Option Nat) (bs : List Byte) : State :=
  let ihl := 4 * (beField bs 0 1 % 16)
  let total := beField bs 2 2
  let src := beField bs 12 4
  let dst := beField bs 16 4
  let fr := beField bs 6 2
  if beField bs 0 1 / 16 ≠ 4 ∨ ihl < 20 ∨ total < ihl ∨ bs.length < total ∨ ¬ ipSumOk (ipSum (bs.take ihl))
      ∨ beField bs 9 1 ≠ 17 then s.ipDiscard m
  else if ¬ (dst ≠ 0 ∧ (dst = s.macIpv4 m ∨ dst = 0xFFFFFFFF ∨ dst = s.mac m 3)) then s.ipDiscard m
  else s.ipUdp m src dst (beField bs 4 2) (8 * (fr % 0x2000)) (bit fr 13) vlan ((bs.take total).drop ihl)
/-- An ARP request for the MAC's address is answered. -/
def State.arpPacket (s : State) (m : Nat) (bs : List Byte) : State :=
  if s.mac m 2 ≠ 0 ∧ beField bs 0 2 = 1 ∧ beField bs 2 2 = 0x800 ∧ beField bs 6 2 = 1 ∧ beField bs 24 4 = s.macIpv4 m then
    s.emit (.arpReply m (slice bs 8 10))
  else s.ipDiscard m
/-- ETHERNET_FRAME_RECEIVED: `bytes` is the frame from its destination address to its last byte before the FCS. -/
def doEthernetFrame (m : Nat) (fcsOk : Bool) (bytes : List Byte) (s : State) : State :=
  if s.mac m 5 ≠ 1 ∨ s.mac m 4 ≠ 1 then s
  else
    let s := s.bump (0x2530 + m) 6
    if ¬ fcsOk ∨ 9022 < bytes.length + 4 ∨ bytes.length < 14 then s.bumpSat (0x2530 + m) 7
    else
      let tagged := beField bytes 12 2 == 0x8100
      let vlan := if tagged then some (beField bytes 14 2 % 4096) else none
      let o := if tagged then 16 else 12
      let et := beField bytes o 2
      let rest := bytes.drop (o + 2)
      if et = 0x0800 then (if isPtpUdp rest then s else s.ipPacket m vlan rest)
      else if et = 0x0806 then s.arpPacket m rest
      else if et = 0x88F7 then s
      else s.ipDiscard m
/-- REASSEMBLY_TIMEOUT. -/
def doReassemblyTimeout (d : Nat) (s : State) : State :=
  if (s.decoder d).reassembly.isSome then s.reasmFail (d / 2) d else s
/-- RANGE_LINK_UP. -/
def doRangeLinkUp (m : Nat) (s : State) : State := if s.boot.released < 7 then s else s.setReg (0x2530 + m) 5 1
/-- RANGE_LINK_LOSS. -/
def doRangeLinkLoss (m : Nat) (s : State) : State :=
  if s.mac m 5 ≠ 1 then s
  else
    let s := (s.setReg (0x2530 + m) 5 0).bumpSat (0x2530 + m) 0x0B
    let ds := [2 * m, 2 * m + 1].filter s.decOn
    forEach ((ds.map (fun d => s.streamPart (40 + d))).eraseDups) s (fun s q =>
      s.raise 0x0C (some q) (40 + (ds.find? (fun d => s.streamPart (40 + d) == q)).getD 0) m)

/-! ### Decoders (R261 to R267) -/

def State.sampleEnv (s : State) (d : Nat) (x : Sample) : SampleEnv :=
  ⟨(s.decoder d).schema, x.stamp, 40 + d, x.number⟩
/-- Buffer address of byte `i` of the sample. -/
def State.sampleAt (s : State) (d : Nat) (x : Sample) (i : Nat) : Nat :=
  let k := s.decoder d
  bufAt (field k.schema 24 4) + (x.off + i) % ringSize k
/-- The bytes of the sample up to the first that the RX ring cannot give: what the decoder has before a data error (R266). -/
def State.samplePrefix (s : State) (d : Nat) (x : Sample) : List Byte :=
  ((List.range x.len).takeWhile (fun i => !s.badRange (s.sampleAt d x i) 1)).map (fun i => s.byteAt (s.sampleAt d x i))
/-- Payload of the sample, read back from the RX ring; none on a data error. -/
def State.samplePayload (s : State) (d : Nat) (x : Sample) : Option (List Byte) :=
  let k := s.decoder d
  let base := bufAt (field k.schema 24 4)
  let n := Nat.min x.len (ringSize k - x.off)
  let a := s.blockRead (s.streamPart (40 + d)) (base + x.off) n
  let b := s.blockRead (s.streamPart (40 + d)) base (x.len - n)
  if a.status = 0 ∧ (x.len = n ∨ b.status = 0) then some (a.bytes ++ (if x.len = n then [] else b.bytes)) else none
/-- SAMPLE_TAKE. -/
def doSampleTake (d : Nat) (s : State) : State :=
  let k := s.decoder d
  match k.ring with
  | [] => s
  | (off, len, st) :: rest =>
    if ¬ s.decOn d ∨ k.sample.isSome then s
    else
      let x : Sample :=
        { off := off, len := len, stamp := st, number := s.reg (0x2610 + d) 4, takenAt := s.now, decoded := false,
          cause := 0, sequence := none, baseTime := none, offset := 0, item := 0, points := 0 }
      (s.setDecoder d { k with ring := rest, sample := some x }).bump (0x2610 + d) 4
/-- A sample's points in the staging area. -/
def State.stage_ (s : State) (d : Nat) (pts : List (List Byte)) : State :=
  (s.blockWrite (s.streamPart (40 + d)) (bufAt (field (s.decoder d).schema 20 4)) pts.flatten).1
/-- The signed distance of a SEQUENCE from the expected value (R263). -/
def seqAhead (seq e : Nat) : Int := sgn 32 (seq + 2 ^ 32 - e)
/-- DECODER fault of cause 09h (R266). -/
def State.decoderFault (s : State) (d : Nat) : State := (s.verdict 0x14 (40 + d) 0 false).raise 0x14 (some (s.streamPart (40 + d))) (40 + d) d
/-- The sample ends with cause 09h when the decoder had read `bs` of it: what was decoded by then stands in its marker. -/
def State.sampleBroken (s : State) (d : Nat) (x : Sample) (bs : List Byte) : State :=
  let env := s.sampleEnv d x
  let r := decodeUpTo env bs bs.length
  ((s.bumpSatBy (0x2610 + d) 8 r.bad).modDecoder d (fun k => { k with
    sample := some { x with decoded := true, cause := 9, sequence := r.sequence, baseTime := baseOf env r, offset := bs.length,
                            item := r.item, points := 0 } })).decoderFault d
/-- SAMPLE_DECODE_COMPLETE. -/
def doSampleDecode (d : Nat) (s : State) : State :=
  let k := s.decoder d
  match k.sample with
  | none => s
  | some x =>
    if x.decoded then s
    else match s.samplePayload d x with
      | none => s.sampleBroken d x (s.samplePrefix d x)
      | some bs =>
        let env := s.sampleEnv d x
        let r := decodeSample env bs
        let s := s.bumpSatBy (0x2610 + d) 8 r.bad
        let s := if r.cause = 0 then s.stage_ d r.points else s
        let x : Sample :=
          { x with decoded := true, cause := r.cause, sequence := r.sequence, baseTime := baseOf env r,
                   offset := if r.cause = 0 then bs.length else r.offset, item := r.item,
                   points := if r.cause = 0 then r.points.length else 0 }
        s.setDecoder d { k with sample := some x }
/-- Marker entry (R267). -/
def markerBytes (d cause seq offset item count time sample : Nat) : List Byte :=
  leBytes 4 seq ++ leBytes 4 offset ++ leBytes 2 item ++ leBytes 1 cause ++ zeros 1 ++ leBytes 4 count ++ leBytes 8 time
    ++ zeros 1 ++ leBytes 1 1 ++ leBytes 1 (40 + d) ++ zeros 1 ++ leBytes 4 sample
/-- The sample's own marker. -/
def ownMarker (d cause : Nat) (x : Sample) : List Byte :=
  markerBytes d cause (x.sequence.getD 0) x.offset x.item 1 (x.baseTime.getD x.stamp) x.number
/-- Datagrams missing before the sample. -/
def gapOf (k : Decoder) (x : Sample) : Nat :=
  match k.expected, x.sequence with
  | some e, some q => (seqAhead q e).toNat
  | _, _ => 0
/-- The marker of cause 07h that stands before the rest of the push. -/
def gapMarker (d : Nat) (k : Decoder) (x : Sample) : List (List Byte) :=
  if gapOf k x = 0 then []
  else [markerBytes d 7 (k.expected.getD 0) 0 x.item (gapOf k x) (x.baseTime.getD x.stamp) x.number]
/-- The expected SEQUENCE after the sample (R263). -/
def nextExpected (k : Decoder) (x : Sample) : Option Nat :=
  match x.sequence with
  | some q => some ((q + 1) % 2 ^ 32)
  | none => k.expected.map (fun e => (e + 1) % 2 ^ 32)
/-- The sample ends: counters, position, expected value, and the decoder is free for the next. -/
def State.sampleOver (s : State) (d cause gap pts : Nat) (x : Sample) : State :=
  let s := if cause = 0 then s.bumpBy (0x2610 + d) 5 pts
    else (s.bumpSat (0x2610 + d) 6).setReg (0x2610 + d) 0x0A
      (x.sequence.getD 0 * 2 ^ 32 + Nat.min x.offset 0xFFFFFF * 2 ^ 8 + cause)
  let s := (s.bumpSatBy (0x2610 + d) 7 gap).maxReg (0x2610 + d) 0x0B (s.now - x.takenAt)
  s.modDecoder d (fun k => { k with sample := none, expected := nextExpected k x })
/-- Cause with which the sample ends: STALE is found before the push (R263). -/
def endCause (k : Decoder) (x : Sample) : Nat :=
  if x.cause ≠ 0 then x.cause
  else match k.expected, x.sequence with
    | some e, some q => if seqAhead q e < 0 then 8 else 0
    | _, _ => 0
/-- Entries of the staging area; none on a data error. -/
def State.staged (s : State) (d n : Nat) : Option (List (List Byte)) :=
  let r := s.blockRead (s.streamPart (40 + d)) (bufAt (field (s.decoder d).schema 20 4)) (32 * n)
  if n = 0 then some [] else if r.status = 0 then some (entriesOf n r.bytes) else none
/-- SAMPLE_PUSH: points, or the marker of a concealed sample, as one push; what does not fit waits. -/
def doSamplePush (d : Nat) (s : State) : State :=
  let k := s.decoder d
  match k.sample with
  | none => s
  | some x =>
    if ¬ x.decoded then s
    else
      let cause := endCause k x
      match (if cause = 0 then s.staged d x.points else some []) with
      | none => (s.setDecoder d { k with sample := some { x with cause := 9 } }).decoderFault d
      | some pts =>
        let es := gapMarker d k x ++ (if cause = 0 then pts else [ownMarker d cause x])
        let s := if cause = 9 then s else s.verdict 0x14 (40 + d) 0 true
        let s := if cause = 0 then s.conditionEnd (fun f => f.code == 0x0C && f.source == 40 + d) else s
        if es = [] then s.sampleOver d 0 0 0 x
        else
          let r := s.outerPush (field k.schema 16 2) es
          if r.2 ≠ 0 then r.1 else r.1.sampleOver d cause (gapOf k x) pts.length x
/-- SAMPLE_BUDGET_EXPIRY: the sample is abandoned, and one marker takes its place (R265). -/
def doSampleBudget (d offset : Nat) (s : State) : State :=
  let k := s.decoder d
  match k.sample with
  | none => s
  | some x =>
    let env := s.sampleEnv d x
    let cause := if x.decoded then 6 else 5
    let r := decodeUpTo env (s.samplePrefix d x) offset
    let s := if x.decoded then s else s.bumpSatBy (0x2610 + d) 8 r.bad
    let x := if x.decoded then x else { x with sequence := r.sequence, baseTime := baseOf env r, offset := offset, item := r.item }
    let es := gapMarker d k x ++ [ownMarker d cause x]
    let r := s.outerPush (field k.schema 16 2) es
    let s := if r.2 = 0 then r.1 else r.1.bumpSatBy (0x2610 + d) 9 es.length
    (s.bumpSat (0x2610 + d) 0x0C).sampleOver d cause (if r.2 = 0 then gapOf k x else 0) 0 x
/-- ENABLE of a decoder (R268): the state and the abort code. What a refused load left behind stays off (R36). -/
def State.decoderEnable (s : State) (d v : Nat) : State × Nat :=
  if 1 < v then (s, 0x06090030)
  else if v = 1 then
    (if s.reg (0x2610 + d) 1 = 0 ∨ ¬ s.planHeld (s.streamPart (40 + d)) then (s, 0x08000022)
     else if s.decOn d then (s, 0)
     else (((s.setReg (0x2610 + d) 2 1).setReg (0x2610 + d) 1 2).modDecoder d (fun k => { k with expected := none }), 0))
  else (((s.setReg (0x2610 + d) 2 0).setReg (0x2610 + d) 1 (if s.reg (0x2610 + d) 1 = 0 then 0 else 1)), 0)

/-! ### The commands -/

/-- APHY_LINK_UP (R240). -/
def execAphyLinkUp (p : PortId) (s : State) : Host.Outcome State Fault Refusal := .next (doAphyLinkUp p.val s)
/-- APHY_LINK_LOSS (R241). -/
def execAphyLinkLoss (p : PortId) (s : State) : Host.Outcome State Fault Refusal := .next (doAphyLinkLoss p.val s)
/-- FRAME_START (R242). -/
def execFrameStart (p : PortId) (packet : ShortPacket) (number : Nat) (s : State) : Host.Outcome State Fault Refusal :=
  .next (doFrameStart p.val packet.vc.val number packet.damage s)
/-- FRAME_END (R244). -/
def execFrameEnd (p : PortId) (packet : ShortPacket) (s : State) : Host.Outcome State Fault Refusal :=
  .next (doFrameEnd p.val packet.vc.val packet.damage s)
/-- LINE_START (R244). -/
def execLineStart (p : PortId) (packet : ShortPacket) (number : Nat) (s : State) : Host.Outcome State Fault Refusal :=
  .next (doLineStart p.val packet.vc.val number packet.damage s)
/-- LINE_END (R242). -/
def execLineEnd (p : PortId) (packet : ShortPacket) (s : State) : Host.Outcome State Fault Refusal :=
  .next (doLineEnd p.val packet.vc.val packet.damage s)
/-- IMAGE_LINE (R245). -/
def execImageLine (p : PortId) (vc : Fin 16) (dataType : Nat) (damage : PacketDamage) (payload : List Byte) (s : State) : Host.Outcome State Fault Refusal :=
  .next (doImageLine p.val vc.val dataType damage payload s)
/-- UNMAPPED_PACKET (R242). -/
def execUnmappedPacket (packet : StrayPacket) (s : State) : Host.Outcome State Fault Refusal :=
  .next (doUnmappedPacket packet.port.val packet.damage s)
/-- FRAME_TIMEOUT (R246). -/
def execFrameTimeout (n : CamId) (s : State) : Host.Outcome State Fault Refusal := .next (doFrameTimeout n.val s)
/-- MISSING_FRAME (R250). -/
def execMissingFrame (n : CamId) (s : State) : Host.Outcome State Fault Refusal := .next (doMissingFrame n.val s)
/-- REASSEMBLY_TIMEOUT (R254). -/
def execReassemblyTimeout (d : DecoderId) (s : State) : Host.Outcome State Fault Refusal :=
  .next (doReassemblyTimeout d.val s)
/-- RANGE_LINK_UP (R255). -/
def execRangeLinkUp (m : RangeMac) (s : State) : Host.Outcome State Fault Refusal := .next (doRangeLinkUp m.val s)
/-- RANGE_LINK_LOSS (R255). -/
def execRangeLinkLoss (m : RangeMac) (s : State) : Host.Outcome State Fault Refusal := .next (doRangeLinkLoss m.val s)
/-- SAMPLE_TAKE (R261). -/
def execSampleTake (d : DecoderId) (s : State) : Host.Outcome State Fault Refusal := .next (doSampleTake d.val s)
/-- SAMPLE_DECODE_COMPLETE (R264). -/
def execSampleDecodeComplete (d : DecoderId) (s : State) : Host.Outcome State Fault Refusal :=
  .next (doSampleDecode d.val s)
/-- SAMPLE_PUSH (R263). -/
def execSamplePush (d : DecoderId) (s : State) : Host.Outcome State Fault Refusal := .next (doSamplePush d.val s)
/-- SAMPLE_BUDGET_EXPIRY (R265). -/
def execSampleBudgetExpiry (d : DecoderId) (offset : Nat) (s : State) : Host.Outcome State Fault Refusal :=
  .next (doSampleBudget d.val offset s)

end Sys2Proof.Machine
end

