-- ==== Sys2Proof/Machine/Time.lean ====
section
/-! DEFINITION. Time: the timebase and its servo, PTP ports, camera triggers, and one cycle of the fabric clock
(10_time_and_launch.md R303 to R315; R458). -/
namespace Sys2Proof.Machine

/-! ### The timebase (R304 to R306) -/

/-- Some launch queue is enabled. -/
def State.launchOn (s : State) : Bool := (List.range 8).any (fun l => s.reg (0x2A10 + l) 2 == 1)
/-- Signed FREQ in 2^-8 ppb. -/
def State.freq (s : State) : Int := sgn 32 (s.reg 0x2900 4)
/-- What one cycle adds, in 2^-48 ns. -/
def State.increment (s : State) : Int :=
  2 ^ 48 + s.freq * 2 ^ 40 / 1000000000 + (if s.freq * 2 ^ 40 % 1000000000 ≠ 0 ∧ Config.roundIncrementUp s.freq then 1 else 0)
/-- The part of the slew that one cycle absorbs: at SLEW_PPM until nothing is left (R306). -/
def State.slewStep (s : State) : Int :=
  let most : Int := (s.reg 0x2900 9 * 2 ^ 48 / 1000000 : Nat)
  clampI (-most) most s.time.slewLeft
/-- Advances the timebase by an amount in 2^-48 ns. -/
def Timebase.advance (t : Timebase) (d : Int) : Timebase :=
  let total := (((t.nanos * 2 ^ 48 + t.frac : Nat) : Int) + d).toNat
  { t with seconds := (t.seconds + total / 2 ^ 48 / 1000000000) % 2 ^ 64, nanos := total / 2 ^ 48 % 1000000000,
           frac := total % 2 ^ 48 }
/-- One cycle of the 1.000 GHz fabric clock. -/
def State.tickTime (s : State) : State :=
  let d := s.slewStep
  s.modTime (fun t => { t.advance (s.increment + d) with slewLeft := t.slewLeft - d, cycles := t.cycles + 1 })
/-- STEP to an instant: one fabric cycle, FRACTION zero; NANOSECONDS stay below 10^9. The stamps of PTP that a later stamp
would be compared with go (R303, R306). -/
def State.stepTo (s : State) (sec ns : Nat) : State :=
  (s.modTime (fun t =>
    { t with seconds := (sec + ns / 1000000000) % 2 ^ 64, nanos := ns % 1000000000, frac := 0, syncDelta := none,
             peers := t.peers.map (fun x => (x.1, { x.2 with last := none })) })).bumpSat 0x2900 0x0E
/-- A write of CONTROL, 2900h:08: the state and the abort code. -/
def State.timeControl (s : State) (v : Nat) : State × Nat :=
  if v = 1 then
    (if s.launchOn then (s, 0x08000022) else (s.stepTo (s.reg 0x2900 5) (s.reg 0x2900 6), 0))
  else if v = 2 then (s.modTime (fun t => { t with slewLeft := t.slewLeft + sgn 64 (s.reg 0x2900 7) * 2 ^ 48 }), 0)
  else if v = 3 then (s.modTime (fun t => { t with slewLeft := 0 }), 0)
  else (s, 0x06090030)
/-- SLEW_LEFT in ns. -/
def State.slewLeftNs (s : State) : Nat := enc 64 (s.time.slewLeft.tdiv (2 ^ 48))

/-! ### The servo (R307) -/

/-- MAC m is enabled: 0 to 3 range MACs, 4 and 5 output MACs. -/
def State.macOn (s : State) (m : Nat) : Bool := if m < 4 then s.reg (0x2530 + m) 4 == 1 else s.reg (0x2A00 + m) 6 == 1
def State.ptpMode (s : State) (m : Nat) : Nat := s.reg (0x2910 + m) 1
/-- MAC m is an enabled PTP port with ROLE 01h. -/
def State.upstream (s : State) (m : Nat) : Bool :=
  s.macOn m && (s.ptpMode m == 1 || s.ptpMode m == 2) && s.reg (0x2910 + m) 2 == 1
/-- Enabled PTP ports with ROLE 01h. -/
def State.upstreams (s : State) : List Nat := (List.range 6).filter s.upstream
/-- The servo's state after an offset (R307). -/
def State.servoState (s : State) (off : Int) : State :=
  let st := s.reg 0x2900 0x0C
  if 1000 ≤ off.natAbs then (s.modTime (fun t => { t with lockCount := 0 })).setReg 0x2900 0x0C 1
  else
    let n := if off.natAbs < 100 then s.time.lockCount + 1 else 0
    (s.modTime (fun t => { t with lockCount := n })).setReg 0x2900 0x0C
      (if 16 ≤ n then 2 else if st = 2 then 2 else 1)
/-- The correction of one Sync: a step, or a slew with a new FREQ. -/
def State.servoCorrect (s : State) (off : Int) : State :=
  if s.reg 0x2900 0x10 < off.natAbs ∧ ¬ s.launchOn then
    let t := ((s.now : Int) + off).toNat
    s.stepTo (t / 1000000000) (t % 1000000000)
  else
    let sum := s.time.servoSum + off
    (s.modTime (fun t => { t with slewLeft := t.slewLeft + off * 2 ^ 48, servoSum := sum })).setReg 0x2900 4
      (enc 32 (clampI (-128000000) 128000000 (32 * off + 2 * sum)))
/-- Stamp of a frame received now, at the wire, in ns since timebase zero (R308, R311). -/
def State.ingressAt (s : State) (m : Nat) : Int := (s.now : Int) - s.reg (0x2910 + m) 5
/-- Stamp of a frame's departure, at the wire. -/
def State.egressAt (s : State) (m : Nat) (e : Egress) : Int := ((s.now + e.after / 65536 + s.reg (0x2910 + m) 6 : Nat) : Int)
/-- A transmission that the guard of a launch holds (R315, R328). -/
def State.countHeld (s : State) (m : Nat) (e : Egress) : State :=
  if e.held ∧ 4 ≤ m then s.bumpSat (0x2A00 + m) 9 else s
def State.peer (s : State) (m : Nat) : PeerDelay := tblGet ⟨none, 0⟩ s.time.peers m
/-- The link's delay lies within neighborPropDelayThresh (R312): PRESUMED of IEEE 802.1AS, a port beyond it takes no part in
Sync (log 106). -/
def State.asCapable (s : State) (m : Nat) : Bool := decide (s.reg (0x2910 + m) 0x0A ≤ 800)
/-- A span in the neighbour's time, scaled by a rate offset in 2^-41. -/
def scaled (span rate : Int) : Int := span * (2 ^ 41 + rate) / 2 ^ 41
/-- Delay of the path to the upstream clock, in ns (R307): measured by Delay_Req, or the port's link delay by its rate ratio. -/
def State.pathDelay (s : State) (m : Nat) (rateOffset : Int) : Int :=
  if s.ptpMode m = 2 then scaled (s.reg (0x2910 + m) 0x0A) (rateOffset + (s.peer m).rate) else s.time.pathDelay
/-- What the timebase lacks at a Sync of the given origin, in ns. -/
def State.syncOffset (s : State) (m : Nat) (origin rateOffset : Int) : Int :=
  origin + s.pathDelay m rateOffset - s.ingressAt m
/-- PTP_SYNC_RECEIVED on the upstream port in the servo's domain. -/
def doPtpSync (m domain : Nat) (origin rateOffset : Int) (s : State) : State :=
  if s.reg 0x2900 0x0B ≠ 1 ∨ ¬ s.upstream m ∨ domain ≠ s.reg (0x2910 + m) 3 ∨ (s.ptpMode m = 2 ∧ ¬ s.asCapable m) then s
  else
    let offset := s.syncOffset m origin rateOffset
    let delta := s.ingressAt m - origin
    let s := s.modTime (fun t => { t with syncDelta := some delta })
    let s := s.setReg 0x2900 0x0D (enc 32 (clampI (-(2 ^ 31)) (2 ^ 31 - 1) offset))
    ((s.servoCorrect offset).servoState offset).warnEnd 0x81 0
/-- DELAY_REQ_SEND: once a second in IEEE 1588 mode; the answer and the last Sync give the mean path delay (R307; the
formula is PRESUMED of IEEE 1588, log 106). -/
def doDelayReqSend (m : Nat) (e : Egress) (response : Option Int) (s : State) : State :=
  if s.reg 0x2900 0x0B = 1 ∧ s.upstream m ∧ s.ptpMode m = 1 then
    let t3 := s.egressAt m e
    let s := (s.countHeld m e).emit (.delayReq m t3)
    match response, s.time.syncDelta with
    | some t4, some d => s.modTime (fun t => { t with pathDelay := (d + (t4 - t3)) / 2 })
    | _, _ => s
  else s
/-- SYNC_TIMEOUT: holdover, a warning. -/
def doSyncTimeout (s : State) : State :=
  if s.reg 0x2900 0x0B ≠ 1 ∨ s.reg 0x2900 0x0C = 3 then s
  else
    let s := s.modTime (fun t => { t with lockCount := 0, holdoverSince := t.cycles })
    (s.setReg 0x2900 0x0C 3).warn 0x81 none 0 0
/-- HOLDOVER (2900h:12). -/
def State.holdoverMs (s : State) : Nat :=
  if s.reg 0x2900 0x0C = 3 then Nat.min ((s.time.cycles - s.time.holdoverSince) / 1000000) (2 ^ 32 - 1) else 0
/-- HOLDOVER_LIMIT_EXPIRY: TIME of every partition (R359). -/
def doHoldoverLimit (s : State) : State :=
  if s.reg 0x2900 0x0C = 3 ∧ s.reg 0x2B00 0x0A ≠ 0 then s.raise 0x18 none 0 s.holdoverMs else s
/-- A write of SOURCE (R312): the state and the abort code. -/
def State.sourceWrite (s : State) (v : Nat) : State × Nat :=
  if 1 < v then (s, 0x06090030)
  else if v = 1 ∧ s.upstreams.length ≠ 1 then (s, 0x08000022)
  else if s.reg 0x2900 0x0B = v then (s, 0)
  else
    let s := s.modTime (fun t => { t with servoSum := 0, lockCount := 0, syncDelta := none, pathDelay := 0 })
    (((s.setReg 0x2900 0x0B v).setReg 0x2900 0x0C v).warnEnd 0x81 0, 0)
/-- Enabling or disabling MAC m is refused: mixed modes, or the servo's port would not stay the only one (R312). -/
def State.macRefused (s : State) (m v : Nat) : Bool :=
  let on := (List.range 6).filter (fun k => k ≠ m && s.macOn k) ++ (if v = 1 then [m] else [])
  (on.any (fun k => s.ptpMode k == 1) && on.any (fun k => s.ptpMode k == 2) && v == 1)
    || (s.reg 0x2900 0x0B == 1 && (on.filter (fun k =>
        (s.ptpMode k == 1 || s.ptpMode k == 2) && s.reg (0x2910 + k) 2 == 1)).length != 1)

/-! ### PTP ports (R310 to R312) -/

/-- Residence of an event message from port m through an out port, in 2^-16 ns: from delimiter to delimiter, with the
latencies of both ports. -/
def State.residence (s : State) (m out : Nat) (e : Egress) : Int :=
  (e.after + (s.reg (0x2910 + out) 6 + s.reg (0x2910 + m) 5) * 65536 : Nat)
/-- An event message with its residence added; over UDP its checksum is zero (R311). -/
def State.ptpCorrected (s : State) (out : Nat) (msg : PtpMessage) (res : Int) : State :=
  let s := (s.bump (0x2910 + out) 8).maxReg (0x2910 + out) 9 (res / 65536).toNat
  s.emit (.ptp out { msg with correction := msg.correction + res, checksum := if msg.udp then 0 else msg.checksum })
/-- The two-step Sync that a Follow_Up matches within 100 ms. -/
def ptpMatch (out now : Nat) (msg : PtpMessage) (p : PtpPending) : Bool :=
  p.out == out && p.sourcePort == msg.sourcePort && p.sequenceId == msg.sequenceId && p.domain == msg.domain
    && decide (now ≤ p.tIn + 100000000)
/-- Forwards one message out of one port. -/
def State.ptpOut (s : State) (m : Nat) (msg : PtpMessage) (e : Egress) (out : Nat) : State :=
  let s := (s.bump (0x2910 + out) 7).countHeld out e
  let res := s.residence m out e
  match msg.kind with
  | .syncOneStep => s.ptpCorrected out msg res
  | .delayReq => s.ptpCorrected out msg res
  | .syncTwoStep =>
    let p : PtpPending := ⟨out, msg.sourcePort, msg.sequenceId, msg.domain, res, s.time.cycles⟩
    (s.withPtpPending (s.ptpPending ++ [p])).emit (.ptp out msg)
  | .followUp =>
    match s.ptpPending.find? (ptpMatch out s.time.cycles msg) with
    | some p => (s.withPtpPending (s.ptpPending.filter (· ≠ p))).ptpCorrected out msg p.residence
    | none => (s.bumpSat (0x2910 + out) 0x0B).emit (.ptp out msg)
  | _ => s.emit (.ptp out msg)
/-- Version 2 with minorVersionPTP 0 or 1, over a transport that TRANSPORT selects (R310, R313). -/
def State.ptpTaken (s : State) (m : Nat) (msg : PtpMessage) : Bool :=
  let t := s.reg (0x2910 + m) 4
  msg.version == 2 && decide (msg.minor ≤ 1) && (t == 2 || t == b2n msg.udp)
/-- Ports that a port of the transparent clock forwards to. -/
def State.clockPorts (s : State) (m : Nat) : List Nat := (List.range 6).filter (fun o => o ≠ m && s.macOn o && s.ptpMode o == 1)
/-- Master ports of the time-aware relay. -/
def State.masterPorts (s : State) (m : Nat) : List Nat :=
  (List.range 6).filter (fun o => o ≠ m && s.macOn o && s.ptpMode o == 2 && s.reg (0x2910 + o) 2 == 0)
/-- The way out of a port among those given. -/
def egressOf (es : List Egress) (o : Nat) : Egress := es.getD o ⟨0, false⟩
/-- PTP_EVENT_FORWARD: a message received on port m leaves every other enabled port of the transparent clock. On a port of
the relay, Announce from the slave port leaves the master ports, a Pdelay_Req is answered, and Sync and Follow_Up are left
to GPTP_SYNC_RELAY (R312). What is not forwarded is counted. -/
def doPtpForward (m : Nat) (msg : PtpMessage) (es : List Egress) (s : State) : State :=
  if ¬ s.macOn m then s
  else if ¬ s.ptpTaken m msg then s.bumpSat (0x2910 + m) 0x0B
  else if s.ptpMode m = 1 ∧ msg.kind ≠ .pdelay then
    forEach (s.clockPorts m) s (fun s o => s.ptpOut m msg (egressOf es o) o)
  else if s.ptpMode m = 2 ∧ msg.domain = 0 ∧ msg.kind = .pdelay then
    (s.countHeld m (egressOf es m)).emit (.pdelayResp m (s.ingressAt m) (s.egressAt m (egressOf es m)))
  else if s.ptpMode m = 2 ∧ msg.domain = 0 ∧ msg.kind = .announce ∧ s.upstream m then
    forEach (s.masterPorts m) s (fun s o => s.ptpOut m msg (egressOf es o) o)
  else if s.ptpMode m = 2 ∧ msg.domain = 0 ∧ (msg.kind = .syncTwoStep ∨ msg.kind = .followUp) ∧ s.upstream m then s
  else s.bumpSat (0x2910 + m) 0x0B
/-- meanLinkDelay of an exchange whose request left at t1, and what is known of the neighbour after it (R312; the formulas
are PRESUMED of IEEE 802.1AS, log 106). -/
def peerMeasure (k : PeerDelay) (t1 : Int) (a : PdelayAnswer) : Int × PeerDelay :=
  let t4 := t1 + a.back
  let rate := match k.last with
    | some l => if l.2 < t4 then (a.t3 - l.1) * 2 ^ 41 / (t4 - l.2) - 2 ^ 41 else k.rate
    | none => k.rate
  ((scaled (t4 - t1) rate - (a.t3 - a.t2)) / 2, ⟨some (a.t3, t4), rate⟩)
/-- PDELAY_EXCHANGE: a Pdelay_Req leaves, and the answer gives LINK_DELAY and the neighbour's rate. -/
def doPdelayExchange (m : Nat) (e : Egress) (answer : Option PdelayAnswer) (s : State) : State :=
  if ¬ (s.macOn m ∧ s.ptpMode m = 2) then s
  else
    let t1 := s.egressAt m e
    let s := (s.countHeld m e).emit (.pdelayReq m t1)
    match answer with
    | none => s
    | some a =>
      let x := peerMeasure (s.peer m) t1 a
      (s.modTime (fun t => { t with peers := tblIns (tblDel t.peers m) m x.2 })).setReg (0x2910 + m) 0x0A
        (clampI 0 (2 ^ 32 - 1) x.1).toNat
/-- Correction of a regenerated Follow_Up: upstream link delay and residence, scaled by the cumulative rate ratio. -/
def State.relayCorrection (s : State) (m : Nat) (correction rate : Int) (o : Nat) (e : Egress) : Int :=
  correction + scaled (s.reg (0x2910 + m) 0x0A * 65536 + s.residence m o e) rate
/-- GPTP_SYNC_RELAY: two-step Syncs on the master ports. -/
def doGptpRelay (m : Nat) (correction rateOffset : Int) (es : List Egress) (s : State) : State :=
  if ¬ (s.upstream m ∧ s.ptpMode m = 2 ∧ s.asCapable m) then s
  else
    let rate := rateOffset + (s.peer m).rate
    forEach ((s.masterPorts m).filter s.asCapable) s (fun s o =>
      ((s.countHeld o (egressOf es o)).emit (.gptpSync o (s.egressAt o (egressOf es o)))).emit
        (.gptpFollowUp o (s.relayCorrection m correction rate o (egressOf es o)) rate))
/-- A frame on output MAC 4 or 5 that is no PTP frame is discarded and counted (R315): in DISCARDS, the one count of
discards that the MAC has (log 106). -/
def doOutputFrame (m : Nat) (bytes : List Byte) (s : State) : State :=
  let o := if beField bytes 12 2 = 0x8100 then 16 else 12
  let et := beField bytes o 2
  if ¬ s.macOn m ∨ et = 0x88F7 ∨ (et = 0x0800 ∧ isPtpUdp (bytes.drop (o + 2))) then s else s.bumpSat (0x2910 + m) 0x0B
/-- TRIGGER_EDGE (R314). -/
def doTriggerEdge (p v : Nat) (s : State) : State :=
  if bit (s.reg (0x2920 + p) 1) v then (s.bump (0x2920 + p) 8).emit (.trigger p v) else s

/-! ### One cycle (R304, R458) -/

/-- A packet goes to the ring, through partition 0's channel time. -/
def State.traceRing (s : State) (pkt : List Byte) : State :=
  let da := s.reg 0x2D20 4 + 16 * (s.reg 0x2D20 8 % 2 ^ s.reg 0x2D20 5)
  let s := s.bump 0x2D20 8
  match s.place da with
  | .pkg pa =>
    if s.bankLate pa then s.lateRefusal pa
    else s.queueWrite 0 (pa / 32 * 32) (List.replicate (pa % 32) none ++ pkt.map some ++ List.replicate (16 - pa % 32) none) none
      (s.pageFor [] da) false
  | _ => s
/-- The oldest trace packet leaves for the pins, the ring, or both (R458, R461). -/
def State.traceOut (s : State) : State :=
  match s.dbg.fifo with
  | [] => s
  | pkt :: rest =>
    if s.reg 0x2D20 1 = 0 then s
    else
      let s := (s.modDebug (fun d => { d with fifo := rest })).bump 0x2D20 9
      let s := if bit (s.reg 0x2D20 2) 0 then s.emit (.trace pkt) else s
      if bit (s.reg 0x2D20 2) 1 then s.traceRing pkt else s
/-- What the device does on its own in a fabric cycle, once the always-on domain is out of reset (R399). -/
def State.fabricCycle (s : State) : State := if s.boot.aon then s.tickTime.traceOut else s

/-! ### The commands -/

/-- ETHERNET_FRAME_RECEIVED (R253, R315). -/
def execEthernetFrameReceived (m : PtpPort) (fcsOk : Bool) (bytes : List Byte) (s : State) : Host.Outcome State Fault Refusal :=
  .next (if m.val < 4 then doEthernetFrame m.val fcsOk bytes s else doOutputFrame m.val bytes s)
/-- PTP_SYNC_RECEIVED (R307). -/
def execPtpSyncReceived (m : PtpPort) (domain : Nat) (sync : SyncOrigin) (s : State) : Host.Outcome State Fault Refusal :=
  .next (doPtpSync m.val domain sync.origin sync.rateOffset s)
/-- DELAY_REQ_SEND (R307). -/
def execDelayReqSend (r : DelayRequest) (s : State) : Host.Outcome State Fault Refusal :=
  .next (doDelayReqSend r.port.val r.egress r.response s)
/-- SYNC_TIMEOUT (R307). -/
def execSyncTimeout (s : State) : Host.Outcome State Fault Refusal := .next (doSyncTimeout s)
/-- HOLDOVER_LIMIT_EXPIRY (R359). -/
def execHoldoverLimitExpiry (s : State) : Host.Outcome State Fault Refusal := .next (doHoldoverLimit s)
/-- PTP_EVENT_FORWARD (R311). -/
def execPtpEventForward (m : PtpPort) (version minor : Nat) (body : PtpBody) (egress : List Egress) (s : State) :
    Host.Outcome State Fault Refusal :=
  .next (doPtpForward m.val { body with version := version, minor := minor } egress s)
/-- PDELAY_EXCHANGE (R312). -/
def execPdelayExchange (m : PtpPort) (r : PdelayRequest) (s : State) : Host.Outcome State Fault Refusal :=
  .next (doPdelayExchange m.val r.egress r.answer s)
/-- GPTP_SYNC_RELAY (R312). -/
def execGptpSyncRelay (m : PtpPort) (correction rateOffset : Int) (egress : List Egress) (s : State) :
    Host.Outcome State Fault Refusal :=
  .next (doGptpRelay m.val correction rateOffset egress s)
/-- TRIGGER_EDGE (R314). -/
def execTriggerEdge (p : PortId) (v : Fin 4) (s : State) : Host.Outcome State Fault Refusal :=
  .next (doTriggerEdge p.val v.val s)

end Sys2Proof.Machine
end

