-- ==== Sys2Proof/Machine/Launch.lean ====
section
/-! DEFINITION. Launch: output MACs, launch queues, the mapping of detections to nozzle events, and launch frames
(10_time_and_launch.md R315 to R328). -/
namespace Sys2Proof.Machine

/-! ### The LAUNCH section (R320, R321) -/

def lqMac (b : List Byte) : Nat := field b 2 1
def lqSubslot (b : List Byte) : Nat := field b 3 1
def lqFirst (b : List Byte) : Nat := field b 4 2
def lqCount (b : List Byte) : Nat := field b 6 2
def lqIn (b : List Byte) : Nat := field b 8 2
def lqInv (b : List Byte) : Nat := field b 11 1
def lqMaps (b : List Byte) : List (List Byte) := (List.range (field b 1 1)).map (fun i => slice b (64 + 64 * i) 64)
/-- The map of a stream. -/
def lqMap (b : List Byte) (n : Nat) : Option (List Byte) := (lqMaps b).find? (fun m => field m 0 1 == n)
/-- GRID_NS of the queue's MAC. -/
def State.gridNs (s : State) (b : List Byte) : Nat := s.reg (0x2A00 + lqMac b) 5
def State.gridOff (s : State) (b : List Byte) : Nat := lqSubslot b * s.gridNs b / 4
/-- The grid instant nearest an instant, the later of two as near (R319). -/
def State.gridNear (s : State) (b : List Byte) (t : Int) : Int :=
  let g : Int := s.gridNs b
  s.gridOff b + (2 * (t - s.gridOff b) + g) / (2 * g) * g
/-- The first grid instant at or after the present time. -/
def State.gridNext (s : State) (b : List Byte) : Nat :=
  let g := s.gridNs b
  s.gridOff b + ceilDiv (s.now - s.gridOff b) g * g

/-! ### Mapping (R318, R323, R324) -/

/-- FP64 of an integer, and of y / 16 for a UQ12.4 edge. -/
def f64Int (i : Int) : Nat := (fpEncode fp64 true (fvOfInt i)).1
def f64Edge (y : Nat) : Nat := (fpEncode fp64 true (.num false y (-4))).1
def f32Edge (y : Nat) : Nat := (fpEncode fp32 true (.num false y (-4))).1
/-- 10^12 in FP64. -/
def f64Tera : Nat := f64Int 1000000000000
/-- Nearest integer to an FP64 value. -/
def rint64 (v : Nat) : Int := fvRound (fpDecode fp64 v)
/-- rne32(a + b × y), rounded once; y in 1/16 rows (R323). -/
def groundSum (a b y : Nat) : Nat := (fpFma fp32 b (f32Edge y) a).1
/-- d(y) in FP32; y in 1/16 rows. -/
def groundDist (m : List Byte) (y : Nat) : Nat :=
  let h := fun (i : Nat) => field m (16 + 4 * i) 4
  (fpDiv fp32 (groundSum (h 0) (h 1) y) (groundSum (h 2) (h 3) y)).1
/-- row_t(y) in ns since timebase zero. -/
def rowTime (m : List Byte) (t0 y : Nat) : Int :=
  t0 + sfield m 8 4 + rint64 (fpMul fp64 (f64Edge y) (f64Int (field m 12 4))).1
/-- rint((d(y) + margin) × 10^12 / v). -/
def travel (m : List Byte) (y : Nat) (margin : Int) (v : Nat) : Int :=
  let d := (fpEncode fp64 true (fpDecode fp32 (groundDist m y))).1
  rint64 (fpDiv fp64 (fpMul fp64 (fpAdd fp64 d (f64Int margin)).1 f64Tera).1 (f64Int v)).1
/-- Open and close instants for edges y0, y1 in 1/16 rows. -/
def openClose (b m : List Byte) (t0 y0 y1 v : Nat) : Int × Int :=
  (rowTime m t0 y1 + travel m y1 (-(field b 28 2 : Int)) v - field b 24 4,
   rowTime m t0 y0 + travel m y0 (field b 30 2) v - field b 24 4)
/-- Nozzles that columns [lo, hi), in 1/16 pixel, meet. -/
def nozzlesMet (m : List Byte) (lo hi : Int) : List Nat :=
  (List.range (field m 1 1)).filter (fun i =>
    decide (lo < hi ∧ lo < 16 * field m (32 + 2 * (i + 1)) 2 ∧ 16 * field m (32 + 2 * i) 2 < hi))

/-! ### The calendar (R319) -/

def State.lqDiscard (s : State) (l : Nat) : State := s.bumpSat (0x2A10 + l) 0x0B
/-- The calendar holds this many grid instants. -/
def calSize (b : List Byte) : Nat := 2 ^ field b 10 1
/-- What insertion at a grid instant meets: 0 accepted, 1 late, 2 too far, 3 full. -/
def State.insertCheck (s : State) (l : Nat) (t : Int) : Nat :=
  let k := s.launch l
  if t < s.now + 20000 then 1
  else if (s.now + 10000000000 : Nat) < t then 2
  else if !(k.calendar.any (fun e => e.1 == t.toNat)) && decide (calSize k.body ≤ k.calendar.length) then 3
  else 0
/-- A refused event is counted (R319); `src` is the stream, FFh for a direct event. -/
def State.eventRefused (s : State) (l why : Nat) (t : Int) (frame src : Nat) : State :=
  if why = 1 then
    let late := ((s.now + 20000 : Int) - t).toNat / 1000
    ((s.bumpSat (0x2A10 + l) 7).setReg (0x2A10 + l) 0x0D (frame * 2 ^ 32 + src * 2 ^ 24 + Nat.min late 0xFFFFFF)).modLaunch l
      (fun k => { k with lateSeen := true })
  else if why = 2 then s.lqDiscard l
  else (s.bumpSat (0x2A10 + l) 8).raise 0x10 (some (s.launchPart l)) l t.toNat
/-- Puts an accepted event into the calendar. -/
def State.eventInsert (s : State) (l : Nat) (t : Int) (e : LaunchEvent) : State :=
  let s := s.modLaunch l (fun k =>
    let old := tblGet [] k.calendar t.toNat
    { k with calendar := tblIns (tblDel k.calendar t.toNat) t.toNat (old ++ [e]) })
  let lead := (t.toNat - s.now) / 1000
  if lead < s.reg (0x2A10 + l) 0x0E then s.setReg (0x2A10 + l) 0x0E lead else s
/-- Inserts one event. -/
def State.insertOne (s : State) (l : Nat) (t : Int) (e : LaunchEvent) (frame src : Nat) : State :=
  let c := s.insertCheck l t
  if c = 0 then s.eventInsert l t e else s.eventRefused l c t frame src
/-- Inserts a pair, both events or neither. -/
def State.insertPair (s : State) (l nozzle : Nat) (to_ tc : Int) (deg : Bool) (frame src : Nat) : State :=
  let co := s.insertCheck l to_
  let s1 := s.eventInsert l to_ ⟨nozzle, true, deg⟩
  let cc := (if co = 0 then s1 else s).insertCheck l tc
  if co = 0 ∧ cc = 0 then s1.eventInsert l tc ⟨nozzle, false, deg⟩
  else
    let s := if co ≠ 0 then s.eventRefused l co to_ frame src else s
    if cc ≠ 0 then s.eventRefused l cc tc frame src else s
/-- Events of a record for some nozzles of its map. -/
def State.mapPairs (s : State) (l : Nat) (m : List Byte) (inst : Int × Int) (ns : List Nat) (deg : Bool) (frame : Nat) : State :=
  let b := (s.launch l).body
  let to_ := s.gridNear b inst.1
  let tc := s.gridNear b inst.2
  let tc := if tc ≤ to_ then to_ + s.gridNs b else tc
  forEach ns s (fun s i => s.insertPair l (field m 2 2 + i) to_ tc deg frame (field m 0 1))
/-- The speed has not been written within SPEED_TIMEOUT. -/
def State.speedStale (s : State) (b : List Byte) : Bool :=
  match s.speedAt with
  | some t => decide (field b 34 2 * 1000000 < s.time.cycles - t)
  | none => true
/-- A record that the queue maps; one that is both slow and stale counts as both (R323, R324). -/
def State.mapRecord (s : State) (l : Nat) (m e : List Byte) : State :=
  let b := (s.launch l).body
  let inv := bit (field e 3 1) 0
  let v := s.reg 0x2A01 1
  let frame := field e 16 4
  let t0 := fullNs s.time.seconds (field e 24 8)
  if field e 0 1 = 0 ∧ ¬ (inv ∧ lqInv b = 2) then s
  else if inv ∧ lqInv b = 0 then s.lqDiscard l
  else if v < field b 32 2 * 1000 ∨ s.speedStale b then
    let stale := s.speedStale b
    let s := if v < field b 32 2 * 1000 then s.bumpSat (0x2A10 + l) 9 else s
    if stale then (s.bumpSat (0x2A10 + l) 0x0A).raise 0x10 (some (s.launchPart l)) l (field e 2 1) else s
  else if field e 0 1 = 0 then
    s.mapPairs l m (openClose b m t0 0 (16 * field m 6 2) v) (List.range (field m 1 1)) true frame
  else
    let lo : Int := (field e 8 2 : Int) - 16 * field m 4 2
    let hi : Int := (field e 12 2 : Int) + 16 * field m 4 2
    s.mapPairs l m (openClose b m t0 (field e 10 2) (field e 14 2) v) (nozzlesMet m lo hi) inv frame
/-- A direct event (R318). -/
def State.directEvent (s : State) (l : Nat) (e : List Byte) : State :=
  let b := (s.launch l).body
  let nz := field e 2 2
  if 1 < field e 1 1 ∨ ¬ (lqFirst b ≤ nz ∧ nz < lqFirst b + lqCount b) then s.lqDiscard l
  else
    s.insertOne l (s.gridNear b (fullNs s.time.seconds (field e 8 8)))
      ⟨nz, field e 1 1 == 1, bit (field e 4 1) 0⟩ 0 0xFF
/-- An entry taken from IN_QUEUE. -/
def State.launchEntry (s : State) (l : Nat) (e : List Byte) : State :=
  let kind := field e 0 1
  if kind = 0x30 then s.directEvent l e
  else if kind ≤ 1 then
    match lqMap (s.launch l).body (field e 2 1) with
    | some m => s.mapRecord l m e
    | none => s.lqDiscard l
  else s.lqDiscard l
/-- An enabled launch queue whose entry queue, of CONSUMER 0220h + L, holds an entry. -/
def State.mapReady (s : State) (l : Nat) : Bool :=
  let q := lqIn (s.launch l).body
  s.reg (0x2A10 + l) 2 == 1 && (s.queue q).enabled && (s.queue q).consumer == 0x220 + l && decide (0 < (s.queue q).count)
/-- The launch queue that the mapper serves next, in rotation from the one it served last (R339). -/
def State.mapNext (s : State) : Option Nat :=
  let last := ((List.range 8).find? (fun l => (s.launch l).mapped)).getD 7
  ((List.range 8).map (fun i => (last + 1 + i) % 8)).find? s.mapReady
/-- LAUNCH_ENTRY_MAP: the mapper takes an entry of this launch queue, in its turn. -/
def doLaunchEntry (l : Nat) (s : State) : State :=
  let q := lqIn (s.launch l).body
  if s.mapNext ≠ some l then s
  else
    let r := s.queuePeek q 1
    let a := ringAddr (s.queue q) (s.queue q).head
    let s := forEach (List.range 8) s (fun s j =>
      if (s.launch j).mapped = (j == l) then s else s.modLaunch j (fun k => { k with mapped := j == l }))
    let s := (s.queueDrop q 1).readEvents [] a 32
    if r.1 = 0 then s.launchEntry l r.2.flatten
    else if r.1 = 0x30 then s.memUncorr (s.queuePart q) [] a else s

/-! ### Launch frames (R316, R319, R325) -/

/-- The partition's VALID (R27, R342). -/
def State.valid (s : State) (p : Nat) : Bool := s.partState p == 0
/-- DEBUG of a launch frame of a partition (R450). -/
def State.debugFlag (s : State) (p : Nat) : Bool :=
  s.dbg.deviceBreak || (s.partCalderas p).any (fun c => s.dbg.broken.contains c)
/-- Payload of a launch frame; CHECK covers everything but itself. -/
def launchPayload (flags l p seq first count sec ns state changed : Nat) : List Byte :=
  let head := leBytes 1 1 ++ leBytes 1 flags ++ leBytes 1 l ++ leBytes 1 p ++ leBytes 4 seq ++ leBytes 2 first ++ leBytes 2 count
  let tail := leBytes 8 sec ++ leBytes 4 ns ++ zeros 4 ++ leBytes 32 state ++ leBytes 32 changed
  head ++ leBytes 4 (crc32c (head ++ tail)) ++ tail
/-- The Ethernet II header of a launch frame (R316): destination, source, tag and type, most significant byte first. -/
def State.launchHeader (s : State) (mac : Nat) : List Byte :=
  let r := s.reg (0x2A00 + mac)
  (leBytes 6 (r 2)).reverse ++ (leBytes 6 (r 1)).reverse
    ++ (if bit (r 3) 12 then (leBytes 2 0x8100).reverse ++ (leBytes 2 (r 3 % 4096 + r 3 / 8192 * 8192)).reverse else [])
    ++ (leBytes 2 (r 4)).reverse
/-- STATE from the hold counts. -/
def holdState (k : LaunchQ) : Nat :=
  (List.range (lqCount k.body)).foldl (fun n i =>
    n + b2n (decide (0 < tblGet 0 k.counts (lqFirst k.body + i))) * 2 ^ i) 0
/-- Sends a frame for an instant; nothing leaves while the link is down (R328). -/
def State.sendLaunch (s : State) (l t : Nat) (degraded keepalive closing : Bool) : State :=
  let k := s.launch l
  let b := k.body
  let mac := lqMac b
  if s.reg (0x2A00 + mac) 7 ≠ 1 ∨ s.reg (0x2A00 + mac) 6 ≠ 1 then s
  else
    let p := s.launchPart l
    let valid := s.valid p && !closing
    let forced := closing || (field b 12 1 == 1 && !valid)
    let state := if forced then 0 else holdState k
    let changed := if keepalive then 0 else state ^^^ k.lastState
    let flags := b2n valid + b2n (s.debugFlag p) * 2 + b2n degraded * 4 + b2n keepalive * 8 + b2n k.lateSeen * 16
      + b2n forced * 32
    let pay := launchPayload flags l p k.sequence (lqFirst b) (lqCount b) (t / 1000000000) (t % 1000000000) state changed
    let s := (s.bump (0x2A10 + l) 5).bump (0x2A00 + mac) 8
    let s := s.modLaunch l (fun k => { k with sequence := (k.sequence + 1) % 2 ^ 32, lastState := state, lateSeen := false,
                                              lastSent := t })
    (s.emit (.launch mac (s.launchHeader mac) pay)).trace 7 0x32 l flags (k.sequence * 2 ^ 32 + t % 1000000000)
/-- The events of one instant on the hold count of one nozzle: an open and a close cancel, the net count saturates (R319,
R328). `since` keeps the instant from which a count has stayed above zero. -/
def applyNozzle (t : Nat) (es : List LaunchEvent) (k : LaunchQ) (z : Nat) : LaunchQ :=
  let n := tblGet 0 k.counts z
  let opens := (es.filter (fun e => e.nozzle == z && e.isOpen)).length
  let closes := (es.filter (fun e => e.nozzle == z && !e.isOpen)).length
  let n' := Nat.min (n + opens - closes) 255
  { k with counts := tblPut 0 k.counts z n'
           since := if n' = 0 then tblDel k.since z
                    else if n = 0 then tblIns (tblDel k.since z) z t else k.since }
/-- The events of one instant on the hold counts. -/
def applyEvents (t : Nat) (es : List LaunchEvent) (k : LaunchQ) : LaunchQ :=
  ((es.map LaunchEvent.nozzle).eraseDups).foldl (applyNozzle t es) k
/-- Nozzles whose count has stayed above zero for MAX_ON at an instant. -/
def maxOnNozzles (k : LaunchQ) (t : Nat) : List Nat :=
  if field k.body 36 2 = 0 then []
  else (k.since.filter (fun x => decide (x.2 + field k.body 36 2 * 1000000 ≤ t))).map (·.1)
/-- The maximum on-time at a launch (R325). -/
def State.maxOn (s : State) (l t : Nat) : State :=
  forEach (maxOnNozzles (s.launch l) t) s (fun s n =>
    ((s.modLaunch l (fun k => { k with counts := tblDel k.counts n, since := tblDel k.since n })).bumpSat (0x2A10 + l) 0x0C).raise
      0x10 (some (s.launchPart l)) l n)
/-- The calendar's area is inconsistent by its code (R319): CALENDAR of every partition, once. -/
def State.calendarCheck (s : State) (l : Nat) : State :=
  let k := s.launch l
  let da := field k.body 16 8
  if k.calError ∨ ¬ (pieces da (128 * calSize k.body)).any (fun p => s.readStatus (s.place p.1) p.2 == 0x30) then s
  else (s.modLaunch l (fun k => { k with calError := true })).raise 0x12 none l da
/-- LAUNCH_FRAME_SEND: the earliest grid instant of the calendar. -/
def doLaunchFrame (l : Nat) (s : State) : State :=
  match (s.launch l).calendar with
  | [] => s
  | (t, es) :: rest =>
    if s.reg (0x2A10 + l) 2 ≠ 1 then s
    else
      let s := if s.flips = [] then s else s.calendarCheck l
      let s := s.modLaunch l (fun k => applyEvents t es { k with calendar := rest })
      let s := (s.bumpBy (0x2A10 + l) 6 es.length).maxOn l t
      s.sendLaunch l t (es.any (·.degraded)) false false
/-- KEEPALIVE: a frame at the next grid instant, unless events are launched at it. -/
def doKeepalive (l : Nat) (s : State) : State :=
  let k := s.launch l
  let t := s.gridNext k.body
  if s.reg (0x2A10 + l) 2 ≠ 1 ∨ (k.calendar.head?.any (fun e => decide (e.1 ≤ t))) then s
  else s.sendLaunch l t false true false
/-- Enabling a launch queue (R36, R317, R327): the state and the abort code. -/
def State.launchEnable (s : State) (l : Nat) : State × Nat :=
  let b := (s.launch l).body
  let rival := fun (j : Nat) => j != l && s.reg (0x2A10 + j) 2 == 1 && lqMac (s.launch j).body == lqMac b
  if s.reg (0x2A10 + l) 2 = 1 then (s, 0)
  else if s.reg (0x2A10 + l) 1 = 0 ∨ ¬ s.planHeld (s.launchPart l) ∨ s.reg (0x2A00 + lqMac b) 6 ≠ 1
      ∨ (List.range 8).any (fun j => rival j && (lqSubslot (s.launch j).body == lqSubslot b
          || (decide (lqFirst b < lqFirst (s.launch j).body + lqCount (s.launch j).body)
              && decide (lqFirst (s.launch j).body < lqFirst b + lqCount b)))) then (s, 0x08000022)
  else
    let s := (s.setReg (0x2A10 + l) 2 1).setReg (0x2A10 + l) 1 2
    (s.modLaunch l (fun k => { LaunchQ.init with body := k.body, lastSent := s.now, mapped := k.mapped }), 0)
/-- Disabling it: the calendar is discarded, a closing frame goes out at the next grid instant, counts end at zero. -/
def State.launchDisable (s : State) (l : Nat) : State :=
  if s.reg (0x2A10 + l) 2 ≠ 1 then s
  else
    let s := s.modLaunch l (fun k => { k with calendar := [] })
    let s := s.sendLaunch l (s.gridNext (s.launch l).body) false false true
    let s := s.modLaunch l (fun k => { k with counts := [], since := [] })
    (s.setReg (0x2A10 + l) 2 0).setReg (0x2A10 + l) 1 1
/-- A write of the speed; its age is counted in fabric cycles (R306, R324). -/
def State.speedWrite (s : State) (v : Nat) : State :=
  (s.withSpeedAt (some s.time.cycles)).setReg 0x2A01 1 v |>.bump 0x2A01 2
/-- AGE (2A01h:03). -/
def State.speedAge (s : State) : Nat :=
  match s.speedAt with
  | some t => Nat.min ((s.time.cycles - t) / 1000000) 0xFFFFFFFF
  | none => 0xFFFFFFFF
/-- OUTPUT_LINK_UP. -/
def doOutputLinkUp (m : Nat) (s : State) : State :=
  if s.boot.released < 9 then s
  else (s.setReg (0x2A04 + m) 7 1).conditionEnd (fun f => f.code == 0x11 && f.detail == m)
/-- OUTPUT_LINK_LOSS. -/
def doOutputLinkLoss (m : Nat) (s : State) : State :=
  if s.reg (0x2A04 + m) 7 ≠ 1 then s
  else
    let s := (s.setReg (0x2A04 + m) 7 0).bumpSat (0x2A04 + m) 0x0A
    forEach ((List.range 8).filter (fun l => s.reg (0x2A10 + l) 2 == 1 && lqMac (s.launch l).body == 4 + m)) s (fun s l =>
      s.raise 0x11 (some (s.launchPart l)) l m)

/-! ### The commands -/

/-- LAUNCH_ENTRY_MAP (R318). -/
def execLaunchEntryMap (l : LaunchId) (s : State) : Host.Outcome State Fault Refusal := .next (doLaunchEntry l.val s)
/-- LAUNCH_FRAME_SEND (R319). -/
def execLaunchFrameSend (l : LaunchId) (s : State) : Host.Outcome State Fault Refusal := .next (doLaunchFrame l.val s)
/-- KEEPALIVE (R325). -/
def execKeepalive (l : LaunchId) (s : State) : Host.Outcome State Fault Refusal := .next (doKeepalive l.val s)
/-- OUTPUT_LINK_LOSS (R315). -/
def execOutputLinkLoss (m : OutMac) (s : State) : Host.Outcome State Fault Refusal := .next (doOutputLinkLoss m.val s)
/-- OUTPUT_LINK_UP (R315). -/
def execOutputLinkUp (m : OutMac) (s : State) : Host.Outcome State Fault Refusal := .next (doOutputLinkUp m.val s)

end Sys2Proof.Machine
end

