-- ==== Sys2Proof/Machine/PostProc.lean ====
section
/-! DEFINITION. PostProc: the detection post-processor: jobs, decoding, ordering, suppression and records
(05_convolution.md R152 to R169). -/
namespace Sys2Proof.Machine

/-! ### Parameter blocks (R153) -/

def State.block (s : State) (b : Nat) : List Byte := tblGet [] s.blocks b
def blkDecode (k : List Byte) : Nat := field k 1 1
def blkFmt (k : List Byte) : Nat := field k 4 1
def blkClasses (k : List Byte) : Nat := field k 6 1
def blkStride (k : List Byte) : Nat := 2 ^ field k 7 1
def blkAnchors (k : List Byte) : Nat := field k 5 1
def blkScore (k : List Byte) : Nat := field k 2 1
def blkAch (k : List Byte) : Nat := 4 + blkScore k + blkClasses k
def blkCells (k : List Byte) : Nat := (64 / blkStride k) * (64 / blkStride k)
def blkCellBytes (k : List Byte) : Nat := field k 38 2
def blkW (k : List Byte) : Nat := field k 40 2
def blkH (k : List Byte) : Nat := field k 42 2
def blkIn (k : List Byte) : Nat := field k 44 2
def blkOut (k : List Byte) : Nat := field k 46 2
def blkSig (k : List Byte) : List Byte := slice k 128 384
def blkExp (k : List Byte) : List Byte := slice k 512 384

/-! ### Decoding (R157, R158) -/

/-- Dequantised channel: FP32. -/
def deq (k : List Byte) (v scale zp : Nat) : Nat :=
  let f := blkFmt k
  if f = 0 ∨ f = 9 then
    (fpMul fp32 (fpEncode fp32 true (fvOfInt (sgn (elemBits f) v - sgn 16 (field k zp 2)))).1 (field k scale 4)).1
  else (fpMul fp32 (widenFp f v) (field k scale 4)).1
/-- One exact addend, rounded once: base ± d × s. -/
def edge (base : Fv) (d s : Nat) (neg : Bool) : Nat :=
  let p := (fvMul (fpDecode fp32 d) (fvOfInt s)).1
  (fpRound fp32 (fvAdd base (if neg then fvNeg p else p))).1
/-- Centre coordinate t × 64 + (c + 0.5) × s. -/
def centre (t c s : Nat) : Fv := .num false (2 * (t * 64) + (2 * c + 1) * s) (-1)
/-- Half of an anchor's size times tab(EXP, v). -/
def halfSize (k : List Byte) (size v : Nat) : Nat :=
  let a := (fpEncode fp32 true (.num false size (-4))).1
  (fpMul fp32 (fpMul fp32 a (tableEval (blkExp k) v).1).1 0x3F000000).1
/-- clamp(rne_int(v × 16), 0, top); none for a NaN. -/
def edgeInt (top v : Nat) : Option Int :=
  match fpDecode fp32 v with
  | .nan => none
  | .inf neg => some (if neg then 0 else top)
  | .num neg m e => some (clampI 0 top (fvToInt 32 0 (.num neg m (e + 4))).1)
/-- The four edges as FP32 encodings. -/
def boxEdges (k : List Byte) (tx ty cx cy a : Nat) (ch : List Nat) : List Nat :=
  let s := blkStride k
  let gx := centre tx cx s
  let gy := centre ty cy s
  let d := fun (i : Nat) => deq k (ch.getD i 0) 20 32
  if blkDecode k = 0 then [edge gx (d 0) s true, edge gy (d 1) s true, edge gx (d 2) s false, edge gy (d 3) s false]
  else
    let cxb := edge gx (d 0) s false
    let cyb := edge gy (d 1) s false
    let hw := halfSize k (field k (64 + 4 * a) 2) (d 2)
    let hh := halfSize k (field k (66 + 4 * a) 2) (d 3)
    [(fpSub fp32 cxb hw).1, (fpSub fp32 cyb hh).1, (fpAdd fp32 cxb hw).1, (fpAdd fp32 cyb hh).1]
/-- Class and its value: the greatest, ties to the lower class, NaN below every number. -/
def bestClass (k : List Byte) (ch : List Nat) : Nat × Nat :=
  let v := fun (c : Nat) => (tableEval (blkSig k) (deq k (ch.getD (4 + blkScore k + c) 0) 28 36)).1
  (List.range (blkClasses k)).foldl (fun b c =>
    if c = 0 then (0, v 0)
    else if fpIsNan fp32 b.2 && !fpIsNan fp32 (v c) then (c, v c)
    else if fpLt fp32 b.2 (v c) then (c, v c) else b) (0, 0)
def candScore (k : List Byte) (ch : List Nat) (cls : Nat) : Nat :=
  if blkScore k = 0 then cls
  else (fpMul fp32 (tableEval (blkSig k) (deq k (ch.getD 4 0) 24 34)).1 cls).1
/-- The candidate of one anchor of one cell, where it is kept. -/
def candidate (k : List Byte) (i tx ty cell a : Nat) (inv : Bool) (ch : List Nat) : Option Candidate :=
  let per := 64 / blkStride k
  let es := boxEdges k tx ty (cell % per) (cell / per) a ch
  match edgeInt (blkW k * 16) (es.getD 0 0), edgeInt (blkH k * 16) (es.getD 1 0),
    edgeInt (blkW k * 16) (es.getD 2 0), edgeInt (blkH k * 16) (es.getD 3 0) with
  | some x0, some y0, some x1, some y1 =>
    let c := bestClass k ch
    let sc := candScore k ch c.2
    if x1 ≤ x0 ∨ y1 ≤ y0 ∨ ¬ fpLe fp32 (field k 16 4) sc then none
    else some ⟨x0, y0, x1, y1, c.1, sc, (i * blkCells k + cell) * blkAnchors k + a, i, inv⟩
  | _, _, _, _ => none
/-- All candidates of a tile, from the bytes of its cells. -/
def tileCandidates (k : List Byte) (i tx ty : Nat) (inv : Bool) (bs : List Byte) : List Candidate :=
  let b := elemBits (blkFmt k)
  ((List.range (blkCells k)).map (fun cell =>
    let row := (bs.drop (cell * blkCellBytes k)).take (blkCellBytes k)
    (List.range (blkAnchors k)).filterMap (fun a =>
      candidate k i tx ty cell a inv ((List.range (blkAch k)).map (fun j => elemAt row b (a * blkAch k + j)))))).flatten

/-! ### Ordering and suppression (R159, R160) -/

/-- Comes before, or is as early. -/
def candBefore (a b : Candidate) : Bool :=
  fpLt fp32 b.score a.score || (!fpLt fp32 a.score b.score && decide (a.index ≤ b.index))
def candInsert (c : Candidate) : List Candidate → List Candidate
  | [] => [c]
  | x :: r => if candBefore x c then x :: candInsert c r else c :: x :: r
def candSort (cs : List Candidate) : List Candidate := cs.foldl (fun l c => candInsert c l) []
def boxArea (c : Candidate) : Int := (c.x1 - c.x0) * (c.y1 - c.y0)
/-- Survivor a suppresses candidate b. -/
def suppresses (k : List Byte) (a b : Candidate) : Bool :=
  let mode := field k 3 1
  let inter := max 0 (min a.x1 b.x1 - max a.x0 b.x0) * max 0 (min a.y1 b.y1 - max a.y0 b.y0)
  let union := boxArea a + boxArea b - inter
  (mode == 1 || (mode == 0 && a.cls == b.cls)) && decide ((field k 12 2 : Int) * union < inter * 65536)
/-- Survivors in order, and OUT_OVF. -/
def suppressAll (k : List Byte) : List Candidate → List Candidate → List Candidate × Bool
  | [], kept => (kept, false)
  | c :: r, kept =>
    if field k 10 2 ≤ kept.length then
      (kept, (c :: r).any (fun x => !kept.any (fun y => suppresses k y x)))
    else suppressAll k r (if kept.any (fun y => suppresses k y c) then kept else kept ++ [c])

/-! ### Jobs (R155, R161 to R165) -/

/-- A job entry that R155 accepts. -/
def jobEntryOk (e : List Byte) : Bool :=
  field e 0 8 % 32 == 0 && decide (field e 0 8 < 2 ^ 48) && field e 8 8 % 4 == 0 && decide (field e 8 8 < 2 ^ 48)
    && decide (field e 16 2 ≤ 3969) && decide (field e 18 1 ≤ 47) && decide (field e 19 1 ≤ 1)
/-- The addresses at which a job reads: its list, and its first tile. -/
def jobAddresses (e : List Byte) : List Nat := [field e 8 8, field e 0 8]
/-- Status of a failed read (R164). -/
def jobReadStatus (st : Nat) : Nat := if st = 0 then 0 else if st = 0x30 then 3 else 2
/-- Tiles of a job in list order: status, candidates, some tile INVALID, and the reads made. DESIGN CHOICE: of several
breaches the first tile in list order decides the job's status, by its refusal 04h or its read failure (R156, R164 name no
order: log 105). -/
def State.jobTiles (s : State) (p : Nat) (k e : List Byte) (list : List Byte) :
    List Nat → List Candidate → Bool → List (Nat × Nat) → Nat × List Candidate × Bool × List (Nat × Nat)
  | [], cs, inv, rd => (0, cs, inv, rd)
  | i :: rest, cs, inv, rd =>
    let t := field list (4 * i) 4
    let tx := bits t 15 0
    let ty := bits t 30 16
    if t = 0xFFFF then s.jobTiles p k e list rest cs inv rd
    else if blkW k < 64 * tx + 64 ∨ blkH k < 64 * ty + 64 then (4, cs, inv, rd)
    else
      let n := blkCells k * blkCellBytes k
      let da := field e 0 8 + i * n
      let r := s.blockRead p da n
      if r.status ≠ 0 then (jobReadStatus r.status, cs, inv, rd ++ [(da, n)])
      else s.jobTiles p k e list rest (cs ++ tileCandidates k i tx ty (bit t 31) r.bytes) (inv || bit t 31) (rd ++ [(da, n)])
/-- Summary record (R161). -/
def summaryBytes (b : Nat) (e : List Byte) (status flags count cands : Nat) : List Byte :=
  zeros 1 ++ leBytes 1 status ++ slice e 18 1 ++ leBytes 1 flags ++ leBytes 2 count ++ leBytes 2 cands ++ leBytes 4 b
    ++ zeros 4 ++ slice e 20 4 ++ zeros 4 ++ slice e 24 8
/-- Detection record (R162). -/
def detectionBytes (e : List Byte) (candOvf outOvf : Bool) (rank : Nat) (c : Candidate) : List Byte :=
  leBytes 1 1 ++ leBytes 1 c.cls ++ slice e 18 1
    ++ leBytes 1 (b2n (bit (field e 19 1) 0 || c.tileInvalid) + b2n candOvf * 2 + b2n outOvf * 4) ++ leBytes 4 c.score
    ++ leBytes 2 c.x0.toNat ++ leBytes 2 c.y0.toNat ++ leBytes 2 c.x1.toNat ++ leBytes 2 c.y1.toNat ++ slice e 20 4
    ++ leBytes 2 c.tile ++ leBytes 2 rank ++ slice e 24 8
/-- A job that ends with another status: one summary with INVALID set. -/
def failedJob (j : Job) (status : Nat) : Job :=
  { j with finished := true, status := status, records := [summaryBytes j.block j.entry status 1 0 0],
           candOvf := false, outOvf := false }
/-- A job whose budget expires (R164): INVALID and no detections; what decoding had found before stays in its summary
(R161). One that had not been decoded yet has found nothing: log 105. -/
def expiredJob (j : Job) : Job :=
  if j.finished ∧ j.status = 0 then
    let old := j.records.headD []
    { j with status := 1, records := [summaryBytes j.block j.entry 1 (field old 3 1 ||| 1) 0 (field old 6 2)] }
  else failedJob j 1
/-- A job decoded, ordered and suppressed; and the reads it made. -/
def State.runJob (s : State) (j : Job) : Job × List (Nat × Nat) :=
  let k := s.block j.block
  let p := s.reg (0x2810 + j.block) 2
  let e := j.entry
  let n := field e 16 2
  if ¬ jobEntryOk e then (failedJob j 4, [])
  else
    let da := field e 8 8
    let r := s.blockRead p da (4 * n)
    if n ≠ 0 ∧ r.status ≠ 0 then (failedJob j (jobReadStatus r.status), [(da, 4 * n)])
    else
      let t := s.jobTiles p k e r.bytes (List.range n) [] false [(da, 4 * n)]
      if t.1 ≠ 0 then (failedJob j t.1, t.2.2.2)
      else
        let cs := candSort t.2.1
        let top := cs.take (field k 8 2)
        let co := decide (field k 8 2 < cs.length)
        let out := suppressAll k top []
        let flags := b2n (bit (field e 19 1) 0) + b2n co * 2 + b2n out.2 * 4 + b2n t.2.2.1 * 8
        ({ j with
            finished := true, status := 0, candOvf := co, outOvf := out.2,
            records := summaryBytes j.block e 0 flags out.1.length (Nat.min cs.length 65535)
              :: (out.1.zipIdx).map (fun x => detectionBytes e co out.2 x.2 x.1) }, t.2.2.2)
def State.engine (s : State) (e : Nat) : Option Job := (s.engines.find? (fun x => x.1 == e)).map (·.2)
def State.setEngine (s : State) (e : Nat) (j : Job) : State := s.withEngines (tblIns (tblDel s.engines e) e j)
/-- BUSY (2800h:05). -/
def State.enginesBusy (s : State) : Nat := (List.range 4).foldl (fun n e => n + b2n (s.engine e).isSome * 2 ^ e) 0
/-- The next enabled block with a job, in rotating order. -/
def State.nextJobBlock (s : State) : Option Nat :=
  ((List.range 16).map (fun i => (s.nextBlock + i) % 16)).find? (fun b =>
    s.reg (0x2810 + b) 3 == 1 && s.block b != [] && (s.queue (blkIn (s.block b))).enabled
      && decide (0 < (s.queue (blkIn (s.block b))).count))
/-- POSTPROC_DATA of a block's partition (R165, R331). -/
def State.jobDataFault (s : State) (b da : Nat) : State := s.raise 0x0F (some (s.reg (0x2810 + b) 2)) b da
/-- JOB_POP: a free engine takes the next job. DESIGN CHOICE: an entry that cannot be read ends its job as one of 32 zero
bytes, so STREAM, FRAME and T0_REF of its summary are zero (R155, R161 name no value: log 105). -/
def doJobPop (e : Nat) (s : State) : State :=
  match s.engine e, s.nextJobBlock with
  | none, some b =>
    let q := blkIn (s.block b)
    let r := s.queuePeek q 1
    let a := ringAddr (s.queue q) (s.queue q).head
    let s := ((s.queueDrop q 1).readEvents [] a 32).bump (0x2810 + b) 5
    let j : Job :=
      { block := b, entry := r.2.flatten, order := s.jobOrder, poppedAt := s.now, outQueue := blkOut (s.block b),
        finished := false, status := 0, records := [], candOvf := false, outOvf := false }
    let s := (s.withJobOrder (s.jobOrder + 1)).withNextBlock ((b + 1) % 16)
    if r.1 = 0 then s.setEngine e j
    else
      let s := s.setEngine e (failedJob { j with entry := zeros 32 } (jobReadStatus r.1))
      if r.1 = 0x30 then (s.memUncorr (s.queuePart q) [] a).jobDataFault b a else s
  | _, _ => s
/-- JOB_COMPLETE: decoding, ordering and suppression are over. -/
def doJobComplete (e : Nat) (s : State) : State :=
  match s.engine e with
  | none => s
  | some j =>
    if j.finished then s
    else
      let r := s.runJob j
      let p := s.reg (0x2810 + j.block) 2
      let s := (r.2.foldl (fun s x => s.blockReadEvents p x.1 x.2) s).setEngine e r.1
      if r.1.status = 3 then s.jobDataFault j.block ((r.2.getLast?.map (·.1)).getD 0) else s
/-- The job leaves its engine. -/
def State.jobOver (s : State) (e : Nat) (j : Job) : State :=
  let s := s.withEngines (tblDel s.engines e)
  let s := if j.status = 0 then s.bump 0x2800 3 else s.bumpSat 0x2800 4
  let s := if j.candOvf then s.bumpSat (0x2810 + j.block) 7 else s
  if j.outOvf then s.bumpSat (0x2810 + j.block) 8 else s
/-- What a push of a job leaves: LAST_STATUS and LONGEST_JOB. -/
def State.jobPushed (s : State) (j : Job) : State :=
  (s.setReg (0x2810 + j.block) 6 j.status).maxReg 0x2800 6 (s.now - j.poppedAt)
/-- JOB_PUSH: the whole job, after every earlier-popped job of its queue, where it fits (R163). -/
def doJobPush (e : Nat) (s : State) : State :=
  match s.engine e with
  | none => s
  | some j =>
    if ¬ j.finished ∨ s.engines.any (fun x => x.2.outQueue == j.outQueue && decide (x.2.order < j.order)) then s
    else
      let r := s.outerPush j.outQueue j.records
      if r.2 ≠ 0 then r.1 else (r.1.jobPushed j).jobOver e j
/-- A parity error inside an engine ends the job that it holds with status 03h (R164, R165). -/
def State.engineParity (s : State) (e : Nat) : State :=
  match s.engine e with
  | some j => s.setEngine e (failedJob j 3)
  | none => s
/-- A queue has room for `n` entries. -/
def State.queueRoom (s : State) (q n : Nat) : Bool :=
  decide (q ≤ 16383) && (s.queue q).enabled && decide ((s.queue q).count + n ≤ 2 ^ (s.queue q).log2)
/-- JOB_BUDGET_EXPIRY: the job ends with status 01h, its summary pushed where the queue has room, else counted in
BUDGET_MISS alone (R164, R165). -/
def doJobBudget (e : Nat) (s : State) : State :=
  match s.engine e with
  | none => s
  | some j =>
    let j := expiredJob j
    let s := if s.queueRoom j.outQueue j.records.length then
        (((s.outerPush j.outQueue j.records).1).jobPushed j).jobOver e j
      else s.withEngines (tblDel s.engines e)
    (s.bumpSat (0x2810 + j.block) 9).raise 0x0E (some (s.reg (0x2810 + j.block) 2)) j.block (field j.entry 20 4)
/-- ENABLE of a block (R168), which runs only as part of a plan that a load accepted (R36): the state and the abort code. -/
def State.blockEnable (s : State) (b v : Nat) : State × Nat :=
  if 1 < v then (s, 0x06090030)
  else if v = 1 ∧ (s.reg (0x2810 + b) 1 = 0 ∨ ¬ s.planHeld (s.reg (0x2810 + b) 2)) then (s, 0x08000022)
  else ((s.setReg (0x2810 + b) 3 v).setReg (0x2810 + b) 1 (if s.reg (0x2810 + b) 1 = 0 then 0 else 1 + v), 0)

/-! ### The commands -/

/-- JOB_POP (R163). -/
def execJobPop (e : EngineId) (s : State) : Host.Outcome State Fault Refusal := .next (doJobPop e.val s)
/-- JOB_COMPLETE (R160). -/
def execJobComplete (e : EngineId) (s : State) : Host.Outcome State Fault Refusal := .next (doJobComplete e.val s)
/-- JOB_PUSH (R163). -/
def execJobPush (e : EngineId) (s : State) : Host.Outcome State Fault Refusal := .next (doJobPush e.val s)
/-- JOB_BUDGET_EXPIRY (R164). -/
def execJobBudgetExpiry (e : EngineId) (s : State) : Host.Outcome State Fault Refusal := .next (doJobBudget e.val s)

end Sys2Proof.Machine
end

