-- ==== Sys2Proof/Machine/SafetyMon.lean ====
section
/-! DEFINITION. SafetyMon: the safety monitor (11_safety.md R330 to R366): faults and warnings, retries and their
consequences, the redundancy comparator, deadline watches, self-test sweeps and the geyser. -/
namespace Sys2Proof.Machine

/-! ### Events (R331 to R333, R336) -/

/-- SOURCE by which an event of the I/O die's shared blocks names itself: its scope is every partition (R331). -/
def sharedSource : Nat := 0xFFFF
/-- Scope of a class D or T event (R331). -/
def faultScope (code p source : Nat) (unit : FaultUnit) : Option Nat :=
  let inEngine : Bool := match unit with
    | .engine _ => code == 0x0F
    | _ => false
  if code = 0x12 ∨ code = 0x17 ∨ code = 0x18 ∨ inEngine then none
  else if (code = 1 ∨ code = 0x0F ∨ code = 0x15) ∧ source = sharedSource then none
  else some p
/-- The instruction that a spindle runs meets a parity error: the poison bit of the set that it writes is set (R84). -/
def State.poisonRunning (s : State) (u : Nat) : State :=
  match (s.spindle u).running with
  | some r => s.modSpindle u (fun k => { k with
      poison := if k.poison.contains r.1.set then k.poison else k.poison ++ [r.1.set] })
  | none => s
/-- The dictionary access that an agent has under way meets a hardware error: it fails with 0606_0000h (R374). -/
def State.accessParity (s : State) : Agent → State
  | .mirror => match s.mirrorQueue with
    | i :: rest =>
      let m := s.mailbox i
      let s := (s.withMirrorQueue rest).setMailbox i { m with busy := false, done := true, aborted := true, abort := 0x06060000 }
      let s := s.withReplies (tblPut (0, 0) s.replies 2 (0x06060000, 0))
      if bit m.request 7 then s.msix 0 else s
    | [] => s
  | .can0 => if s.canEnabled 0 then (s.withReplies (tblPut (0, 0) s.replies 0 (0x06060000, 0))).emit (.usdo 0 0x06060000 0 0) else s
  | .can1 => if s.canEnabled 1 then (s.withReplies (tblPut (0, 0) s.replies 1 (0x06060000, 0))).emit (.usdo 1 0x06060000 0 0) else s
/-- What a detected fault does to the unit whose work it spoils; and whether that has raised the event (R84, R125, R164,
R266, R374). -/
def State.spoil (s : State) (code : Nat) : FaultUnit → State × Bool
  | .spindle u => (if code = 1 then s.poisonRunning u.val else s, false)
  | .engine e => (if code = 0x0F then s.engineParity e.val else s, false)
  | .descriptor g i =>
    match (s.skein g.val).flights[i]? with
    | some f => if code = 1 ∧ s.streamLive g.val then (s.fail g.val f 0x31, true) else (s, false)
    | none => (s, false)
  | .decoder d off =>
    match (s.decoder d.val).sample with
    | some x => if code = 0x14 ∧ ¬ x.decoded then (s.sampleBroken d.val x ((s.samplePrefix d.val x).take off), true) else (s, false)
    | none => (s, false)
  | .access a => (if code = 1 then s.accessParity a else s, false)
  | .none => (s, false)
/-- Of a parity error on a compute-die path, one more than its caldera (R340). -/
def pathKey (code : Nat) : FaultUnit → Nat
  | .spindle u => if code = 1 then 1 + u.val / 32 else 0
  | .descriptor g _ => if code = 1 then 1 + g.val / 8 else 0
  | _ => 0
/-- FAULT_DETECT: a checker raises a class D or T event. -/
def doFaultDetect (code p source detail : Nat) (unit : FaultUnit) (s : State) : State :=
  if code = 0 ∨ 0x18 < code then s
  else
    let r := s.spoil code unit
    if r.2 then r.1 else r.1.raiseKey code (faultScope code p source unit) source detail (pathKey code unit)
/-- WARNING: a class W event; SWEEP_LATE events are counted (R363). -/
def doWarning (code p source detail : Nat) (s : State) : State :=
  if code = 0x80 then s.warn 0x80 (some p) source detail
  else if code = 0x81 then s.warn 0x81 none source detail
  else if code = 0x82 then (s.bumpSat 0x2B30 5).warn 0x82 (some p) source detail
  else s
/-- MONITOR_REFRESH: the running monitor's checks pass and it refreshes the release of FAULT_N. -/
def doMonitorRefresh (s : State) : State := if s.boot.image = [] then s else s.modSafety (fun k => { k with refreshed := true, monitorLost := false })
/-- MONITOR: the refresh stopped; the event is latched for all partitions. -/
def doMonitor (s : State) : State :=
  if ¬ s.safety.refreshed then s else
  (s.modSafety (fun k => { k with refreshed := false, monitorLost := true })).raise 0x17 none 0 0

/-! ### Out of service (R35, R127, R366) -/

/-- The streams of some skeins end with 42h. -/
def State.endOutOfService (s : State) (gs : List Nat) : State :=
  forEach gs s (fun s g =>
    if s.streamLive g then s.endStream g 0x42 (s.reg (0x2440 + g) 3) (s.reg (0x2440 + g) 6) else s)
/-- Held checkpoint records of a pair are discarded and counted in SUSPENDED. -/
def State.dropHeld (s : State) (k : Nat) (arrived : Bool) : State :=
  let x := s.pair k
  let n := x.held.length + (if arrived then x.arrivals.length else 0)
  (s.setPair k { x with held := [], arrivals := if arrived then [] else x.arrivals }).bumpSatBy (0x2B10 + k) 7 n
/-- CALDERA_OUT_OF_SERVICE: its streams end with 42h, the held records of its pair go, and the plans that named it stop,
loaded or active: their streams end in the same way and a start that waits is given up (R35). -/
def State.takeOut (s : State) (c : Nat) : State :=
  if s.oos c then s else
  let s := (s.setReg 0x2B00 0x0B (setBit (s.reg 0x2B00 0x0B) c)).modCaldera c (fun k => { k with sweeping := false })
  let s := s.endOutOfService ((List.range 8).map (fun i => 8 * c + i))
  let s := s.dropHeld (c / 2) false
  forEach (List.range 8) s (fun s p =>
    if s.planHeld p ∧ bit (s.plan p).calderaMask c then
      (s.endOutOfService ((s.plan p).streams.map (·.1))).modPlan p (fun k => { k with starting := false })
    else s)

/-! ### Retries (R340, R342) -/

/-- Calderas that a lasting fault takes out of service. -/
def faultCalderas (f : PendingFault) : List Nat :=
  if f.everyPart then []
  else if f.code = 1 then (if f.key = 0 then [] else [f.key - 1])
  else if f.code = 6 ∨ f.code = 8 then [f.source / 8]
  else if f.code = 2 then
    [if sideBase ≤ f.detail ∨ (storeBase ≤ f.detail ∧ f.detail < bufferBase) then f.source / 32
     else if scratchBase ≤ f.detail ∧ f.detail < storeBase then f.source / 8 else f.source]
  else if f.code = 4 ∨ f.code = 5 then [2 * f.source, 2 * f.source + 1]
  else if f.code = 9 ∨ f.code = 0x15 then [f.source]
  else []
/-- The fault lies in a weight cache: its retry is the refetch of R193. -/
def inWeightCache (f : PendingFault) : Bool := f.code == 2 && decide (f.detail < scratchBase)
/-- The retry is work that the machine does anyway, and that work gives the verdict: a refetch, a record pair, a compared
record, a geyser check, a frame or a sample (R340). -/
def retriedByWork (f : PendingFault) : Bool := inWeightCache f || [4, 5, 6, 8, 9, 0x14].contains f.code
/-- Its retry needs the caldera's reserved slot (R340, R349). -/
def needsSlot (f : PendingFault) : Bool :=
  !f.everyPart && ((f.code == 1 && f.key != 0) || f.code == 0x15 || (f.code == 2 && !inWeightCache f))
/-- Transients of the same SOURCE and CODE within the last second. -/
def State.recentTransients (s : State) (f : PendingFault) : Nat :=
  (s.safety.transients.filter (fun t => t.1 == f.source && t.2.1 == f.code && decide (s.time.cycles < t.2.2 + 1000000000))).length
/-- A ninth transient within a second is lasting without a retry. -/
def State.ninth (s : State) (f : PendingFault) : Bool := isRetried f.code && decide (8 ≤ s.recentTransients f)
/-- The fault can be judged now. -/
def State.retryDue (s : State) (f : PendingFault) : Bool :=
  s.ninth f || (if retriedByWork f then f.verdict.isSome
    else !needsSlot f || (faultCalderas f).all (fun c => (s.caldera c).reserved))
/-- The retry of RAM_UNCORR writes the failing codeword with 5Ah and A5h: its content is lost, and it is clean where the
patterns read back. -/
def State.retryWrite (s : State) (f : PendingFault) (passed : Bool) : State :=
  if f.code = 2 ∧ ¬ inWeightCache f then
    let a := f.detail / 16 * 16
    let bs := List.replicate 16 (0xA5 : Byte)
    if passed then s.put a bs else s.wr a bs
  else s
/-- A fault classed lasting has its consequence. -/
def State.lastingFault (s : State) (f : PendingFault) : State :=
  let s := if f.everyPart ∨ f.code = 0x12 ∨ f.code = 0x17 ∨ (f.code = 1 ∧ f.key = 0) then s.modSafety (fun k => { k with lastingAll := true }) else s
  forEach (faultCalderas f) s State.takeOut
/-- The state shows that the condition of a fault without a retry has not ended: no frame or sample has been received whole
since, the output link is down, the stream has not been restarted and no plan loaded since, or the late work still runs
(R340). -/
def State.stillHolds (s : State) (f : PendingFault) : Bool :=
  f.code == 0x0C || (f.code == 0x11 && s.reg (0x2A04 + f.detail) 7 != 1) || f.code == 0x13
    || (f.code == 0x0A && s.frameRuns f.source ((f.detail + 2 ^ 32 - 2) % 2 ^ 32))
/-- FAULT_RETRY: the oldest pending fault of the partition that can be judged is classified; a fault that is not retried
leaves when its condition has ended. `passed` is what the monitor's own test shows; where work gave a verdict, that counts. -/
def doFaultRetry (p : Nat) (passed : Bool) (s : State) : State :=
  match (s.part p).pending.find? (fun f => s.retryDue f) with
  | none => s
  | some f =>
    let scope := if f.everyPart then 0xFF else p
    let ok := if retriedByWork f then f.verdict == some true else passed
    let s :=
      if ¬ isRetried f.code then (if passed ∧ ¬ s.stillHolds f then s.unpend f false else s)
      else if s.ninth f ∨ ¬ ok then
        let s := if s.ninth f then s else s.retryWrite f false
        (((s.bumpSat 0x2B00 7).logPush f.code 2 scope f.source f.detail f.stamp).unpend f true).lastingFault f
      else
        let t : Nat × Nat × Nat := (f.source, f.code, s.time.cycles)
        let keep := s.safety.transients.filter (fun t => decide (s.time.cycles < t.2.2 + 1000000000))
        let s := (s.retryWrite f true).modSafety (fun k => { k with transients := keep ++ [t] })
        ((s.bumpSat 0x2B00 6).logPush f.code 1 scope f.source f.detail f.stamp).unpend f false
    forEach (List.range 8) s State.settlePart

/-! ### The comparator (R343 to R348) -/

/-- Either caldera of the pair has the lock-step break flag. -/
def State.pairBroken (s : State) (k : Nat) : Bool := s.dbg.broken.contains (2 * k) || s.dbg.broken.contains (2 * k + 1)
/-- Skein of the even caldera of a pair. -/
def evenSkein (g : Nat) : Nat := g % 8 + g / 16 * 16
/-- Context with which a checkpoint context pairs (R344). -/
def pairCtx (c : Nat) : Nat := if c = 4 then 5 else if c = 5 then 4 else c
/-- Partner record. -/
def isPartner (r h : SinterRec) : Bool :=
  h.skein == r.skein ^^^ 8 && h.ctx == pairCtx r.ctx && h.tag == r.tag && h.iteration == r.iteration
/-- The records agree in every field but FLAGS. -/
def sameFields (r h : SinterRec) : Bool :=
  r.kind == h.kind && r.planId == h.planId && r.bytes == h.bytes && r.digest == h.digest
/-- What names the record pair that is the retry of a 04h fault: its skeins, TAG and contexts (R340). -/
def pairKey (r : SinterRec) : Nat := Nat.min r.ctx (pairCtx r.ctx) * 2 ^ 32 + r.tag * 2 ^ 8 + evenSkein r.skein
/-- A comparator event of kind 0 (field), 1 (flags) or 2 (timeout) for a record. -/
def State.pairFault (s : State) (k kind : Nat) (r : SinterRec) : State :=
  let s := (s.bumpSat (0x2B10 + k) (if kind = 2 then 6 else 5)).setReg (0x2B10 + k) 8
    (kind * 2 ^ 22 + evenSkein r.skein * 2 ^ 16 + r.tag)
  if kind = 2 then
    (s.verdict 5 k (evenSkein r.skein) false).raiseKey 5 (some (s.skeinPart r.skein)) k (r.tag * 2 ^ 8 + r.skein) (evenSkein r.skein)
  else s.raiseKey 4 (some (s.skeinPart r.skein)) k (r.tag * 2 ^ 8 + r.skein) (pairKey r)
/-- Compares two paired records; they are the retry of what is pending for such a pair. -/
def State.judgePair (s : State) (k : Nat) (r h : SinterRec) : State :=
  let ok := sameFields r h && r.flags % 16 == h.flags % 16
  let s := ((s.bump (0x2B10 + k) 4).verdict 4 k (pairKey r) ok).verdict 5 k (evenSkein r.skein) true
  if ¬ sameFields r h then s.pairFault k 0 r
  else if r.flags % 16 ≠ h.flags % 16 then s.pairFault k 1 r
  else s
/-- TAG masked as asynchronous (R345). -/
def State.tagMasked (s : State) (k tag : Nat) : Bool :=
  tag != 0xFFFF && (List.range 8).any (fun i => s.reg (0x2B10 + k) (i + 9) == tag)
/-- A record waits for its partner; a full store gives up its oldest (R346). -/
def State.holdRecord (s : State) (k : Nat) (r : SinterRec) : State :=
  let x := s.pair k
  if x.held.length < 256 then s.setPair k { x with held := x.held ++ [r] }
  else
    let s := s.setPair k { x with held := x.held.drop 1 ++ [r] }
    match x.held.head? with
    | some h => s.pairFault k 2 h
    | none => s
/-- CHECKPOINT_COMPARE: the oldest record that has arrived at the comparator of pair k. -/
def doCheckpointCompare (k : Nat) (s : State) : State :=
  match (s.pair k).arrivals with
  | [] => s
  | r :: rest =>
    if s.pairBroken k then s.dropHeld k true
    else
      let s := s.setPair k { s.pair k with arrivals := rest }
      let mode := s.reg (0x2B10 + k) 2
      if mode = 0 ∨ (mode = 4 ∧ r.ctx ≠ 6) then s.raise 0x16 (some (s.skeinPart r.skein)) k (r.tag * 2 ^ 8 + r.skein)
      else if s.tagMasked k r.tag then s.bumpSat (0x2B10 + k) 7
      else
        match (s.pair k).held.find? (fun h => isPartner r h) with
        | some h => (s.setPair k { s.pair k with held := (s.pair k).held.erase h }).judgePair k r h
        | none => s.holdRecord k r
/-- COMPARE_TIMEOUT: the oldest held record has found no partner in MATCH_TIMEOUT. -/
def doCompareTimeout (k : Nat) (s : State) : State :=
  match (s.pair k).held with
  | [] => s
  | h :: rest =>
    if s.pairBroken k then s.dropHeld k true
    else (s.setPair k { s.pair k with held := rest }).pairFault k 2 h

/-! ### Deadline watches (R338) -/

/-- Checks are made: the plan's streams have been started, and no caldera of the partition is stopped or in break. -/
def State.watchOn (s : State) (p : Nat) : Bool :=
  s.reg (0x2490 + p) 8 == 3 && !(s.plan p).starting
    && (s.partCalderas p).all (fun c => !(s.caldera c).stopped && !s.dbg.broken.contains c)
/-- Counter value a watch expects in frame f, modulo 2^32. -/
def watchTarget (v base f : Nat) : Nat :=
  enc 32 ((base : Int) + bits v 111 96 * ((f : Int) - bits v 119 116 + 1) - bits v 115 112)
/-- WATCH_CHECK: tick TICK of the frame has come. -/
def doWatchCheck (p w : Nat) (s : State) : State :=
  let v := s.reg (0x2B20 + p) (w + 1)
  let f := (s.plan p).frame
  if bit v 127 ∧ s.watchOn p ∧ bits v 119 116 ≤ f then
    if syncReached (s.sync (bits v 16 0)) (watchTarget v (tblGet 0 (s.part p).bases w) f) then s
    else (s.bumpSat (0x2B20 + p) 9).raise 0x0B (some p) w (bits v 16 0)
  else s
/-- BASE of the watches, taken at tick 0 of the frame in which the streams start. -/
def State.takeBases (s : State) (p : Nat) : State :=
  s.modPart p (fun k => { k with
    bases := (List.range 8).foldl (fun t w => tblPut 0 t w (s.sync (bits (s.reg (0x2B20 + p) (w + 1)) 16 0))) [] })

/-! ### Self-test (R350 to R352, R386) -/

/-- Elements of an item. -/
def itemElements (i : Nat) : Nat := if i = 1 then 80 else if i = 2 then 160 else if i = 3 then 2400 else 4800
/-- Elements of a sweep before an item. -/
def itemStart (i : Nat) : Nat := if i ≤ 1 then 0 else if i = 2 then 80 else if i = 3 then 240 else 2640
/-- Elements done in the sweep of a caldera. -/
def State.sweepDone (s : State) (c : Nat) : Nat :=
  let v := s.reg 0x2B30 (c + 7)
  itemStart (v / 2 ^ 24) + v % 2 ^ 24
/-- A sweep begins, with the vectors installed by now (R358), and with it a run of 2F04h where none is in progress. -/
def State.sweepBegin (s : State) (c : Nat) : State :=
  if (s.caldera c).sweeping then s else
  let s := if s.calderas.any (fun k => k.2.sweeping) then s else s.opStart 4 7440
  (s.modCaldera c (fun k => { k with sweeping := true, sweepLate := false, sweepStart := s.now, sweepVectors := s.safety.vectors })).setReg 0x2B30 (c + 7)
    (2 ^ 24)
/-- POSITION of 2F04h: elements of the sweeping caldera in service with the fewest. -/
def State.sweepProgress (s : State) : State :=
  match ((List.range 8).filter (fun c => (s.caldera c).sweeping && !s.oos c)).map s.sweepDone with
  | [] => s
  | d :: ds => s.maxReg 0x2F04 4 (ds.foldl Nat.min d)
/-- A sweep ends, and with it a SWEEP_LATE in force for the caldera (R336). -/
def State.sweepEnd (s : State) (c : Nat) : State :=
  let k := s.caldera c
  let s := (s.bump 0x2B30 3).maxReg 0x2B30 6 ((s.now - k.sweepStart) / 1000000)
  let s := (s.setCaldera c { k with sweeping := false, sweepLate := false }).setReg 0x2B30 (c + 7) 0
  let s := if s.calderas.any (fun k => k.2.sweeping) then s else s.opEnd 4 0
  s.warnEnd 0x82 c
/-- An element of 25 ticks can begin: it ends before the slot does, and no retry that needs the slot is pending (R351). -/
def State.elementFits (s : State) (c : Nat) : Bool :=
  let p := s.calderaPart c
  decide ((s.plan p).tick + 25 ≤ (s.slotNow p + 1) * (s.reg (0x2310 + p) 4 / 64))
    && !(List.range 8).any (fun p => (s.part p).pending.any (fun f => needsSlot f && (faultCalderas f).contains c))
/-- SELFTEST_ELEMENT: the next element of the caldera's sweep, in a reserved slot. -/
def doSelftestElement (c : Nat) (passed : Bool) (s : State) : State :=
  if s.reg 0x2B30 1 = 0 ∨ s.oos c ∨ ¬ (s.caldera c).reserved ∨ ¬ s.elementFits c then s else
  let s := s.sweepBegin c
  let v := s.reg 0x2B30 (c + 7)
  let item := v / 2 ^ 24
  let next := v % 2 ^ 24 + 1
  let s := if s.reg 0x2F04 2 = 4 then s.setReg 0x2F04 2 1 else s
  let s := if passed then s
    else (s.bumpSat 0x2B30 4).raise 0x15 (some (s.calderaPart c)) c v
  if next < itemElements item then (s.setReg 0x2B30 (c + 7) (item * 2 ^ 24 + next)).sweepProgress
  else if item < 4 then (s.setReg 0x2B30 (c + 7) ((item + 1) * 2 ^ 24)).sweepProgress
  else s.sweepEnd c
/-- SWEEP_LATE: a sweep has passed SWEEP_LIMIT; it goes on. -/
def doSweepLate (c : Nat) (s : State) : State :=
  let k := s.caldera c
  if k.sweeping ∧ ¬ k.sweepLate then
    doWarning 0x82 (s.calderaPart c) c (s.sweepDone c) (s.setCaldera c { k with sweepLate := true })
  else s
/-- IO_CHECKER_TEST: a failure reaches every partition. -/
def doIoCheckerTest (passed : Bool) (s : State) : State := if passed then s else s.raise 0x15 none sharedSource 0

/-! ### Geyser (R353 to R356) -/

/-- Geyser expected entries of a partition's skeins. -/
def State.geyserEntries (s : State) (p : Nat) : List (List Byte) :=
  (s.expectedList p).filter (fun e => s.geyserEntry p e && s.skeinPart (field e 0 1) == p)
/-- The entry was matched by a record of the period. -/
def entryMatched (k : PartSafety) (e : List Byte) : Bool := k.matched.contains (field e 0 1, field e 1 1, field e 2 2)
/-- Judges the geyser period that ends: calderas that pass, which is the retry of a 08h fault of their skeins, and entries
left unmatched. -/
def State.geyserJudge (s : State) (p : Nat) : State :=
  let k := s.part p
  let es := s.geyserEntries p
  let pass := (s.partCalderas p).filter (fun c =>
    !k.mismatched.contains c && es.all (fun e => field e 0 1 / 8 != c || entryMatched k e))
  let s := forEach (s.partSkeins p) s (fun s g => s.verdict 8 g 0 (pass.contains (g / 8)))
  let k := s.part p
  let s := s.setPart p { k with
    matched := [], mismatched := [], geyserPassed := if s.partState p = 2 then k.geyserPassed ++ pass else k.geyserPassed }
  (es.filter (fun e => !entryMatched k e)).foldl
    (fun s e => s.raise 8 (some p) (field e 0 1) (field e 2 2 * 2 ^ 8 + field e 0 1)) s
/-- First stream of the rotation at or after `n`, else its first. -/
def nextStream (mask n : Nat) : Nat :=
  match (List.range 64).find? (fun i => decide (n ≤ i) && bit mask i) with
  | some i => i
  | none => ((List.range 64).find? (fun i => bit mask i)).getD 0
/-- No frame open, and the last entry of the previous frame has been pushed. -/
def State.inBlanking (s : State) (n : Nat) : Bool :=
  (s.camera n).openFrame == none && (s.camera n).frames.all (·.pushed)
/-- Copies the golden batch, where one is installed, into the geyser buffer; a GOLDEN pattern that waits comes into
force (R358). -/
def State.inject (s : State) (p : Nat) : State :=
  let s := match (s.part p).nextGolden with
    | some g => (s.modPart p (fun k => { k with golden := some g, nextGolden := none })).setReg (0x2B38 + p) 0x0C g.sequence
    | none => s
  match (s.part p).golden with
  | some g =>
    let n := s.reg (0x2B38 + p) 0x0D
    let r := s.blockRead 0 g.batch n
    ((s.blockReadEvents 0 g.batch n).blockWrite p (s.reg (0x2B38 + p) 5) r.bytes).1
  | none => s
/-- Entry of a geyser tick (R355). -/
def State.geyserBytes (s : State) (p n : Nat) (skipped : Bool) : List Byte :=
  leBytes 1 0x21 ++ leBytes 1 n ++ leBytes 1 (b2n skipped) ++ zeros 1 ++ leBytes 4 (s.part p).geyserCount
    ++ leBytes 8 (s.reg (0x2B38 + p) 5) ++ leBytes 8 s.stamp ++ leBytes 4 (s.reg (0x2B38 + p) 0x0C) ++ zeros 4
/-- GEYSER_TICK: judges the period that ends, injects into a stream in blanking or skips, and pushes the entry. -/
def doGeyserTick (p : Nat) (s : State) : State :=
  if s.reg (0x2B38 + p) 1 = 0 ∨ s.reg (0x2490 + p) 8 ≠ 3 ∨ (s.plan p).starting then s else
  let s := if (s.part p).geyserCount = 0 then s.modPart p (fun k => { k with matched := [], mismatched := [] })
    else s.geyserJudge p
  let mask := s.reg (0x2B38 + p) 3
  let n := nextStream mask (s.reg (0x2B38 + p) 0x0B)
  let skipped := !s.inBlanking n
  let s :=
    if skipped then
      let s := (s.bumpSat (0x2B38 + p) 9).bumpSat (0x2B38 + p) 0x0A
      let s := s.setReg (0x2B38 + p) 0x0B n
      if s.reg (0x2B38 + p) 0x0A = 3 then s.raise 7 (some p) n 3 else s
    else
      let s := ((s.inject p).bump (0x2B38 + p) 8).setReg (0x2B38 + p) 0x0A 0
      s.setReg (0x2B38 + p) 0x0B (nextStream mask (n + 1))
  let e := s.geyserBytes p n skipped
  let q := s.reg (0x2B38 + p) 4
  let s := if 16383 < q ∨ s.queuePart q ≠ p ∨ 63 < (s.queue q).consumer then s else (s.outerPush q [e]).1
  s.modPart p (fun k => { k with geyserCount := (k.geyserCount + 1) % 2 ^ 32 })

/-! ### The commands -/

/-- FAULT_DETECT (R332). -/
def execFaultDetect (code : Nat) (p : PartId) (place : FaultPlace) (detail : Nat) (s : State) :
    Host.Outcome State Fault Refusal :=
  .next (doFaultDetect code p.val place.source detail place.unit s)
/-- WARNING (R336). -/
def execWarning (code : Nat) (p : PartId) (source detail : Nat) (s : State) : Host.Outcome State Fault Refusal :=
  .next (doWarning code p.val source detail s)
/-- MONITOR_REFRESH (R333). -/
def execMonitorRefresh (s : State) : Host.Outcome State Fault Refusal := .next (doMonitorRefresh s)
/-- MONITOR (R333). -/
def execMonitor (s : State) : Host.Outcome State Fault Refusal := .next (doMonitor s)
/-- FAULT_RETRY (R340). -/
def execFaultRetry (p : PartId) (passed : Bool) (s : State) : Host.Outcome State Fault Refusal :=
  .next (doFaultRetry p.val passed s)
/-- CHECKPOINT_COMPARE (R344). -/
def execCheckpointCompare (k : PairId) (s : State) : Host.Outcome State Fault Refusal :=
  .next (doCheckpointCompare k.val s)
/-- COMPARE_TIMEOUT (R346). -/
def execCompareTimeout (k : PairId) (s : State) : Host.Outcome State Fault Refusal := .next (doCompareTimeout k.val s)
/-- WATCH_CHECK (R338). -/
def execWatchCheck (p : PartId) (w : Fin 8) (s : State) : Host.Outcome State Fault Refusal :=
  .next (doWatchCheck p.val w.val s)
/-- SELFTEST_ELEMENT (R350). -/
def execSelftestElement (c : CalderaId) (passed : Bool) (s : State) : Host.Outcome State Fault Refusal :=
  .next (doSelftestElement c.val passed s)
/-- SWEEP_LATE (R351). -/
def execSweepLate (c : CalderaId) (s : State) : Host.Outcome State Fault Refusal := .next (doSweepLate c.val s)
/-- IO_CHECKER_TEST (R352). -/
def execIoCheckerTest (passed : Bool) (s : State) : Host.Outcome State Fault Refusal :=
  .next (doIoCheckerTest passed s)
/-- GEYSER_TICK (R353). -/
def execGeyserTick (p : PartId) (s : State) : Host.Outcome State Fault Refusal := .next (doGeyserTick p.val s)

end Sys2Proof.Machine
end

