-- ==== Sys2Proof/Machine/Links.lean ====
section
/-! DEFINITION. Links: training, sequence numbers, acknowledgement, replay and credits of the device links, delivery and
forwarding, and discovery (14_host_links_and_systems.md R433 to R445). The sending side and routes are in Windows. -/
namespace Sys2Proof.Machine

/-! ### States of a link and training (R433, R386) -/

/-- The link numbers. -/
def allLinks : List Nat := List.range 4
def State.linkState (s : State) (l : Nat) : Nat := s.reg (0x2E08 + l) 2
/-- A link enters a state; the change is traced (R460). -/
def State.setLinkState (s : State) (l v : Nat) : State :=
  (s.setReg (0x2E08 + l) 2 v).trace 8 0x40 l v (s.reg (0x2E08 + l) 3)
/-- An enabled link trains: a training run of 2F05h begins where none is in progress. -/
def State.trainLink (s : State) (l : Nat) : State :=
  if s.reg (0x2E08 + l) 1 = 0 then s else
  let s := if s.reg 0x2F05 2 = 1 then s else s.opStart 5 4
  s.setLinkState l 1
/-- Links trained, and the end of a training run: 00h when every link is up, else 03h. -/
def State.settleTraining (s : State) : State :=
  let up := (allLinks.filter s.linkUp).length
  let s := s.setReg 0x2F05 4 up
  if allLinks.any (fun l => s.linkState l == 1) then s
  else
    let s := if s.reg 0x2F05 2 = 1 then s.opEnd 5 (if up = 4 then 0 else 3) else s
    if s.reg 0x2E00 4 = 1 then s.setReg 0x2E00 4 2 else s
/-- Frames held for a link that has gone are answered to their origins with 32h (R435). -/
def State.answerLost (s : State) (l : Nat) : State :=
  let k := s.link l
  let lost := (k.replay.map (·.1) ++ k.waiting).filter onVc0
  lost.foldl (fun s f => s.respond f 0x32) (s.setLink l { k with replay := [], waiting := [] })

/-! ### Discovery frames (R443) -/

/-- A discovery frame with its payload padded to a multiple of 32 bytes. -/
def State.discFrame (s : State) (type : Nat) (payload : List Byte) : LinkFrame :=
  let bs := payload ++ zeros (ceilTo payload.length 32 - payload.length)
  { type := type, flags := 1, seq := 0, dst := 0, src := s.nodeId, srcPart := 0, srcSkein := 0, dstSkein := 0, win := 0,
    off := 0, epoch := 0, len := bs.length, xid := 0, payload := bs }
/-- HELLO on a link: ROOT, DEPTH, RUN, and whether the sender's PARENT is this link. -/
def State.sendHello (s : State) (l : Nat) : State :=
  if s.nodeId = 0 then s else
  s.linkPush l (s.discFrame 0x10 (leBytes 2 (s.reg 0x2E00 7) ++ leBytes 2 (s.reg 0x2E00 8) ++ leBytes 2 (s.reg 0x2E00 6)
    ++ leBytes 1 (b2n (s.reg 0x2E00 9 == l))))
/-- COUNT in 9 frames: 8 of bitmap, then the trailer. -/
def State.sendCount (s : State) (l bitmap duplicate depth : Nat) : State :=
  let s := forEach (List.range 8) s (fun s i => s.linkPush l (s.discFrame 0x11 (leBytes 256 (bitmap / 2 ^ (2048 * i)))))
  s.linkPush l (s.discFrame 0x11 (leBytes 2 duplicate ++ leBytes 2 depth ++ leBytes 2 (s.reg 0x2E00 6)))
def State.isChild (s : State) (l : Nat) : Bool := (s.link l).child
/-- DONE on the child links. -/
def State.sendDone (s : State) (nodes treeDepth result duplicate : Nat) : State :=
  forEach (allLinks.filter s.isChild) s (fun s l =>
    s.linkPush l (s.discFrame 0x12 (leBytes 2 nodes ++ leBytes 2 treeDepth ++ leBytes 2 result ++ leBytes 2 duplicate)))
/-- TREE of a link: child, parent or neither. -/
def State.setTree (s : State) (l : Nat) : State :=
  s.setReg (0x2E08 + l) 0x0C (if s.isChild l then 2 else if s.reg 0x2E00 9 = l then 1 else 0)

/-! ### Discovery runs (R443) -/

/-- A run is in progress. -/
def State.discovering (s : State) : Bool := s.reg 0x2E00 4 == 1 || s.reg 0x2E00 4 == 2 || s.reg 0x2E00 4 == 3
/-- A run starts: routes are cleared, every link not up trains, and the own tuple is flooded. -/
def State.startRun (s : State) (run : Nat) : State :=
  let s := if s.reg 0x2F06 2 = 1 then s.opEnd 6 4 else s
  let s := ((s.bump 0x2E00 0x0D).setReg 0x2E00 6 run).opStart 6 0
  let s := (((s.setReg 0x2E00 5 1).setReg 0x2E00 7 s.nodeId).setReg 0x2E00 8 0).setReg 0x2E00 9 0xFF
  let d : Discovery := { parentNode := 0, countSent := false, bitmap := 0, routes := [] }
  let s := s.withDiscovery d
  let s := forEach allLinks s (fun s l => (s.modLink l (fun k => { k with child := false, counted := none })).setReg
    (0x2E08 + l) 0x0C 0)
  let s := forEach (allLinks.filter (fun l => !s.linkUp l)) s State.trainLink
  if s.nodeId = 0 then ((s.setReg 0x2E00 5 3).setReg 0x2E00 4 5).opEnd 6 3
  else
    let s := (s.setReg 0x2E00 4 1).settleTraining
    forEach allLinks s State.sendHello
/-- The next run. -/
def State.nextRun (s : State) : State := s.startRun ((s.reg 0x2E00 6 + 1) % 2 ^ 16)
/-- A change of a link after CONVERGED starts a new run; in a finished system only with AUTO. -/
def State.discoveryChange (s : State) : State :=
  if s.reg 0x2E00 4 = 3 ∨ ((s.reg 0x2E00 4 = 4 ∨ s.reg 0x2E00 4 = 5) ∧ s.reg 0x2E00 3 = 1) then s.nextRun else s
/-- Bits set, of the lowest 16,384. -/
def popBits (v : Nat) : Nat := ((List.range 16384).filter (bit v)).length
/-- Lowest bit set; 0 for none. -/
def lowBit (v : Nat) : Nat := ((List.range 16384).find? (bit v)).getD 0
/-- The lower of two duplicate IDs, 0 for none. -/
def lowerId (a b : Nat) : Nat := if a = 0 then b else if b = 0 then a else Nat.min a b
/-- The device enters DONE or FAILED. -/
def State.finishRun (s : State) (nodes treeDepth result duplicate : Nat) : State :=
  let s := ((s.setReg 0x2E00 0x0A nodes).setReg 0x2E00 0x0B treeDepth).setReg 0x2E00 0x0C duplicate
  let s := (s.setReg 0x2E00 5 result).setReg 0x2E00 4 (if result = 0 then 4 else 5)
  let s := (s.setReg 0x2F06 5 nodes).opEnd 6 result
  if result = 2 then (s.withDiscovery { s.discovery with routes := [] }) else s
/-- Merges the counts of the child links: bitmap and lowest duplicate. -/
def State.mergeCounts (s : State) : Nat × Nat :=
  allLinks.foldl (fun (r : Nat × Nat) l =>
    match (s.link l).counted with
    | some (b, dup, _) => (r.1 ||| b, lowerId r.2 (lowerId dup (lowBit (r.1 &&& b))))
    | none => r) (2 ^ s.nodeId, 0)
/-- Greatest depth below. -/
def State.depthBelow (s : State) : Nat :=
  (allLinks.map (fun l => match (s.link l).counted with
    | some (_, _, d) => d + 1
    | none => 0)).foldl Nat.max 0
/-- A CONVERGED device with every child's COUNT sets its routes and counts upward, or, at the root, ends the run. -/
def State.tryCount (s : State) : State :=
  if s.reg 0x2E00 4 ≠ 3 ∨ s.discovery.countSent ∨ allLinks.any (fun l => s.isChild l && (s.link l).counted.isNone) then s
  else
    let m := s.mergeCounts
    let depth := s.depthBelow
    let routes := allLinks.flatMap (fun l => match (s.link l).counted with
      | some (b, _, _) => ((List.range 16384).filter (bit b)).map (fun n => (n, l))
      | none => [])
    let d : Discovery := { s.discovery with countSent := true, bitmap := m.1, routes := routes }
    let s := s.withDiscovery d
    let s := s.setReg 0x2F06 4 (popBits m.1)
    if s.reg 0x2E00 9 < 4 then s.sendCount (s.reg 0x2E00 9) m.1 m.2 depth
    else
      let result := if m.2 = 0 then 0 else 2
      (s.sendDone (popBits m.1) depth result m.2).finishRun (popBits m.1) depth result m.2

/-! ### Links that train, fail or are given up (R433, R435) -/

/-- LINK_TRAINED: block lock and the exchange of training blocks are complete. -/
def doLinkTrained (l peerNode peerLink : Nat) (s : State) : State :=
  if s.reg (0x2E08 + l) 1 = 0 ∨ s.linkState l ≠ 1 then s else
  let k := s.link l
  let s := s.setLink l { k with txSeq := 0, rxSeq := 0, replay := [], waiting := [], credit0 := 16, credit1 := 8 }
  let s := (s.setReg (0x2E08 + l) 3 peerNode).setReg (0x2E08 + l) 4 peerLink
  let s := (s.setLinkState l 2).settleTraining
  if s.reg 0x2E00 4 = 1 ∨ s.reg 0x2E00 4 = 2 then s.sendHello l else s.discoveryChange
/-- LINK_GIVEN_UP: not trained within 1.0 s of its device starting. -/
def doLinkGivenUp (l : Nat) (s : State) : State :=
  if s.linkState l ≠ 1 then s else (s.setLinkState l 3).settleTraining
/-- The link goes: what it held is answered with 32h, and it trains again where it is enabled. -/
def State.dropLink (s : State) (l : Nat) : State :=
  let tree := s.reg (0x2E08 + l) 0x0C != 0
  let s := (s.setLinkState l 0).answerLost l
  let s := s.trainLink l
  if tree && s.discovering then s.nextRun else s.discoveryChange
/-- LINK_FAILED: counted; it trains again. -/
def State.failLink (s : State) (l : Nat) : State := (s.bumpSat (0x2E08 + l) 9).dropLink l
/-- A write of a link's ENABLE (R439). -/
def State.linkEnable (s : State) (l v : Nat) : State :=
  let was := s.reg (0x2E08 + l) 1
  let s := s.setReg (0x2E08 + l) 1 v
  if v = was then s
  else if v = 1 then s.trainLink l
  else if s.linkUp l then (s.dropLink l).settleTraining
  else (s.setLinkState l 0).settleTraining
/-- RETRAIN: every enabled link trains again. -/
def State.retrain (s : State) : State :=
  forEach (allLinks.filter (fun l => s.reg (0x2E08 + l) 1 == 1)) s (fun s l =>
    if s.linkUp l then s.dropLink l else s.trainLink l)

/-! ### Acknowledgement and replay (R435, R436) -/

/-- Frames of the replay buffer from a place on are sent again. -/
def State.replayFrom (s : State) (l i : Nat) : State :=
  let k := s.link l
  let again := k.replay.drop i
  let s := s.setLink l { k with replay := k.replay.take i ++ again.map (fun x => (x.1, x.2 + 1)) }
  let s := s.bumpSatBy (0x2E08 + l) 8 again.length
  again.foldl (fun s x => (s.count 6 l x.1.payload.length).emit (.frame l x.1)) s
/-- Replays from a place, or the link has failed: some frame to be sent again has been retransmitted three times (R224). -/
def State.replayOrFail (s : State) (l i : Nat) : State :=
  if (s.link l).replay.drop i = [] then s
  else if ((s.link l).replay.drop i).any (fun x => decide (3 ≤ x.2)) then s.failLink l else s.replayFrom l i
/-- Place of a SEQ in the replay buffer. -/
def replayPlace (k : Link) (seq : Nat) : Option Nat := k.replay.findIdx? (fun x => x.1.seq == seq)
/-- LACK: the frame it names, and those before it, are acknowledged. -/
def doLack (l seq : Nat) (s : State) : State :=
  match replayPlace (s.link l) seq with
  | none => s
  | some i => (s.modLink l (fun k => { k with replay := k.replay.drop (i + 1) })).pump l
/-- LNAK: replay from the SEQ it names. -/
def doLnak (l seq : Nat) (s : State) : State :=
  match replayPlace (s.link l) seq with
  | none => s
  | some i => s.replayOrFail l i
/-- REPLAY_TIMEOUT: the oldest frame went 1.5 us without a LACK. -/
def doReplayTimeout (l : Nat) (s : State) : State := s.replayOrFail l 0
/-- CREDIT: buffers of the neighbour's end have freed, at most the 16 and 8 it has. -/
def doCredit (l vc0 vc1 : Nat) (s : State) : State :=
  if ¬ s.linkUp l then s else
  (s.modLink l (fun k =>
    { k with credit0 := Nat.min (k.credit0 + vc0) 16, credit1 := Nat.min (k.credit1 + vc1) 8 })).pump l

/-! ### Received data frames (R434 to R437) -/

/-- TYPE and LEN keep the table of R434. -/
def frameWellFormed (f : LinkFrame) : Bool :=
  let known := f.type == 1 || f.type == 2 || f.type == 4 || f.type == 0x10 || f.type == 0x11 || f.type == 0x12
  let lenOk := f.len % 32 == 0 && decide (f.len ≤ 256) && f.payload.length == f.len
  let dataOk := if onVc0 f then (if bit f.flags 3 then f.len == 0 else decide (32 ≤ f.len)) else true
  known && lenOk && dataOk
/-- Who sent a frame, as `refusedXids` names it. -/
def frameSender (f : LinkFrame) : Nat := f.src * 256 + f.srcSkein
/-- The record of a SEND from another device is dropped. -/
def State.forgetXid (s : State) (f : LinkFrame) : State :=
  s.modSkein f.dstSkein (fun k =>
    { k with refusedXids := k.refusedXids.filter (fun x => !(x.1 == frameSender f && x.2.1 == f.xid))
             openXids := k.openXids.filter (fun x => !(x.1 == frameSender f && x.2.1 == f.xid)) })
/-- A refused PUSH frame: recorded for the closing frame, and answered. -/
def State.refusePush (s : State) (f : LinkFrame) (status : Nat) : State :=
  let s := s.modSkein f.dstSkein (fun k =>
    { k with refusedXids := if k.refusedXids.any (fun x => x.1 == frameSender f && x.2.1 == f.xid) then k.refusedXids
                            else k.refusedXids ++ [(frameSender f, f.xid, status)] })
  s.respond f status
/-- A PUSH frame with entries, pushed as one push. -/
def State.deliverPush (s : State) (f : LinkFrame) : State :=
  let q := f.off % 16384
  let p := s.queuePart q
  let s := s.modSkein f.dstSkein (fun k =>
    { k with openXids := if k.openXids.any (fun x => x.1 == frameSender f && x.2.1 == f.xid) then k.openXids
                         else k.openXids ++ [(frameSender f, f.xid, p)] })
  let s :=
    if ¬ s.importOk p f.src f.srcPart then (s.bumpSat (0x2E10 + p) 4).refusePush f 0x22
    else
      let r := s.outerPush q (entriesOf (f.len / 32) f.payload)
      if r.2 = 0 then r.1.respond f 0 else r.1.refusePush f r.2
  if bit f.flags 2 then s.forgetXid f else s
/-- The closing frame of a SEND with RSIG to a queue. -/
def State.closePush (s : State) (f : LinkFrame) : State :=
  let k := s.skein f.dstSkein
  let done := s.forgetXid f
  let n := f.off % 2 ^ 17
  let p := ((k.openXids.find? (fun x => x.1 == frameSender f && x.2.1 == f.xid)).map (fun x => x.2.2)).getD (s.syncPart n)
  if ¬ s.importOk p f.src f.srcPart then (done.bumpSat (0x2E10 + p) 4).respond f 0x22
  else match k.refusedXids.find? (fun x => x.1 == frameSender f && x.2.1 == f.xid) with
    | some x => done.respond f x.2.2
    | none => if s.syncPart n ≠ p then done.respond f 0x22 else (done.outerAdd n 1).respond f 0
/-- A WRITE frame goes to the window logic of its skein. -/
def State.deliverWrite (s : State) (f : LinkFrame) : State :=
  if 63 < f.dstSkein then s.respond f 0x25 else
  let w : RemoteWrite :=
    { sender := .node f.src f.srcPart f.srcSkein, win := some f.win
      off := if bit f.flags 3 then f.off % 2 ^ 17 else f.off
      epoch := if bit f.flags 1 then some f.epoch else none, bytes := f.payload.map some, xid := f.xid,
      last := bit f.flags 2 }
  s.modSkein f.dstSkein (fun k => { k with arrivals := k.arrivals ++ [w] })
/-- Delivery here, or forwarding toward the destination. HELLO, COUNT and DONE act by their own commands. -/
def State.deliver_ (s : State) (f : LinkFrame) : State :=
  if 0x10 ≤ f.type then s
  else if f.dst ≠ s.nodeId then s.route f
  else if f.type = 1 then s.deliverWrite f
  else if f.type = 2 then (if bit f.flags 3 then s.closePush f else s.deliverPush f)
  else s.crossAck f.dstSkein f.xid (f.win % 256)
/-- DATA_FRAME_RECEIVED: accepted with the expected SEQ and a good CRC, else one LNAK. -/
def doDataFrame (l : Nat) (crcOk : Bool) (f : LinkFrame) (s : State) : State :=
  if ¬ s.linkUp l then s else
  let k := s.link l
  if ¬ crcOk then (s.bumpSat (0x2E08 + l) 7).emit (.control l 0x81 k.rxSeq 0)
  else if f.seq ≠ k.rxSeq then s.emit (.control l 0x81 k.rxSeq 0)
  else
    let s := (s.setLink l { k with rxSeq := (k.rxSeq + 1) % 4096 }).bump (0x2E08 + l) 6
    let s := (s.emit (.control l 0x80 f.seq 0)).emit (.control l 0x82 0 (if onVc0 f then 1 else 256))
    if ¬ frameWellFormed f then s.bumpSat (0x2E08 + l) 0x0B else s.deliver_ f

/-! ### Received discovery messages (R443) -/

/-- RUN `a` is ahead of `b`, as a signed 16-bit difference. -/
def runAhead (a b : Nat) : Bool := decide (0 < sgn 16 (a + 2 ^ 16 - b % 2 ^ 16))
/-- The offer (root, depth, neighbour, link) is lower than the device's tuple. -/
def State.lowerOffer (s : State) (root depth neighbour l : Nat) : Bool :=
  let r := s.reg 0x2E00 7
  let d := s.reg 0x2E00 8
  let n := s.discovery.parentNode
  decide (root < r ∨ (root = r ∧ (depth < d ∨ (depth = d ∧ (neighbour < n ∨ (neighbour = n ∧ l < s.reg 0x2E00 9))))))
/-- The device takes an offer and floods its own HELLO again. -/
def State.takeOffer (s : State) (root depth neighbour l : Nat) : State :=
  let old := s.reg 0x2E00 9
  let s := ((s.setReg 0x2E00 7 root).setReg 0x2E00 8 depth).setReg 0x2E00 9 l
  let d : Discovery := { s.discovery with parentNode := neighbour }
  let s := s.withDiscovery d
  let s := (if old < 4 then s.setTree old else s).setTree l
  forEach allLinks s State.sendHello
/-- HELLO: an offer, the neighbour's choice of parent, or a newer run. -/
def doHello (l neighbour root depth run : Nat) (onParent : Bool) (s : State) : State :=
  if ¬ s.linkUp l ∨ s.nodeId = 0 then s else
  let s := if runAhead run (s.reg 0x2E00 6) then s.startRun (run % 2 ^ 16) else s
  if run % 2 ^ 16 ≠ s.reg 0x2E00 6 ∨ ¬ s.discovering then s
  else
    let better := s.lowerOffer root (depth + 1) neighbour l
    let moved := s.isChild l != onParent
    if s.reg 0x2E00 4 = 3 ∧ (better ∨ moved) then s.nextRun
    else
      let s := (s.modLink l (fun k => { k with child := onParent })).setTree l
      if better then s.takeOffer root (depth + 1) neighbour l else s
/-- CONVERGED: every link trained or given up, and nothing has changed for 1.0 s. -/
def doConverged (s : State) : State :=
  if (s.reg 0x2E00 4 = 1 ∨ s.reg 0x2E00 4 = 2) ∧ ¬ allLinks.any (fun l => s.linkState l == 1) then
    (s.setReg 0x2E00 4 3).tryCount
  else s
/-- COUNT of a child link. -/
def doCount (l bitmap duplicate depthBelow run : Nat) (s : State) : State :=
  if run % 2 ^ 16 ≠ s.reg 0x2E00 6 ∨ ¬ s.discovering ∨ ¬ s.isChild l then s
  else
    let s := s.modLink l (fun k => { k with counted := some (bitmap, duplicate, depthBelow) })
    let s := s.setReg 0x2F06 4 (popBits s.mergeCounts.1)
    s.tryCount
/-- DONE of the parent link. -/
def doDone (l nodes treeDepth result duplicate : Nat) (s : State) : State :=
  if s.reg 0x2E00 4 = 3 ∧ s.discovery.countSent ∧ s.reg 0x2E00 9 = l then
    (s.sendDone nodes treeDepth result duplicate).finishRun nodes treeDepth result duplicate
  else s

/-! ### The commands -/

/-- LINK_TRAINED (R433). -/
def execLinkTrained (l : LinkId) (peerNode peerLink : Nat) (s : State) : Host.Outcome State Fault Refusal :=
  .next (doLinkTrained l.val peerNode peerLink s)
/-- LINK_GIVEN_UP (R433). -/
def execLinkGivenUp (l : LinkId) (s : State) : Host.Outcome State Fault Refusal := .next (doLinkGivenUp l.val s)
/-- DATA_FRAME_RECEIVED (R435). -/
def execDataFrameReceived (l : LinkId) (crcOk : Bool) (f : LinkFrame) (s : State) : Host.Outcome State Fault Refusal :=
  .next (doDataFrame l.val crcOk f s)
/-- LACK (R435). -/
def execLack (l : LinkId) (seq : Nat) (s : State) : Host.Outcome State Fault Refusal := .next (doLack l.val seq s)
/-- LNAK (R435). -/
def execLnak (l : LinkId) (seq : Nat) (s : State) : Host.Outcome State Fault Refusal := .next (doLnak l.val seq s)
/-- CREDIT (R436). -/
def execCredit (l : LinkId) (vc0 vc1 : Nat) (s : State) : Host.Outcome State Fault Refusal :=
  .next (doCredit l.val vc0 vc1 s)
/-- REPLAY_TIMEOUT (R435). -/
def execReplayTimeout (l : LinkId) (s : State) : Host.Outcome State Fault Refusal := .next (doReplayTimeout l.val s)
/-- HELLO (R443). -/
def execHello (l : LinkId) (neighbour root depth run : Nat) (onParent : Bool) (s : State) : Host.Outcome State Fault Refusal :=
  .next (doHello l.val neighbour root depth run onParent s)
/-- CONVERGED (R443). -/
def execConverged (s : State) : Host.Outcome State Fault Refusal := .next (doConverged s)
/-- COUNT (R443). -/
def execCount (l : LinkId) (bitmap duplicate depthBelow run : Nat) (s : State) : Host.Outcome State Fault Refusal :=
  .next (doCount l.val bitmap duplicate depthBelow run s)
/-- DONE (R443). -/
def execDone (l : LinkId) (nodes treeDepth result duplicate : Nat) (s : State) : Host.Outcome State Fault Refusal :=
  .next (doDone l.val nodes treeDepth result duplicate s)

end Sys2Proof.Machine
end

