-- ==== Sys2Proof/Machine/HostPort.lean ====
section
/-! DEFINITION. HostPort: accesses from outside to device addresses, by the host's BARs and by the debug port (R66, R172,
R175, R182, R183, R424, R425, R449), doorbells (R427 to R429), and the endpoint's link and configuration (R426, R432). -/
namespace Sys2Proof.Machine

/-! ### Reads and writes at device addresses from outside -/

/-- Global spindle of a local-store address. -/
def storeSpindle (da : Nat) : Nat := (da - storeBase) / 0x20000
/-- Refusal of one piece before any data moves: translation, 24h for a busy scratchpad or local store, 25h. -/
def State.outsideStatus (s : State) (write : Bool) (da : Nat) : Nat :=
  match regionOf da with
  | .spad => if write || s.streamIdle (spadSkein da) then 0 else 0x24
  | .lstore => if s.streamIdle (storeSpindle da / 4) then 0 else 0x24
  | .unmapped => 0x25
  | _ => s.accessStatus none write da
/-- Status of reading one piece. -/
def State.outsideReadStatus (s : State) (p : Nat × Nat) : Nat :=
  let st := s.outsideStatus false p.1
  if st ≠ 0 then st else s.readStatus (s.place p.1) p.2
/-- Partition of an address: of its page, or of the skein that holds it. -/
def State.addrPart (s : State) (da : Nat) : Nat :=
  match regionOf da with
  | .spad => s.skeinPart (spadSkein da)
  | .lstore => s.skeinPart (storeSpindle da / 4)
  | _ => match pageId da with
    | some id => entPart (s.entry id)
    | none => 0
/-- Uncorrectable data met by a read from outside (R66, R198). -/
def State.outsideUncorr (s : State) (p : Nat × Nat) : State :=
  match regionOf p.1 with
  | .spad => s.ramUncorr (spadSkein p.1) p.1
  | .lstore => s.raise 2 (some (s.addrPart p.1)) (storeSpindle p.1) (s.firstBad p.1)
  | _ => (s.readEvents [] p.1 p.2).memUncorr (s.addrPart p.1) [] p.1
/-- What a good read of one piece leaves behind: corrections counted, code events. -/
def State.outsideNote (s : State) (p : Nat × Nat) : State :=
  match regionOf p.1 with
  | .spad => (s.spadRead (spadSkein p.1) ((p.1 - scratchBase) % 0x80000) p.2).1
  | .lstore => (s.storeRead (storeSpindle p.1) p.1 p.2).1
  | _ => s.readEvents [] p.1 p.2
/-- Reads from outside: status, first failing address, bytes. -/
def State.outsideRead (s : State) (da n : Nat) : State × ReadResult :=
  match (pieces da n).find? (fun p => s.outsideReadStatus p ≠ 0) with
  | some p =>
    let st := s.outsideReadStatus p
    let s := if st = 0x30 then s.outsideUncorr p
      else match s.place p.1 with
        | .pkg pa => if s.outsideStatus false p.1 = 0 then s.lateRefusal pa else s
        | _ => s
    (s, ⟨st, p.1, []⟩)
  | none =>
    let bs := ((pieces da n).map (fun p => s.placeBytes (s.place p.1) p.2)).flatten
    ((pieces da n).foldl State.outsideNote s, ⟨0, 0, bs⟩)
/-- One piece of a write from outside, by the host or another, whose checks have passed. -/
def State.outsidePiece (s : State) (byHost : Bool) (da : Nat) (bs : List (Option Byte)) : State × Nat :=
  match s.place da with
  | .pkg pa =>
    if s.bankLate pa then (s.lateRefusal pa, 0x25)
    else
      let unit := List.replicate (pa % 32) none ++ bs ++ List.replicate (32 - pa % 32 - bs.length) none
      (s.queueWrite (s.addrPart da) (pa / 32 * 32) unit none (s.pageFor [] da) byHost, 0)
  | .host b => if s.hostUp then ((bs.zipIdx).foldl (fun s x => match x.1 with
      | some v => s.hostWrite (b + x.2) [v]
      | none => s) s, 0) else (s, 0x25)
  | .buf k => (s.putMasked k bs, 0)
  | .spad k => (s.putMasked k bs, 0)
  | .lstore k => (s.putMasked k bs, 0)
  | .unmapped => (s, 0x25)
/-- Writes from outside: the state, the status, and the first failing address. A write to a scratchpad whose stream is
not idle is a remote write. -/
def State.outsideWrite (s : State) (who : Sender) (da : Nat) (bs : List (Option Byte)) : State × Nat × Nat :=
  let ps := pieces da bs.length
  match ps.find? (fun p => s.outsideStatus true p.1 ≠ 0) with
  | some p => (s, s.outsideStatus true p.1, p.1)
  | none =>
    if regionOf da = .spad ∧ ¬ s.streamIdle (spadSkein da) then
      let w : RemoteWrite :=
        { sender := who, win := none, off := (da - scratchBase) % 0x80000, epoch := none, bytes := bs, xid := 0, last := true }
      (s.modSkein (spadSkein da) (fun k => { k with arrivals := k.arrivals ++ [w] }), 0, 0)
    else
      ps.foldl (fun (r : State × Nat × Nat) p =>
        if r.2.1 ≠ 0 then r
        else
          let t := r.1.outsidePiece (who == .host) p.1 ((bs.drop (p.1 - da)).take p.2)
          (t.1, t.2, p.1)) (s, 0, 0)

/-! ### The BARs (R423 to R425) -/

/-- The link is up. -/
def State.pcieUp (s : State) : Bool := s.reg 0x2E30 1 != 0
/-- Device address of an offset of BAR2 or BAR4. -/
def barAddr (bar4 : Bool) (off : Nat) : Option Nat :=
  if ¬ bar4 then (if off < 0x200000000 then some off else none)
  else if off < 0x2000000 then some (scratchBase + off)
  else if off < 0x4000000 then some (storeBase + (off - 0x2000000))
  else if off < 0x4800000 then some (bufferBase + (off - 0x4000000))
  else none
/-- HOST_MEMORY_READ. -/
def doHostRead (bar4 : Bool) (offset len : Nat) (s : State) : State :=
  if ¬ s.pcieUp then s else
  let s := s.bumpBy 0x2E30 0x0B len
  match barAddr bar4 offset with
  | none => s.hostAbort 0x25 offset
  | some da =>
    let r := s.outsideRead da len
    if r.2.status = 0 then r.1.emit (.hostRead r.2.bytes) else r.1.hostAbort r.2.status r.2.at_
/-- HOST_MEMORY_WRITE. -/
def doHostWrite (bar4 : Bool) (offset : Nat) (bytes : List (Option Byte)) (s : State) : State :=
  if ¬ s.pcieUp then s else
  let s := s.bumpBy 0x2E30 0x0B (bytes.filter (·.isSome)).length
  match barAddr bar4 offset with
  | none => s.hostAbort 0x25 offset
  | some da =>
    let r := s.outsideWrite .host da bytes
    if r.2.1 = 0 then r.1 else r.1.hostAbort r.2.1 r.2.2
/-- BAR0_REFUSED_ACCESS: a request that is not an aligned 32-bit or 64-bit one; a refused read gives all ones. -/
def doBar0Refused (write : Bool) (offset width : Nat) (s : State) : State :=
  if ¬ s.pcieUp ∨ ((width = 4 ∨ width = 8) ∧ offset % width = 0) then s
  else
    let s := (s.bumpBy 0x2E30 0x0B width).hostRefusal 0x17 offset
    if write then s else s.emit (.hostOnes width)

/-! ### Doorbells (R427 to R429) -/

/-- A doorbell refused: kind 0 PUSH, 1 POP, 2 synchronisation. -/
def State.doorbellRefused (s : State) (status kind n : Nat) : State :=
  (s.bumpSat 0x2E30 8).setReg 0x2E30 9 (status * 2 ^ 24 + kind * 2 ^ 22 + n % 2 ^ 17)
/-- Some host write, to a window or to package memory, has not landed. -/
def State.hostWritePending (s : State) : Bool :=
  s.channels.any (fun c => c.2.queue.any (·.fromHost)) ||
  s.skeins.any (fun k => k.2.arrivals.any (fun r => r.sender == .host) || k.2.accepted.any (fun r => r.sender == .host))
/-- DOORBELL_PUSH: taken after every earlier host write has landed. -/
def doDoorbellPush (q width value : Nat) (s : State) : State :=
  if ¬ s.pcieUp ∨ 16383 < q ∨ s.hostWritePending then s else
  let s := s.bumpBy 0x2E30 0x0B width
  let n := bits value 55 48 + 1
  let da := bits value 47 0
  if width ≠ 8 then s.doorbellRefused 0x17 0 q
  else if bits value 63 56 ≠ 0 then s.doorbellRefused 0x11 0 q
  else if regionOf da ≠ .pkg ∧ regionOf da ≠ .host then s.doorbellRefused 0x25 0 q
  else if da % 32 ≠ 0 then s.doorbellRefused 0x17 0 q
  else if (s.rangeStatus none false da (32 * n)).1 ≠ 0 then s.doorbellRefused (s.rangeStatus none false da (32 * n)).1 0 q
  else
    let r := s.outsideRead da (32 * n)
    if r.2.status ≠ 0 then r.1.doorbellRefused r.2.status 0 q
    else
      let t := r.1.outerPush q (entriesOf n r.2.bytes)
      if t.2 = 0 then t.1 else t.1.doorbellRefused t.2 0 q
/-- DOORBELL_POP. -/
def doDoorbellPop (q width value : Nat) (s : State) : State :=
  if ¬ s.pcieUp ∨ 16383 < q ∨ s.hostWritePending then s else
  let s := s.bumpBy 0x2E30 0x0B width
  let n := bits value 20 0
  let v := bits value 63 56
  if width ≠ 8 then s.doorbellRefused 0x17 1 q
  else if bits value 55 21 ≠ 0 ∨ v = 1 ∨ 0x20 < v then s.doorbellRefused 0x11 1 q
  else if (s.queue q).consumer ≠ 0x100 then s.doorbellRefused 0x28 1 q
  else if (s.queue q).count < n then s.doorbellRefused 0x27 1 q
  else
    let s := s.queueDrop q n
    let s := if v = 0 then s else s.modQueue q (fun k => { k with armed := some (v - 1) })
    s.sendArmed q
/-- SYNC_DOORBELL_WRITE. -/
def doSyncDoorbell (n width value : Nat) (s : State) : State :=
  if ¬ s.pcieUp ∨ 131071 < n ∨ s.hostWritePending then s else
  let s := s.bumpBy 0x2E30 0x0B width
  if width ≠ 4 then s.doorbellRefused 0x17 2 n else s.outerAdd n (value % 2 ^ 32)

/-! ### The endpoint (R422, R426, R432) -/

/-- What configuration space says of the endpoint (R422), and the two settings of it that a command changes (R426). -/
structure ConfigSpace where
  vendor : BitVec 16
  device : BitVec 16
  revision : BitVec 8
  classCode : BitVec 24
  subsystemVendor : BitVec 16
  subsystem : BitVec 16
  interruptPin : BitVec 8
  serialNumber : BitVec 64
  busMasterEnable : Bool
  d3hot : Bool
  deriving DecidableEq, Repr

/-- Configuration space of the endpoint. -/
def State.configSpace (s : State) : ConfigSpace :=
  { vendor := BitVec.ofNat 16 Config.pciVendor, device := BitVec.ofNat 16 (odDefault 0x2000 1)
    revision := BitVec.ofNat 8 (odDefault 0x2000 0x0B), classCode := 0x120000
    subsystemVendor := BitVec.ofNat 16 Config.pciSubsystemVendor, subsystem := BitVec.ofNat 16 Config.pciSubsystem
    interruptPin := 0, serialNumber := BitVec.ofNat 32 Config.vendorId ++ BitVec.ofNat 32 Config.serial
    busMasterEnable := s.busMaster, d3hot := s.d3hot }

/-- BUS_MASTER follows Bus Master Enable, D0 and the link. -/
def State.settleBusMaster (s : State) : State := s.setReg 0x2E30 3 (b2n (s.busMaster && !s.d3hot && s.pcieUp))
/-- PCIE_LINK_UP: speed code and lanes, once the endpoint is released and PERST_N is high. -/
def doPcieLinkUp (speed width : Nat) (s : State) : State :=
  if s.boot.released < 6 ∨ ¬ s.boot.perstN ∨ s.pcieUp ∨ ¬ inRange speed 1 3 ∨ ¬ (width = 1 ∨ width = 2 ∨ width = 4) then s
  else ((s.setReg 0x2E30 1 speed).setReg 0x2E30 2 width).settleBusMaster
/-- PCIE_LINK_DOWN: the mirror loses OWNER (R378). -/
def doPcieLinkDown (s : State) : State :=
  let s := ((s.setReg 0x2E30 1 0).setReg 0x2E30 2 0).settleBusMaster
  if s.reg 0x2304 7 = 3 then s.setReg 0x2304 7 0 else s
/-- CONFIGURATION_WRITE of Bus Master Enable and the power state. -/
def doConfigurationWrite (busMaster d3hot : Bool) (s : State) : State :=
  if ¬ s.pcieUp then s else ((s.withBusMaster busMaster).withD3hot d3hot).settleBusMaster
/-- A host read of the descriptor at place i has no good completion in 50 ms; status 30h. -/
def State.descTimeout (s : State) (g i : Nat) : State :=
  match (s.skein g).flights[i]? with
  | none => s
  | some f =>
    match (descPages f.word).find? (fun id => decide (0x4000 ≤ id)) with
    | none => s
    | some id =>
      if opOf f.word = 2 ∨ isControl f.word then s
      else (s.fail g f 0x30).raise 3 (some (s.skeinPart g)) sharedSource (0xC00000000000 + (id - 0x4000) * 0x200000)

/-- A host read of an engine's job has no good completion: the job ends with 03h (R164). `i` is the place of its address in
`jobAddresses`. -/
def State.jobTimeout (s : State) (e i : Nat) : State :=
  match s.engine e with
  | none => s
  | some j =>
    match (jobAddresses j.entry)[i]? with
    | none => s
    | some da => if j.finished ∨ regionOf da ≠ .host then s else (s.setEngine e (failedJob j 3)).jobDataFault j.block da
/-- COMPLETION_TIMEOUT: a read of host memory, by a descriptor or an engine, gets no completion in 50 ms. -/
def doCompletionTimeout (who : HostReader) (i : Nat) (s : State) : State :=
  match who with
  | .skein g => s.descTimeout g.val i
  | .engine e => s.jobTimeout e.val i

/-! ### The commands -/

/-- HOST_MEMORY_READ (R424). -/
def execHostMemoryRead (bar4 : Bool) (offset len : Nat) (s : State) : Host.Outcome State Fault Refusal :=
  .next (doHostRead bar4 offset len s)
/-- HOST_MEMORY_WRITE (R424). -/
def execHostMemoryWrite (bar4 : Bool) (offset : Nat) (bytes : List (Option Byte)) (s : State) : Host.Outcome State Fault Refusal :=
  .next (doHostWrite bar4 offset bytes s)
/-- BAR0_REFUSED_ACCESS (R425). -/
def execBar0RefusedAccess (write : Bool) (offset width : Nat) (s : State) : Host.Outcome State Fault Refusal :=
  .next (doBar0Refused write offset width s)
/-- DOORBELL_PUSH (R427). -/
def execDoorbellPush (q width value : Nat) (s : State) : Host.Outcome State Fault Refusal :=
  .next (doDoorbellPush q width value s)
/-- DOORBELL_POP (R428). -/
def execDoorbellPop (q width value : Nat) (s : State) : Host.Outcome State Fault Refusal :=
  .next (doDoorbellPop q width value s)
/-- SYNC_DOORBELL_WRITE (R429). -/
def execSyncDoorbellWrite (n width value : Nat) (s : State) : Host.Outcome State Fault Refusal :=
  .next (doSyncDoorbell n width value s)
/-- COMPLETION_TIMEOUT (R426). -/
def execCompletionTimeout (who : HostReader) (i : Nat) (s : State) : Host.Outcome State Fault Refusal :=
  .next (doCompletionTimeout who i s)
/-- CONFIGURATION_WRITE (R426). -/
def execConfigurationWrite (busMaster d3hot : Bool) (s : State) : Host.Outcome State Fault Refusal :=
  .next (doConfigurationWrite busMaster d3hot s)
/-- PCIE_LINK_UP (R432). -/
def execPcieLinkUp (speed width : Nat) (s : State) : Host.Outcome State Fault Refusal :=
  .next (doPcieLinkUp speed width s)
/-- PCIE_LINK_DOWN (R378). -/
def execPcieLinkDown (s : State) : Host.Outcome State Fault Refusal := .next (doPcieLinkDown s)

end Sys2Proof.Machine
end

