-- ==== Sys2Proof/Machine/Security.lean ====
section
/-! DEFINITION. Security: option bytes (R396 to R398), firmware images (R406 to R412), identity, attestation and the
measurement log (R413 to R419), and test patterns (R357, R358, R441). -/
namespace Sys2Proof.Machine

/-! ### Option bytes (R396, R397) -/

/-- Fields of an option slot lie within the ranges of R397. -/
def optionOk (b : List Byte) : Bool :=
  let f := fun o => field b o 1
  let map := (List.range 10).map (fun p => f (12 + p))
  decide (b.length = 64) && f 0 == 1 && decide (f 1 ≤ 2) && decide (f 2 % 4 ≤ 1) && decide (f 2 < 8) && decide (f 3 ≤ 1)
    && decide (field b 4 2 < 16384) && inRange (f 6) 1 127 && decide (bits (f 7) 6 4 ≤ 4) && decide (f 7 < 128)
    && decide (f 8 < 8) && decide (f 9 ≤ 3) && field b 10 2 == 0 && field b 22 2 == 0
    && (List.range 10).all (fun x => map.contains x) && field b 24 4 % 4096 == 0 && field b 60 4 == crc32c (b.take 60)
/-- The highest-numbered slot that qualifies. -/
def bestSlot (slots : List (List Byte)) : Option Nat :=
  ((List.range slots.length).filter (fun i => optionOk (slots.getD i []))).getLast?
/-- Option bytes that apply when no slot qualifies. -/
def defaultOptions : List Byte :=
  leBytes 1 1 ++ leBytes 1 1 ++ zeros 7 ++ leBytes 1 3 ++ zeros 2 ++ (List.range 10).map (fun p => BitVec.ofNat 8 p) ++ zeros 42
/-- Option bytes in force. -/
def State.options (s : State) : List Byte :=
  match s.boot.slotInForce with
  | some i => s.boot.slots.getD i []
  | none => defaultOptions
/-- The 64 bytes that 2101h reports and the log digests: zeros for NONE. -/
def State.optionBytes (s : State) : List Byte :=
  match s.boot.slotInForce with
  | some i => s.boot.slots.getD i []
  | none => zeros 64
def State.bootMode (s : State) : Nat := field s.options 1 1
/-- SAFETY bits: 0 SELFTEST_LOCK, 1 SCRUB_LOCK, 2 STOP_LOCK. -/
def State.lock (s : State) (i : Nat) : Bool := bit (field s.options 8 1) i
def State.canPresent (s : State) (c : Nat) : Bool := bit (field s.options 7 1) c
def State.canNode (s : State) : Nat := field s.options 6 1
def State.watchdogMs (s : State) : Nat :=
  let v := field s.options 9 1
  if v = 0 then 100 else if v = 1 then 250 else if v = 2 then 500 else 1000
def State.keyHash (s : State) : List Byte := slice s.options 28 32

/-! ### The measurement log (R414) -/

/-- Adds an entry to the log and extends the chain; beyond 256 entries it is not stored. -/
def State.measure (s : State) (kind part : Nat) (digest : List Byte) : State :=
  let seq := s.boot.log.length + s.reg 0x2C00 6
  let e := leBytes 1 kind ++ leBytes 1 part ++ zeros 2 ++ leBytes 4 seq ++ leBytes 8 s.stamp ++ zeros 16 ++ slice digest 0 32
  let s := s.setReg 0x2C00 7 (leNat (sha3 (leBytes 32 (s.reg 0x2C00 7) ++ e)))
  if s.boot.log.length < 256 then (s.modBoot (fun b => { b with log := b.log ++ [e] })).bump 0x2C00 5
  else s.bumpSat 0x2C00 6

/-! ### Sources and destinations of the management island -/

/-- Device address in host memory, or in package memory or a buffer. -/
def mgmtRegion (da : Nat) : Bool := regionOf da == .host || regionOf da == .pkg || regionOf da == .buf
/-- Agent of the translation check: the host's pages as the host, all others as partition 0. -/
def mgmtWho (da : Nat) : Option Nat := if regionOf da = .host then none else some 0
/-- The range lies in host memory, or in present (and, for a write, writable) pages of partition 0. -/
def State.mgmtOk (s : State) (write : Bool) (da n : Nat) : Bool :=
  mgmtRegion da && mgmtRegion (da + n - 1) && (s.rangeStatus (mgmtWho da) write da n).1 == 0
/-- Reads a range; none where some byte cannot be had. -/
def State.mgmtRead (s : State) (da n : Nat) : Option (List Byte) :=
  let r := s.readDev [] da n
  if s.mgmtOk false da n ∧ r.status = 0 then some r.bytes else none

/-! ### Firmware images (R406, R407) -/

/-- Longest part of an image before the signature. -/
def imageBody (b : List Byte) : List Byte := b.take (b.length - 2420)
/-- Part entries: TARGET, OFFSET, LENGTH, digest. -/
def imageParts (b : List Byte) : List (Nat × Nat × Nat × List Byte) :=
  (List.range 3).map (fun i =>
    let o := 64 + 48 * i
    (field b o 1, field b (o + 8) 4, field b (o + 12) 4, slice b (o + 16) 32))
/-- The bodies of two parts are apart. -/
def partsApart (x y : Nat × Nat × Nat × List Byte) : Bool := decide (x.2.1 + x.2.2.1 ≤ y.2.1 ∨ y.2.1 + y.2.2.1 ≤ x.2.1)
/-- Step 1 of R407: 80h, 85h or 0. -/
def imageHeader (b : List Byte) : Nat :=
  let l := b.length
  let ps := imageParts b
  let apart := (List.range 3).all (fun i => (List.range 3).all (fun j =>
    decide (j ≤ i) || partsApart (ps.getD i (0, 0, 0, [])) (ps.getD j (0, 0, 0, []))))
  let partsOk := (List.range 3).all (fun i => field b (65 + 48 * i) 7 == 0) && [1, 2, 3].all (fun t => ps.any (fun p => p.1 == t))
    && ps.all (fun p => p.2.1 % 32 == 0 && decide (2880 ≤ p.2.1 ∧ p.2.1 + p.2.2.1 ≤ l - 2420)) && apart
  let ok := slice b 0 4 == [0x4C, 0x46, 0x57, 0x49] && field b 4 2 == 0x0100 && field b 6 2 == 0 && field b 8 4 == l
    && l % 32 == 0 && inRange l 8192 2097152 && field b 14 2 == 0 && decide (field b 16 1 ≤ 64) && decide (field b 17 1 < 32)
    && field b 19 13 == 0 && field b 48 16 == 0 && field b 208 48 == 0 && partsOk
  if ¬ ok then 0x80
  else if ¬ bit (field b 17 1) 4 ∨ 0x10 < field b 18 1 then 0x85
  else 0
/-- The five checks of R407: a status of R412. -/
def State.verifyImage (s : State) (b : List Byte) : Nat :=
  let key := slice b 256 1312
  if imageHeader b ≠ 0 then imageHeader b
  else if sha3 key ≠ Config.rootKeyHash then 0x81
  else if ¬ Config.mlDsaVerify key (imageBody b) (b.drop (b.length - 2420)) then 0x82
  else if field b 16 1 < s.boot.fuses then 0x83
  else if ¬ (imageParts b).all (fun p => sha3 (slice b p.2.1 p.2.2.1) == p.2.2.2) then 0x84
  else 0
/-- The identity's public key (R413). -/
def identityPk : List Byte := Config.mlDsaPublic (sha3 (Config.identitySeed ++ [0x49, 0x44]))
/-- An image is accepted: the cores start, and the identity is derived (R408, R413). -/
def State.acceptImage (s : State) (b : List Byte) (origin : Nat) : State :=
  let digest := sha3 (imageBody b)
  let s := s.modBoot (fun k => { k with image := b, loadAccepted := false })
  let s := (((s.setReg 0x2C10 5 (leNat digest)).setReg 0x2C10 6 (field b 12 2)).setReg 0x2C10 7 (field b 16 1)).setReg 0x2C10 8
    origin
  let s := (s.setReg 0x1018 3 (0x10 * 2 ^ 16 + field b 12 2)).setReg 0x100A 0 (field b 32 16)
  (s.setReg 0x2C00 3 (leNat (sha3 identityPk))).measure 2 0xFF digest
/-- Address of I/O-die buffer page 3. -/
def page3 : Nat := bufferBase + 0x600000
/-- Verification of a staged image ends: it is accepted, or the device waits for recovery (R408, R409). -/
def State.imageResult (s : State) (b : List Byte) (origin status : Nat) (hostLoad : Bool) : State :=
  let s := (s.setReg 0x2C10 4 status).opEnd 0 status
  if status = 0 then s.acceptImage b origin
  else (s.setReg 0x2100 1 3).modBoot (fun k => { k with loadAccepted := hostLoad })
/-- The image of a host LOAD is checked where it is staged: 88h where the staging has damaged it (R411, R412). -/
def State.verifyLoad (s : State) : State :=
  let n := s.reg 0x2C10 2
  let b := s.rd page3 (Nat.min n 0x200000)
  let st := if s.badRange page3 (Nat.min n 0x200000) then 0x88 else if field b 8 4 ≠ n then 0x87 else s.verifyImage b
  s.imageResult b 2 st true
/-- IMAGE_VERIFY: the image that the SPI NOR delivered, while the ROM boots from it, or that of the host LOAD in progress. -/
def doImageVerify (image : List Byte) (s : State) : State :=
  if s.boot.released < 4 ∨ s.reg 0x2100 1 ≠ 0 ∨ s.boot.image ≠ [] then s
  else if s.reg 0x2C10 4 = 1 then s.verifyLoad
  else if s.bootMode = 1 then s
  else
    let s := (s.opStart 0 image.length).put page3 image
    s.imageResult image 1 (s.verifyImage image) (s.bootMode == 2)
/-- SPI_HEADER_TIMEOUT: no valid header within 10 ms. -/
def doSpiHeaderTimeout (s : State) : State :=
  if s.boot.released < 4 ∨ s.reg 0x2100 1 ≠ 0 ∨ s.boot.image ≠ [] ∨ s.bootMode = 1 ∨ s.reg 0x2C10 4 = 1 then s
  else (s.opStart 0 0).imageResult [] 1 0x86 (s.bootMode == 2)
/-- An image in host memory, 32-byte aligned (R411). -/
def State.imageSource (s : State) (da n : Nat) : Option (List Byte) :=
  if regionOf da = .host ∧ da % 32 = 0 then s.mgmtRead da n else none
/-- LOAD of 2C10h (R411): the state and the abort code. A LOAD that is accepted stages the image in page 3; STATE is LOADING
until IMAGE_VERIFY. -/
def State.firmwareLoad (s : State) : State × Nat :=
  if ¬ ((s.reg 0x2100 1 = 1 ∨ s.reg 0x2100 1 = 3) ∧ s.boot.loadAccepted) then
    (if s.reg 0x2C10 4 = 1 then s else s.setReg 0x2C10 4 0x89, 0x08000022)
  else
    let da := s.reg 0x2C10 1
    let n := s.reg 0x2C10 2
    let s := s.opStart 0 n
    match s.imageSource da n with
    | none => (s.imageResult [] 2 0x86 true, 0)
    | some b =>
      let s := (s.readEvents [] da n).put page3 (b.take 0x200000)
      (((s.setReg 0x2C10 4 1).setReg 0x2100 1 0).modBoot (fun k => { k with loadAccepted := false }), 0)
/-- PERST_N falls during a host LOAD: the load ends with 86h, FAILED with LOAD accepted (R420). -/
def State.loadBroken (s : State) : State :=
  if s.reg 0x2100 1 = 0 ∧ s.reg 0x2C10 4 = 1 then s.imageResult [] 2 0x86 true else s
/-- PROGRAM of 2C10h (R411): the verified copy waits for the flash. -/
def State.firmwareProgram (s : State) : State × Nat :=
  let da := s.reg 0x2C10 1
  let n := s.reg 0x2C10 2
  let stage := s.reg 0x2C10 9
  let refuse := fun (s : State) (st : Nat) => ((s.setReg 0x2C10 4 st).opEnd 0 st, 0)
  if s.reg 0x2100 1 ≠ 2 ∨ s.reg 0x2C10 4 = 1 then (s.setReg 0x2C10 4 (if s.reg 0x2C10 4 = 1 then 1 else 0x89), 0x08000022)
  else if stage = 0 ∨ stage % 0x200000 ≠ 0 ∨ regionOf stage ≠ .pkg ∨ ¬ s.mgmtOk true stage 0x200000 then
    (s.setReg 0x2C10 4 0x8A, 0x08000022)
  else
    let s := s.opStart 0 (2 * n)
    match s.imageSource da n with
    | none => refuse s 0x86
    | some b =>
      if 0x200000 < n then refuse s 0x87
      else
      let t := (s.readEvents [] da n).writeDev [] stage b
      if t.2 ≠ 0 then refuse t.1 0x88
      else
        let st := if field b 8 4 ≠ n then 0x87 else t.1.verifyImage b
        if st ≠ 0 then refuse t.1 st
        else ((t.1.setReg 0x2C10 4 1).modBoot (fun k => { k with programming := b }), 0)
/-- FIRMWARE_PROGRAM_COMPLETE. -/
def doFirmwareProgramComplete (readBackOk : Bool) (s : State) : State :=
  if s.reg 0x2C10 4 ≠ 1 ∨ s.reg 0x2100 1 ≠ 2 then s
  else
    let st := if readBackOk then 0 else 0x88
    ((s.setReg 0x2C10 4 st).opEnd 0 st).modBoot (fun k => { k with programming := [] })

/-! ### OTP and identity (R398, R410, R415 to R419) -/

/-- PROGRAM of 2102h: the lowest unwritten slot is written; one whose read-back fails is spent. -/
def State.optionProgram (s : State) (readBackOk : Bool) : State × Nat :=
  let st := fun (s : State) (v : Nat) => (s.setReg 0x2102 3 v, 0)
  if s.boot.lifecycle = 3 then (s.setReg 0x2102 3 0x83, 0x08000022)
  else if 4 ≤ s.boot.slots.length then (s.setReg 0x2102 3 0x81, 0x08000022)
  else match s.mgmtRead (s.reg 0x2102 1) 64 with
    | none => st s 0x80
    | some b =>
      let s := s.readEvents [] (s.reg 0x2102 1) 64
      if ¬ optionOk b then st s 0x80
      else
        let s := s.modBoot (fun k => { k with slots := k.slots ++ [if readBackOk then b else []] })
        st s (if readBackOk then 0 else 0x82)
/-- ADDRESS may take `n` bytes (R417). -/
def State.addressOk (s : State) (n : Nat) : Bool :=
  let da := s.reg 0x2C00 9
  da % 32 == 0 && s.mgmtOk true da n
/-- Writes an output to ADDRESS. -/
def State.writeOut (s : State) (bs : List Byte) : State × Nat :=
  let t := s.writeDev [] (s.reg 0x2C00 9) bs
  (t.1.setReg 0x2C00 0x0B (if t.2 = 0 then 0 else 0x84), 0)
/-- ATTEST (R415, R416). -/
def State.attest (s : State) : State × Nat :=
  let n := s.boot.log.length
  if ¬ s.addressOk (128 + 64 * n + 2420) then (s.setReg 0x2C00 0x0B 0x80, 0x08000022)
  else if ¬ s.boot.nonceFresh then (s.setReg 0x2C00 0x0B 0x81, 0x08000022)
  else
    let head := [0x41, 0x54, 0x54, 0x52] ++ leBytes 1 1 ++ zeros 1 ++ leBytes 2 n ++ leBytes 4 (s.reg 0x2C00 6)
      ++ leBytes 4 Config.serial ++ leBytes 8 s.stamp ++ zeros 8 ++ leBytes 32 (s.reg 0x2C00 8) ++ leBytes 32 (s.reg 0x2C00 7)
      ++ sha3 identityPk
    let body := head ++ s.boot.log.flatten
    let sk := Config.mlDsaPrivate (sha3 (Config.identitySeed ++ [0x49, 0x44]))
    (s.modBoot (fun k => { k with nonceFresh := false })).writeOut (body ++ slice (Config.mlDsaSign sk body) 0 2420)
/-- EXPORT_ID. -/
def State.exportId (s : State) : State × Nat :=
  if ¬ s.addressOk 1312 then (s.setReg 0x2C00 0x0B 0x80, 0x08000022) else s.writeOut (slice identityPk 0 1312)
/-- SVN_COMMIT (R410). -/
def State.svnCommit (s : State) : State × Nat :=
  if s.reg 0x2C10 7 ≤ s.boot.fuses then (s.setReg 0x2C00 0x0B 0x82, 0x08000022)
  else ((s.modBoot (fun k => { k with fuses := s.reg 0x2C10 7 })).setReg 0x2C00 0x0B 0, 0)
/-- LOAD_PATTERN_KEY (R418). -/
def State.loadPatternKey (s : State) : State × Nat :=
  let da := s.reg 0x2C00 9
  if da % 32 ≠ 0 ∨ ¬ s.mgmtOk false da 1312 then (s.setReg 0x2C00 0x0B 0x80, 0x08000022)
  else match s.mgmtRead da 1312 with
    | none => (s.setReg 0x2C00 0x0B 0x84, 0)
    | some k =>
      let s := s.readEvents [] da 1312
      if s.keyHash = zeros 32 ∨ sha3 k ≠ s.keyHash then (s.setReg 0x2C00 0x0B 0x83, 0)
      else ((s.modBoot (fun b => { b with patternKey := some k })).measure 5 0xFF (sha3 k) |>.setReg 0x2C00 0x0B 0, 0)
/-- Key by which test patterns are verified (R418). -/
def State.patternKeyNow (s : State) : Option (List Byte) :=
  if s.keyHash = zeros 32 then (if s.boot.image = [] then none else some (slice s.boot.image 1568 1312))
  else s.boot.patternKey

/-! ### Test patterns (R357, R358) -/

/-- The store holds eight areas of 2 MiB: the SELFTEST pattern in the first, the GOLDEN pattern of partition p in area p. -/
def patternArea : Nat := 0x200000
/-- Check 1: header. -/
def patternHeader (b : List Byte) (n : Nat) : Nat :=
  let kind := field b 4 1
  let part := field b 12 1
  let body := field b 16 4
  let ok := slice b 0 4 == [0x47, 0x59, 0x53, 0x52] && field b 5 1 == 1 && (kind == 1 || kind == 2) && field b 6 2 == 0
    && (if kind == 1 then inRange part 1 7 else part == 0) && field b 13 3 == 0 && field b 20 4 == 0 && field b 56 8 == 0
    && (kind == 1 || field b 24 32 == 0)
  if ¬ ok then 0x80 else if body % 32 ≠ 0 ∨ n ≠ 64 + body + 2420 then 0x81 else 0
/-- SEQUENCE installed for a kind and partition. -/
def State.patternSeq (s : State) (kind p : Nat) : Nat :=
  if kind = 2 then s.reg 0x2B40 5
  else match (s.part p).nextGolden with
    | some g => g.sequence
    | none => ((s.part p).golden.map Golden.sequence).getD 0
/-- Expected entries of a GOLDEN body after `n` bytes of batch. -/
def goldenEntries (b : List Byte) (n : Nat) : List (List Byte) :=
  (List.range (field b (64 + n) 2)).map (fun i => slice b (64 + n + 32 + 48 * i) 48)
/-- Check 5 of a GOLDEN body: count block and entries. -/
def State.goldenBodyOk (s : State) (b : List Byte) (n p : Nat) : Bool :=
  let count := field b (64 + n) 2
  let es := goldenEntries b n
  let names := es.map (fun e => field e 0 8)
  let used := n + 32 + 48 * count
  inRange count 1 1024 && field b (66 + n) 30 == 0 && field b 16 4 == ceilTo used 32
    && field b (64 + used) (field b 16 4 - used) == 0
    && es.all (fun e => (field e 1 1 == 1 || field e 1 1 == 2) && field e 8 8 == 0 && decide (field e 0 1 < 64)
      && s.skeinPart (field e 0 1) == p)
    && decide names.Nodup
/-- A vector record (R357). -/
def vectorOk (v : List Byte) : Bool :=
  inRange (field v 0 1) 1 4 && field v 1 1 == 0 && decide (field v 2 2 < itemElements (field v 0 1)) && field v 24 8 == 0
/-- 32-byte records of a SELFTEST body. -/
def vectorsOf (b : List Byte) : List (List Byte) := (List.range (field b 16 4 / 32)).map (fun i => slice b (64 + 32 * i) 32)
/-- The pattern store can take the pattern. -/
def State.storeOk (s : State) (n : Nat) : Bool :=
  let st := s.reg 0x2B40 7
  st != 0 && st % 0x200000 == 0 && decide (n ≤ patternArea) && regionOf st == .pkg && s.mgmtOk true st 0x1000000
/-- Checks 1 to 5 of R358, in order. -/
def State.patternStatus (s : State) (b : List Byte) (n : Nat) : Nat :=
  let kind := field b 4 1
  let p := field b 12 1
  let batch := s.reg (0x2B38 + p) 0x0D
  let signed : Bool := match s.patternKeyNow with
    | some k => Config.mlDsaVerify k (b.take (n - 2420)) (b.drop (n - 2420))
    | none => false
  if patternHeader b n ≠ 0 then patternHeader b n
  else if signed = false then 0x82
  else if field b 8 4 ≤ s.patternSeq kind p then 0x83
  else if kind = 1 ∧ (slice b 24 32 ≠ leBytes 32 (s.reg (0x2490 + p) 7) ∨ field b 16 4 < batch + 32 + 48) then 0x84
  else if (if kind = 1 then ¬ s.goldenBodyOk b batch p else ¬ (vectorsOf b).all vectorOk) then 0x85
  else 0
/-- A pattern that passed is copied to the store and installed. -/
def State.installPattern (s : State) (b : List Byte) : State × Nat :=
  let kind := field b 4 1
  let p := field b 12 1
  let at_ := s.reg 0x2B40 7 + patternArea * p
  let t := s.writeDev [] at_ b
  if t.2 ≠ 0 then (t.1, 0x88)
  else
    let s := (t.1.bump 0x2B40 6).measure 4 p (sha3 b)
    if kind = 1 then
      let g : Golden :=
        { sequence := field b 8 4, planDigest := slice b 24 32, batch := at_ + 64,
          entries := goldenEntries b (s.reg (0x2B38 + p) 0x0D) }
      (s.modPart p (fun k => { k with nextGolden := some g }), 0)
    else ((s.modSafety (fun k => { k with vectors := vectorsOf b })).setReg 0x2B40 5 (field b 8 4), 0)
/-- An install from a source (R358): the state and a status. -/
def State.install (s : State) (da n : Nat) : State × Nat :=
  let s := s.opStart 7 n
  let r : State × Nat :=
    match s.mgmtRead da n with
    | none => (s, 0x88)
    | some b =>
      let s := s.readEvents [] da n
      let st := s.patternStatus b n
      if st ≠ 0 then (s, st)
      else if ¬ s.storeOk n then (s, 0x86)
      else s.installPattern b
  ((r.1.opEnd 7 r.2).setReg 0x2B40 4 r.2, r.2)

/-! ### The management queue (R441) -/

/-- An entry of the form R441 gives. -/
def mgmtEntryOk (e : List Byte) : Bool :=
  field e 0 1 == 0x60 && field e 1 1 == 1 && field e 6 2 == 0 && field e 24 8 == 0
/-- The reply goes to REPLY_QUEUE on REPLY_NODE, as partition 0. -/
def State.mgmtReply (s : State) (e : List Byte) (status : Nat) : State :=
  let node := field e 2 2
  let q := field e 4 2
  let r := leBytes 1 0x61 ++ leBytes 1 status ++ zeros 18 ++ slice e 20 4 ++ zeros 8
  if node = 0 ∨ node = s.nodeId then (if s.queuePart q = 0 then (s.outerPush q [r]).1 else s)
  else
    let f : LinkFrame :=
      { type := 2, flags := 4, seq := 0, dst := node, src := s.nodeId, srcPart := 0, srcSkein := 0xFF, dstSkein := 0,
        win := 0, off := q % 16384, epoch := 0, len := 32, xid := field e 20 4, payload := r }
    s.route f
/-- MGMT_ENTRY: the management controller takes an entry from MGMT_QUEUE, while the queue meets its condition (R484). -/
def doMgmtEntry (s : State) : State :=
  let q := s.reg 0x2E00 0x0E
  if 16383 < q ∨ s.queuePart q ≠ 0 ∨ (s.queue q).consumer ≠ 0x230 ∨ ¬ (s.queue q).enabled ∨ (s.queue q).count = 0 then s
  else
    let r := s.queuePeek q 1
    let e := r.2.headD []
    let s := s.queueDrop q 1
    if r.1 ≠ 0 ∨ ¬ mgmtEntryOk e then s.bumpSat 0x2E00 0x0F
    else
      let t := s.install (field e 8 8) (field e 16 4)
      t.1.mgmtReply e t.2

/-! ### The commands -/

/-- SPI_HEADER_TIMEOUT (R409). -/
def execSpiHeaderTimeout (s : State) : Host.Outcome State Fault Refusal := .next (doSpiHeaderTimeout s)
/-- IMAGE_VERIFY (R407). -/
def execImageVerify (image : List Byte) (s : State) : Host.Outcome State Fault Refusal :=
  .next (doImageVerify image s)
/-- FIRMWARE_PROGRAM_COMPLETE (R412). -/
def execFirmwareProgramComplete (readBackOk : Bool) (s : State) : Host.Outcome State Fault Refusal :=
  .next (doFirmwareProgramComplete readBackOk s)
/-- MGMT_ENTRY (R441). -/
def execMgmtEntry (s : State) : Host.Outcome State Fault Refusal := .next (doMgmtEntry s)

end Sys2Proof.Machine
end

