-- ==== Sys2Proof/Machine/DebugPort.lean ====
section
/-! DEFINITION. DebugPort: the JTAG port, its levels and instructions (R446 to R451, R454, R455), and SYNC packets of the
trace (R459). -/
namespace Sys2Proof.Machine

/-- The level that the port holds (R446). -/
def State.dbgLevel (s : State) : Nat := if s.boot.lifecycle = 2 then s.dbg.unlock else 2
/-- BREAK of 2D00h (R456). -/
def State.breakWord (s : State) : Nat :=
  ((List.range 8).map (fun c => b2n (s.dbg.broken.contains c) * 2 ^ c)).sum + b2n s.dbg.deviceBreak * 256
/-- The data register shifts out. -/
def State.tapOut (s : State) (width v : Nat) : State := (s.modDebug (fun d => { d with shifted := v })).emit (.tap width v)
/-- Any instruction other than EXTEST gives the pins back to the device. -/
def State.tapBegin (s : State) : State := s.setReg 0x2D00 6 0
/-- BYPASS, and every instruction whose level is not held: one bit that captures zero (R447). -/
def doBypass (s : State) : State := s.tapBegin.tapOut 1 0
/-- The device-wide break flag sets the flag of every caldera (R450). -/
def State.breakDevice (s : State) : State := s.modDebug (fun d => { d with deviceBreak := true, broken := List.range 8 })
/-- The break flags of a partition's calderas. -/
def State.breakPart (s : State) (p : Nat) : State :=
  s.modDebug (fun d => { d with broken := d.broken ++ (s.partCalderas p).filter (fun c => !d.broken.contains c) })

/-- EXTEST: the boundary scan holds the pins, the device-wide flag is set and the log gets an entry (R446, R447). -/
def doExtest (s : State) : State := (((s.breakDevice.setReg 0x2D00 6 1).measure 6 0xFF (zeros 32)).emit (.scan 0))
/-- SAMPLE/PRELOAD. -/
def doSamplePreload (s : State) : State := s.tapBegin.emit (.scan 1)
/-- DBG_STATUS. -/
def doDbgStatus (s : State) : State :=
  let s := s.tapBegin
  s.tapOut 64 (s.dbgLevel * 2 ^ 56 + s.boot.lifecycle * 2 ^ 48 + s.reg 0x2100 1 * 2 ^ 40 + s.breakWord * 2 ^ 24
    + s.reg 0x2D10 3 * 2 ^ 16)
/-- IDCODE: stepping digit 0, part number 0960h, the JEDEC code, 1. -/
def doIdcode (s : State) : State := s.tapBegin.tapOut 32 (0x960 * 2 ^ 12 + Config.jedec % 2 ^ 11 * 2 + 1)

/-- The request names a level, this device and the nonce, and nothing else (R448). -/
def unlockOk (r nonce : List Byte) : Bool :=
  decide (r.length = 64) && slice r 0 4 == [0x44, 0x42, 0x47, 0x55] && (field r 4 1 == 1 || field r 4 1 == 2)
    && field r 5 3 == 0 && field r 8 4 == Config.serial % 2 ^ 32 && field r 12 4 == 0 && slice r 16 32 == slice nonce 0 32
    && field r 48 16 == 0
/-- DBG_UNLOCK: a fresh nonce, the request and its signature by ROOT_KEY. -/
def doDbgUnlock (request signature : List Byte) (s : State) : State :=
  let s := s.tapBegin
  let nonce := Config.unlockNonce s.dbg.nonces
  let s := (s.modDebug (fun d => { d with nonces := d.nonces + 1 })).tapOut 256 (leNat (slice nonce 0 32))
  let level := field request 4 1
  if s.reg 0x2100 1 ≠ 2 ∨ ¬ unlockOk request nonce ∨ signature.length ≠ 2420 ∨ level < s.dbgLevel
      ∨ ¬ Config.mlDsaVerify (slice s.boot.image 256 1312) request signature then s
  else
    let s := s.modDebug (fun d => { d with unlock := level })
    ((s.bump 0x2D00 4).setReg 0x2D00 5 s.stamp).measure 6 0xFF (zeros 32)
/-- DBG_LOCK. -/
def doDbgLock (s : State) : State := s.tapBegin.modDebug (fun d => { d with unlock := 0 })

/-- Flags of R450 for an access that was made at a device address. -/
def State.breakAccess (s : State) (write : Bool) (da : Nat) : State :=
  let p := s.addrPart da
  let s := if s.reg (0x2490 + p) 8 = 1 ∨ s.reg (0x2490 + p) 8 = 3 then s.breakPart p else s
  if write ∧ (regionOf da = .buf ∨ ((pageId da).isSome ∧ p = 0)) then s.breakDevice else s
/-- DBG_MEM read of the unit that holds an address. -/
def doDbgMemRead (address : Nat) (s : State) : State :=
  if s.dbgLevel < 1 then doBypass s else
  let da := address / 32 * 32
  let r := s.tapBegin.outsideRead da 32
  if r.2.status ≠ 0 then r.1.tapOut 256 r.2.status else (r.1.breakAccess false da).tapOut 256 (leNat r.2.bytes)
/-- DBG_MEM write of one unit. -/
def doDbgMemWrite (address : Nat) (unit : List Byte) (s : State) : State :=
  if s.dbgLevel < 2 then doBypass s else
  let da := address / 32 * 32
  let r := s.tapBegin.outsideWrite .debug da ((slice unit 0 32).map some)
  if r.2.1 ≠ 0 then r.1.tapOut 256 r.2.1 else (r.1.breakAccess true da).tapOut 256 0

/-! ### Stops and releases (R451, R454, R455) -/

/-- A stop is refused under STOP_LOCK and while one is in force. -/
def State.stopRefused (s : State) : Bool := s.lock 2 || s.reg 0x2D10 3 != 0
/-- Calderas of a mask. -/
def maskList (n m : Nat) : List Nat := (List.range n).filter (fun c => bit m c)
/-- RELEASE of the stop in force: it crosses to every caldera of the scope (R222). -/
def State.issueRelease (s : State) : State :=
  let cs := (maskList 8 (s.reg 0x2D10 4)).filter (fun c => !s.oos c)
  let s := (s.setReg 0x2D10 3 3).modDebug (fun d => { d with untaken := cs })
  (forEach cs s (fun s c => s.modCaldera c (fun k => { k with external := k.external ++ [.releaseStop] }))).releaseDone
/-- GLOBAL_STOP of 2D10h: state and abort code. -/
def State.globalStopCmd (s : State) : State × Nat :=
  if s.stopRefused then (s, 0x08000022) else (s.issueStop ((List.range 8).filter (fun c => !s.oos c)), 0)
/-- PARTITION_STOP of 2D10h. -/
def State.partitionStopCmd (s : State) : State × Nat :=
  let m := s.reg 0x2D10 2
  if s.stopRefused ∨ m = 0 then (s, 0x08000022)
  else (s.issueStop ((List.range 8).filter (fun c => bit m (s.calderaPart c))), 0)
/-- RELEASE of 2D10h. -/
def State.releaseCmd (s : State) : State × Nat :=
  if s.reg 0x2D10 3 ≠ 2 then (s, 0x08000022) else (s.issueRelease, 0)
/-- DBG_STOP: a stop or a release of a set of calderas. -/
def doDbgStop (mask : Nat) (release : Bool) (s : State) : State :=
  if s.dbgLevel < 2 then doBypass s else
  let s := s.tapBegin
  if release then s.releaseCmd.1
  else if s.stopRefused then s else s.issueStop (maskList 8 mask)
/-- DBG_GRANT writes DICT_GRANT. -/
def doDbgGrant (value : Nat) (s : State) : State :=
  if s.dbgLevel < 2 then doBypass s else
  let s := s.tapBegin
  if value ≤ 1 then s.setReg 0x2D00 3 value else s

/-- TRACE_SYNC: a SYNC packet with the seconds (R459). -/
def doTraceSync (s : State) : State := s.traceRaw true (tracePacket 1 0 0 s.time.nanos s.time.seconds)

/-! ### The commands -/

/-- EXTEST (R447). -/
def execExtest (s : State) : Host.Outcome State Fault Refusal := .next (doExtest s)
/-- SAMPLE/PRELOAD (R447). -/
def execSamplePreload (s : State) : Host.Outcome State Fault Refusal := .next (doSamplePreload s)
/-- DBG_STATUS (R447). -/
def execDbgStatus (s : State) : Host.Outcome State Fault Refusal := .next (doDbgStatus s)
/-- DBG_UNLOCK (R448). -/
def execDbgUnlock (request signature : List Byte) (s : State) : Host.Outcome State Fault Refusal :=
  .next (doDbgUnlock request signature s)
/-- DBG_LOCK (R447). -/
def execDbgLock (s : State) : Host.Outcome State Fault Refusal := .next (doDbgLock s)
/-- DBG_MEM, read (R449). -/
def execDbgMemRead (address : Nat) (s : State) : Host.Outcome State Fault Refusal := .next (doDbgMemRead address s)
/-- DBG_MEM, write (R449). -/
def execDbgMemWrite (address : Nat) (unit : List Byte) (s : State) : Host.Outcome State Fault Refusal :=
  .next (doDbgMemWrite address unit s)
/-- DBG_STOP (R451). -/
def execDbgStop (mask : Nat) (release : Bool) (s : State) : Host.Outcome State Fault Refusal :=
  .next (doDbgStop mask release s)
/-- DBG_GRANT (R447). -/
def execDbgGrant (value : Nat) (s : State) : Host.Outcome State Fault Refusal := .next (doDbgGrant value s)
/-- IDCODE (R447). -/
def execIdcode (s : State) : Host.Outcome State Fault Refusal := .next (doIdcode s)
/-- BYPASS, and any other code (R447). -/
def execBypass (_code : Nat) (s : State) : Host.Outcome State Fault Refusal := .next (doBypass s)
/-- TRACE_SYNC (R459). -/
def execTraceSync (s : State) : Host.Outcome State Fault Refusal := .next (doTraceSync s)

end Sys2Proof.Machine
end

