-- ==== Sys2Proof/Machine/Commit.lean ====
section
/-! DEFINITION. Commit: the shadows of R375, the checks of a commit and its effect (R33, R34, R176, R201, R212, R215, R216,
R237, R317, R343, R376, R377). -/
namespace Sys2Proof.Machine

/-! ### Shadows (R375) -/

/-- Dictionary shadows beside 2210h, by rising index and subindex. -/
def shadowList : List (Nat × Nat) :=
  (List.range 8).map (fun i => (0x2202, i + 1)) ++ (List.range 8).map (fun i => (0x2300, i + 1))
    ++ ((List.range 8).map (fun p => [1, 3, 5, 7, 9].map (fun i => (0x2310 + p, i)))).flatten
    ++ (List.range 8).map (fun c => (0x2320 + c, 1)) ++ (List.range 64).map (fun b => (0x2400, b + 1))
    ++ (List.range 64).map (fun b => (0x2402, b + 1)) ++ (List.range 48).map (fun n => (0x2502, n + 1))
    ++ (List.range 8).map (fun l => (0x2A02, l + 1)) ++ (List.range 4).map (fun k => (0x2B10 + k, 1))
/-- The subindex is a shadow of R375. -/
def isShadow (ix sub : Nat) : Bool := (ix == 0x2210 && sub == 2) || shadowList.contains (ix, sub)
/-- Apply point at the take instant of the commit. -/
def appliesNow (ix : Nat) : Bool :=
  ix == 0x2300 || ix == 0x2400 || ix == 0x2402 || ix == 0x2502 || ix == 0x2A02 || inRange ix 0x2B10 0x2B13
/-- In-force subindex of a shadow. -/
def forceOf (ix sub : Nat) : Nat × Nat :=
  if inRange ix 0x2310 0x2327 ∨ inRange ix 0x2B10 0x2B13 then (ix, sub + 1) else (ix + 1, sub)
/-- The shadow differs from its accepted value. -/
def State.shadowDiffers (s : State) (x : Nat × Nat) : Bool := s.reg x.1 x.2 != s.acc x.1 x.2
/-- Page IDs whose shadow differs from the entry in force. -/
def State.changedPages (s : State) : List Nat :=
  (((s.xlat.map (·.1)) ++ (s.xlatShadow.map (·.1))).eraseDups.filter (fun id => s.entry id != s.entryShadow id)).mergeSort (· ≤ ·)
/-- PENDING (2304h:04). -/
def State.shadowsPending (s : State) : Bool := s.changedPages != [] || shadowList.any s.shadowDiffers
/-- A plan in LOADING or ACTIVE. -/
def State.planBusy (s : State) (p : Nat) : Bool := s.reg (0x2490 + p) 8 == 1 || s.reg (0x2490 + p) 8 == 3

/-! ### Translation entries (R174, R176, R177) -/

/-- Entry of a page in a table of entries. -/
def entryIn (t : Tbl Nat) (id : Nat) : Nat := tblGet (xlatReset id) t id
/-- R174: FRAME, CACHEABLE and reserved bits of an entry of a page. -/
def entryFormOk (id e : Nat) : Bool :=
  bits e 20 6 == 0 && (if id < 0x1000 then decide (entFrame e < 0x1000)
    else if id < 0x4000 then entFrame e == id - 0x1000 && !entCacheable e
    else decide (e < 2 ^ 64) && !entCacheable e)
/-- Package pages present on a frame. -/
def frameUsers (t : Tbl Nat) (f : Nat) : List Nat :=
  (t.filter (fun e => decide (e.1 < 0x1000) && entPresent e.2 && entFrame e.2 == f)).map (·.1)
    ++ (if f < 0x1000 ∧ ¬ t.any (fun e => e.1 == f) then [f] else [])
/-- Translations that transfers beside descriptors hold: queued writes of the host, the debug port or the I/O die, and line
fetches that no LOAD waits for. -/
def State.otherPages (s : State) : List (Nat × Nat) :=
  (s.channels.map (fun q => q.2.queue.filterMap (fun a =>
      match a.kind with
      | .write _ none => some a.page
      | _ => none))).flatten
    ++ (s.calderas.map (fun k => (k.2.fetches.filter (fun f => f.waiters == [])).map (·.page))).flatten
/-- Translations that transfers hold (R177). -/
def State.heldPages (s : State) : List (Nat × Nat) :=
  (s.skeins.map (fun k => (k.2.flights.map (·.pages)).flatten)).flatten ++ s.otherPages
    ++ (s.channels.map (fun q => q.2.queue.map (·.page))).flatten ++ (s.calderas.map (fun k => k.2.fetches.map (·.page))).flatten
/-- A page of the ring of an enabled queue. -/
def State.isRingPage (s : State) (id : Nat) : Bool :=
  s.queues.any (fun q => q.2.enabled && (match pageId q.2.ringBase, pageId (q.2.ringBase + 32 * 2 ^ q.2.log2 - 1) with
    | some a, some b => inRange id a b
    | _, _ => false))
/-- A changed entry breaks R176, but for its partition clause; `t` is the table after the commit. -/
def State.entryRefused (s : State) (t : Tbl Nat) (id : Nat) : Bool :=
  let e := entryIn t id
  let f := entFrame e
  !entryFormOk id e
    || (decide (id < 0x1000) && entPresent e &&
        ((frameUsers t f).any (fun x => x != id) || s.bankState (bankOf (f * 0x200000)) != 2
          || s.heldPages.any (fun h => h.1 != id && decide (h.1 < 0x1000) && entFrame h.2 == f && h.2 != entryIn t h.1)))
    || (!entPresent e && entPresent (s.entry id) && s.isRingPage id)
/-- Entries come into force: lines of old cacheable frames are invalidated (R192), halted streams look again (R123). -/
def State.applyEntries (s : State) (ids : List Nat) (t : Tbl Nat) : State :=
  let s := forEach ids s (fun s id =>
    let old := s.entry id
    if entCacheable old then s.invalidate (entFrame old * 0x200000) 0x200000 else s)
  let s := forEach ids s (fun s id => (s.withXlat (tblPut (xlatReset id) s.xlat id (entryIn t id))))
  s.resumeHalted
/-- HOLDERS and DRAIN of 2210h: transfers that hold a superseded translation, of one page or of any. -/
def State.superseded (s : State) (sel : Option Nat) : Nat :=
  let old := fun (h : Nat × Nat) => (sel == none || sel == some h.1) && h.2 != s.entry h.1
  ((s.skeins.map (fun k => k.2.flights)).flatten.filter (fun f => f.pages.any old)).length + (s.otherPages.filter old).length

/-! ### Checks (R376, R377) -/

/-- The caldera runs a stream or holds queued work (R33). -/
def State.calderaHolds (s : State) (c : Nat) : Bool :=
  (List.range 8).any (fun i => s.streamLive (8 * c + i) || (s.skein (8 * c + i)).flights != [])
    || (List.range 32).any (fun i =>
      (s.spindle (32 * c + i)).queue != [] || (s.spindle (32 * c + i)).running != none
        || (s.spindle (32 * c + i)).drains != [] || (s.spindle (32 * c + i)).landing != [])
/-- Some stream of a partition is RUNNING, WAITING, HALTED or STOPPED. -/
def State.partLive (s : State) (p : Nat) : Bool := (s.partSkeins p).any s.streamLive
/-- A sensor stream is enabled or holds queued work. -/
def State.streamHolds (s : State) (n : Nat) : Bool :=
  if n < 40 then s.camOn n || (s.camera n).entries != [] else s.decOn (n - 40) || (s.decoder (n - 40)).sample != none
/-- A shadow of R84h moves something that is in use. -/
def State.moveRefused (s : State) (ix sub : Nat) : Bool :=
  if ix = 0x2300 then s.calderaHolds (sub - 1)
  else if ix = 0x2400 then (s.queues.any (fun q => q.2.enabled && q.1 / 256 == sub - 1)) || s.partLive (s.acc ix sub)
  else if ix = 0x2402 then s.partLive (s.acc ix sub)
  else if ix = 0x2502 then s.streamHolds (sub - 1)
  else if ix = 0x2A02 then s.reg (0x2A0F + sub) 2 == 1
  else false
/-- Partition whose plan bars a change of a shadow (83h). -/
def State.barPart (s : State) (ix sub : Nat) : Option Nat :=
  if ix = 0x2202 then some (sub - 1)
  else if inRange ix 0x2310 0x2317 then some (ix - 0x2310)
  else if inRange ix 0x2320 0x2327 then some (s.calderaPart (ix - 0x2320))
  else if inRange ix 0x2B10 0x2B13 then some (s.calderaPart (2 * (ix - 0x2B10)))
  else none
/-- Treadle settings as written break R212. -/
def State.treadleRefused (s : State) (p : Nat) : Bool :=
  let r := s.reg (0x2310 + p)
  r 3 % 64 != 0 || !inRange (r 5) 65536000000 65536000000000 || decide (r 5 ≤ r 7 * 65536)
    || decide (190000000 * r 5 < r 3 * 1000000000 * 65536) || decide (r 3 * 1000000000 * 65536 < 1000000 * r 5)
/-- Every breach of a commit, the first to be reported first: status, index, subindex, page ID. -/
def State.commitBreaches (s : State) : List (Nat × Nat × Nat × Nat) :=
  let d := shadowList.filter s.shadowDiffers
  let pages := s.changedPages
  let share := ((List.range 8).map (fun p => s.reg 0x2202 (p + 1))).sum
  let c81 := if 64 < share then [(0x81, 0x2202, 0, 0)] else []
  let c82 := ((List.range 4).filter (fun k =>
      s.reg (0x2B10 + k) 1 != 0 && s.reg 0x2300 (2 * k + 1) != s.reg 0x2300 (2 * k + 2))).map (fun k =>
    if s.shadowDiffers (0x2300, 2 * k + 1) ∨ s.shadowDiffers (0x2300, 2 * k + 2) then (0x82, 0x2300, 0, 0)
    else (0x82, 0x2B10 + k, 1, 0))
  let barred := d.filter (fun x => match s.barPart x.1 x.2 with
    | some p => s.planBusy p
    | none => false)
  let moved := pages.filter (fun id => entPart (s.entry id) != entPart (s.entryShadow id)
    && (s.planBusy (entPart (s.entry id)) || s.planBusy (entPart (s.entryShadow id))))
  let c83 := (barred.filter (fun x => x.1 < 0x2210)).map (fun x => (0x83, x.1, x.2, 0))
    ++ moved.map (fun id => (0x83, 0x2210, 2, id)) ++ (barred.filter (fun x => 0x2210 < x.1)).map (fun x => (0x83, x.1, x.2, 0))
  let c84 := (d.filter (fun x => s.moveRefused x.1 x.2)).map (fun x => (0x84, x.1, x.2, 0))
  let c85 := (pages.filter (s.entryRefused s.xlatShadow)).map (fun id => (0x85, 0x2210, 2, id))
  let c86 := ((List.range 8).filter (fun p => d.any (fun x => x.1 == 0x2310 + p) && s.treadleRefused p)).map (fun p =>
    (0x86, 0x2310 + p, 0, 0))
  let c87 := if s.reg 0x2202 1 = 0 ∧ s.reg 0x2230 1 = 1 then [(0x87, 0x2202, 1, 0)] else []
  c81 ++ c82 ++ c83 ++ c84 ++ c85 ++ c86 ++ c87
/-- COMMIT: the state and the abort code. -/
def State.commit (s : State) : State × Nat :=
  match s.commitBreaches with
  | (st, ix, sub, page) :: _ =>
    (((s.setReg 0x2304 2 st).setReg 0x2304 3 (page * 2 ^ 32 + ix * 2 ^ 16 + sub * 2 ^ 8)).bumpSat 0x2304 6, 0x06040043)
  | [] =>
    let d := shadowList.filter s.shadowDiffers
    let s := d.foldl (fun s x => s.setAcc x.1 x.2 (s.reg x.1 x.2)) s
    let s := (d.filter (fun x => appliesNow x.1)).foldl (fun s x =>
      s.setReg (forceOf x.1 x.2).1 (forceOf x.1 x.2).2 (s.reg x.1 x.2)) s
    let s := forEach ((List.range 8).filter (fun p => d.any (fun x => x.1 == 0x2310 + p))) s (fun s p =>
      s.setReg (0x2310 + p) 0x0C 0)
    let s := s.applyEntries s.changedPages s.xlatShadow
    (((s.setReg 0x2304 2 0).setReg 0x2304 3 0).bump 0x2304 5, 0)
/-- DISCARD: every accepted value goes back to its shadow. -/
def State.discardShadows (s : State) : State :=
  let s := (shadowList.filter s.shadowDiffers).foldl (fun s x => s.setReg x.1 x.2 (s.acc x.1 x.2)) s
  s.withXlatShadow s.xlat

end Sys2Proof.Machine
end

