-- ==== Sys2Proof/Machine/PlanCheck.lean ====
section
/-! DEFINITION. PlanCheck: the Jenkan plan container (R128 to R130) and steps 1 to 6 of a load (R132, R133): ownership and
contents of every kind of section (R153, R154, R180, R232, R258 to R260, R270 to R293, R320 to R322, R485). Every check is
made against the state before the plan's own writes of step 7. -/
namespace Sys2Proof.Machine

/-! ### The container (R128, R129) -/

/-- A section: place in the table, TYPE, TARGET, OFFSET, LENGTH, LOAD_ADDR, digest, and body. -/
structure Section where
  ix : Nat
  type : Nat
  target : Nat
  off : Nat
  len : Nat
  load : Nat
  digest : List Byte
  body : List Byte
  deriving DecidableEq, Repr

/-- How a load ended: plan status, section named, chapter's status. -/
structure LoadResult where
  status : Nat
  sec : Nat
  code : Nat
  deriving DecidableEq, Repr

def LoadResult.ok : LoadResult := ⟨0, 0, 0⟩
/-- DETAIL (R131). -/
def LoadResult.detail (r : LoadResult) : Nat := r.sec * 2 ^ 16 + r.code * 2 ^ 8
/-- Sections of a container, each with its body. -/
def sectionsOf (b : List Byte) : List Section :=
  (List.range (field b 6 2)).map (fun i =>
    let e := slice b (64 + 64 * i) 64
    { ix := i, type := field e 0 2, target := field e 4 4, off := field e 8 8, len := field e 16 8, load := field e 24 8,
      digest := slice e 32 32, body := (b.drop (field e 8 8)).take (field e 16 8) })
/-- Records of `n` bytes of a body; a rest that is no whole record is left out. -/
def recordsOf (n : Nat) (b : List Byte) : List (List Byte) := (List.range (b.length / n)).map (fun i => slice b (n * i) n)
/-- The least of the values that apply, if any. -/
def leastOf (xs : List Nat) : Option Nat := xs.min?
/-- A value when a condition holds. -/
def val (c : Bool) (v : Nat) : List Nat := if c then [v] else []

/-- Step 1: header (R128). PLAN_ID 0, PARTITION above 7 and SECTIONS outside 1 to 1,024 are wrong header fields. -/
def headerCheck (b : List Byte) : Nat :=
  let n := field b 6 2
  if slice b 0 4 ≠ [0x4A, 0x4B, 0x50, 0x4C] then 0x80
  else if field b 4 2 ≠ 0x0100 then 0x81
  else if field b 24 4 ≠ b.length ∨ ¬ inRange n 1 1024 ∨ b.length < 64 + 64 * n ∨ field b 13 3 ≠ 0 ∨ field b 28 4 ≠ 0
      ∨ field b 8 4 = 0 ∨ 7 < field b 12 1 then 0x82
  else 0
/-- Step 2: PLAN_DIGEST over the container with the digest's own bytes read as zero. -/
def planDigestOk (b : List Byte) : Bool := sha3 (b.take 32 ++ zeros 32 ++ b.drop 64) == slice b 32 32
/-- TARGET may stand in a section of a type: zero, or a stream; blocks and launch queues are judged at step 6. -/
def targetOk (x : Section) : Bool :=
  if x.type = 4 then decide (x.target < 48)
  else if x.type = 5 then inRange x.target 40 47
  else x.type == 6 || x.type == 9 || x.target == 0
/-- Step 3 of one section: type, bounds, digest, and overlap with an earlier DATA section. DESIGN CHOICE where R129 to R133
leave it open (log 107): non-zero reserved bytes 2 and 3 and a LOAD_ADDR of a section other than DATA are refused with 86h;
LOAD_ADDR and LENGTH of a DATA section need no alignment; an empty DATA section strictly inside another's region overlaps
it. -/
def sectionCheck (b : List Byte) (xs : List Section) (x : Section) : Nat :=
  let before := xs.filter (fun y => decide (y.ix < x.ix) && y.type == x.type)
  let twice := (x.type == 10 && before != [])
    || (inRange x.type 4 6 || x.type == 9) && before.any (fun y => y.target == x.target)
  if ¬ inRange x.type 1 10 ∨ twice then 0x85
  else if field b (66 + 64 * x.ix) 2 ≠ 0 ∨ x.off % 32 ≠ 0 ∨ x.off < 64 + 64 * xs.length ∨ b.length < x.off + x.len
      ∨ (x.type ≠ 2 ∧ x.load ≠ 0) ∨ ¬ targetOk x then 0x86
  else if sha3 x.body ≠ x.digest then 0x84
  else if x.type = 2 ∧ before.any (fun y => decide (y.load < x.load + x.len ∧ x.load < y.load + y.len)) then 0x86
  else 0
/-- Step 4: sizes against 2000h (R4). -/
def State.sizesOk (s : State) (b : List Byte) : Bool :=
  decide (field b 16 1 < 2 ^ s.reg 0x2000 2)
    && [(17, 3), (18, 4), (19, 5), (20, 7), (21, 8), (22, 9), (23, 0x0A)].all (fun x =>
      decide (field b x.1 1 ≤ s.reg 0x2000 x.2))

/-! ### Ownership, step 5 (R36) -/

/-- Every page of `[da, da+n)` belongs to the partition. -/
def State.pagesOwned (s : State) (p da n : Nat) : Bool :=
  n == 0 || (match pageId da, pageId (da + n - 1) with
    | some a, some b => decide (a ≤ b) && (List.range (b + 1 - a)).all (fun i => entPart (s.entry (a + i)) == p)
    | _, _ => false)
/-- A range of the I/O-die buffers lies within one page. -/
def bufFits (off n : Nat) : Bool := decide (off + n ≤ 0x800000) && (n == 0 || off / 0x200000 == (off + n - 1) / 0x200000)
/-- Pages of a buffer range that lies in the buffers belong to the partition. -/
def State.bufOwned (s : State) (p off n : Nat) : Bool :=
  decide (0x800000 < off + n) || s.pagesOwned p (bufAt off) n
/-- Pages of a package range belong to the partition; a range outside package memory is not judged here. -/
def State.pkgOwned (s : State) (p da n : Nat) : Bool := regionOf da != .pkg || regionOf (da + n - 1) != .pkg || s.pagesOwned p da n
/-- A queue that exists belongs to the partition. -/
def State.queueOwned (s : State) (p q : Nat) : Bool := decide (16383 < q) || s.queuePart q == p
/-- Synchronisation objects that exist belong to the partition. -/
def State.syncOwned (s : State) (p n : Nat) : Bool := decide (131071 < n) || s.syncPart n == p

/-- Bytes of the four planes of a frame (R286). -/
def planeBytes (c : List Byte) : Nat := levelOffset c 4
/-- Buffer areas of a chain: line buffer, height plane, calibration entries, or history ring (R270, R278, R279). -/
def chainAreas (c : List Byte) : List (Nat × Nat) :=
  let line := if field c 8 4 = 0 then [] else [(field c 4 4, field c 8 4)]
  let project := match stage? c 4 with
    | some r => [(field r 12 4, (chW c / 2 ^ field r 5 1) * (chH c / 2 ^ field r 5 1)), (field r 8 4, 768)]
    | none => []
  let points := match stage? c 7 with
    | some r => [(field r 8 4, 32 * 2 ^ field r 6 1)]
    | none => []
  line ++ project ++ points
/-- Buffer areas of a decoder: staging area and RX ring (R258). -/
def schemaAreas (b : List Byte) : List (Nat × Nat) :=
  if b = [] then [] else [(field b 20 4, 32 * field b 12 2), (field b 24 4, 1024 * field b 28 2)]
def areasMeet (a b : Nat × Nat) : Bool := decide (a.1 < b.1 + b.2 ∧ b.1 < a.1 + a.2)
/-- Package areas of a camera chain (R284, R291). -/
def chainPkg (c : List Byte) : List (Nat × Nat) :=
  let pyr := stage c 5
  let til := stage c 6
  [(field pyr 16 8, field pyr 9 1 * field pyr 24 8), (field til 24 8, 4096), (field til 32 8, 4 * listStride c),
   (field til 40 8, field til 12 2 * field til 48 4)]
/-- Step 5 for a chain: stream, areas, queue and synchronisation objects. -/
def State.chainOwned (s : State) (p n : Nat) (c : List Byte) : Bool :=
  s.streamPart n == p && (chainAreas c).all (fun a => s.bufOwned p a.1 a.2)
    && (if hasStage c 7 then s.queueOwned p (field (stage c 7) 4 2)
        else (chainPkg c).all (fun a => s.pkgOwned p a.1 a.2) && s.queueOwned p (field (stage c 6) 14 2)
          && s.syncOwned p (field (stage c 6) 16 4) && (List.range 5).all (fun i => s.syncOwned p (syncBase c + i)))
/-- Step 5 of one section. -/
def State.sectionOwned (s : State) (p : Nat) (x : Section) : Bool :=
  let b := x.body
  match x.type with
  | 1 => (recordsOf 16 b).all (fun e =>
      (decide (63 < field e 0 1) || s.skeinPart (field e 0 1) == p) && s.pkgOwned p (field e 8 8) 1)
  | 2 => x.len == 0 || (match regionOf x.load with
      | .spad => regionOf (x.load + x.len - 1) == .spad && (List.range (spadSkein (x.load + x.len - 1) + 1)).all (fun g =>
          decide (g < spadSkein x.load) || s.skeinPart g == p)
      | _ => s.pagesOwned p x.load x.len)
  | 3 => (recordsOf 16 b).all (fun e =>
      !pageIdOk (field e 0 2) || (entPart (s.entry (field e 0 2)) == p && entPart (field e 8 8) == p))
  | 4 => s.chainOwned p x.target b
  | 5 => s.streamPart x.target == p && (schemaAreas b).all (fun a => s.bufOwned p a.1 a.2)
  | 7 => (recordsOf 8 b).all (fun e => s.syncOwned p (field e 0 4))
  | 8 => (recordsOf 16 b).all (fun e => s.queueOwned p (field e 0 2) &&
      ((pageId (field e 8 8)).isNone || s.pagesOwned p (field e 8 8) (if inRange (field e 4 1) 4 20 then 32 * 2 ^ field e 4 1 else 32)))
  | 9 => (decide (7 < x.target) || s.launchPart x.target == p) && (!inRange (field b 10 1) 10 16 || s.pkgOwned p (field b 16 8) (128 * 2 ^ field b 10 1))
  | 10 => (recordsOf 48 (b.drop 16)).all (fun e => decide (field e 0 1 < 64) && s.skeinPart (field e 0 1) == p)
  | _ => true
/-- Calderas of the header: in the partition, and powered (R405). -/
def State.maskOwned (s : State) (p m : Nat) : Bool :=
  (List.range 8).all (fun c => !bit m c || (s.calderaPart c == p && s.reg 0x2108 (c + 1) == 1))

/-! ### Contents, step 6 -/

/-- Bodies of the earlier sections of the same type. -/
def earlierBodies (xs : List Section) (x : Section) : List (List Byte) :=
  (xs.filter (fun y => decide (y.ix < x.ix) && y.type == x.type)).map Section.body
/-- Some key stands twice in a section, or also in an earlier section of its type. -/
def listedTwice (n : Nat) (key : List Byte → Nat) (xs : List Section) (x : Section) : Bool :=
  let own := (recordsOf n x.body).map key
  let old := ((earlierBodies xs x).map (fun b => (recordsOf n b).map key)).flatten
  !decide own.Nodup || own.any (fun k => old.contains k)

/-- STREAMS (R485). -/
def State.streamsBad (s : State) (xs : List Section) (x : Section) : List Nat :=
  let es := recordsOf 16 x.body
  let sk := fun (e : List Byte) => field e 0 1
  val (x.body.length % 16 != 0) 1 ++ val (es.any (fun e => decide (63 < sk e)) || listedTwice 16 sk xs x) 2
    ++ val (es.any (fun e => decide (1 < field e 1 1))) 3
    ++ val (es.any (fun e => field e 8 8 % 32 != 0 || regionOf (field e 8 8) != .pkg)) 4
    ++ val (es.any (fun e => field e 2 6 != 0)) 5 ++ val (es.any (fun e => decide (sk e < 64) && s.streamLive (sk e))) 6
/-- PAGES (R180), as one commit, on top of the sections before it, which step 7 writes first. -/
def State.pagesBad (s : State) (xs : List Section) (x : Section) : List Nat :=
  let es := recordsOf 16 x.body
  let id := fun (e : List Byte) => field e 0 2
  let good := es.filter (fun e => pageIdOk (id e))
  let before := ((earlierBodies xs x).map (recordsOf 16)).flatten.filter (fun e => pageIdOk (id e))
  let t := (before ++ good).foldl (fun t e => tblPut (xlatReset (id e)) t (id e) (field e 8 8)) s.xlat
  val (es.any (fun e => !pageIdOk (id e))) 1 ++ val (good.any (fun e => s.entryRefused t (id e))) 2
    ++ val (listedTwice 16 id xs x) 3 ++ val (es.any (fun e => field e 2 6 != 0)) 4 ++ val (x.body.length % 16 != 0) 5
/-- SYNC_INIT (R485). -/
def syncInitBad (xs : List Section) (x : Section) : List Nat :=
  let es := recordsOf 8 x.body
  let ob := fun (e : List Byte) => field e 0 4
  val (x.body.length % 8 != 0) 1 ++ val (es.any (fun e => decide (131071 < ob e))) 2 ++ val (listedTwice 8 ob xs x) 3
/-- QUEUES (R485). -/
def State.queuesBad (s : State) (xs : List Section) (x : Section) : List Nat :=
  let es := recordsOf 16 x.body
  let q := fun (e : List Byte) => field e 0 2
  val (x.body.length % 16 != 0) 1 ++ val (es.any (fun e => decide (16383 < q e)) || listedTwice 16 q xs x) 2
    ++ val (es.any (fun e => !consumerOk (field e 2 2))) 3 ++ val (es.any (fun e => !inRange (field e 4 1) 4 20)) 4
    ++ val (es.any (fun e => decide (1 < field e 5 1) || (field e 5 1 == 1 && field e 2 2 == 0xFFFF))) 5
    ++ val (es.any (fun e => field e 6 2 != 0)) 6 ++ val (es.any (fun e => field e 8 8 % 32 != 0)) 7
    ++ val (es.any (fun e => decide (q e < 16384) && (s.queue (q e)).enabled)) 8
/-- SINTER (R232). -/
def sinterBad (x : Section) : List Nat :=
  let n := field x.body 0 2
  let es := recordsOf 48 (x.body.drop 16)
  val (x.body.length != 16 + 48 * n) 1 ++ val (es.any (fun e => !inRange (field e 1 1) 1 2)) 2
    ++ val (!decide (es.map (fun e => field e 0 8)).Nodup) 3
    ++ val (field x.body 2 14 != 0 || es.any (fun e => field e 8 8 != 0)) 4 ++ val (!inRange n 1 4096) 5

/-- POSTPROC (R153, R154). -/
def State.postprocBad (s : State) (p : Nat) (x : Section) : List Nat :=
  let b := x.body
  let f := field b
  let fmt := f 4 1
  let float := fmt == 7 || fmt == 8
  let esz := if fmt = 0 then 1 else if fmt = 8 then 4 else 2
  let inQ := f 44 2
  let outQ := f 46 2
  let side := fun (v : Nat) => v % 64 == 0 && inRange v 64 4032
  let fields := b.length == 1024 && decide (f 1 1 ≤ 1) && decide (f 2 1 ≤ 1) && decide (f 3 1 ≤ 2)
    && (fmt == 0 || fmt == 9 || float) && inRange (f 5 1) 1 16 && (f 1 1 == 1 || f 5 1 == 1) && inRange (f 6 1) 1 16
    && decide (f 7 1 ≤ 6) && inRange (f 8 2) 1 4096 && inRange (f 10 2) 1 1024 && f 14 2 != 0
    && (!float || (f 32 2 == 0 && f 34 2 == 0 && f 36 2 == 0)) && f 38 2 % 32 == 0 && inRange (f 38 2) 32 2048
    && decide (f 5 1 * (4 + f 2 1 + f 6 1) * esz ≤ f 38 2) && side (f 40 2) && side (f 42 2)
    && (if f 1 1 = 0 then f 64 64 == 0 && f 512 384 == 0 else f (64 + 4 * f 5 1) (64 - 4 * f 5 1) == 0)
  val (f 0 1 != 1) 1 ++ val (!fields) 2
    ++ val (!tableOk (slice b 128 384) || (f 1 1 == 1 && !tableOk (slice b 512 384))) 3
    ++ val (decide (16383 < inQ) || s.queuePart inQ != p || decide (16383 < outQ) || s.queuePart outQ != p
      || (s.queue inQ).consumer != 0x200 + x.target) 4
    ++ val (f 48 16 != 0 || f 896 128 != 0) 5
    ++ val (decide (15 < x.target) || (s.reg (0x2810 + x.target) 1 != 0 && !(s.plan p).blocks.contains x.target)) 6

/-- A schema entry (R259): 03h. -/
def schemaEntryBad (e : List Byte) : Bool :=
  let kind := field e 0 1
  let fld := field e 1 1
  let point := inRange fld 1 7
  let header := inRange fld 0x10 0x13
  !((kind == 1 && point) || (kind == 0 && header)) || field e 4 2 == 0 || !fpFinite fp64 (field e 8 8)
    || field e 8 8 % 2 ^ 63 == 0 || (header && field e 8 8 != 0x3FF0000000000000)
/-- SCHEMA (R258 to R260). -/
def State.schemaBad (s : State) (p : Nat) (xs : List Section) (x : Section) : List Nat :=
  let b := x.body
  let f := field b
  let n := f 1 1
  let d := x.target - 40
  let es := (List.range (Nat.min n 29)).map (fun i => slice b (48 + 16 * i) 16)
  let maps := fun (k : Nat) => es.any (fun e => field e 1 1 == k)
  let req := fun (k : Nat) => es.any (fun e => field e 1 1 == k && bit (field e 2 1) 0)
  let loaded := (xs.filter (fun y => y.type == 5 && decide (y.ix < x.ix))).map (fun y => (y.target - 40, y.body))
    ++ ((List.range 8).filter (fun j => !(xs.any (fun y => y.type == 5 && y.target == 40 + j)))).map (fun j =>
      (j, (s.decoder j).schema))
  let others := loaded.filter (fun o => o.1 != d && o.2 != [])
  let own := schemaAreas b
  let apart := !areasMeet (own.getD 0 (0, 0)) (own.getD 1 (0, 0))
    && others.all (fun o => (schemaAreas o.2).all (fun a => own.all (fun z => !areasMeet a z)))
  let q := f 16 2
  val (f 0 1 != 1) 1
    ++ val (!(b.length == 512 && inRange n 1 29 && f 2 2 != 0 && inRange (f 12 2) 1 2048 && inRange (f 14 2) 1 10000
      && decide (q < 16384) && decide (f 18 2 < 8192) && f 20 4 % 32 == 0 && f 24 4 % 32 == 0 && inRange (f 28 2) 64 1024
      && decide (f 30 1 ≤ 1) && (f 30 1 == 1 || f 32 4 == 0) && own.all (fun a => bufFits a.1 a.2) && apart)) 2
    ++ val (es.any schemaEntryBad || !decide (es.map (fun e => (field e 0 1, field e 4 2))).Nodup
      || f (48 + 16 * n) (464 - 16 * n) != 0) 3
    ++ val (!(([1, 2, 3, 0x11] : List Nat).all maps) || (f 30 1 == 0 && !(req 0x12 && req 0x13))) 4
    ++ val (f 31 1 != 0 || f 36 12 != 0 || es.any (fun e => field e 3 1 != 0 || field e 6 2 != 0 || decide (1 < field e 2 1))) 5
    ++ val (decide (q < 16384) && (s.queuePart q != p || !((s.queue q).consumer == 0x100 || (s.queue q).consumer == 0x210))) 6
    ++ val (others.any (fun o => o.1 / 2 == d / 2 && field o.2 2 6 == f 2 6)) 7

/-- LAUNCH map (R321): 03h. -/
def launchMapBad (m : List Byte) : Bool :=
  let n := field m 1 1
  let h := fun (i : Nat) => field m (16 + 4 * i) 4
  let rows := field m 6 2
  let bound := fun (i : Nat) => field m (32 + 2 * i) 2
  let distOk := fun (y : Nat) =>
    let den := groundSum (h 2) (h 3) y
    fpFinite fp32 den && fpLt fp32 0 den && fpFinite fp32 (groundDist m y) && fpLt fp32 0 (groundDist m y)
  !(decide (field m 0 1 < 40) && inRange n 1 8 && decide (field m 4 2 ≤ 512) && inRange rows 16 4032)
    || !(List.range (Nat.min n 8)).all (fun i => decide (bound i < bound (i + 1)))
    || !(List.range 9).all (fun i => decide (i ≤ n) || bound i == 0)
    || !(List.range 4).all (fun i => fpFinite fp32 (h i)) || !distOk 0 || !distOk (16 * rows)
/-- LAUNCH (R320 to R322). -/
def State.launchBad (s : State) (p : Nat) (xs : List Section) (x : Section) : List Nat :=
  let b := x.body
  let f := field b
  let maps := lqMaps b
  let names := maps.map (fun m => field m 0 1)
  let other := ((earlierBodies xs x).map (fun y => (lqMaps y).map (fun m => field m 0 1))).flatten
    ++ ((xs.filter (fun y => y.type == 9 && decide (x.ix < y.ix))).map (fun y => (lqMaps y.body).map (fun m => field m 0 1))).flatten
  let q := f 8 2
  val (f 0 1 != 1 || b.length != 64 + 64 * f 1 1) 1
    ++ val (!(decide (f 1 1 ≤ 40) && inRange (f 2 1) 4 5 && decide (f 3 1 ≤ 3) && decide (f 4 2 ≤ 255) && inRange (f 6 2) 1 256
      && decide (f 4 2 + f 6 2 ≤ 256) && inRange (f 10 1) 10 16 && decide (f 11 1 ≤ 2) && decide (f 12 1 ≤ 1)
      && decide (100 ≤ f 14 2) && f 16 8 % 128 == 0 && regionOf (f 16 8) == .pkg
      && regionOf (f 16 8 + 128 * 2 ^ f 10 1 - 1) == .pkg && decide (f 24 4 ≤ 1000000000) && f 32 2 != 0
      && inRange (f 34 2) 1 10000)) 2
    ++ val (maps.any launchMapBad) 3
    ++ val (maps.any (fun m => decide (field m 2 2 < f 4 2 ∨ f 4 2 + f 6 2 < field m 2 2 + field m 1 1))) 4
    ++ val (f 13 1 != 0 || f 38 26 != 0 || maps.any (fun m => field m 50 14 != 0)) 5
    ++ val (decide (16383 < q) || s.queuePart q != p || (s.queue q).consumer != 0x220 + x.target) 6
    ++ val (!decide names.Nodup || names.any (fun n => other.contains n)) 7 ++ val (decide (7 < x.target)) 8

/-! ### Chains (R270 to R293) -/

/-- Bytes of a stage record that its type reserves. -/
def stageReserved (r : List Byte) : Bool :=
  field r 1 3 != 0 || (match field r 0 1 with
    | 1 => field r 68 60 != 0
    | 2 => field r 9 119 != 0
    | 3 => field r 25 103 != 0
    | 4 => field r 28 100 != 0
    | 5 => field r 10 2 != 0 || field r 96 32 != 0
        || (List.range 8).any (fun i => field r (32 + 8 * i) 1 != 0xFF && (field r (35 + 8 * i) 1 != 0 || field r (38 + 8 * i) 2 != 0))
    | 6 => field r 20 4 != 0 || field r 60 68 != 0
    | 7 => field r 7 1 != 0 || field r 12 116 != 0
    | _ => false)
/-- QUANT record of a chain (R284). -/
def quantOk (c q : List Byte) : Bool :=
  let src := field q 0 1
  if src = 0xFF then field q 1 7 == 0
  else decide (field q 1 1 ≤ 15) && (decide (src ≤ 3) || (src == 4 && hasStage c 3) || (src == 5 && hasStage c 4))
/-- Fields of the stages lie within their ranges: 03h. -/
def stageFieldsOk (c : List Byte) : Bool :=
  let pyr := stage c 5
  let til := stage c 6
  let side := fun (v : Nat) => v % 64 == 0 && inRange v 64 4032
  let pkg := fun (a n : Nat) => a % 32 == 0 && regionOf a == .pkg && regionOf (a + n - 1) == .pkg
  let quants := (List.range 8).map (quant c)
  let camera := (stage? c 2).all (fun r => inRange (field r 8 1) 1 2) && (stage? c 3).all (fun r => inRange (field r 24 1) 1 127)
    && (stage? c 4).all (fun r => field r 4 1 != 0 && decide (field r 5 1 ≤ 6) && inRange (field r 6 2) 1 1000
      && field r 8 4 % 32 == 0 && decide (field r 16 4 ≤ 100000) && decide (field r 20 4 ≤ 10000) && decide (field r 24 4 ≤ 10000))
    && side (chW c) && side (chH c) && (pixBytes c == 8 || pixBytes c == 32) && inRange (field pyr 9 1) 2 4
    && decide (syncBase c + 4 ≤ 131071) && field pyr 24 8 % 32 == 0 && decide (planeBytes c ≤ field pyr 24 8)
    && quants.all (quantOk c) && decide ((quants.filter (fun q => field q 0 1 == 5)).length ≤ 1)
    && slotsOf c % 8 == 0 && inRange (slotsOf c) 8 64 && decide (haloOf c ≤ 4) && decide (field til 6 1 ≤ 4)
    && decide (field til 7 1 ≤ 3) && decide (field til 8 1 ≤ 3) && decide (field til 9 1 ≤ 1)
    && inRange (maxBatches c) 1 (3969 / slotsOf c) && inRange (field til 12 2) 2 64 && decide (field til 14 2 < 16384)
    && decide (field til 16 4 ≤ 131071) && field til 48 4 % 32 == 0 && decide (slotsOf c * slotBytes c ≤ field til 48 4)
    && (chainPkg c).all (fun a => pkg a.1 a.2) && (hasStage c 4 || holdLines c == 0) && field c 4 4 % 32 == 0
  let range := (stage? c 7).all (fun r => decide (field r 4 2 < 16384) && inRange (field r 6 1) 8 16 && field r 8 4 % 32 == 0)
    && field c 8 4 == 0 && holdLines c == 0 && field c 4 4 % 32 == 0
  if hasStage c 7 then range else camera
/-- Stages, their order and their stream: 02h. -/
def stagesOk (c : List Byte) (n : Nat) : Bool :=
  let ts := (chainStages c).map (fun r => field r 0 1)
  if n < 40 then inRange ts.length 1 6 && [1, 2, 5, 6].all (fun t => ts.contains t) && ts.all (fun t => inRange t 1 6)
    && ts.head? == some 1 && ts == ts.mergeSort (· ≤ ·) && decide ts.Nodup
  else ts == [7]
/-- Buffer areas: large enough, within a page, and apart from every other chain's, decoder's and calibration area: 06h. -/
def State.areasOk (s : State) (xs : List Section) (x : Section) : Bool :=
  let c := x.body
  let own := chainAreas c
  let chains := ((List.range 48).filter (fun n => n != x.target && !(xs.any (fun y => y.type == 4 && y.target == n)))).map
      (fun n => s.chain n) ++ (xs.filter (fun y => y.type == 4 && decide (y.ix < x.ix))).map Section.body
  let schemas := ((List.range 8).filter (fun d => !(xs.any (fun y => y.type == 5 && y.target == 40 + d)))).map
      (fun d => (s.decoder d).schema) ++ (xs.filter (fun y => y.type == 5)).map Section.body
  let rest := ((chains.filter (· != [])).map chainAreas).flatten ++ (schemas.map schemaAreas).flatten
  let lines := if hasStage c 7 then true else decide (2 * chW c * (2 * chREff c + 5 + holdLines c) + 32 * chW c ≤ field c 8 4)
  lines && own.all (fun a => bufFits a.1 a.2 && rest.all (fun z => !areasMeet a z))
    && (own.zipIdx).all (fun a => (own.zipIdx).all (fun z => decide (z.2 ≤ a.2) || !areasMeet a.1 z.1))
/-- Calibration entry of source d, as the buffer holds it (R280). -/
def State.calOk (s : State) (c : List Byte) (d : Nat) : Bool :=
  let r := s.readDev [] (bufAt (field (stage c 4) 8 4 + 96 * d)) 96
  let e := r.bytes
  let at16 := fun (o : Nat) => field e o 2
  r.status == 0 && (List.range 16).all (fun i => fpFinite fp32 (field e (4 * i) 4))
    && decide (at16 64 < at16 68 ∧ at16 68 ≤ chW c ∧ at16 66 < at16 70 ∧ at16 70 ≤ chH c) && field e 76 20 == 0
/-- PIPELINE (R272). -/
def State.chainBad (s : State) (xs : List Section) (x : Section) : List Nat :=
  let c := x.body
  let cfa := field (stage c 2) 4 4
  let cons := fun (q : Nat) => (s.queue q).consumer
  let project := match stage? c 4 with
    | some r => (maskList8 (field r 4 1)).all (fun d =>
        xs.any (fun y => y.type == 4 && y.target == 40 + d && hasStage y.body 7) && s.calOk c d)
    | none => true
  let formed := c.length == 32 + 128 * field c 1 1
  let v1 := val (field c 0 1 != 1 || !formed) 1
  let v2 := val (!inRange (field c 1 1) 1 6 || !stagesOk c x.target) 2
  if v1 ++ v2 ≠ [] then v1 ++ v2
  else
    val (!stageFieldsOk c) 3
      ++ val (hasStage c 2 && !(List.range 4).all (fun col => (List.range 16).any (fun k => cfaColour cfa k == col))) 4
      ++ val (field c 3 1 != 0 || field c 12 20 != 0 || (chainStages c).any stageReserved) 5
      ++ val (!s.areasOk xs x) 6
      ++ val (if hasStage c 7 then cons (field (stage c 7) 4 2) != 0x210
          else !(decide (cons (field (stage c 6) 14 2) < 64) || cons (field (stage c 6) 14 2) == 0x100)) 7
      ++ val (!project) 8
where
  /-- Bits of SRC_MASK. -/
  maskList8 (m : Nat) : List Nat := (List.range 8).filter (fun d => bit m d)

/-- Step 6 of one section: the values that apply. -/
def State.sectionBad (s : State) (p : Nat) (xs : List Section) (x : Section) : List Nat :=
  match x.type with
  | 1 => s.streamsBad xs x
  | 3 => s.pagesBad xs x
  | 4 => s.chainBad xs x
  | 5 => s.schemaBad p xs x
  | 6 => s.postprocBad p x
  | 7 => syncInitBad xs x
  | 8 => s.queuesBad xs x
  | 9 => s.launchBad p xs x
  | 10 => sinterBad x
  | _ => []
/-- Steps 1 to 6 on the container of partition p. -/
def State.planCheck (s : State) (p : Nat) (b : List Byte) : LoadResult :=
  let xs := sectionsOf b
  if headerCheck b ≠ 0 then ⟨headerCheck b, 0, 0⟩
  else if ¬ planDigestOk b then ⟨0x83, 0, 0⟩
  else match (xs.map (fun x => (x.ix, sectionCheck b xs x))).find? (fun r => r.2 != 0) with
    | some r => ⟨r.2, r.1, 0⟩
    | none =>
      if ¬ s.sizesOk b then ⟨0x87, 0, 0⟩
      else if field b 12 1 ≠ p ∨ ¬ s.maskOwned p (field b 16 1) then ⟨0x88, 0, 0⟩
      else match xs.find? (fun x => !s.sectionOwned p x) with
        | some x => ⟨0x88, x.ix, 0⟩
        | none =>
          match (xs.map (fun x => (x.ix, leastOf (s.sectionBad p xs x)))).find? (fun r => r.2.isSome) with
          | some r => ⟨0x89, r.1, r.2.getD 0⟩
          | none => .ok

end Sys2Proof.Machine
end

