-- ==== Sys2Proof/Machine/Plan.lean ====
section
/-! DEFINITION. Plan: loading, activating, starting and unloading a partition's plan (R35, R59, R131 to R133, R152, R180,
R186, R213, R302, R342, R349). -/
namespace Sys2Proof.Machine

/-! ### Reading the container (R131) -/

/-- Plan status of a page that cannot be read or written. -/
def pageStatus (st : Nat) : Nat := if st = 0x22 then 0x88 else if st = 0x30 then 0x8C else 0x8B
/-- The container at SOURCE: a status, and its bytes. -/
def State.container (s : State) (p : Nat) : Nat × List Byte :=
  let da := s.reg (0x2490 + p) 1
  let n := s.reg (0x2490 + p) 2
  let who := if regionOf da = .pkg then some p else none
  let r := s.readDev [] da n
  if n < 64 ∨ ¬ (regionOf da = .pkg ∨ regionOf da = .host) ∨ regionOf (da + n - 1) ≠ regionOf da then (0x82, [])
  else if (s.rangeStatus who false da n).1 ≠ 0 then (pageStatus (s.rangeStatus who false da n).1, [])
  else if r.status ≠ 0 then (pageStatus r.status, [])
  else (0, r.bytes)

/-! ### Step 7 (R132) -/

/-- A register goes back to its default. -/
def State.clearReg (s : State) (ix sub : Nat) : State := s.setReg ix sub (odDefault ix sub)
def State.clearRegs (s : State) (ix : Nat) (subs : List Nat) : State := forEach subs s (fun s i => s.clearReg ix i)
/-- Skeins of a plan: those that STREAMS names, and those of its calderas. -/
def planSkeins (mask : Nat) (streams : List (Nat × Nat)) : List Nat :=
  (List.range 64).filter (fun g => bit mask (g / 8) || streams.any (fun e => e.1 == g))
/-- What a load clears: function tables of the partition's skeins, epochs and counters of windows, the counters of sinter
records, the expected digests (R59, R186, R187, R231). -/
def State.planClears (s : State) (p mask : Nat) (streams : List (Nat × Nat)) : State :=
  let s := forEach (s.partSkeins p) s (fun s g => s.modSkein g (fun k => { k with tables := [] }))
  let s := forEach (planSkeins mask streams) s (fun s g =>
    (s.modSkein g (fun k => { k with windows := k.windows.map (fun w => (w.1, { w.2 with epoch := 0 })) |>.filter (fun w =>
      w.2 ≠ Window.init) })).clearRegs (0x2240 + g) [0x11, 0x12, 0x13, 0x14, 0x15])
  (s.clearRegs (0x2330 + p) [2, 3, 4, 5, 6]).modPlan p (fun k => { k with expected := [] })
/-- PAGES: a commit of the section's own; the shadows follow. -/
def State.loadPages (s : State) (b : List Byte) : State :=
  let es := recordsOf 16 b
  let ids := es.map (fun e => field e 0 2)
  let put := fun (t : Tbl Nat) => es.foldl (fun t e => tblPut (xlatReset (field e 0 2)) t (field e 0 2) (field e 8 8)) t
  let s := s.applyEntries ids (put s.xlat)
  s.withXlatShadow (put s.xlatShadow)
/-- One entry of QUEUES: 8Bh where it cannot be enabled. -/
def State.loadQueue (s : State) (p : Nat) (e : List Byte) : State × Nat :=
  let q := field e 0 2
  let s := s.modPlan p (fun k => { k with queues := if k.queues.contains q then k.queues else k.queues ++ [q] })
  let s := s.modQueue q (fun k => { k with ringBase := field e 8 8, log2 := field e 4 1, consumer := field e 2 2 })
  if field e 5 1 = 1 then
    let r := s.queueEnable q
    (r.1, if r.2 = 0 then 0 else 0x8B)
  else (s, 0)
/-- Some skein whose scratchpad a range touches has a stream that is neither IDLE nor ERROR. -/
def State.spadBusy (s : State) (da n : Nat) : Bool :=
  regionOf da == .spad && (List.range 64).any (fun g =>
    decide (spadSkein da ≤ g ∧ g ≤ spadSkein (da + (n - 1))) && !s.streamIdle g)
/-- DATA for a scratchpad whose stream runs: remote writes of the loader (R183). What becomes of them does not change the
load's status (log 107). -/
def State.loadRemote (s : State) (p da : Nat) (b : List Byte) : State :=
  (sendChunks da b.length).foldl (fun s c =>
    s.modSkein (spadSkein c.1) (fun k => { k with arrivals := k.arrivals ++
      [{ sender := .loader p, win := none, off := (c.1 - scratchBase) % 0x80000, epoch := none,
         bytes := ((b.drop (c.1 - da)).take c.2).map some, xid := 0, last := true }] })) s
/-- DATA: written for the partition. -/
def State.loadData (s : State) (p da : Nat) (b : List Byte) : State × Nat :=
  if b = [] then (s, 0)
  else if s.spadBusy da b.length then (s.loadRemote p da b, 0)
  else
    let st := (s.rangeStatus (some p) true da b.length).1
    if st ≠ 0 then (s, pageStatus st)
    else
      let r := s.writeDev [] da b
      (r.1, if r.2 = 0 then 0 else pageStatus r.2)
/-- PIPELINE: the chain of a stream. -/
def State.loadChain (s : State) (p n id : Nat) (b : List Byte) : State :=
  let s := s.withChains (tblPut [] s.chains n b)
  let s := (s.clearRegs (0x2710 + n) [4, 5, 6, 7, 8, 9, 0x0A, 0x0B, 0x0C, 0x0D, 0x0E]).setReg (0x2710 + n) 1 1
  let s := s.setReg (0x2710 + n) 2 id
  let s := if n < 40 then s else s.modDecoder (n - 40) (fun k => { k with stored := 0 })
  s.modPlan p (fun k => { k with chains := if k.chains.contains n then k.chains else k.chains ++ [n] })
/-- SCHEMA: the schema of a decoder. -/
def State.loadSchema (s : State) (p d id : Nat) (b : List Byte) : State :=
  let s := s.modDecoder d (fun k => { k with schema := b, reassembly := none, ring := [], rxPos := 0, sample := none, expected := none })
  let s := (s.clearRegs (0x2610 + d) [4, 5, 6, 7, 8, 9, 0x0A, 0x0B, 0x0C]).setReg (0x2610 + d) 1 1
  (s.setReg (0x2610 + d) 3 id).modPlan p (fun k =>
    { k with decoders := if k.decoders.contains d then k.decoders else k.decoders ++ [d] })
/-- POSTPROC: a parameter block. -/
def State.loadBlock (s : State) (p n id : Nat) (b : List Byte) : State :=
  let s := s.withBlocks (tblPut [] s.blocks n b)
  let s := ((s.clearRegs (0x2810 + n) [5, 7, 8, 9]).setReg (0x2810 + n) 1 1).setReg (0x2810 + n) 2 p
  (s.setReg (0x2810 + n) 4 id).modPlan p (fun k => { k with blocks := if k.blocks.contains n then k.blocks else k.blocks ++ [n] })
/-- LAUNCH: a launch queue. -/
def State.loadLaunch (s : State) (p l id : Nat) (b : List Byte) : State :=
  let s := s.setLaunch l { LaunchQ.init with body := b }
  let s := (s.clearRegs (0x2A10 + l) [4, 5, 6, 7, 8, 9, 0x0A, 0x0B, 0x0C, 0x0D, 0x0E]).setReg (0x2A10 + l) 1 1
  (s.setReg (0x2A10 + l) 3 id).modPlan p (fun k =>
    { k with launches := if k.launches.contains l then k.launches else k.launches ++ [l] })
/-- SINTER: the expected digests. -/
def State.loadSinter (s : State) (p : Nat) (b : List Byte) : State :=
  (s.modPlan p (fun k => { k with expected := recordsOf 48 (b.drop 16) })).setReg (0x2330 + p) 4 (field b 0 2)
/-- STREAMS: BASE and PLAN_ID of each named skein. -/
def State.loadStreams (s : State) (id : Nat) (b : List Byte) : State :=
  (recordsOf 16 b).foldl (fun s e =>
    (s.setReg (0x2440 + field e 0 1) 4 (field e 8 8)).setReg (0x2440 + field e 0 1) 0x0A id) s
/-- One section is written; the status of a failure. DESIGN CHOICE of which named pages R133 judges for 8Bh (log 107): those
that DATA writes, and the ring of a queue that the section enables; BASE names a page that a stream may find absent later,
and so does RING_BASE of a queue left disabled. -/
def State.loadSection (s : State) (p id : Nat) (x : Section) : State × Nat :=
  match x.type with
  | 1 => (s.loadStreams id x.body, 0)
  | 2 => s.loadData p x.load x.body
  | 3 => (s.loadPages x.body, 0)
  | 4 => (s.loadChain p x.target id x.body, 0)
  | 5 => (s.loadSchema p (x.target - 40) id x.body, 0)
  | 6 => (s.loadBlock p x.target id x.body, 0)
  | 7 => ((recordsOf 8 x.body).foldl (fun s e => s.outerSet (field e 0 4) (field e 4 4)) s, 0)
  | 8 => (recordsOf 16 x.body).foldl (fun r e => if r.2 ≠ 0 then r else r.1.loadQueue p e) (s, 0)
  | 9 => (s.loadLaunch p x.target id x.body, 0)
  | _ => (s.loadSinter p x.body, 0)
/-- Types in the order of step 7. -/
def loadOrder : List Nat := [3, 8, 7, 2, 4, 5, 6, 9, 10, 1]
/-- Step 7: the sections in order, until one fails. A section whose writing meets a data or parity error ends it with 8Ch
(R133); none of that section is written (log 107). -/
def State.planWrite (s : State) (p : Nat) (b : List Byte) (broken : Option Nat) : State × LoadResult :=
  let xs := sectionsOf b
  let id := field b 8 4
  let streams := ((xs.filter (fun x => x.type == 1)).map (fun x => (recordsOf 16 x.body).map (fun e => (field e 0 1, field e 1 1)))).flatten
  let s := s.planClears p (field b 16 1) streams
  let s := s.modPlan p (fun k => { k with streams := streams })
  let ordered := (loadOrder.map (fun t => xs.filter (fun x => x.type == t))).flatten
  ordered.foldl (fun (r : State × LoadResult) x =>
    if r.2.status ≠ 0 then r
    else if broken = some x.ix then (r.1, ⟨0x8C, x.ix, 0⟩)
    else
      let t := r.1.loadSection p id x
      (t.1, ⟨t.2, x.ix, 0⟩)) (s, .ok)

/-! ### Commands of 2490h + p (R132) -/

/-- A command refused in the present state (R373). -/
def State.planRefused (s : State) (p : Nat) : State × Nat := (s.setReg (0x2490 + p) 4 0x8A, 0x08000022)
/-- The container is read: its code events, and an uncorrectable one is a fault of its reader's partition (R198, R204). -/
def State.containerEvents (s : State) (p : Nat) : State :=
  let da := s.reg (0x2490 + p) 1
  let n := s.reg (0x2490 + p) 2
  let r := s.readDev [] da n
  if (s.container p).1 = 0 then s.readEvents [] da n
  else if (s.container p).1 = 0x8C ∧ r.status = 0x30 then (s.readEvents [] da n).memUncorr p [] r.at_
  else s
/-- LOAD: steps 1 to 6 on the container; what they give is held until the load completes. -/
def State.planLoad (s : State) (p : Nat) : State × Nat :=
  let st := s.reg (0x2490 + p) 8
  if st ≠ 0 ∧ st ≠ 4 then s.planRefused p
  else
    let s := ((s.setReg (0x2490 + p) 8 1).setReg (0x2490 + p) 4 1).setReg (0x2490 + p) 5 0
    let c := s.container p
    let b := c.2
    let s := s.containerEvents p
    let r : LoadResult := if c.1 ≠ 0 then ⟨c.1, 0, 0⟩ else s.planCheck p b
    (s.modPlan p (fun k => { k with
      pendingStatus := r.status, pendingDetail := if r.status = 0 then 0 else r.detail, pendingDigest := slice b 32 32,
      pendingId := field b 8 4, pendingBody := if r.status = 0 then b else [],
      calderaMask := if r.status = 0 then field b 16 1 else k.calderaMask }), 0)
/-- A GOLDEN pattern made for another plan is dropped (R358). -/
def State.dropGolden (s : State) (p : Nat) (digest : List Byte) : State :=
  let keep := fun (g : Golden) => g.planDigest == digest
  let s := if (s.part p).golden.any (fun g => !keep g) then s.setReg (0x2B38 + p) 0x0C 0 else s
  s.modPart p (fun x => { x with golden := x.golden.filter keep, nextGolden := x.nextGolden.filter keep })
/-- Step 7 of the load in progress, where it has come so far: status and DETAIL that the load ends with. -/
def State.planFinish (s : State) (p : Nat) (broken : Option Nat) : State × Nat × Nat :=
  let k := s.plan p
  if k.pendingStatus ≠ 0 then (s, k.pendingStatus, k.pendingDetail)
  else
    let t := s.planWrite p k.pendingBody broken
    (t.1, t.2.status, if t.2.status = 0 then 0 else t.2.detail)
/-- PLAN_LOAD_COMPLETE: the writes of step 7 have been made, and the load enters LOADED or REFUSED with its status. -/
def doPlanLoadComplete (p : Nat) (broken : Option Nat) (s : State) : State :=
  if s.reg (0x2490 + p) 8 ≠ 1 then s
  else
    let r := s.planFinish p broken
    let s := r.1
    let k := s.plan p
    let ok := r.2.1 = 0
    let s := ((s.setReg (0x2490 + p) 8 (if ok then 2 else 4)).setReg (0x2490 + p) 4 r.2.1).setReg (0x2490 + p) 5 r.2.2
    let s := (s.setReg (0x2490 + p) 6 (if ok then k.pendingId else 0)).setReg (0x2490 + p) 7
      (if ok then leNat k.pendingDigest else 0)
    let s := if ok then s.dropGolden p k.pendingDigest else s
    let s := if ok then s.conditionEnd (fun f => f.code == 0x13 && s.skeinPart f.source == p) else s
    s.setPlan p { k with
      digest := if ok then k.pendingDigest else [], calderaMask := if ok then k.calderaMask else 0,
      pendingStatus := 0, pendingDetail := 0, pendingDigest := [], pendingId := 0, pendingBody := [] }

/-- Contexts whose FINAL stands in the descriptors from an address to the first END. -/
def State.finalContexts (s : State) : Nat → Nat → List Nat
  | 0, _ => []
  | n + 1, da =>
    let w := leNat (s.readDev [] da 32).bytes
    if opOf w = 0x1F then []
    else if opOf w = 0x13 ∧ bits w 156 155 = 2 then bits w 154 152 :: s.finalContexts n (da + 32)
    else s.finalContexts n (da + 32)
/-- The redundancy mode of a pair suits the checkpoint contexts of the plan's streams on it (R347, R349). -/
def State.pairModeOk (s : State) (p k : Nat) : Bool :=
  let used := (((s.plan p).streams.filter (fun e => e.1 / 16 == k)).map (fun e =>
    s.finalContexts 16384 (s.reg (0x2440 + e.1) 4))).flatten
  let mode := s.reg (0x2B10 + k) 2
  (!(used.contains 4 || used.contains 5) || inRange mode 1 3) && (!used.contains 6 || mode == 4)
/-- What R349 asks of a plan in a partition with a safety function. -/
def State.safetyOk (s : State) (p : Nat) : Bool :=
  let m := (s.plan p).calderaMask
  s.reg (0x2B08 + p) 2 != 1
    || ((List.range 8).all (fun c => !bit m c ||
          decide (2 ≤ ((List.range 64).filter (fun i => bit (s.acc (0x2320 + c) 1) i)).length))
        && s.reg 0x2B30 1 == 1 && (List.range 4).all (fun k => s.pairModeOk p k))
/-- ACTIVATE (R132, R342, R414): blocks and queues are enabled; the streams start with the next treadle frame (R213). A plan
that names a caldera out of service has been stopped, and is not activated (R35). -/
def State.activate (s : State) (p : Nat) : State × Nat :=
  let k := s.plan p
  if s.reg (0x2490 + p) 8 ≠ 2 ∨ ¬ s.safetyOk p ∨ (List.range 8).any (fun c => bit k.calderaMask c && s.oos c) then s.planRefused p
  else
    let s := (s.setReg (0x2490 + p) 8 3).setReg (0x2490 + p) 4 0
    let s := forEach k.blocks s (fun s b => (s.blockEnable b 1).1)
    let s := forEach k.decoders s (fun s d => (s.decoderEnable d 1).1)
    let s := forEach (k.chains.filter (fun n => decide (n < 40))) s (fun s n => (s.cameraEnable n).1)
    let s := forEach k.launches s (fun s l => (s.launchEnable l).1)
    let s := s.measure 3 p k.digest
    let s := if s.partState p = 3 ∧ ¬ s.safety.lastingAll ∧ (List.range 8).all (fun c => !bit k.calderaMask c || !s.oos c) then
        (s.setReg (0x2B08 + p) 1 2).modPart p (fun x => { x with geyserPassed := [], acked := false, lasting := false })
      else s
    (s.modPlan p (fun k => { k with starting := true }), 0)
/-- PLAN_START: tick 0 of the first treadle frame after ACTIVATE (R213, R338). -/
def doPlanStart (p : Nat) (s : State) : State :=
  let k := s.plan p
  if ¬ (k.starting ∧ k.startDue) ∨ s.reg (0x2490 + p) 8 ≠ 3 then s
  else
    let s := s.setPlan p { k with starting := false, startDue := false, frame := 0 }
    let s := (s.takeBases p).modPart p (fun x => { x with geyserCount := 0 })
    (k.streams.filter (fun e => e.2 == 1)).foldl (fun s e => if s.startOk e.1 then s.startStream e.1 else s) s
/-- A window is closed as WCLOSE does. -/
def State.closeWindows (s : State) (g : Nat) : State :=
  let s := forEach (List.range 16) s (fun s w =>
    let x := s.window g w
    if x.state = .opened then s.setWindow g w { x with state := .closing } else s)
  s.closeSettle g
/-- UNLOAD is accepted: no stream of the plan lives, no engine holds a job of its blocks, no decoder holds a sample. -/
def State.unloadOk (s : State) (p : Nat) : Bool :=
  let k := s.plan p
  let st := s.reg (0x2490 + p) 8
  (st == 2 || st == 3 || st == 4) && k.streams.all (fun e => !s.streamLive e.1)
    && !s.engines.any (fun j => k.blocks.contains j.2.block) && k.decoders.all (fun d => (s.decoder d).sample == none)
/-- UNLOAD (R132). -/
def State.unload (s : State) (p : Nat) : State × Nat :=
  let k := s.plan p
  if ¬ s.unloadOk p then s.planRefused p
  else
    let s := forEach (k.chains.filter (fun n => decide (n < 40))) s (fun s n => s.cameraDisable n)
    let s := forEach k.chains s (fun s n => ((s.chainUnload n).setReg (0x2710 + n) 1 0).setReg (0x2710 + n) 2 0)
    let s := forEach k.decoders s (fun s d =>
      (((s.decoderEnable d 0).1.setReg (0x2610 + d) 1 0).setReg (0x2610 + d) 3 0).modDecoder d (fun x => { x with
        schema := [], reassembly := none, ring := [], rxPos := 0 }))
    let s := forEach k.blocks s (fun s b =>
      let t := (((s.blockEnable b 0).1.setReg (0x2810 + b) 1 0).setReg (0x2810 + b) 2 0).setReg (0x2810 + b) 4 0
      (t.withBlocks (tblDel t.blocks b)))
    let s := forEach k.launches s (fun s l =>
      (((s.launchDisable l).setReg (0x2A10 + l) 1 0).setReg (0x2A10 + l) 3 0).setLaunch l LaunchQ.init)
    let s := forEach (k.queues.filter (fun q => !s.queueAwaited q)) s State.queueDisable
    let s := forEach (k.streams.map (·.1)) s (fun s g => (s.setReg (0x2440 + g) 4 0).setReg (0x2440 + g) 0x0A 0)
    let s := forEach (planSkeins k.calderaMask k.streams) s State.closeWindows
    let s := s.clearRegs (0x2490 + p) [4, 5, 6, 7, 8]
    (s.setPlan p { Plan.init with expected := k.expected }, 0)

/-! ### The commands -/

/-- PLAN_LOAD_COMPLETE (R132). -/
def execPlanLoadComplete (d : LoadDone) (s : State) : Host.Outcome State Fault Refusal :=
  .next (doPlanLoadComplete d.part.val d.broken s)
/-- PLAN_START (R213). -/
def execPlanStart (p : PartId) (s : State) : Host.Outcome State Fault Refusal := .next (doPlanStart p.val s)

end Sys2Proof.Machine
end

