-- ==== Sys2Proof/Machine/ResetBoot.lean ====
section
/-! DEFINITION. ResetBoot: reset sources and classes (R391 to R395), the release sequence (R399 to R401), rails and power
switches (R402 to R405), and the reset fill of package memory (R205). -/
namespace Sys2Proof.Machine

/-! ### Reset classes (R392) -/

/-- The classes that reset the whole device. -/
inductive ResetClass where
  | power | device | debug
  deriving DecidableEq, Repr

/-- What every reset keeps: the queue of commands, the outside world, OTP and pins. -/
def State.resetBase (s : State) : State :=
  let b : Boot := { State.reset.boot with
    resetN := s.boot.resetN, perstN := s.boot.perstN, slots := s.boot.slots, fuses := s.boot.fuses,
    lifecycle := s.boot.lifecycle }
  let d : Debug := { State.reset.dbg with nonces := s.dbg.nonces }
  { State.reset with
    pending := s.pending, hostMem := s.hostMem, freeUsed := s.freeUsed, out := s.out, boot := b, dbg := d }
/-- The timebase runs on, and the cause record is kept, then set. -/
def State.keptByDevice (s : State) (cause : Nat) (z : State) : State :=
  let z : State := z.modTime (fun t => { t with seconds := s.time.seconds, nanos := s.time.nanos, frac := s.time.frac })
  z.modBoot (fun b => { b with
    aon := s.boot.aon, cause := cause, resets := (s.boot.resets + 1) % 2 ^ 32, lastStamp := s.stamp,
    tempPeak := s.boot.tempPeak, pllRestarts := s.boot.pllRestarts })
/-- A reset of a class asserts, with its bits of CAUSE (R392, R395). -/
def State.resetTo (s : State) (cls : ResetClass) (cause : Nat) : State :=
  let z := s.resetBase
  match cls with
  | .power => z.modBoot (fun b => { b with cause := cause, resets := 1, lastStamp := 0, tempPeak := none })
  | .device => s.keptByDevice cause z
  | .debug =>
    let z := s.keptByDevice cause z
    let z := z.modDebug (fun d => { d with broken := s.dbg.broken, deviceBreak := s.dbg.deviceBreak })
    let z := z.modBoot (fun b => { b with filled := true })
    (((z.withMem (s.mem.filter (fun c => decide (c.1 < 0x200000000)))).withFlips (
      s.flips.filter (fun e => decide (e.1 < 36 * 0x20000000)))).withXlat s.xlat).withXlatShadow s.xlat
/-- POWER_ON. -/
def doPowerOn (s : State) : State := s.resetTo .power 1
/-- BROWN_OUT of a rail: that of VDD_AON clears the cause record too (R403). -/
def doBrownOut (rail : Nat) (s : State) : State :=
  if rail = 2 then s.resetTo .power 1 else s.resetTo .device (2 + 2 ^ (16 + rail))
/-- REFERENCE_CLOCK_FAILURE, seen by the fabric PLL. -/
def doReferenceClockFailure (s : State) : State := s.resetTo .power 64
/-- PLL_LOCK_LOST: PLL 0 is of the Power class, the others of the Device class. -/
def doPllLockLost (pll : Nat) (s : State) : State :=
  if pll = 0 then (if s.boot.aon then s.resetTo .power 128 else s)
  else if s.boot.released < 3 then s else s.resetTo .device (128 + pll * 2 ^ 12)

/-! ### The release sequence (R396, R399) -/

/-- COB-IDs of the PDOs follow the node ID (R382). -/
def State.cobIds (s : State) : State :=
  forEach (List.range 4) s (fun s n =>
    (s.setReg (0x1400 + n) 1 (odDefault (0x1400 + n) 1 + s.canNode)).setReg (0x1800 + n) 1 (odDefault (0x1800 + n) 1 + s.canNode))
/-- Step 0: the option bytes are read, and the defaults that follow from them are set. -/
def State.readOptions (s : State) : State :=
  let s := s.modBoot (fun b => { b with
    slotInForce := bestSlot b.slots, optionStart := s.now, released := if b.aon then 2 else 1 })
  let o := s.options
  (((s.setReg 0x2500 1 (field o 3 1)).setReg 0x2E00 1 (field o 4 2)).setReg 0x2100 4 s.watchdogMs).cobIds
/-- RESET_N_LOW: after 1 us. -/
def doResetNLow (s : State) : State :=
  if ¬ s.boot.resetN then s else (s.resetTo .device 4).modBoot (fun b => { b with resetN := false, pllRestarts := 0 })
/-- RESET_N_RISE: the sequence begins with the option-byte read. -/
def doResetNRise (s : State) : State :=
  if s.boot.resetN then s else (s.modBoot (fun b => { b with resetN := true })).readOptions
/-- WATCHDOG: armed while the management controller runs (R420). -/
def doWatchdog (s : State) : State := if s.boot.image = [] then s else s.resetTo .device 8
/-- MANAGEMENT_LOCK_UP. -/
def doLockUp (s : State) : State := if s.boot.released < 4 then s else s.resetTo .device 256
/-- A step of the sequence has been released. -/
def State.stepDone (s : State) : State := s.modBoot (fun b => { b with released := b.released + 1 })
/-- Step 3: the management island; BOOT 01h waits for the host at once (R409). -/
def State.releaseManagement (s : State) : State :=
  let s := s.stepDone
  let host := s.bootMode = 1
  let s := (s.setReg 0x2100 1 (if host then 1 else 0)).modBoot (fun b => { b with loadAccepted := host })
  s.measure 1 0xFF (sha3 s.optionBytes)
/-- Step 5: the endpoint and the links; the links train, and a discovery run starts where AUTO is set (R433, R443). -/
def State.releaseLinks (s : State) : State :=
  let s := s.stepDone
  if s.reg 0x2E00 3 = 1 then s.nextRun else forEach allLinks s State.trainLink
/-- Controllers present send boot-up and enter Pre-operational (R381, R401). -/
def State.bootUps (s : State) : State :=
  forEach [0, 1] s (fun s c =>
    if s.canPresent c then (s.modCan c (fun k => { k with nmt := .preOperational })).emit (.bootUp c) else s)
/-- Step 8: STATE is RUN; BOOT_TIME counts from the option-byte read, which ran before the timebase after a Power reset. -/
def State.releaseLast (s : State) : State :=
  let s := s.stepDone
  let f := s.free
  let t := (s.now - s.boot.optionStart) / 1000
  let s := if s.boot.lastStamp = 0 then f.2 else s
  let s := (s.setReg 0x2100 1 2).setReg 0x2100 7 (if s.boot.lastStamp = 0 then t + f.1 % 183 else t)
  s.bootUps
/-- DOMAIN_RELEASE: the next step of the sequence, or the next caldera of step 7. -/
def doDomainRelease (s : State) : State :=
  let k := s.boot.released
  if ¬ s.boot.resetN ∨ 8 < k then s
  else if k = 0 then s.readOptions
  else if 3 ≤ s.boot.pllRestarts then s
  else if k = 1 then s.stepDone.modBoot (fun b => { b with aon := true })
  else if k = 2 then s.stepDone
  else if k = 3 then s.releaseManagement
  else if k = 4 then
    let s := s.stepDone
    if s.boot.filled then s else s.opStart 1 0x200000000
  else if k = 5 then s.releaseLinks
  else if s.boot.image = [] then s
  else if k = 6 then s.stepDone
  else if k = 7 then
    let s := s.modBoot (fun b => { b with calderas := b.calderas + 1 })
    if s.boot.calderas = 8 then s.stepDone else s
  else s.releaseLast
/-- PLL_LOCK_TIMEOUT: the sequence restarts from step 0; after three restarts everything from step 1 on stays in reset. -/
def doPllLockTimeout (pll : Nat) (s : State) : State :=
  let b := s.boot
  if ¬ b.resetN ∨ 3 ≤ b.pllRestarts ∨ ¬ ((pll = 0 ∧ b.released = 1) ∨ (pll ≠ 0 ∧ b.released = 2)) then s
  else s.modBoot (fun b => { b with
    released := 0, pllRestarts := b.pllRestarts + 1, aon := b.aon && decide (b.pllRestarts < 2),
    cause := bits b.cause 31 16 * 2 ^ 16 + pll * 2 ^ 12 + setBit (b.cause % 2 ^ 12) 7 })
/-- MEMORY_FILL_COMPLETE (R205). -/
def doMemoryFillComplete (s : State) : State :=
  if s.boot.filled ∨ s.boot.released < 5 then s else (s.modBoot (fun b => { b with filled := true })).opEnd 1 0
/-- PERST_N_LOW: the endpoint is reset (R392) with its MSI-X table, its link goes down, and its mailboxes are cleared. -/
def doPerstNLow (s : State) : State :=
  if ¬ s.boot.perstN then s
  else
    let s := (s.modBoot (fun b => { b with perstN := false })).loadBroken
    doPcieLinkDown (((((s.withBusMaster false).withD3hot false).withMsixTable []).withMailboxes []).withMirrorQueue [])
/-- PERST_N_RISE. -/
def doPerstNRise (s : State) : State := s.modBoot (fun b => { b with perstN := true })
/-- DBG_RESET: the Debug class, at level CONTROL. -/
def doDbgReset (s : State) : State := if s.dbgLevel < 2 then doBypass s else s.tapBegin.resetTo .debug 32
/-- RESET of 2100h: state and abort code. -/
def State.softReset (s : State) (v : Nat) : State × Nat :=
  if v = 0x5A01 then (s.resetTo .device 16, 0) else (s, 0x06090030)

/-! ### Pin groups (R393, R477) -/

/-- The output groups of R477 whose pins outlast a command: TDO is driven only inside one. -/
inductive PinGroup where
  | faultN | spi | fumarole | canTx | managementBus | sgmiiRange | sgmiiOutput | pcie | deviceLinks | aphy
  deriving DecidableEq, Repr

/-- What holds the pins of a group: the reset state of R477, the device, or boundary scan. -/
inductive PinHold where
  | reset | device | scan
  deriving DecidableEq, Repr

/-- Groups in the boundary-scan chain: no SerDes, and not FAULT_N (R483). -/
def inScanChain (g : PinGroup) : Bool :=
  match g with
  | .spi | .fumarole | .canTx | .managementBus => true
  | .faultN | .sgmiiRange | .sgmiiOutput | .pcie | .deviceLinks | .aphy => false
/-- A group has left its reset state: its domain is released (R399), FAULT_N is driven high (R333), the trace drives the
pins (R477). -/
def State.pinReleased (s : State) (g : PinGroup) : Bool :=
  match g with
  | .faultN => s.faultN == 0
  | .spi | .canTx | .managementBus => decide (4 ≤ s.boot.released)
  | .fumarole => decide (4 ≤ s.boot.released) && s.reg 0x2D20 1 == 1 && bit (s.reg 0x2D20 2) 0
  | .pcie => decide (6 ≤ s.boot.released) && s.boot.perstN
  | .deviceLinks => decide (6 ≤ s.boot.released)
  | .aphy | .sgmiiRange => decide (7 ≤ s.boot.released)
  | .sgmiiOutput => decide (9 ≤ s.boot.released)
/-- Who holds a group of pins. -/
def State.pinHold (s : State) (g : PinGroup) : PinHold :=
  if inScanChain g ∧ s.reg 0x2D00 6 = 1 then .scan else if s.pinReleased g then .device else .reset

/-! ### Rails (R404) -/

/-- RAIL_SAMPLE: rails in mV, and the highest junction temperature. -/
def doRailSample (mv : List Nat) (temp : Int) (s : State) : State :=
  if s.boot.released < 4 then s
  else
    let s := forEach (List.range 7) s (fun s i => s.setReg 0x2104 (i + 1) (mv.getD i 0))
    let s := s.setReg 0x2104 8 (enc 16 temp)
    s.modBoot (fun b => { b with tempPeak := some (match b.tempPeak with
      | some p => if p < temp then temp else p
      | none => temp) })

/-! ### Calderas: reset and power (R394, R405) -/

/-- A caldera may be reset or switched off: every stream IDLE or ERROR, on, and in no plan that is LOADING or ACTIVE. -/
def State.calderaFree (s : State) (c : Nat) : Bool :=
  (List.range 8).all (fun i => s.streamIdle (8 * c + i)) && s.reg 0x2108 (c + 1) == 1
    && (List.range 8).all (fun p => !(s.planBusy p && bit (s.plan p).calderaMask c))
/-- A range reads zero with valid code. -/
def State.wipeRange (s : State) (a n : Nat) : State :=
  (s.withMem (wipe s.mem a n)).withFlips (s.flips.filter (fun e => decide (e.1 / 36 < a / 16 ∨ (a + n) / 16 ≤ e.1 / 36)))
/-- Objects of a caldera and its skeins return to their defaults. -/
def State.calderaDefaults (s : State) (c : Nat) : State :=
  let mine := fun (ix : Nat) => ix == 0x2280 + c || ix == 0x2320 + c || ix == 0x2360 + c || ix == 0x2D40 + c
    || (inRange ix 0x2240 0x227F && (ix - 0x2240) / 8 == c) || (inRange ix 0x2440 0x247F && (ix - 0x2440) / 8 == c)
  (s.withDict (s.dict.filter (fun e => !mine (e.1 / 256)))).withAccepted (s.accepted.filter (fun e => !mine (e.1 / 256)))
/-- Every content of a caldera is lost (R394). Break flags and a stop that is crossing stay (R450). -/
def State.wipeCaldera (s : State) (c : Nat) : State :=
  let s := forEach ((List.range 8).map (fun i => 8 * c + i)) s (fun s g => s.setSkein g Skein.init)
  let s := forEach ((List.range 32).map (fun i => 32 * c + i)) s (fun s u => s.setSpindle u Spindle.init)
  let s := s.modCaldera c (fun k => { Caldera.init with external := k.external, stopped := k.stopped, stopMark := k.stopMark })
  let s := ((s.wipeRange (spadAt (8 * c) 0) 0x400000).wipeRange (storeBase + c * 0x400000) 0x400000).wipeRange
    (sideBase + c * 0x100000) 0x100000
  s.calderaDefaults c
/-- CALDERA_RESET of 2100h: every caldera of the mask, or none. -/
def State.calderaResetCmd (s : State) (mask : Nat) : State × Nat :=
  let cs := maskList 8 mask
  if cs = [] then (s, 0x06090030)
  else if ¬ cs.all s.calderaFree then (s, 0x08000022)
  else (forEach cs s (fun s c =>
    ((s.wipeCaldera c).modCaldera c (fun k => { k with resetting := true })).setReg 0x2108 (c + 1) 2), 0)
/-- CALDERA_RESET_COMPLETE: the switch is closed; an out-of-service caldera is in service again only after a sweep whose
every element passed. -/
def doCalderaResetComplete (c : Nat) (sweepPassed : Bool) (s : State) : State :=
  if ¬ (s.caldera c).resetting then s
  else
    let s := (s.modCaldera c (fun k => { k with resetting := false })).setReg 0x2108 (c + 1) 1
    if ¬ s.oos c then s
    else if sweepPassed then (s.bump 0x2B30 3).setReg 0x2B00 0x0B (clearBit (s.reg 0x2B00 0x0B) c)
    else ((s.bump 0x2B30 3).bumpSat 0x2B30 4).logPush 0x15 2 (s.calderaPart c) c 0 s.stamp
/-- COMMAND of 2108h: [15:8] caldera, [7:0] off or on. -/
def State.powerCmd (s : State) (v : Nat) : State × Nat :=
  let c := v / 256
  if 7 < c ∨ 1 < v % 256 then (s, 0x06090030)
  else if v % 256 = 0 then
    (if ¬ s.calderaFree c then (s, 0x08000022) else ((s.wipeCaldera c).setReg 0x2108 (c + 1) 0, 0))
  else if s.reg 0x2108 (c + 1) = 2 then (s, 0x08000022)
  else if s.reg 0x2108 (c + 1) = 1 then (s, 0)
  else (s.setReg 0x2108 (c + 1) 2, 0)
/-- CALDERA_POWER_ON_COMPLETE. -/
def doPowerOnComplete (c : Nat) (s : State) : State :=
  if s.reg 0x2108 (c + 1) = 2 ∧ ¬ (s.caldera c).resetting then s.setReg 0x2108 (c + 1) 1 else s

/-! ### The commands -/

/-- POWER_ON (R391). -/
def execPowerOn (s : State) : Host.Outcome State Fault Refusal := .next (doPowerOn s)
/-- BROWN_OUT (R402). -/
def execBrownOut (rail : RailId) (s : State) : Host.Outcome State Fault Refusal := .next (doBrownOut rail.val s)
/-- REFERENCE_CLOCK_FAILURE (R391). -/
def execReferenceClockFailure (s : State) : Host.Outcome State Fault Refusal := .next (doReferenceClockFailure s)
/-- PLL_LOCK_LOST (R391). -/
def execPllLockLost (pll : PllId) (s : State) : Host.Outcome State Fault Refusal := .next (doPllLockLost pll.val s)
/-- RESET_N_LOW (R391). -/
def execResetNLow (s : State) : Host.Outcome State Fault Refusal := .next (doResetNLow s)
/-- RESET_N_RISE (R399). -/
def execResetNRise (s : State) : Host.Outcome State Fault Refusal := .next (doResetNRise s)
/-- WATCHDOG (R391). -/
def execWatchdog (s : State) : Host.Outcome State Fault Refusal := .next (doWatchdog s)
/-- MANAGEMENT_LOCK_UP (R391). -/
def execManagementLockUp (s : State) : Host.Outcome State Fault Refusal := .next (doLockUp s)
/-- PERST_N_LOW (R391). -/
def execPerstNLow (s : State) : Host.Outcome State Fault Refusal := .next (doPerstNLow s)
/-- PERST_N_RISE (R399). -/
def execPerstNRise (s : State) : Host.Outcome State Fault Refusal := .next (doPerstNRise s)
/-- DOMAIN_RELEASE (R399). -/
def execDomainRelease (s : State) : Host.Outcome State Fault Refusal := .next (doDomainRelease s)
/-- PLL_LOCK_TIMEOUT (R399). -/
def execPllLockTimeout (pll : PllId) (s : State) : Host.Outcome State Fault Refusal :=
  .next (doPllLockTimeout pll.val s)
/-- MEMORY_FILL_COMPLETE (R205). -/
def execMemoryFillComplete (s : State) : Host.Outcome State Fault Refusal := .next (doMemoryFillComplete s)
/-- DBG_RESET (R447). -/
def execDbgReset (s : State) : Host.Outcome State Fault Refusal := .next (doDbgReset s)
/-- RAIL_SAMPLE (R404). -/
def execRailSample (mv : List Nat) (temp : Int) (s : State) : Host.Outcome State Fault Refusal :=
  .next (doRailSample mv temp s)
/-- CALDERA_RESET_COMPLETE (R394). -/
def execCalderaResetComplete (c : CalderaId) (sweepPassed : Bool) (s : State) : Host.Outcome State Fault Refusal :=
  .next (doCalderaResetComplete c.val sweepPassed s)
/-- CALDERA_POWER_ON_COMPLETE (R405). -/
def execCalderaPowerOnComplete (c : CalderaId) (s : State) : Host.Outcome State Fault Refusal :=
  .next (doPowerOnComplete c.val s)

end Sys2Proof.Machine
end

