-- ==== Sys2Proof/Machine/Access.lean ====
section
/-! DEFINITION. Access: a read or a write of one subindex by an agent: the checks of R371, the gates of R401 and R457, what
each object asks of a value, and what a write does (R367 to R374, and the object maps of every chapter). -/
namespace Sys2Proof.Machine

/-! ### Agents (R367, R368) -/

def agentNo : Agent → Nat
  | .can0 => 0
  | .can1 => 1
  | .mirror => 2
/-- Key of an agent's own copy of a subindex. -/
def agentKey (a ix sub : Nat) : Nat := 256 * 65536 * a + odKey ix sub
/-- SELECT of an agent. -/
def State.sel (s : State) (a ix : Nat) : Nat := tblGet 0 s.selects (agentKey a ix 1)
/-- The agent's access ends with an abort code, and a value where it was a read. -/
def State.reply (s : State) (a code v : Nat) : State := s.withReplies (tblPut (0, 0) s.replies a (code, v))

/-! ### Values in range (R371 step 6) -/

def queueValueOk (v : Nat) : Bool := decide (v ≤ 16383) || v == 0xFFFF
/-- A COB-ID of a PDO: [31] invalid, [10:0] identifier. -/
def pdoCobOk (v : Nat) : Bool := bits v 30 11 == 0
def transmissionOk (v : Nat) : Bool := inRange v 1 0xF0 || v == 0xFE || v == 0xFF
/-- An event and its unit (R464). -/
def counterEventOk (v : Nat) : Bool :=
  let u := v % 256
  match v / 256 with
  | 0 => u == 0
  | 1 => decide (u < 8)
  | 2 => decide (u < 8)
  | 3 => u == 0
  | 4 => decide (u < 8)
  | 5 => decide (u < 8)
  | 6 => decide (u < 4)
  | 7 => u == 0
  | _ => false
/-- 1000h to 1FFFh (R382). -/
def valueOk1 (ix sub v : Nat) : Bool :=
  if ix = 0x1003 then v == 0
  else if ix = 0x1005 then decide (v < 2048)
  else if inRange ix 0x1400 0x1403 || inRange ix 0x1800 0x1803 then
    (if sub = 1 then pdoCobOk v else if sub = 2 then transmissionOk v else true)
  else if (inRange ix 0x1600 0x1603 || inRange ix 0x1A00 0x1A03) && sub == 0 then decide (v ≤ 16)
  else true
/-- 2100h to 24FFh. -/
def valueOk2 (ix sub v : Nat) : Bool :=
  if ix = 0x2100 then (if sub = 5 then v == 0x5A01 else v != 0)
  else if ix = 0x2102 then sub != 2 || v == 1
  else if ix = 0x2108 then decide (v / 256 < 8 ∧ v % 256 < 2)
  else if ix = 0x2202 then decide (v ≤ 64)
  else if ix = 0x2210 then (if sub = 1 then pageIdOk v else bits v 20 6 == 0)
  else if ix = 0x2220 then queueValueOk v
  else if ix = 0x2230 then (if sub = 1 then decide (v ≤ 1) else inRange v 1000 3600000)
  else if inRange ix 0x2280 0x2287 then v == 1
  else if ix = 0x2290 then decide (v / 256 < 16 ∧ v % 256 < 3)
  else if ix = 0x2300 ∨ ix = 0x2400 ∨ ix = 0x2402 ∨ ix = 0x2502 then decide (v < 8)
  else if ix = 0x2304 then (if sub = 1 then v == 1 || v == 2 else true)
  else if inRange ix 0x2310 0x2317 then (if sub = 1 then decide (v ≤ 1) else if sub = 9 then inRange v 200 20000 else true)
  else if inRange ix 0x2330 0x2337 then queueValueOk v
  else if ix = 0x2410 then
    (if sub = 1 then decide (v ≤ 16383) else if sub = 3 then inRange v 4 20 else if sub = 4 then consumerOk v
     else if sub = 5 then decide (v ≤ 1) else true)
  else if ix = 0x2420 then sub != 1 || decide (v ≤ 131071)
  else if inRange ix 0x2440 0x247F then (if sub = 4 then v % 32 == 0 else inRange v 1 3)
  else if inRange ix 0x2490 0x2497 then sub != 3 || inRange v 1 3
  else true
/-- 2500h to 28FFh. -/
def valueOk3 (ix sub v : Nat) : Bool :=
  if inRange ix 0x2510 0x2519 then (if sub = 1 then inRange v 1 4 else decide (v ≤ 1))
  else if inRange ix 0x2530 0x2533 then
    (if sub = 1 then decide (v < 2 ^ 48) else if sub = 3 then v == 0 || inRange v 0xE0000000 0xEFFFFFFF
     else if sub = 4 then decide (v ≤ 1) else true)
  else if inRange ix 0x2540 0x2567 then
    (match sub with
     | 1 => decide (v ≤ 1)
     | 2 => decide (v ≤ 15)
     | 3 => inRange v 0x2B 0x2E
     | 4 => inRange v 16 4032 && v % 4 == 0
     | 5 => inRange v 16 4032 && v % 4 == 0
     | 6 => decide (v ≤ 1)
     | 9 => decide (1000 ≤ v)
     | 0x0A => v == 0 || inRange v 1000 1000000
     | _ => true)
  else if inRange ix 0x2610 0x2617 ∨ inRange ix 0x2810 0x281F then decide (v ≤ 1)
  else if inRange ix 0x2710 0x273F then decide (ix < 0x2738) && (decide (v ≤ 8) || inRange v 248 255)
  else true
/-- 2900h to 2AFFh. -/
def valueOk4 (ix sub v : Nat) : Bool :=
  if ix = 0x2900 then
    (match sub with
     | 4 => decide ((sgn 32 v).natAbs ≤ 128000000)
     | 6 => decide (v < 1000000000)
     | 7 => decide ((sgn 64 v).natAbs ≤ 1000000000)
     | 8 => inRange v 1 3
     | 9 => inRange v 1 500
     | 0x0B => decide (v ≤ 1)
     | 0x10 => inRange v 1000 1000000000
     | 0x11 => inRange v 10 60000
     | _ => true)
  else if inRange ix 0x2910 0x2915 then
    (match sub with
     | 1 => decide (v ≤ 2)
     | 2 => decide (v ≤ 1)
     | 3 => decide (v ≤ 127)
     | 4 => decide (v ≤ 2)
     | _ => true)
  else if inRange ix 0x2920 0x2929 then
    (match sub with
     | 1 => decide (v < 16)
     | 2 => inRange v 65536000000 65536000000000
     | 7 => inRange v 1 1000
     | _ => true)
  else if ix = 0x2A02 then decide (v < 8)
  else if ix = 0x2A04 ∨ ix = 0x2A05 then
    (match sub with
     | 1 => decide (v < 2 ^ 48)
     | 2 => decide (v < 2 ^ 48)
     | 4 => decide (0x600 ≤ v) && v != 0x800 && v != 0x806 && v != 0x8100 && v != 0x88F7
     | 5 => inRange v 16000 1000000 && v % 4000 == 0
     | 6 => decide (v ≤ 1)
     | _ => true)
  else if inRange ix 0x2A10 0x2A17 then decide (v ≤ 1)
  else true
/-- 2B00h to 2EFFh. -/
def valueOk5 (ix sub v : Nat) : Bool :=
  if ix = 0x2B00 then sub != 4 || queueValueOk v
  else if inRange ix 0x2B08 0x2B0F then (if sub = 4 then v == 1 else decide (v ≤ 1))
  else if inRange ix 0x2B10 0x2B13 then (if sub = 1 then decide (v ≤ 4) else sub != 3 || inRange v 100 10000)
  else if inRange ix 0x2B20 0x2B27 then bits v 126 120 == 0 && bits v 63 17 == 0
  else if ix = 0x2B30 then (if sub = 1 then decide (v ≤ 1) else inRange v 100 60000)
  else if inRange ix 0x2B38 0x2B3F then (if sub = 1 then decide (v ≤ 1) else sub != 3 || decide (v < 2 ^ 40))
  else if ix = 0x2B40 then sub != 3 || v == 1
  else if ix = 0x2C00 then sub != 0x0A || inRange v 1 4
  else if ix = 0x2C10 then sub != 3 || inRange v 1 2
  else if ix = 0x2D10 then (if sub = 1 then inRange v 1 3 else sub != 7 || bits v 24 16 == 0)
  else if ix = 0x2D20 then
    (match sub with
     | 1 => decide (v ≤ 1)
     | 2 => inRange v 1 3
     | 3 => decide (v ≤ 2)
     | 5 => inRange v 16 24
     | 6 => decide (v < 512)
     | _ => true)
  else if ix = 0x2D60 then (if sub = 1 then decide (v ≤ 1) else counterEventOk v)
  else if ix = 0x2E00 then
    (match sub with
     | 1 => inRange v 1 16383
     | 2 => inRange v 1 2
     | 3 => decide (v ≤ 1)
     | _ => queueValueOk v)
  else if inRange ix 0x2E08 0x2E0B then decide (v ≤ 1)
  else if inRange ix 0x2E10 0x2E17 then sub == 3 || decide (v ≤ 16383)
  else if ix = 0x2E30 then queueValueOk v
  else true
/-- The value is listed and in range, and its reserved bits are zero (R12, R13). -/
def valueOk (ix sub v : Nat) : Bool :=
  if ix < 0x2000 then valueOk1 ix sub v
  else if ix < 0x2500 then valueOk2 ix sub v
  else if ix < 0x2900 then (if ix = 0x2502 then decide (v < 8) else valueOk3 ix sub v)
  else if ix < 0x2B00 then valueOk4 ix sub v
  else valueOk5 ix sub v

/-! ### Owning blocks (R372) -/

/-- The owning block of a rw-idle subindex is idle. -/
def State.blockIdle (s : State) (a ix : Nat) : Bool :=
  if ix = 0x2410 then !(s.queue (s.sel a 0x2410)).enabled
  else if inRange ix 0x2440 0x247F then s.streamIdle (ix - 0x2440)
  else if inRange ix 0x2490 0x2497 then s.reg ix 8 != 1
  else if inRange ix 0x2510 0x2519 then (portStreams (ix - 0x2510)).all (fun n => !s.camOn n)
  else if inRange ix 0x2530 0x2533 then !s.macOn (ix - 0x2530)
  else if inRange ix 0x2540 0x2567 then !s.camOn (ix - 0x2540)
  else if inRange ix 0x2910 0x2915 then !s.macOn (ix - 0x2910)
  else if inRange ix 0x2920 0x2929 then s.reg ix 1 == 0
  else if ix = 0x2A04 ∨ ix = 0x2A05 then !s.macOn (ix - 0x2A00)
  else if inRange ix 0x2B08 0x2B0F then !s.planBusy (ix - 0x2B08)
  else if inRange ix 0x2B10 0x2B13 then
    !s.planBusy (s.calderaPart (2 * (ix - 0x2B10))) && !s.planBusy (s.calderaPart (2 * (ix - 0x2B10) + 1))
  else if inRange ix 0x2B20 0x2B27 then !s.planBusy (ix - 0x2B20)
  else if inRange ix 0x2B38 0x2B3F then !s.planBusy (ix - 0x2B38)
  else if ix = 0x2C10 then s.reg 0x2C10 4 != 1
  else if ix = 0x2D20 ∨ ix = 0x2D60 then s.reg ix 1 == 0
  else if ix = 0x2E00 then !s.discovering
  else if inRange ix 0x2E10 0x2E17 then !s.planBusy (ix - 0x2E10)
  else true

/-! ### Gates (R401, R457) and the commit owner (R378) -/

/-- Indices that the mirror reaches before STATE is RUN. -/
def earlyIndex (ix : Nat) : Bool :=
  ix == 0x2000 || ix == 0x2100 || ix == 0x2101 || ix == 0x2102 || ix == 0x2104 || ix == 0x2C00 || ix == 0x2C10
    || inRange ix 0x2F00 0x2F07
/-- The dictionary serves the index to the agent now. -/
def State.served (s : State) (a ix sub : Nat) : Bool :=
  (s.reg 0x2100 1 == 2 || (a == 2 && decide (6 ≤ s.boot.released) && earlyIndex ix))
    && ((ix != 0x2D20 && ix != 0x2D60) || sub == 0 || s.reg 0x2D00 3 == 1 || s.boot.lifecycle == 1)
/-- The agent is barred by the commit owner. -/
def State.barred (s : State) (a ix sub : Nat) : Bool :=
  s.reg 0x2304 7 != 0 && s.reg 0x2304 7 != a + 1 && (isShadow ix sub || (ix == 0x2304 && (sub == 1 || sub == 7)))
/-- Steps 1 to 6 of R371, then the gates: an abort code, 0 where the write may go on. -/
def State.writeCheck (s : State) (a ix sub len v : Nat) : Nat :=
  if ¬ odHasIndex ix then 0x06020000
  else match odFind ix sub with
    | none => 0x06090011
    | some e =>
      if e.acc = .const ∨ e.acc = .ro then 0x06010002
      else if len ≠ e.bytes then 0x06070010
      else if s.barred a ix sub then 0x08000021
      else if e.acc = .rwIdle ∧ ¬ s.blockIdle a ix then 0x08000022
      else if ¬ valueOk ix sub v then 0x06090030
      else if ix = 0x2304 ∧ sub = 7 ∧ v ≠ 0 ∧ v ≠ a + 1 then 0x06090030
      else if ¬ s.served a ix sub then 0x08000022
      else 0
/-- Steps 1 and 2 for a read, then the gates. -/
def State.readCheck (s : State) (a ix sub : Nat) : Nat :=
  if ¬ odHasIndex ix then 0x06020000
  else match odFind ix sub with
    | none => 0x06090011
    | some e => if e.acc = .wo then 0x06010001 else if ¬ s.served a ix sub then 0x08000022 else 0

/-! ### What a write does (R371 step 7) -/

/-- A plain store. -/
def State.store (s : State) (ix sub v : Nat) : State × Nat := (s.setReg ix sub v, 0)
/-- A store refused in the present state. -/
def State.storeIf (s : State) (ok : Bool) (ix sub v : Nat) : State × Nat :=
  if ok then s.store ix sub v else (s, 0x08000022)
/-- Object that a PDO may map: TPDO ro, rw or const; RPDO rw and no shadow; up to 8 bytes (R383). -/
def mappable (tpdo : Bool) (ix sub : Nat) : Bool :=
  match odFind ix sub with
  | none => false
  | some e => decide (e.bytes ≤ 8) && (e.acc == .rw && (tpdo || !isShadow ix sub) || (tpdo && (e.acc == .ro || e.acc == .const)))
/-- A mapping entry as index, subindex, bits. -/
def mapIndex (m : Nat) : Nat := m / 65536
def mapSub (m : Nat) : Nat := m / 256 % 256
/-- Check of the entries of a mapping object up to a count: an abort code. -/
def State.mappingCheck (s : State) (ix n : Nat) : Nat :=
  let es := (List.range n).map (fun i => s.reg ix (i + 1))
  if es.any (fun m => !mappable (decide (0x1A00 ≤ ix)) (mapIndex m) (mapSub m)
      || m % 256 != 8 * odBytes (mapIndex m) (mapSub m)) then 0x06040041
  else if 64 < (es.map (fun m => odBytes (mapIndex m) (mapSub m))).sum then 0x06040042
  else 0
/-- Communication profile (R382, R383). -/
def State.applyComm (s : State) (ix sub v : Nat) : State × Nat :=
  if ix = 0x1003 then (forEach (List.range 9) s (fun s i => s.setReg 0x1003 i 0), 0)
  else if inRange ix 0x1600 0x1603 || inRange ix 0x1A00 0x1A03 then
    (if sub = 0 then
      (if s.mappingCheck ix v ≠ 0 then (s, s.mappingCheck ix v) else s.store ix 0 v)
     else s.storeIf (s.reg ix 0 == 0 && bit (s.reg (ix - 0x200) 1) 31) ix sub v)
  else s.store ix sub v
/-- 2100h, 2108h (R394, R395, R405). 2102h PROGRAM carries what the flash gave back: OPTION_PROGRAM. -/
def State.applyReset (s : State) (readBack : Bool) (ix sub v : Nat) : State × Nat :=
  if ix = 0x2100 then (if sub = 5 then s.softReset v else s.calderaResetCmd v)
  else if ix = 0x2108 then s.powerCmd v
  else if ix = 0x2102 ∧ sub = 2 then s.optionProgram readBack
  else s.store ix sub v
/-- The queue condition of R484 holds, or there is none. -/
def State.queueCond (s : State) (ix sub v : Nat) : Bool := v == 0xFFFF || (s.queueNameOk ix sub v).getD true
/-- 2202h to 2290h. -/
def State.applyMemory (s : State) (a ix sub v : Nat) : State × Nat :=
  if ix = 0x2210 then
    (if sub = 1 then ((s.withSelects (tblPut 0 s.selects (agentKey a 0x2210 1) v)), 0)
     else
       let id := s.sel a 0x2210
       ((s.withXlatShadow (tblPut (xlatReset id) s.xlatShadow id v)), 0))
  else if ix = 0x2220 then s.storeIf (s.queueCond ix sub v) ix sub v
  else if ix = 0x2230 then
    s.storeIf (sub != 1 || (if v = 1 then s.reg 0x2203 1 != 0 else !s.lock 1)) ix sub v
  else if inRange ix 0x2280 0x2287 then (s.wcFlush (ix - 0x2280), 0)
  else if ix = 0x2290 then s.bankCommand (v / 256) (v % 256)
  else s.store ix sub v
/-- OWNER and COMMAND of 2304h (R376, R378). -/
def State.applyCommit (s : State) (sub v : Nat) : State × Nat :=
  if sub = 7 then s.store 0x2304 7 v else if v = 1 then s.commit else (s.discardShadows, 0)
/-- 2410h and 2420h (R117, R118). -/
def State.applyQueue (s : State) (a ix sub v : Nat) : State × Nat :=
  if sub = 1 then ((s.withSelects (tblPut 0 s.selects (agentKey a ix 1) v)), 0)
  else if ix = 0x2420 then ((if sub = 2 then s.outerSet (s.sel a ix) v else s.outerAdd (s.sel a ix) v), 0)
  else
    let q := s.sel a ix
    if sub = 2 then (s.modQueue q (fun k => { k with ringBase := v }), 0)
    else if sub = 3 then (s.modQueue q (fun k => { k with log2 := v }), 0)
    else if sub = 4 then (s.modQueue q (fun k => { k with consumer := v }), 0)
    else if v = 1 then s.queueEnable q
    else (s.queueDisable q, 0)
/-- 2300h to 2497h. -/
def State.applyStreams (s : State) (a ix sub v : Nat) : State × Nat :=
  if ix = 0x2304 then s.applyCommit sub v
  else if inRange ix 0x2330 0x2337 then s.storeIf (s.queueCond ix sub v) ix sub v
  else if ix = 0x2410 ∨ ix = 0x2420 then s.applyQueue a ix sub v
  else if inRange ix 0x2440 0x247F then
    (if sub = 4 then ((s.setReg ix 4 v).setReg ix 0x0A 0, 0) else s.writeControl (ix - 0x2440) v)
  else if inRange ix 0x2490 0x2497 ∧ sub = 3 then
    (if v = 1 then s.planLoad (ix - 0x2490) else if v = 2 then s.activate (ix - 0x2490) else s.unload (ix - 0x2490))
  else s.store ix sub v
/-- 2510h to 281Fh. -/
def State.applySensors (s : State) (ix sub v : Nat) : State × Nat :=
  if inRange ix 0x2540 0x2567 then
    let n := ix - 0x2540
    (if sub = 1 then (if v = 1 then s.cameraEnable n else (s.cameraDisable n, 0))
     else s.storeIf (sub != 8 || decide (v < 2 ^ rawBits (s.reg ix 3))) ix sub v)
  else if inRange ix 0x2530 0x2533 ∧ sub = 4 then s.storeIf (!s.macRefused (ix - 0x2530) v) ix sub v
  else if inRange ix 0x2610 0x2617 then s.decoderEnable (ix - 0x2610) v
  else if inRange ix 0x2810 0x281F then s.blockEnable (ix - 0x2810) v
  else s.store ix sub v
/-- 2900h to 2929h. -/
def State.applyTime (s : State) (ix sub v : Nat) : State × Nat :=
  if ix = 0x2900 then
    (if sub = 8 then s.timeControl v
     else if sub = 0x0B then s.sourceWrite v
     else s.storeIf (sub != 4 || s.reg 0x2900 0x0B != 1) ix sub v)
  else if inRange ix 0x2910 0x2915 then
    s.storeIf (if sub = 1 then v != 2 || (s.reg ix 3 == 0 && s.reg ix 4 == 0)
      else if sub = 3 ∨ sub = 4 then s.reg ix 1 != 2 || v == 0 else true) ix sub v
  else
    s.storeIf (if inRange sub 3 6 then decide (v * 65536 < s.reg ix 2)
      else sub != 7 || decide (v * 1000 * 65536 < s.reg ix 2)) ix sub v
/-- 2A01h to 2A17h. -/
def State.applyLaunch (s : State) (ix sub v : Nat) : State × Nat :=
  if ix = 0x2A01 then (s.speedWrite v, 0)
  else if inRange ix 0x2A10 0x2A17 then
    (if v = 1 then s.launchEnable (ix - 0x2A10) else (s.launchDisable (ix - 0x2A10), 0))
  else s.storeIf ((ix != 0x2A04 && ix != 0x2A05) || sub != 6 || !s.macRefused (ix - 0x2A00) v) ix sub v
/-- Settings of a geyser keep their rules (R364). -/
def State.geyserOk (s : State) (p : Nat) : Bool :=
  let r := s.reg (0x2B38 + p)
  (List.range 40).all (fun n => !bit (r 3) n || s.streamPart n == p)
    && decide (r 4 ≤ 16383) && s.queuePart (r 4) == p && decide ((s.queue (r 4)).consumer < 64)
    && r 5 % 32 == 0 && r 0x0D % 32 == 0 && s.pagesOk p true (r 5) (Nat.max 1 (r 0x0D))
/-- 2B00h to 2B40h. -/
def State.applySafety (s : State) (ix sub v : Nat) : State × Nat :=
  if ix = 0x2B00 then s.storeIf (sub != 4 || s.queueCond ix sub v) ix sub v
  else if inRange ix 0x2B08 0x2B0F ∧ sub = 4 then
    (if s.partState (ix - 0x2B08) = 2 then (s.modPart (ix - 0x2B08) (fun k => { k with acked := true }), 0)
     else (s, 0x08000022))
  else if inRange ix 0x2B20 0x2B27 then
    s.storeIf (s.syncPart (bits v 16 0) == ix - 0x2B20 && decide (bits v 95 64 < s.reg (0x2310 + (ix - 0x2B20)) 4)) ix sub v
  else if ix = 0x2B30 ∧ sub = 1 then
    s.storeIf (v == 1 || (!s.lock 0
      && !(List.range 8).any (fun p => s.reg (0x2B08 + p) 2 == 1 && s.reg (0x2490 + p) 8 == 3))) ix sub v
  else if inRange ix 0x2B38 0x2B3F then
    let p := ix - 0x2B38
    s.storeIf (match sub with
      | 1 => v == 0 || s.geyserOk p
      | 2 => decide (v < s.reg (0x2310 + p) 4)
      | 7 => decide (s.reg ix 6 ≤ v)
      | _ => true) ix sub v
  else if ix = 0x2B40 ∧ sub = 3 then ((s.install (s.reg 0x2B40 1) (s.reg 0x2B40 2)).1, 0)
  else s.store ix sub v
/-- 2C00h and 2C10h (R411, R419). -/
def State.applySecurity (s : State) (ix sub v : Nat) : State × Nat :=
  if ix = 0x2C00 ∧ sub = 8 then ((s.setReg 0x2C00 8 v).modBoot (fun b => { b with nonceFresh := true }), 0)
  else if ix = 0x2C00 ∧ sub = 0x0A then
    (if v = 1 then s.attest else if v = 2 then s.exportId else if v = 3 then s.svnCommit else s.loadPatternKey)
  else if ix = 0x2C10 ∧ sub = 3 then (if v = 1 then s.firmwareLoad else s.firmwareProgram)
  else s.store ix sub v
/-- The trace ring keeps sub 04 of R461, where SINK names it. -/
def State.traceRingOk (s : State) : Bool :=
  !bit (s.reg 0x2D20 2) 1 || (s.reg 0x2D20 4 % 32 == 0 && s.pagesOk 0 true (s.reg 0x2D20 4) (16 * 2 ^ s.reg 0x2D20 5))
/-- 2D10h to 2D60h (R455, R461, R464). -/
def State.applyDebug (s : State) (ix sub v : Nat) : State × Nat :=
  if ix = 0x2D10 then
    (if sub = 1 then (if v = 1 then s.globalStopCmd else if v = 2 then s.partitionStopCmd else s.releaseCmd)
     else s.storeIf (sub != 7 || !bit v 31 || !s.lock 2) ix sub v)
  else if ix = 0x2D20 ∧ sub = 1 then
    (if v = 0 ∨ s.reg 0x2D20 1 = 1 then s.store ix 1 v
     else if s.traceRingOk then (((s.setReg ix 1 1).setReg ix 8 0).setReg ix 0x0B 0, 0)
     else (s, 0x08000022))
  else if ix = 0x2D60 ∧ sub = 1 then
    ((if v = 1 then forEach (List.range 8) (s.setReg ix 1 1) (fun s k => s.setReg 0x2D60 (k + 0x0A) 0) else s.setReg ix 1 0), 0)
  else s.store ix sub v
/-- 2E00h to 2E30h (R432, R439, R440, R445). -/
def State.applyLinks (s : State) (ix sub v : Nat) : State × Nat :=
  if ix = 0x2E00 ∧ sub = 2 then ((if v = 1 then s.nextRun else s.retrain), 0)
  else if ix = 0x2E00 then
    s.storeIf (if sub = 1 then field s.options 4 2 % 16384 == 0 else sub != 0x0E || s.queueCond ix sub v) ix sub v
  else if inRange ix 0x2E08 0x2E0B then (s.linkEnable (ix - 0x2E08) v, 0)
  else if ix = 0x2E30 then s.storeIf (s.queueCond ix sub v) ix sub v
  else s.storeIf (sub != 2 || decide (s.reg ix 1 ≤ v)) ix sub v
/-- The effect of a write that the checks let through: the state and an abort code. -/
def State.applyWrite (s : State) (readBack : Bool) (a ix sub v : Nat) : State × Nat :=
  if ix < 0x2000 then s.applyComm ix sub v
  else if ix < 0x2200 then s.applyReset readBack ix sub v
  else if ix < 0x2300 then s.applyMemory a ix sub v
  else if ix < 0x2500 then s.applyStreams a ix sub v
  else if ix < 0x2900 then s.applySensors ix sub v
  else if ix < 0x2A00 then s.applyTime ix sub v
  else if ix < 0x2B00 then s.applyLaunch ix sub v
  else if ix < 0x2C00 then s.applySafety ix sub v
  else if ix < 0x2D00 then s.applySecurity ix sub v
  else if ix < 0x2E00 then s.applyDebug ix sub v
  else s.applyLinks ix sub v
/-- A write of a subindex by an agent (R371): its abort code is the agent's reply. -/
def State.odWriteWith (s : State) (readBack : Bool) (a ix sub len v : Nat) : State :=
  if s.writeCheck a ix sub len v ≠ 0 then s.reply a (s.writeCheck a ix sub len v) 0
  else
    let r := s.applyWrite readBack a ix sub v
    r.1.reply a r.2 0
/-- REGISTER_WRITE; whether an option slot reads back as written is the slot's own (OPTION_PROGRAM gives it). -/
def State.odWrite (s : State) (a : Agent) (ix sub len v : Nat) : State :=
  if ix = 0x2102 ∧ sub = 2 then
    let f := s.free
    f.2.odWriteWith (f.1 % 2 == 0) (agentNo a) ix sub len v
  else s.odWriteWith true (agentNo a) ix sub len v

/-! ### What a read returns -/

/-- ISO 646 characters as a little-endian value. -/
def textValue (t : List Nat) : Nat := t.foldr (fun c n => c + 256 * n) 0
/-- PERCENT of a long operation (R387, R444). -/
def State.percent (s : State) (k : Nat) : Nat :=
  let r := s.reg (0x2F00 + k)
  let pos := if k = 3 then s.reg 0x2230 6 else r 4
  if r 2 = 2 then 100
  else if k = 6 ∧ r 5 = 0 then (if r 2 = 1 then Nat.min 99 (s.sinceStamp (r 7) / 20000000) else 0)
  else if r 5 = 0 then 0
  else Nat.min 99 (100 * pos / r 5)
/-- Values of 1000h to 21FFh that are not stored registers. -/
def State.readIdentity (s : State) (ix sub : Nat) : Option Nat :=
  if ix = 0x1001 then some s.errorRegister
  else if ix = 0x1008 then some (textValue [0x4C, 0x50, 0x52, 0x2D, 0x42, 0x39, 0x36, 0x30])
  else if ix = 0x1009 then some (textValue [0x41, 0x30])
  else if ix = 0x1014 then some (0x80 + s.canNode)
  else if ix = 0x1018 ∧ sub = 1 then some Config.vendorId
  else if ix = 0x1018 ∧ sub = 4 then some Config.serial
  else if ix = 0x2100 then
    (match sub with
     | 2 => some s.boot.cause
     | 3 => some s.boot.resets
     | 8 => some s.boot.lastStamp
     | _ => none)
  else if ix = 0x2101 then
    (match sub with
     | 1 => some (s.boot.slotInForce.getD 0xFF)
     | 2 => some (leNat (s.optionBytes.take 32))
     | 3 => some (leNat (s.optionBytes.drop 32))
     | _ => none)
  else if ix = 0x2102 ∧ sub = 4 then some (4 - s.boot.slots.length)
  else if ix = 0x2104 ∧ sub = 9 then some (enc 16 (s.boot.tempPeak.getD 0))
  else none
/-- Values of 2200h to 24FFh that are not stored registers. -/
def State.readStreams (s : State) (a ix sub : Nat) : Option Nat :=
  if ix = 0x2210 then
    let id := s.sel a 0x2210
    (match sub with
     | 1 => some id
     | 2 => some (s.entryShadow id)
     | 3 => some (s.entry id)
     | 4 => some (s.superseded (some id))
     | 5 => some (s.superseded none)
     | _ => none)
  else if inRange ix 0x2240 0x227F ∧ inRange sub 1 16 then some (windowWord (s.window (ix - 0x2240) (sub - 1)))
  else if inRange ix 0x2280 0x2287 ∧ sub = 7 then some (s.caldera (ix - 0x2280)).lines.length
  else if ix = 0x2304 ∧ sub = 4 then some (b2n s.shadowsPending)
  else if inRange ix 0x2310 0x2317 ∧ sub = 0x0B then some (s.treadleRate (ix - 0x2310))
  else if inRange ix 0x2320 0x2327 ∧ sub = 3 then some (s.gateState (ix - 0x2320))
  else if inRange ix 0x2360 0x2367 ∧ sub ≠ 0 then some (s.spindleWord (32 * (ix - 0x2360) + sub - 1))
  else if ix = 0x2410 then
    let k := s.queue (s.sel a ix)
    (match sub with
     | 1 => some (s.sel a ix)
     | 2 => some k.ringBase
     | 3 => some k.log2
     | 4 => some k.consumer
     | 5 => some (b2n k.enabled)
     | 6 => some k.count
     | 7 => some k.head
     | 8 => some k.tail
     | 9 => some k.fullRefusals
     | _ => none)
  else if ix = 0x2420 then (if sub = 1 then some (s.sel a ix) else if sub = 2 then some (s.sync (s.sel a ix)) else none)
  else if inRange ix 0x2440 0x247F ∧ sub = 0x0B then
    some ((s.skein (ix - 0x2440)).flights.filter (fun f => opOf f.word ≠ 3)).length
  else none
/-- Values of 2700h to 2FFFh that are not stored registers. -/
def State.readRest (s : State) (a ix sub : Nat) : Option Nat :=
  if inRange ix 0x2738 0x273F then
    (if sub = 1 then some (if s.chain (ix - 0x2710) = [] then 0 else if s.decOn (ix - 0x2738) then 2 else 1)
     else if inRange sub 3 0x0D then some 0 else none)
  else if ix = 0x2800 ∧ sub = 5 then some ((s.engines.map (fun e => 2 ^ e.1)).sum)
  else if ix = 0x2900 then
    (match sub with
     | 1 => some s.time.seconds
     | 2 => some (tblGet 0 s.latches (agentKey a 0x2900 2))
     | 3 => some (tblGet 0 s.latches (agentKey a 0x2900 3))
     | 0x0A => some s.slewLeftNs
     | 0x12 => some s.holdoverMs
     | _ => none)
  else if ix = 0x2A01 ∧ sub = 3 then some s.speedAge
  else if inRange ix 0x2A10 0x2A17 ∧ sub = 4 then some (s.launch (ix - 0x2A10)).calendar.length
  else if ix = 0x2B00 then
    (if sub = 1 then some s.faultN
     else if sub = 2 then some ((List.range 8).foldl (fun n p => n + b2n (s.partState p != 0) * 2 ^ p) 0) else none)
  else if ix = 0x2C00 then
    (match sub with
     | 1 => some s.boot.lifecycle
     | 2 => some (leNat Config.rootKeyHash)
     | 4 => some s.boot.fuses
     | 5 => some s.boot.log.length
     | _ => none)
  else if ix = 0x2D00 ∧ sub = 1 then some s.dbgLevel
  else if ix = 0x2D00 ∧ sub = 2 then some s.breakWord
  else if inRange ix 0x2F00 0x2F07 then
    let k := ix - 0x2F00
    (match sub with
     | 3 => some (match tblGet 0 s.latches (agentKey a ix 3) with
       | 0 => s.percent k
       | v + 1 => v)
     | 4 => some (if k = 3 then s.reg 0x2230 6 else s.reg ix 4)
     | 5 => some (match tblGet 0 s.latches (agentKey a ix 5) with
       | 0 => s.reg ix 5
       | v + 1 => v)
     | _ => none)
  else none
/-- The value of a subindex as an agent reads it. -/
def State.odValue (s : State) (a ix sub : Nat) : Nat :=
  ((if ix < 0x2200 then s.readIdentity ix sub else if ix < 0x2500 then s.readStreams a ix sub else s.readRest a ix sub).getD
    (s.reg ix sub)) % 256 ^ odBytes ix sub
/-- What a read leaves behind: latches (R368), and the progress that a fill in progress has made by now. -/
def State.readLatch (s : State) (a ix sub : Nat) : State :=
  let put := fun (s : State) (i j v : Nat) => (s.withLatches (tblPut 0 s.latches (agentKey a i j) v))
  if ix = 0x2900 ∧ sub = 1 then put (put s 0x2900 2 s.time.nanos) 0x2900 3 (s.time.frac / 2 ^ 32)
  else if inRange ix 0x2F00 0x2F07 ∧ sub = 4 then put (put s ix 3 (s.percent (ix - 0x2F00) + 1)) ix 5 (s.reg ix 5 + 1)
  else s
/-- Bytes that a fill in progress has written by now: not stated, never falling, short of TOTAL (R386, R387). -/
def State.fillProgress (s : State) (ix : Nat) : State :=
  if (ix = 0x2F01 ∨ ix = 0x2F02) ∧ s.reg ix 2 = 1 ∧ s.reg ix 4 < s.reg ix 5 then
    let f := s.free
    f.2.setReg ix 4 (s.reg ix 4 + f.1 % (s.reg ix 5 - s.reg ix 4))
  else s
/-- A read of a subindex by an agent: the agent's reply is the abort code and the value. -/
def State.odRead (s : State) (a : Agent) (ix sub : Nat) : State × Nat × Nat :=
  let n := agentNo a
  let c := s.readCheck n ix sub
  if c ≠ 0 then (s.reply n c 0, c, 0)
  else
    let s := s.fillProgress ix
    let v := s.odValue n ix sub
    ((s.readLatch n ix sub).reply n 0 v, 0, v)

end Sys2Proof.Machine
end

