-- ==== Sys2Proof/Machine/Control.lean ====
section
/-! DEFINITION. Control: the commands that agents give through the dictionary, the mirror's mailboxes (R384, R385) and the
CAN FD controllers (R379 to R383). -/
namespace Sys2Proof.Machine

/-! ### Mailboxes (R384, R385) -/

/-- Bytes that a host write carries. -/
def mailboxBytes (w : MailboxWrite) : Nat :=
  match w with
  | .request _ | .length _ => 4
  | .requestLength _ _ => 8
  | .data _ width _ | .readOnly width => width
/-- `width` bytes of a little-endian value from byte `offset` on are replaced. -/
def spliceBytes (old offset width v : Nat) : Nat :=
  let lo := 256 ^ offset
  let hi := 256 ^ (offset + width)
  old % lo + v % 256 ^ width * lo + old / hi * hi
/-- REQUEST is written: the request starts, and the mailbox waits for the arbiter. -/
def State.mailboxStart (s : State) (i : Nat) (m : Mailbox) (word : Nat) : State :=
  let s := s.setMailbox i { m with request := word, busy := true, done := false, aborted := false, abort := 0 }
  s.withMirrorQueue (s.mirrorQueue ++ [i])
/-- A host write into mailbox i: one that is busy keeps what it has and sets OVERRUN. -/
def doMailboxRequest (i : Nat) (w : MailboxWrite) (s : State) : State :=
  if ¬ s.pcieUp ∨ s.boot.released < 6 then s
  else
    let m := s.mailbox i
    let s := s.bumpBy 0x2E30 0x0B (mailboxBytes w)
    let busy := s.setMailbox i { m with overrun := true }
    match w with
    | .request r => if m.busy then busy else s.mailboxStart i m r
    | .requestLength r n => if m.busy then busy else s.mailboxStart i { m with length := n } r
    | .length n => if m.busy then busy else s.setMailbox i { m with length := n }
    | .data o n v => if m.busy then busy else s.setMailbox i { m with data := spliceBytes m.data o n v }
    | .readOnly _ => s
/-- The access that a mailbox asks for: the state, the mailbox as it is filled, and its abort code. -/
def State.mailboxAccess (s : State) (m : Mailbox) : State × Mailbox × Nat :=
  let ix := m.request / 65536
  let sub := m.request / 256 % 256
  if m.request % 4 = 1 then
    let r := s.odRead .mirror ix sub
    (r.1, if r.2.1 = 0 then { m with length := odBytes ix sub, data := r.2.2 } else m, r.2.1)
  else if m.request % 4 = 2 then
    let t := s.odWrite .mirror ix sub m.length (m.data % 256 ^ Nat.min 32 m.length)
    (t, m, (tblGet (0, 0) t.replies 2).1)
  else (s, m, 0x05040001)
/-- MAILBOX_COMPLETE: the arbiter takes the mirror's oldest request and completes it. -/
def doMailboxComplete (s : State) : State :=
  match s.mirrorQueue with
  | [] => s
  | i :: rest =>
    let r := (s.withMirrorQueue rest).mailboxAccess (s.mailbox i)
    if (r.1.mailbox i).busy then
      let m := r.2.1
      let s := r.1.setMailbox i
        { m with busy := false, done := true, aborted := decide (r.2.2 ≠ 0), abort := r.2.2, overrun := (r.1.mailbox i).overrun }
      if bit m.request 7 then s.msix 0 else s
    else r.1

/-! ### NMT, boot-up and heartbeat (R380, R381) -/

def agentOf (c : Nat) : Agent := if c = 0 then .can0 else .can1
/-- The controller takes part on its bus. -/
def State.canLive (s : State) (c : Nat) : Bool := (s.can c).nmt != .off && !(s.can c).busOff
/-- OWNER returns to none where the agent holds it (R378). -/
def State.dropOwner (s : State) (a : Nat) : State := if s.reg 0x2304 7 = a + 1 then s.setReg 0x2304 7 0 else s
/-- Objects 1000h to 1FFFh take their defaults (R381); what was set at load or at manufacture stays. -/
def State.commDefaults (s : State) : State :=
  let keep := fun (k : Nat) => decide (0x2000 ≤ k / 256) || (odFind (k / 256) (k % 256)).any (fun e => e.acc == .const)
  (s.withDict (s.dict.filter (fun e => keep e.1))).cobIds
/-- An NMT command other than a reset. -/
def doNmt (c : Nat) (state : Nmt) (s : State) : State :=
  if s.canLive c then s.modCan c (fun k => { k with nmt := state }) else s
/-- Reset node and reset communication. -/
def doNmtReset (c : Nat) (s : State) : State :=
  if ¬ s.canLive c then s
  else
    let s := (s.commDefaults.dropOwner c).modCan c (fun _ => { Can.init with nmt := .preOperational })
    s.emit (.bootUp c)
/-- HEARTBEAT: every 1017h ms. -/
def doHeartbeat (c : Nat) (s : State) : State :=
  if ¬ s.canLive c ∨ s.reg 0x1017 0 = 0 then s
  else s.emit (.heartbeat c (match (s.can c).nmt with
    | .operational => 5
    | .stopped => 4
    | _ => 127))
/-- BUS_OFF: counted; the owner loses OWNER (R378). ISO 11898-1 gives a transmit error counter above 255 (PRESUMED). -/
def doBusOff (c : Nat) (s : State) : State :=
  if ¬ s.canLive c then s
  else
    let f := s.free
    let s := (f.2.modCan c (fun k => { k with busOff := true, segment := none, waiting := [] })).dropOwner c
    (s.bumpSat 0x2D38 (5 * c + 3)).setReg 0x2D38 (5 * c + 1) (256 + f.1 % 8)
/-- BUS_OFF_RECOVERY: after 128 occurrences of 11 recessive bits; ISO 11898-1 clears both error counters (PRESUMED). -/
def doBusOffRecovery (c : Nat) (s : State) : State :=
  if (s.can c).busOff then
    ((s.modCan c (fun k => { k with busOff := false })).setReg 0x2D38 (5 * c + 1) 0).setReg 0x2D38 (5 * c + 2) 0
  else s

/-! ### USDO (R374, R380) -/

/-- USDO is served: Pre-operational or Operational. -/
def State.usdoServed (s : State) (c : Nat) : Bool := s.canEnabled c
def State.usdoAnswer (s : State) (c code len v : Nat) : State := s.emit (.usdo c code len v)
def State.setSegment (s : State) (c : Nat) (x : Option (Nat × Nat × Nat × Bool × List Byte)) : State :=
  s.modCan c (fun k => { k with segment := x })
/-- A write through a controller, answered with its abort code. -/
def State.usdoWrite (s : State) (c ix sub len v : Nat) : State :=
  let t := s.odWrite (agentOf c) ix sub len v
  t.usdoAnswer c (tblGet (0, 0) t.replies c).1 0 0
/-- One segment of the transfer in progress; the last one makes the write. -/
def State.usdoSegment (s : State) (c : Nat) (toggle : Bool) (bytes : List Byte) : State :=
  match (s.can c).segment with
  | none => s.usdoAnswer c 0x05040001 0 0
  | some (ix, sub, len, next, got) =>
    let all := got ++ bytes
    if toggle ≠ next then (s.setSegment c none).usdoAnswer c 0x05030000 0 0
    else if len < all.length then (s.setSegment c none).usdoAnswer c 0x06070010 0 0
    else if all.length = len then (s.setSegment c none).usdoWrite c ix sub len (leNat all)
    else (s.setSegment c (some (ix, sub, len, !next, all))).usdoAnswer c 0 0 0
/-- USDO_REQUEST: one message. A new request ends a segmented transfer in progress. -/
def doUsdoRequest (c : Nat) (m : UsdoMessage) (s : State) : State :=
  if ¬ s.usdoServed c then s
  else match m with
    | .read ix sub =>
      let r := (s.setSegment c none).odRead (agentOf c) ix sub
      r.1.usdoAnswer c r.2.1 (if r.2.1 = 0 then odBytes ix sub else 0) r.2.2
    | .write ix sub len v => (s.setSegment c none).usdoWrite c ix sub len v
    | .writeStart ix sub len => (s.setSegment c (some (ix, sub, len, false, []))).usdoAnswer c 0 0 0
    | .segment toggle bytes => s.usdoSegment c toggle bytes
    | .unsupported => s.usdoAnswer c 0x05040001 0 0
/-- USDO_TIMEOUT: no segment for 1,000 ms. -/
def doUsdoTimeout (c : Nat) (s : State) : State :=
  if (s.can c).segment = none ∨ ¬ s.usdoServed c then s else (s.setSegment c none).usdoAnswer c 0x05040000 0 0

/-! ### PDOs (R382, R383) -/

def State.pdoValid (s : State) (ix : Nat) : Bool := !bit (s.reg ix 1) 31 && s.reg (ix + 0x200) 0 != 0
/-- Mapped entries of a PDO. -/
def State.pdoMap (s : State) (ix : Nat) : List Nat := (List.range (s.reg (ix + 0x200) 0)).map (fun i => s.reg (ix + 0x200) (i + 1))
/-- The entries of an RPDO written one after the other: none where one of them is refused, or the data are too short. -/
def State.rpdoWrite (c : Nat) : List Nat → List Byte → State → Option State
  | [], _, s => some s
  | m :: r, data, s =>
    let n := odBytes (mapIndex m) (mapSub m)
    if data.length < n then none
    else
      let t := s.odWrite (agentOf c) (mapIndex m) (mapSub m) n (leNat (data.take n))
      if (tblGet (0, 0) t.replies c).1 ≠ 0 then none else State.rpdoWrite c r (data.drop n) t
/-- An RPDO is applied: all its entries or none; a refusal is counted (R463). -/
def State.rpdoApply (s : State) (c n : Nat) (data : List Byte) : State :=
  match State.rpdoWrite c (s.pdoMap (0x1400 + n)) data s with
  | some t => t
  | none => s.bumpSat 0x2D38 (5 * c + 4)
/-- RPDO_RECEIVED: applied at once, or kept for the next SYNC. -/
def doRpdoReceived (c cob : Nat) (data : List Byte) (s : State) : State :=
  if (s.can c).nmt ≠ .operational ∨ (s.can c).busOff then s
  else
    forEach ((List.range 4).filter (fun n => s.pdoValid (0x1400 + n) && s.reg (0x1400 + n) 1 % 2048 == cob)) s (fun s n =>
      if inRange (s.reg (0x1400 + n) 2) 1 0xF0 then
        s.modCan c (fun k => { k with waiting := k.waiting.filter (fun x => x.1 ≠ n) ++ [(n, data)] })
      else s.rpdoApply c n data)
/-- One entry of a TPDO; what an agent may not read now has no stated value. -/
def State.tpdoEntry (s : State) (c m : Nat) : State × List Byte :=
  let ix := mapIndex m
  let sub := mapSub m
  if s.readCheck c ix sub ≠ 0 then
    let f := s.free
    (f.2, leBytes (odBytes ix sub) f.1)
  else
    let s := s.fillProgress ix
    (s.readLatch c ix sub, leBytes (odBytes ix sub) (s.odValue c ix sub))
/-- A TPDO is sampled and sent. -/
def State.tpdoSend (s : State) (c n : Nat) : State :=
  let r := (s.pdoMap (0x1800 + n)).foldl (fun (x : State × List Byte) m =>
    let e := x.1.tpdoEntry c m
    (e.1, x.2 ++ e.2)) (s, [])
  r.1.emit (.tpdo c n r.2)
/-- SYNC_RECEIVED: RPDOs that waited are applied, and each synchronous TPDO is sent at every n-th SYNC. -/
def doSyncReceived (c cob : Nat) (s : State) : State :=
  if (s.can c).nmt ≠ .operational ∨ (s.can c).busOff ∨ cob ≠ s.reg 0x1005 0 % 2048 then s
  else
    let w := (s.can c).waiting
    let s := s.modCan c (fun k => { k with waiting := [] })
    let s := w.foldl (fun s x => s.rpdoApply c x.1 x.2) s
    forEach ((List.range 4).filter (fun n => s.pdoValid (0x1800 + n) && inRange (s.reg (0x1800 + n) 2) 1 0xF0)) s (fun s n =>
      let k := tblGet 0 (s.can c).syncs n + 1
      if s.reg (0x1800 + n) 2 ≤ k then
        (s.modCan c (fun x => { x with syncs := tblPut 0 x.syncs n 0 })).tpdoSend c n
      else s.modCan c (fun x => { x with syncs := tblPut 0 x.syncs n k }))
/-- TPDO_EVENT_TIMER. -/
def doTpdoTimer (c n : Nat) (s : State) : State :=
  if (s.can c).nmt = .operational ∧ ¬ (s.can c).busOff ∧ s.pdoValid (0x1800 + n) ∧ 0xFE ≤ s.reg (0x1800 + n) 2
      ∧ s.reg (0x1800 + n) 5 ≠ 0 then s.tpdoSend c n
  else s

/-! ### The commands -/

/-- REGISTER_WRITE (R371). -/
def execRegisterWrite (a : Agent) (index sub len value : Nat) (s : State) : Host.Outcome State Fault Refusal :=
  .next (s.odWrite a index sub len value)
/-- OWNER_WRITE (R378). -/
def execOwnerWrite (a : Agent) (value : Nat) (s : State) : Host.Outcome State Fault Refusal :=
  .next (s.odWrite a 0x2304 7 1 value)
/-- COMMIT (R376). -/
def execCommit (a : Agent) (s : State) : Host.Outcome State Fault Refusal := .next (s.odWrite a 0x2304 1 1 1)
/-- DISCARD (R376). -/
def execDiscard (a : Agent) (s : State) : Host.Outcome State Fault Refusal := .next (s.odWrite a 0x2304 1 1 2)
/-- MAILBOX_REQUEST (R385). -/
def execMailboxRequest (i : Fin 16) (w : MailboxWrite) (s : State) : Host.Outcome State Fault Refusal :=
  .next (doMailboxRequest i.val w s)
/-- MAILBOX_COMPLETE (R385). -/
def execMailboxComplete (s : State) : Host.Outcome State Fault Refusal := .next (doMailboxComplete s)
/-- NMT_START_REMOTE_NODE (R381). -/
def execNmtStartRemoteNode (c : CanId) (s : State) : Host.Outcome State Fault Refusal :=
  .next (doNmt c.val .operational s)
/-- NMT_STOP_REMOTE_NODE (R381). -/
def execNmtStopRemoteNode (c : CanId) (s : State) : Host.Outcome State Fault Refusal := .next (doNmt c.val .stopped s)
/-- NMT_ENTER_PRE_OPERATIONAL (R381). -/
def execNmtEnterPreOperational (c : CanId) (s : State) : Host.Outcome State Fault Refusal :=
  .next (doNmt c.val .preOperational s)
/-- NMT_RESET_NODE (R381). -/
def execNmtResetNode (c : CanId) (s : State) : Host.Outcome State Fault Refusal := .next (doNmtReset c.val s)
/-- NMT_RESET_COMMUNICATION (R381). -/
def execNmtResetCommunication (c : CanId) (s : State) : Host.Outcome State Fault Refusal := .next (doNmtReset c.val s)
/-- USDO_REQUEST (R380). -/
def execUsdoRequest (c : CanId) (m : UsdoMessage) (s : State) : Host.Outcome State Fault Refusal :=
  .next (doUsdoRequest c.val m s)
/-- USDO_TIMEOUT (R374). -/
def execUsdoTimeout (c : CanId) (s : State) : Host.Outcome State Fault Refusal := .next (doUsdoTimeout c.val s)
/-- HEARTBEAT (R380). -/
def execHeartbeat (c : CanId) (s : State) : Host.Outcome State Fault Refusal := .next (doHeartbeat c.val s)
/-- SYNC_RECEIVED (R382). -/
def execSyncReceived (c : CanId) (cobId : Nat) (s : State) : Host.Outcome State Fault Refusal :=
  .next (doSyncReceived c.val cobId s)
/-- RPDO_RECEIVED (R383). -/
def execRpdoReceived (c : CanId) (cobId : Nat) (data : List Byte) (s : State) : Host.Outcome State Fault Refusal :=
  .next (doRpdoReceived c.val cobId data s)
/-- TPDO_EVENT_TIMER (R382). -/
def execTpdoEventTimer (c : CanId) (n : Fin 4) (s : State) : Host.Outcome State Fault Refusal :=
  .next (doTpdoTimer c.val n.val s)
/-- PDO_MAPPING_COUNT_WRITE (R383). -/
def execPdoMappingCountWrite (a : Agent) (index value : Nat) (s : State) : Host.Outcome State Fault Refusal :=
  .next (s.odWrite a index 0 1 value)
/-- ERROR_LIST_CLEAR (R382). -/
def execErrorListClear (a : Agent) (s : State) : Host.Outcome State Fault Refusal := .next (s.odWrite a 0x1003 0 1 0)
/-- BUS_OFF (R378). -/
def execBusOff (c : CanId) (s : State) : Host.Outcome State Fault Refusal := .next (doBusOff c.val s)
/-- BUS_OFF_RECOVERY (R379). -/
def execBusOffRecovery (c : CanId) (s : State) : Host.Outcome State Fault Refusal := .next (doBusOffRecovery c.val s)
/-- RESET (R395). -/
def execReset (a : Agent) (s : State) : Host.Outcome State Fault Refusal := .next (s.odWrite a 0x2100 5 2 0x5A01)
/-- FIRMWARE_LOAD (R411). -/
def execFirmwareLoad (a : Agent) (s : State) : Host.Outcome State Fault Refusal := .next (s.odWrite a 0x2C10 3 1 1)
/-- FIRMWARE_PROGRAM (R411). -/
def execFirmwareProgram (a : Agent) (s : State) : Host.Outcome State Fault Refusal := .next (s.odWrite a 0x2C10 3 1 2)
/-- OPTION_PROGRAM (R398). -/
def execOptionProgram (a : Agent) (readBackOk : Bool) (s : State) : Host.Outcome State Fault Refusal :=
  .next (s.odWriteWith readBackOk (agentNo a) 0x2102 2 1 1)
/-- ATTEST (R415). -/
def execAttest (a : Agent) (s : State) : Host.Outcome State Fault Refusal := .next (s.odWrite a 0x2C00 0x0A 1 1)
/-- EXPORT_ID (R419). -/
def execExportId (a : Agent) (s : State) : Host.Outcome State Fault Refusal := .next (s.odWrite a 0x2C00 0x0A 1 2)
/-- SVN_COMMIT (R410). -/
def execSvnCommit (a : Agent) (s : State) : Host.Outcome State Fault Refusal := .next (s.odWrite a 0x2C00 0x0A 1 3)
/-- LOAD_PATTERN_KEY (R418). -/
def execLoadPatternKey (a : Agent) (s : State) : Host.Outcome State Fault Refusal :=
  .next (s.odWrite a 0x2C00 0x0A 1 4)
/-- CALDERA_POWER_OFF (R405). -/
def execCalderaPowerOff (a : Agent) (c : CalderaId) (s : State) : Host.Outcome State Fault Refusal :=
  .next (s.odWrite a 0x2108 9 2 (256 * c.val))
/-- CALDERA_POWER_ON (R405). -/
def execCalderaPowerOn (a : Agent) (c : CalderaId) (s : State) : Host.Outcome State Fault Refusal :=
  .next (s.odWrite a 0x2108 9 2 (256 * c.val + 1))
/-- CALDERA_RESET (R394). -/
def execCalderaReset (a : Agent) (mask : Nat) (s : State) : Host.Outcome State Fault Refusal :=
  .next (s.odWrite a 0x2100 6 1 mask)
/-- STREAM_START (R91). -/
def execStreamStart (a : Agent) (g : SkeinId) (s : State) : Host.Outcome State Fault Refusal :=
  .next (s.odWrite a (0x2440 + g.val) 9 1 1)
/-- ABANDON (R91). -/
def execAbandon (a : Agent) (g : SkeinId) (s : State) : Host.Outcome State Fault Refusal :=
  .next (s.odWrite a (0x2440 + g.val) 9 1 2)
/-- CLEAR_FLAGS (R91). -/
def execClearFlags (a : Agent) (g : SkeinId) (s : State) : Host.Outcome State Fault Refusal :=
  .next (s.odWrite a (0x2440 + g.val) 9 1 3)
/-- PLAN_LOAD (R132). -/
def execPlanLoad (a : Agent) (p : PartId) (s : State) : Host.Outcome State Fault Refusal :=
  .next (s.odWrite a (0x2490 + p.val) 3 1 1)
/-- ACTIVATE (R132). -/
def execActivate (a : Agent) (p : PartId) (s : State) : Host.Outcome State Fault Refusal :=
  .next (s.odWrite a (0x2490 + p.val) 3 1 2)
/-- UNLOAD (R132). -/
def execUnload (a : Agent) (p : PartId) (s : State) : Host.Outcome State Fault Refusal :=
  .next (s.odWrite a (0x2490 + p.val) 3 1 3)
/-- QUEUE_ENABLE (R117): the queue that the agent's SELECT names. -/
def execQueueEnable (a : Agent) (s : State) : Host.Outcome State Fault Refusal := .next (s.odWrite a 0x2410 5 1 1)
/-- QUEUE_DISABLE (R117): the queue that the agent's SELECT names. -/
def execQueueDisable (a : Agent) (s : State) : Host.Outcome State Fault Refusal := .next (s.odWrite a 0x2410 5 1 0)
/-- SYNC_VALUE_WRITE (R118). -/
def execSyncValueWrite (a : Agent) (value : Nat) (s : State) : Host.Outcome State Fault Refusal :=
  .next (s.odWrite a 0x2420 2 4 value)
/-- SYNC_ADD_WRITE (R118). -/
def execSyncAddWrite (a : Agent) (value : Nat) (s : State) : Host.Outcome State Fault Refusal :=
  .next (s.odWrite a 0x2420 3 4 value)
/-- WC_FLUSH (R194). -/
def execWcFlush (a : Agent) (c : CalderaId) (s : State) : Host.Outcome State Fault Refusal :=
  .next (s.odWrite a (0x2280 + c.val) 6 1 1)
/-- BANK_OFF (R207). -/
def execBankOff (a : Agent) (b : BankId) (s : State) : Host.Outcome State Fault Refusal :=
  .next (s.odWrite a 0x2290 0x11 2 (256 * b.val))
/-- BANK_RETAIN (R207). -/
def execBankRetain (a : Agent) (b : BankId) (s : State) : Host.Outcome State Fault Refusal :=
  .next (s.odWrite a 0x2290 0x11 2 (256 * b.val + 1))
/-- BANK_ON (R207). -/
def execBankOn (a : Agent) (b : BankId) (s : State) : Host.Outcome State Fault Refusal :=
  .next (s.odWrite a 0x2290 0x11 2 (256 * b.val + 2))
/-- CAMERA_STREAM_ENABLE (R243). -/
def execCameraStreamEnable (a : Agent) (n : CamId) (s : State) : Host.Outcome State Fault Refusal :=
  .next (s.odWrite a (0x2540 + n.val) 1 1 1)
/-- CAMERA_STREAM_DISABLE (R269). -/
def execCameraStreamDisable (a : Agent) (n : CamId) (s : State) : Host.Outcome State Fault Refusal :=
  .next (s.odWrite a (0x2540 + n.val) 1 1 0)
/-- STEP (R306). -/
def execStep (a : Agent) (s : State) : Host.Outcome State Fault Refusal := .next (s.odWrite a 0x2900 8 1 1)
/-- SLEW (R306). -/
def execSlew (a : Agent) (s : State) : Host.Outcome State Fault Refusal := .next (s.odWrite a 0x2900 8 1 2)
/-- CANCEL_SLEW (R305). -/
def execCancelSlew (a : Agent) (s : State) : Host.Outcome State Fault Refusal := .next (s.odWrite a 0x2900 8 1 3)
/-- LAUNCH_QUEUE_ENABLE (R317). -/
def execLaunchQueueEnable (a : Agent) (l : LaunchId) (s : State) : Host.Outcome State Fault Refusal :=
  .next (s.odWrite a (0x2A10 + l.val) 2 1 1)
/-- LAUNCH_QUEUE_DISABLE (R325). -/
def execLaunchQueueDisable (a : Agent) (l : LaunchId) (s : State) : Host.Outcome State Fault Refusal :=
  .next (s.odWrite a (0x2A10 + l.val) 2 1 0)
/-- SPEED_WRITE (R324). -/
def execSpeedWrite (a : Agent) (value : Nat) (s : State) : Host.Outcome State Fault Refusal :=
  .next (s.odWrite a 0x2A01 1 4 value)
/-- ACK (R360). -/
def execAck (a : Agent) (p : PartId) (s : State) : Host.Outcome State Fault Refusal :=
  .next (s.odWrite a (0x2B08 + p.val) 4 1 1)
/-- INSTALL (R358). -/
def execInstall (a : Agent) (s : State) : Host.Outcome State Fault Refusal := .next (s.odWrite a 0x2B40 3 1 1)
/-- DISCOVER (R445). -/
def execDiscover (a : Agent) (s : State) : Host.Outcome State Fault Refusal := .next (s.odWrite a 0x2E00 2 1 1)
/-- RETRAIN (R445). -/
def execRetrain (a : Agent) (s : State) : Host.Outcome State Fault Refusal := .next (s.odWrite a 0x2E00 2 1 2)
/-- GLOBAL_STOP (R455). -/
def execGlobalStop (a : Agent) (s : State) : Host.Outcome State Fault Refusal := .next (s.odWrite a 0x2D10 1 1 1)
/-- PARTITION_STOP (R455). -/
def execPartitionStop (a : Agent) (s : State) : Host.Outcome State Fault Refusal := .next (s.odWrite a 0x2D10 1 1 2)
/-- RELEASE (R455). -/
def execRelease (a : Agent) (s : State) : Host.Outcome State Fault Refusal := .next (s.odWrite a 0x2D10 1 1 3)
/-- COUNTER_ENABLE (R464). -/
def execCounterEnable (a : Agent) (value : Nat) (s : State) : Host.Outcome State Fault Refusal :=
  .next (s.odWrite a 0x2D60 1 1 value)

end Sys2Proof.Machine
end

