-- ==== Sys2Proof/Machine/Dispatch.lean ====
section
/-! DEFINITION. Dispatch: one arm for each command, each one call of its meaning. -/
namespace Sys2Proof.Machine

/-- The effect of a command on everything but the queue. -/
def exec (i : Instr) (s : State) : Host.Outcome State Fault Refusal :=
  match i with
  | .registerWrite a index sub len value => Sys2Proof.Machine.execRegisterWrite a index sub len value s
  | .ownerWrite a value => Sys2Proof.Machine.execOwnerWrite a value s
  | .commit a => Sys2Proof.Machine.execCommit a s
  | .discard a => Sys2Proof.Machine.execDiscard a s
  | .wheelPeriodStart => Sys2Proof.Machine.execWheelPeriodStart s
  | .treadleSettingsApply p => Sys2Proof.Machine.execTreadleSettingsApply p s
  | .mailboxRequest j w => Sys2Proof.Machine.execMailboxRequest j w s
  | .mailboxComplete => Sys2Proof.Machine.execMailboxComplete s
  | .nmtStartRemoteNode c => Sys2Proof.Machine.execNmtStartRemoteNode c s
  | .nmtStopRemoteNode c => Sys2Proof.Machine.execNmtStopRemoteNode c s
  | .nmtEnterPreOperational c => Sys2Proof.Machine.execNmtEnterPreOperational c s
  | .nmtResetNode c => Sys2Proof.Machine.execNmtResetNode c s
  | .nmtResetCommunication c => Sys2Proof.Machine.execNmtResetCommunication c s
  | .usdoRequest c m => Sys2Proof.Machine.execUsdoRequest c m s
  | .usdoTimeout c => Sys2Proof.Machine.execUsdoTimeout c s
  | .heartbeat c => Sys2Proof.Machine.execHeartbeat c s
  | .syncReceived c cobId => Sys2Proof.Machine.execSyncReceived c cobId s
  | .rpdoReceived c cobId data => Sys2Proof.Machine.execRpdoReceived c cobId data s
  | .tpdoEventTimer c n => Sys2Proof.Machine.execTpdoEventTimer c n s
  | .pdoMappingCountWrite a index value => Sys2Proof.Machine.execPdoMappingCountWrite a index value s
  | .errorListClear a => Sys2Proof.Machine.execErrorListClear a s
  | .busOff c => Sys2Proof.Machine.execBusOff c s
  | .busOffRecovery c => Sys2Proof.Machine.execBusOffRecovery c s
  | .powerOn => Sys2Proof.Machine.execPowerOn s
  | .brownOut rail => Sys2Proof.Machine.execBrownOut rail s
  | .referenceClockFailure => Sys2Proof.Machine.execReferenceClockFailure s
  | .pllLockLost pll => Sys2Proof.Machine.execPllLockLost pll s
  | .resetNLow => Sys2Proof.Machine.execResetNLow s
  | .resetNRise => Sys2Proof.Machine.execResetNRise s
  | .watchdog => Sys2Proof.Machine.execWatchdog s
  | .managementLockUp => Sys2Proof.Machine.execManagementLockUp s
  | .reset a => Sys2Proof.Machine.execReset a s
  | .perstNLow => Sys2Proof.Machine.execPerstNLow s
  | .perstNRise => Sys2Proof.Machine.execPerstNRise s
  | .domainRelease => Sys2Proof.Machine.execDomainRelease s
  | .pllLockTimeout pll => Sys2Proof.Machine.execPllLockTimeout pll s
  | .memoryFillComplete => Sys2Proof.Machine.execMemoryFillComplete s
  | .spiHeaderTimeout => Sys2Proof.Machine.execSpiHeaderTimeout s
  | .imageVerify image => Sys2Proof.Machine.execImageVerify image s
  | .firmwareLoad a => Sys2Proof.Machine.execFirmwareLoad a s
  | .firmwareProgram a => Sys2Proof.Machine.execFirmwareProgram a s
  | .firmwareProgramComplete readBackOk => Sys2Proof.Machine.execFirmwareProgramComplete readBackOk s
  | .optionProgram a readBackOk => Sys2Proof.Machine.execOptionProgram a readBackOk s
  | .attest a => Sys2Proof.Machine.execAttest a s
  | .exportId a => Sys2Proof.Machine.execExportId a s
  | .svnCommit a => Sys2Proof.Machine.execSvnCommit a s
  | .loadPatternKey a => Sys2Proof.Machine.execLoadPatternKey a s
  | .calderaPowerOff a c => Sys2Proof.Machine.execCalderaPowerOff a c s
  | .calderaPowerOn a c => Sys2Proof.Machine.execCalderaPowerOn a c s
  | .calderaPowerOnComplete c => Sys2Proof.Machine.execCalderaPowerOnComplete c s
  | .calderaReset a mask => Sys2Proof.Machine.execCalderaReset a mask s
  | .calderaResetComplete c sweepPassed => Sys2Proof.Machine.execCalderaResetComplete c sweepPassed s
  | .railSample mv temp => Sys2Proof.Machine.execRailSample mv temp s
  | .streamStart a g => Sys2Proof.Machine.execStreamStart a g s
  | .abandon a g => Sys2Proof.Machine.execAbandon a g s
  | .clearFlags a g => Sys2Proof.Machine.execClearFlags a g s
  | .prefetchRead g => Sys2Proof.Machine.execPrefetchRead g s
  | .descriptorDispatch g => Sys2Proof.Machine.execDescriptorDispatch g s
  | .load g j => Sys2Proof.Machine.execLoad g j s
  | .loadQpop g j => Sys2Proof.Machine.execLoadQpop g j s
  | .store g j => Sys2Proof.Machine.execStore g j s
  | .matmul g j => Sys2Proof.Machine.execMatmul g j s
  | .unroll g j => Sys2Proof.Machine.execUnroll g j s
  | .maxIncl g j => Sys2Proof.Machine.execMaxIncl g j s
  | .maxExcl g j => Sys2Proof.Machine.execMaxExcl g j s
  | .avgIncl g j => Sys2Proof.Machine.execAvgIncl g j s
  | .avgExcl g j => Sys2Proof.Machine.execAvgExcl g j s
  | .drain g j => Sys2Proof.Machine.execDrain g j s
  | .add g j => Sys2Proof.Machine.execAdd g j s
  | .sub g j => Sys2Proof.Machine.execSub g j s
  | .mul g j => Sys2Proof.Machine.execMul g j s
  | .fma g j => Sys2Proof.Machine.execFma g j s
  | .min g j => Sys2Proof.Machine.execMin g j s
  | .max g j => Sys2Proof.Machine.execMax g j s
  | .shr g j => Sys2Proof.Machine.execShr g j s
  | .cvt g j => Sys2Proof.Machine.execCvt g j s
  | .tbl g j => Sys2Proof.Machine.execTbl g j s
  | .reduceSum g j => Sys2Proof.Machine.execReduceSum g j s
  | .reduceMax g j => Sys2Proof.Machine.execReduceMax g j s
  | .reduceMin g j => Sys2Proof.Machine.execReduceMin g j s
  | .table g j => Sys2Proof.Machine.execTable g j s
  | .wait g j => Sys2Proof.Machine.execWait g j s
  | .waitTimeout g => Sys2Proof.Machine.execWaitTimeout g s
  | .signalAdd g j => Sys2Proof.Machine.execSignalAdd g j s
  | .signalSet g j => Sys2Proof.Machine.execSignalSet g j s
  | .signalReleaseApply g j => Sys2Proof.Machine.execSignalReleaseApply g j s
  | .fence g j => Sys2Proof.Machine.execFence g j s
  | .digestInit g j => Sys2Proof.Machine.execDigestInit g j s
  | .digestAbsorb g j => Sys2Proof.Machine.execDigestAbsorb g j s
  | .digestFinal g j => Sys2Proof.Machine.execDigestFinal g j s
  | .wopen g j => Sys2Proof.Machine.execWopen g j s
  | .wclose g j => Sys2Proof.Machine.execWclose g j s
  | .send g j => Sys2Proof.Machine.execSend g j s
  | .sendQueue g j => Sys2Proof.Machine.execSendQueue g j s
  | .endStream g j => Sys2Proof.Machine.execEndStream g j s
  | .endLoop g j => Sys2Proof.Machine.execEndLoop g j s
  | .shadowLoadStart u => Sys2Proof.Machine.execShadowLoadStart u s
  | .shadowLoadComplete u => Sys2Proof.Machine.execShadowLoadComplete u s
  | .instructionIssue u => Sys2Proof.Machine.execInstructionIssue u s
  | .resultLand u => Sys2Proof.Machine.execResultLand u s
  | .drainBegin u => Sys2Proof.Machine.execDrainBegin u s
  | .treadleFrameStart p => Sys2Proof.Machine.execTreadleFrameStart p s
  | .treadleTick p late => Sys2Proof.Machine.execTreadleTick p late s
  | .stepHandshakeComplete c => Sys2Proof.Machine.execStepHandshakeComplete c s
  | .reservedSlotBegin c => Sys2Proof.Machine.execReservedSlotBegin c s
  | .reservedSlotEnd c => Sys2Proof.Machine.execReservedSlotEnd c s
  | .completionDelivery c latencyNs refresh => Sys2Proof.Machine.execCompletionDelivery c latencyNs refresh s
  | .externalEventEffect c => Sys2Proof.Machine.execExternalEventEffect c s
  | .planLoad a p => Sys2Proof.Machine.execPlanLoad a p s
  | .planLoadComplete d => Sys2Proof.Machine.execPlanLoadComplete d s
  | .activate a p => Sys2Proof.Machine.execActivate a p s
  | .planStart p => Sys2Proof.Machine.execPlanStart p s
  | .unload a p => Sys2Proof.Machine.execUnload a p s
  | .queueEnable a => Sys2Proof.Machine.execQueueEnable a s
  | .queueDisable a => Sys2Proof.Machine.execQueueDisable a s
  | .queuePush src q entries => Sys2Proof.Machine.execQueuePush src q entries s
  | .queuePop q n => Sys2Proof.Machine.execQueuePop q n s
  | .syncValueWrite a value => Sys2Proof.Machine.execSyncValueWrite a value s
  | .syncAddWrite a value => Sys2Proof.Machine.execSyncAddWrite a value s
  | .hostMemoryRead bar4 offset len => Sys2Proof.Machine.execHostMemoryRead bar4 offset len s
  | .hostMemoryWrite bar4 offset bytes => Sys2Proof.Machine.execHostMemoryWrite bar4 offset bytes s
  | .bar0RefusedAccess write offset width => Sys2Proof.Machine.execBar0RefusedAccess write offset width s
  | .doorbellPush q width value => Sys2Proof.Machine.execDoorbellPush q width value s
  | .doorbellPop q width value => Sys2Proof.Machine.execDoorbellPop q width value s
  | .syncDoorbellWrite n width value => Sys2Proof.Machine.execSyncDoorbellWrite n width value s
  | .remoteWrite g => Sys2Proof.Machine.execRemoteWrite g s
  | .remoteWriteLand g => Sys2Proof.Machine.execRemoteWriteLand g s
  | .channelAccessSlot q => Sys2Proof.Machine.execChannelAccessSlot q s
  | .refreshBusy q => Sys2Proof.Machine.execRefreshBusy q s
  | .scrubRead => Sys2Proof.Machine.execScrubRead s
  | .scrubWriteBack => Sys2Proof.Machine.execScrubWriteBack s
  | .wcFlush a c => Sys2Proof.Machine.execWcFlush a c s
  | .wcLineFetchComplete c => Sys2Proof.Machine.execWcLineFetchComplete c s
  | .bankOff a b => Sys2Proof.Machine.execBankOff a b s
  | .bankRetain a b => Sys2Proof.Machine.execBankRetain a b s
  | .bankOn a b => Sys2Proof.Machine.execBankOn a b s
  | .bankCloseComplete b => Sys2Proof.Machine.execBankCloseComplete b s
  | .bankOpenComplete b => Sys2Proof.Machine.execBankOpenComplete b s
  | .aphyLinkUp p => Sys2Proof.Machine.execAphyLinkUp p s
  | .aphyLinkLoss p => Sys2Proof.Machine.execAphyLinkLoss p s
  | .frameStart p packet number => Sys2Proof.Machine.execFrameStart p packet number s
  | .frameEnd p packet => Sys2Proof.Machine.execFrameEnd p packet s
  | .lineStart p packet number => Sys2Proof.Machine.execLineStart p packet number s
  | .lineEnd p packet => Sys2Proof.Machine.execLineEnd p packet s
  | .imageLine p vc dataType damage payload => Sys2Proof.Machine.execImageLine p vc dataType damage payload s
  | .unmappedPacket packet => Sys2Proof.Machine.execUnmappedPacket packet s
  | .frameTimeout n => Sys2Proof.Machine.execFrameTimeout n s
  | .missingFrame n => Sys2Proof.Machine.execMissingFrame n s
  | .cameraStreamEnable a n => Sys2Proof.Machine.execCameraStreamEnable a n s
  | .cameraStreamDisable a n => Sys2Proof.Machine.execCameraStreamDisable a n s
  | .ethernetFrameReceived m fcsOk bytes => Sys2Proof.Machine.execEthernetFrameReceived m fcsOk bytes s
  | .reassemblyTimeout d => Sys2Proof.Machine.execReassemblyTimeout d s
  | .rangeLinkLoss m => Sys2Proof.Machine.execRangeLinkLoss m s
  | .sampleTake d => Sys2Proof.Machine.execSampleTake d s
  | .sampleDecodeComplete d => Sys2Proof.Machine.execSampleDecodeComplete d s
  | .samplePush d => Sys2Proof.Machine.execSamplePush d s
  | .sampleBudgetExpiry d offset => Sys2Proof.Machine.execSampleBudgetExpiry d offset s
  | .pointPop => Sys2Proof.Machine.execPointPop s
  | .projectionStart n => Sys2Proof.Machine.execProjectionStart n s
  | .projectionComplete n => Sys2Proof.Machine.execProjectionComplete n s
  | .rowLand n level => Sys2Proof.Machine.execRowLand n level s
  | .slotGather e => Sys2Proof.Machine.execSlotGather e s
  | .slotGatherComplete e => Sys2Proof.Machine.execSlotGatherComplete e s
  | .batchPush n => Sys2Proof.Machine.execBatchPush n s
  | .batchPushTimeout n => Sys2Proof.Machine.execBatchPushTimeout n s
  | .jobPop e => Sys2Proof.Machine.execJobPop e s
  | .jobComplete e => Sys2Proof.Machine.execJobComplete e s
  | .jobPush e => Sys2Proof.Machine.execJobPush e s
  | .jobBudgetExpiry e => Sys2Proof.Machine.execJobBudgetExpiry e s
  | .step a => Sys2Proof.Machine.execStep a s
  | .slew a => Sys2Proof.Machine.execSlew a s
  | .cancelSlew a => Sys2Proof.Machine.execCancelSlew a s
  | .ptpSyncReceived m domain sync => Sys2Proof.Machine.execPtpSyncReceived m domain sync s
  | .delayReqSend r => Sys2Proof.Machine.execDelayReqSend r s
  | .syncTimeout => Sys2Proof.Machine.execSyncTimeout s
  | .holdoverLimitExpiry => Sys2Proof.Machine.execHoldoverLimitExpiry s
  | .ptpEventForward m version minor body egress => Sys2Proof.Machine.execPtpEventForward m version minor body egress s
  | .pdelayExchange m r => Sys2Proof.Machine.execPdelayExchange m r s
  | .gptpSyncRelay m correction rateOffset egress => Sys2Proof.Machine.execGptpSyncRelay m correction rateOffset egress s
  | .triggerEdge p v => Sys2Proof.Machine.execTriggerEdge p v s
  | .launchEntryMap l => Sys2Proof.Machine.execLaunchEntryMap l s
  | .launchFrameSend l => Sys2Proof.Machine.execLaunchFrameSend l s
  | .keepalive l => Sys2Proof.Machine.execKeepalive l s
  | .launchQueueEnable a l => Sys2Proof.Machine.execLaunchQueueEnable a l s
  | .launchQueueDisable a l => Sys2Proof.Machine.execLaunchQueueDisable a l s
  | .speedWrite a value => Sys2Proof.Machine.execSpeedWrite a value s
  | .outputLinkLoss m => Sys2Proof.Machine.execOutputLinkLoss m s
  | .faultDetect code p place detail => Sys2Proof.Machine.execFaultDetect code p place detail s
  | .warning code p source detail => Sys2Proof.Machine.execWarning code p source detail s
  | .monitorRefresh => Sys2Proof.Machine.execMonitorRefresh s
  | .monitor => Sys2Proof.Machine.execMonitor s
  | .faultRetry p passed => Sys2Proof.Machine.execFaultRetry p passed s
  | .ack a p => Sys2Proof.Machine.execAck a p s
  | .checkpointCompare k => Sys2Proof.Machine.execCheckpointCompare k s
  | .compareTimeout k => Sys2Proof.Machine.execCompareTimeout k s
  | .watchCheck p w => Sys2Proof.Machine.execWatchCheck p w s
  | .selftestElement c passed => Sys2Proof.Machine.execSelftestElement c passed s
  | .sweepLate c => Sys2Proof.Machine.execSweepLate c s
  | .ioCheckerTest passed => Sys2Proof.Machine.execIoCheckerTest passed s
  | .geyserTick p => Sys2Proof.Machine.execGeyserTick p s
  | .install a => Sys2Proof.Machine.execInstall a s
  | .mgmtEntry => Sys2Proof.Machine.execMgmtEntry s
  | .pcieLinkDown => Sys2Proof.Machine.execPcieLinkDown s
  | .linkTrained l peerNode peerLink => Sys2Proof.Machine.execLinkTrained l peerNode peerLink s
  | .linkGivenUp l => Sys2Proof.Machine.execLinkGivenUp l s
  | .dataFrameReceived l crcOk f => Sys2Proof.Machine.execDataFrameReceived l crcOk f s
  | .lack l seq => Sys2Proof.Machine.execLack l seq s
  | .lnak l seq => Sys2Proof.Machine.execLnak l seq s
  | .credit l vc0 vc1 => Sys2Proof.Machine.execCredit l vc0 vc1 s
  | .replayTimeout l => Sys2Proof.Machine.execReplayTimeout l s
  | .resp g xid status => Sys2Proof.Machine.execResp g xid status s
  | .discover a => Sys2Proof.Machine.execDiscover a s
  | .retrain a => Sys2Proof.Machine.execRetrain a s
  | .hello l neighbour root depth run onParent => Sys2Proof.Machine.execHello l neighbour root depth run onParent s
  | .converged => Sys2Proof.Machine.execConverged s
  | .count l bitmap duplicate depthBelow run => Sys2Proof.Machine.execCount l bitmap duplicate depthBelow run s
  | .done l nodes treeDepth result duplicate => Sys2Proof.Machine.execDone l nodes treeDepth result duplicate s
  | .extest => Sys2Proof.Machine.execExtest s
  | .samplePreload => Sys2Proof.Machine.execSamplePreload s
  | .dbgStatus => Sys2Proof.Machine.execDbgStatus s
  | .dbgUnlock request signature => Sys2Proof.Machine.execDbgUnlock request signature s
  | .dbgLock => Sys2Proof.Machine.execDbgLock s
  | .dbgMemRead address => Sys2Proof.Machine.execDbgMemRead address s
  | .dbgMemWrite address unit => Sys2Proof.Machine.execDbgMemWrite address unit s
  | .dbgStop mask release => Sys2Proof.Machine.execDbgStop mask release s
  | .dbgGrant value => Sys2Proof.Machine.execDbgGrant value s
  | .dbgReset => Sys2Proof.Machine.execDbgReset s
  | .idcode => Sys2Proof.Machine.execIdcode s
  | .bypass code => Sys2Proof.Machine.execBypass code s
  | .globalStop a => Sys2Proof.Machine.execGlobalStop a s
  | .partitionStop a => Sys2Proof.Machine.execPartitionStop a s
  | .release a => Sys2Proof.Machine.execRelease a s
  | .cutComplete => Sys2Proof.Machine.execCutComplete s
  | .traceSync => Sys2Proof.Machine.execTraceSync s
  | .counterEnable a value => Sys2Proof.Machine.execCounterEnable a value s
  | .rangeLinkUp m => Sys2Proof.Machine.execRangeLinkUp m s
  | .outputLinkUp m => Sys2Proof.Machine.execOutputLinkUp m s
  | .pcieLinkUp speed width => Sys2Proof.Machine.execPcieLinkUp speed width s
  | .completionTimeout who place => Sys2Proof.Machine.execCompletionTimeout who place s
  | .configurationWrite busMaster d3hot => Sys2Proof.Machine.execConfigurationWrite busMaster d3hot s

end Sys2Proof.Machine
end

