-- ==== Sys2Proof/Safety.lean ====
section
/-! DEFINITION. Safety: what counts as a safe step and a safe state, and what a command changes and leaves alone, in the
terms that claims use. -/
namespace Sys2Proof.Safety

open Machine

/-- The parts of the device's state, one for each field of `State`. -/
inductive Part where
  | pending | dict | accepted | selects | latches | replies | mem | flips | hostMem | xlat | xlatShadow | queues
  | syncs | time | boot | skeins | spindles | calderas | channels | scrubPending | bankTargets | plans | cameras
  | chains | decoders | lanes | gatherQueue | gatherBusy | blocks | engines | jobOrder | nextBlock | launches
  | ptpPending | speedAt | safety | mailboxes | mirrorQueue | cans | busMaster | d3hot | msixTable | links | discovery | dbg
  | freeUsed | out
  deriving DecidableEq, Repr

/-- Part `p` is the same in both states. -/
def Part.Same (p : Part) (s t : State) : Prop :=
  match p with
  | .pending => t.pending = s.pending
  | .dict => t.dict = s.dict
  | .accepted => t.accepted = s.accepted
  | .selects => t.selects = s.selects
  | .latches => t.latches = s.latches
  | .replies => t.replies = s.replies
  | .mem => t.mem = s.mem
  | .flips => t.flips = s.flips
  | .hostMem => t.hostMem = s.hostMem
  | .xlat => t.xlat = s.xlat
  | .xlatShadow => t.xlatShadow = s.xlatShadow
  | .queues => t.queues = s.queues
  | .syncs => t.syncs = s.syncs
  | .time => t.time = s.time
  | .boot => t.boot = s.boot
  | .skeins => t.skeins = s.skeins
  | .spindles => t.spindles = s.spindles
  | .calderas => t.calderas = s.calderas
  | .channels => t.channels = s.channels
  | .scrubPending => t.scrubPending = s.scrubPending
  | .bankTargets => t.bankTargets = s.bankTargets
  | .plans => t.plans = s.plans
  | .cameras => t.cameras = s.cameras
  | .chains => t.chains = s.chains
  | .decoders => t.decoders = s.decoders
  | .lanes => t.lanes = s.lanes
  | .gatherQueue => t.gatherQueue = s.gatherQueue
  | .gatherBusy => t.gatherBusy = s.gatherBusy
  | .blocks => t.blocks = s.blocks
  | .engines => t.engines = s.engines
  | .jobOrder => t.jobOrder = s.jobOrder
  | .nextBlock => t.nextBlock = s.nextBlock
  | .launches => t.launches = s.launches
  | .ptpPending => t.ptpPending = s.ptpPending
  | .speedAt => t.speedAt = s.speedAt
  | .safety => t.safety = s.safety
  | .mailboxes => t.mailboxes = s.mailboxes
  | .mirrorQueue => t.mirrorQueue = s.mirrorQueue
  | .cans => t.cans = s.cans
  | .busMaster => t.busMaster = s.busMaster
  | .d3hot => t.d3hot = s.d3hot
  | .msixTable => t.msixTable = s.msixTable
  | .links => t.links = s.links
  | .discovery => t.discovery = s.discovery
  | .dbg => t.dbg = s.dbg
  | .freeUsed => t.freeUsed = s.freeUsed
  | .out => t.out = s.out

/-- Going from `s` to `t` changes at most the listed parts. -/
def Only (ps : List Part) (s t : State) : Prop := ∀ p, p ∉ ps → p.Same s t

/-- What holds of every state the device can be in: the memory is in canonical form, NANOSECONDS is below 10^9 (R303),
and every synchronisation object is a 32-bit counter (R111). -/
structure Invariant (s : State) : Prop where
  memory : Memory.wf s.mem
  nanos : s.time.nanos < 1000000000
  syncs : ∀ n, s.sync n < 2 ^ 32

/-- The command answers a next state, and `P` holds of it. -/
def Completes (c : Instr) (s : State) (P : State → Prop) : Prop := ∃ t, exec c s = .next t ∧ P t

/-- Every register but the listed ones (index, subindex) holds what it held. -/
def RegsKept (rs : List (Nat × Nat)) (s t : State) : Prop := ∀ ix sub, sub < 256 → (ix, sub) ∉ rs → t.reg ix sub = s.reg ix sub

/-! Registers that shared operations may write beside those that a command itself writes. -/

/-- Trace: packets lost, peak of the FIFO (R461). -/
def traceRegs : List (Nat × Nat) := [(0x2D20, 0x0A), (0x2D20, 0x0B)]
/-- The counts of the global counters (R464). -/
def countRegs : List (Nat × Nat) := (List.range 8).map (fun k => (0x2D60, k + 0x0A))
/-- STATE of stream g, and the trace of its change (R90, R460). -/
def stateRegs (g : Nat) : List (Nat × Nat) := (0x2440 + g, 1) :: traceRegs
/-- STATE, POSITION and TAG of every stream that an update may wake (R111, R112). -/
def wakeRegs (s : State) : List (Nat × Nat) :=
  (s.skeins.flatMap (fun k => [(0x2440 + k.1, 1), (0x2440 + k.1, 3), (0x2440 + k.1, 6)])) ++ traceRegs
/-- A read of device memory: code events, a late refusal, bytes from the host, corrections in scratchpads (R189, R204, R207,
R432). -/
def readRegs : List (Nat × Nat) :=
  [(0x2238, 1), (0x2238, 2), (0x2238, 3), (0x2238, 4), (0x2290, 0x12), (0x2290, 0x13), (0x2E30, 0x0A)]
    ++ (List.range 64).map (fun g => (0x2D40 + g / 8, 0x21 + g % 8))
/-- A write of device memory: a late refusal, bytes to the host, lines invalidated (R192, R207, R432). -/
def writeRegs : List (Nat × Nat) :=
  [(0x2290, 0x12), (0x2290, 0x13), (0x2E30, 0x0A)] ++ (List.range 8).map (fun c => (0x2280 + c, 3))
/-- A push to a queue: its ring, its counters, its MSI-X vector, and the streams that it wakes (R115, R428). -/
def pushRegs (s : State) : List (Nat × Nat) := writeRegs ++ countRegs ++ wakeRegs s
/-- A push to a queue from outside the calderas: a stream that it satisfies goes on later (R222). -/
def outerRegs : List (Nat × Nat) := writeRegs ++ countRegs
/-- A detected event (R332): latches of the partitions, counters, error list, fault log and trace. -/
def alarmRegs : List (Nat × Nat) :=
  ((List.range 8).flatMap (fun p => [(0x2B08 + p, 1), (0x2B08 + p, 5), (0x2B08 + p, 6), (0x2B08 + p, 7)]))
    ++ [(0x2B00, 5), (0x2B00, 8), (0x2B00, 9)] ++ (List.range 9).map (fun i => (0x1003, i)) ++ outerRegs ++ traceRegs

/-- The command answers a next state, of which `P` holds; it changes at most the parts `ps` and, of the registers, at most
`rs` (index, subindex). -/
def Does (c : Instr) (s : State) (ps : List Part) (rs : List (Nat × Nat)) (P : State → Prop) : Prop :=
  ∃ t, exec c s = .next t ∧ P t ∧ Only ps s t ∧ RegsKept rs s t

/-- The checks of R371 and the gates let the agent's write through. -/
abbrev Admitted (s : State) (a : Agent) (ix sub len v : Nat) : Prop := s.writeCheck (agentNo a) ix sub len v = 0

/-- The agent's latest access ended with this abort code and value. -/
abbrev Replied (a : Agent) (code v : Nat) (t : State) : Prop := tblGet (0, 0) t.replies (agentNo a) = (code, v)

/-- What a vector brings out: its message, a held one where its entry of the MSI-X table masks it (R430), nothing while the
endpoint may not reach the host. -/
def msixOut (s : State) (v : Nat) : List Out := if s.hostUp then [if s.msixMasked v then .msixHeld v else .msix v] else []

/-- Every unit but the listed ones is what it was. -/
def KeptBut {α : Type} (f : State → Nat → α) (ns : List Nat) (s t : State) : Prop := ∀ n, n ∉ ns → f t n = f s n

/-- Every byte of every memory reads as before; the code of a corrected codeword may have been written back (R189). -/
abbrev BytesSame (s t : State) : Prop := ∀ x, t.byteAt x = s.byteAt x

/-- Every byte outside `[a, a+n)` reads as before. -/
def BytesKept (a n : Nat) (s t : State) : Prop := ∀ x, ¬ (a ≤ x ∧ x < a + n) → t.byteAt x = s.byteAt x

/-! Descriptors in flight (R95, R126). -/

/-- No other STORE or DRAIN of skein g has all its parts done, and ABANDON was not taken: completing the descriptor of serial
number `n` completes that one alone. -/
def Lone (s : State) (g n : Nat) : Bool :=
  !(s.skein g).abandoned && (s.skein g).flights.all (fun x =>
    x.serial == n || !((opOf x.word == 2 || opOf x.word == 5) && x.started && x.left == [] && x.unacked == 0))

/-- No STORE or DRAIN of skein g waits to complete, and ABANDON was not taken. -/
def Settled (s : State) (g : Nat) : Bool :=
  !(s.skein g).abandoned && (s.skein g).flights.all (fun x =>
    !((opOf x.word == 2 || opOf x.word == 5) && x.started && x.left == [] && x.unacked == 0))

/-- Registers of a long operation k of 2F00h (R386). -/
def opRegs (k : Nat) : List (Nat × Nat) := (List.range 9).map (fun i => (0x2F00 + k, i))
/-- Registers that verifying an image may write: its object, the identity and the measurement log (R408, R413, R414). -/
def imageRegs : List (Nat × Nat) :=
  [(0x2100, 1), (0x2C10, 4), (0x2C10, 5), (0x2C10, 6), (0x2C10, 7), (0x2C10, 8), (0x1018, 3), (0x100A, 0), (0x2C00, 3),
    (0x2C00, 5), (0x2C00, 6), (0x2C00, 7)] ++ opRegs 0
/-- Registers of the device links and of discovery (R439, R445), but the settings of the host. -/
def linkRegs : List (Nat × Nat) :=
  (List.range 4).flatMap (fun l => (List.range 11).map (fun i => (0x2E08 + l, i + 2)))
    ++ (List.range 10).map (fun i => (0x2E00, i + 4)) ++ opRegs 5 ++ opRegs 6 ++ countRegs ++ traceRegs
/-- Registers of a camera stream and its chain that frames may write: FRAMES, CONCEALED, EVENT_DROPS, LAST_RUN, and what
follows CHAIN_ID in the chain's object (R243, R291). -/
def cameraRegs (n : Nat) : List (Nat × Nat) :=
  [0x0C, 0x0D, 0x0E, 0x0F].map (fun i => (0x2540 + n, i)) ++ (List.range 11).map (fun i => (0x2710 + n, i + 4))
/-- The object belongs to caldera c or to one of its skeins (R394). -/
def CalderaObject (c ix : Nat) : Prop :=
  ix ∈ [0x2280 + c, 0x2320 + c, 0x2360 + c, 0x2D40 + c] ∨ (0x2240 ≤ ix ∧ ix ≤ 0x227F ∧ (ix - 0x2240) / 8 = c)
    ∨ (0x2440 ≤ ix ∧ ix ≤ 0x247F ∧ (ix - 0x2440) / 8 = c)

/-- Registers that the end of stream g writes: STATE, STATUS, POSITION, TAG and the trace. -/
def endRegs (g : Nat) : List (Nat × Nat) := [(0x2440 + g, 2), (0x2440 + g, 3), (0x2440 + g, 6)] ++ stateRegs g

/-- No pending fault of a code and source waits for its retry (R340). -/
def Unretried (s : State) (code src : Nat) : Prop := ∀ p < 8, ∀ f ∈ (s.part p).pending, f.code = code → f.source ≠ src

/-- Parts that a detected event or a warning may change beside its own latches: those of EMCY, the fault log's push, the
counters and the trace (R332 to R336). -/
def alarmParts : List Part :=
  [.dict, .mem, .flips, .hostMem, .queues, .calderas, .scrubPending, .safety, .dbg, .out]

/-- The command ends stream g in ERROR with a status at a descriptor: the descriptor and those that only the sequencer
completes leave, the rest stays in flight, and nothing else changes, but that the retry of the stream's own pending
faults is judged. -/
def FailsWith (c : Instr) (s : State) (g : Nat) (f : Flight) (st : Nat) : Prop :=
  Does c s [.dict, .skeins, .safety, .dbg] (endRegs g) (fun t =>
    (Unretried s 6 g → t.safety = s.safety) ∧ t.reg (0x2440 + g) 1 = 4 ∧ t.reg (0x2440 + g) 2 = st % 256 ∧ t.reg (0x2440 + g) 3 = f.addr % 2 ^ 64
    ∧ t.reg (0x2440 + g) 6 = tagOf f.word
    ∧ (t.skein g).flights = ((s.skein g).flights.filter (fun x => x.serial ≠ f.serial)).filter (fun x => !isControl x.word)
    ∧ KeptBut State.skein [g] s t)

/-- Through what a command reaches the device: an agent's access to the dictionary (of the host's mirror or of a CAN
controller), a reset source, a PTP event of the servo, or anything else. -/
inductive Source where
  | access | reset | servo | other
  deriving DecidableEq, Repr

/-- The source of a command. -/
def sourceOf : Instr → Source
  | .registerWrite .. | .ownerWrite .. | .commit .. | .discard .. | .mailboxComplete .. | .usdoRequest ..
  | .syncReceived .. | .rpdoReceived .. | .pdoMappingCountWrite .. | .errorListClear .. | .firmwareLoad ..
  | .firmwareProgram .. | .optionProgram .. | .attest .. | .exportId .. | .svnCommit .. | .loadPatternKey ..
  | .calderaPowerOff .. | .calderaPowerOn .. | .calderaReset .. | .streamStart .. | .abandon ..
  | .clearFlags .. | .planLoad .. | .activate .. | .unload .. | .queueEnable .. | .queueDisable ..
  | .syncValueWrite .. | .syncAddWrite .. | .wcFlush .. | .bankOff .. | .bankRetain .. | .bankOn ..
  | .cameraStreamEnable .. | .cameraStreamDisable .. | .step .. | .slew .. | .cancelSlew ..
  | .launchQueueEnable .. | .launchQueueDisable .. | .speedWrite .. | .ack .. | .install .. | .discover ..
  | .retrain .. | .globalStop .. | .partitionStop .. | .release .. | .counterEnable .. => .access
  | .powerOn .. | .brownOut .. | .referenceClockFailure .. | .pllLockLost .. | .resetNLow .. | .watchdog ..
  | .managementLockUp .. | .reset .. | .dbgReset .. => .reset
  | .ptpSyncReceived .. | .syncTimeout .. => .servo
  | .wheelPeriodStart .. | .treadleSettingsApply .. | .mailboxRequest .. | .nmtStartRemoteNode ..
  | .nmtStopRemoteNode .. | .nmtEnterPreOperational .. | .nmtResetNode .. | .nmtResetCommunication ..
  | .usdoTimeout .. | .heartbeat .. | .tpdoEventTimer .. | .busOff .. | .busOffRecovery .. | .resetNRise ..
  | .perstNLow .. | .perstNRise .. | .domainRelease .. | .pllLockTimeout .. | .memoryFillComplete ..
  | .spiHeaderTimeout .. | .imageVerify .. | .firmwareProgramComplete .. | .calderaPowerOnComplete ..
  | .calderaResetComplete .. | .railSample .. | .prefetchRead .. | .descriptorDispatch .. | .load ..
  | .loadQpop .. | .store .. | .matmul .. | .unroll .. | .maxIncl .. | .maxExcl .. | .avgIncl .. | .avgExcl ..
  | .drain .. | .add .. | .sub .. | .mul .. | .fma .. | .min .. | .max .. | .shr .. | .cvt .. | .tbl ..
  | .reduceSum .. | .reduceMax .. | .reduceMin .. | .table .. | .wait .. | .waitTimeout .. | .signalAdd ..
  | .signalSet .. | .signalReleaseApply .. | .fence .. | .digestInit .. | .digestAbsorb .. | .digestFinal ..
  | .wopen .. | .wclose .. | .send .. | .sendQueue .. | .endStream .. | .endLoop .. | .shadowLoadStart ..
  | .shadowLoadComplete .. | .instructionIssue .. | .resultLand .. | .drainBegin .. | .treadleFrameStart ..
  | .treadleTick .. | .stepHandshakeComplete .. | .reservedSlotBegin .. | .reservedSlotEnd ..
  | .completionDelivery .. | .externalEventEffect .. | .planLoadComplete .. | .planStart .. | .queuePush ..
  | .queuePop .. | .hostMemoryRead .. | .hostMemoryWrite .. | .bar0RefusedAccess .. | .doorbellPush ..
  | .doorbellPop .. | .syncDoorbellWrite .. | .remoteWrite .. | .remoteWriteLand .. | .channelAccessSlot ..
  | .refreshBusy .. | .scrubRead .. | .scrubWriteBack .. | .wcLineFetchComplete .. | .bankCloseComplete ..
  | .bankOpenComplete .. | .aphyLinkUp .. | .aphyLinkLoss .. | .frameStart .. | .frameEnd .. | .lineStart ..
  | .lineEnd .. | .imageLine .. | .unmappedPacket .. | .frameTimeout .. | .missingFrame ..
  | .ethernetFrameReceived .. | .reassemblyTimeout .. | .rangeLinkLoss .. | .sampleTake ..
  | .sampleDecodeComplete .. | .samplePush .. | .sampleBudgetExpiry .. | .pointPop .. | .projectionStart ..
  | .projectionComplete .. | .rowLand .. | .slotGather .. | .slotGatherComplete .. | .batchPush ..
  | .batchPushTimeout .. | .jobPop .. | .jobComplete .. | .jobPush .. | .jobBudgetExpiry .. | .delayReqSend ..
  | .holdoverLimitExpiry .. | .ptpEventForward .. | .pdelayExchange .. | .gptpSyncRelay .. | .triggerEdge ..
  | .launchEntryMap .. | .launchFrameSend .. | .keepalive .. | .outputLinkLoss .. | .faultDetect ..
  | .warning .. | .monitorRefresh .. | .monitor .. | .faultRetry .. | .checkpointCompare ..
  | .compareTimeout .. | .watchCheck .. | .selftestElement .. | .sweepLate .. | .ioCheckerTest ..
  | .geyserTick .. | .mgmtEntry .. | .pcieLinkDown .. | .linkTrained .. | .linkGivenUp ..
  | .dataFrameReceived .. | .lack .. | .lnak .. | .credit .. | .replayTimeout .. | .resp .. | .hello ..
  | .converged .. | .count .. | .done .. | .extest .. | .samplePreload .. | .dbgStatus .. | .dbgUnlock ..
  | .dbgLock .. | .dbgMemRead .. | .dbgMemWrite .. | .dbgStop .. | .dbgGrant .. | .idcode .. | .bypass ..
  | .cutComplete .. | .traceSync .. | .rangeLinkUp .. | .outputLinkUp .. | .pcieLinkUp ..
  | .completionTimeout .. | .configurationWrite .. => .other

end Sys2Proof.Safety
end

