-- ==== Sys2Proof/Certificates/Slice0/Obligations.lean ====
section
/-! DEFINITION. Obligations: the statements for the provers, one or more for every family of commands and every kind of
state, each written from the numbered rules of the specification that its docstring's entry in OBLIGATIONS.json cites. A
statement of several clauses is their conjunction; every clause says what the next state is and what stays. -/
section
open Sys2Proof
open Sys2Proof.Machine
open Sys2Proof.Safety

/-- For every command c, rest of a queue and state: step with c at the front is exec c on the state with the rest. On an
empty queue a step answers the state after one fabric cycle, which changes only the timebase, the trace and its
ring; while the always-on domain is in reset nothing changes, and else, with FREQ 0 and nothing to slew, exactly 1
ns passes. That an empty queue lets a fabric cycle pass is the model's choice (log entry 3). -/
def Obligations.StepTakesTheFrontCommand : Prop :=
  (∀ (c : Instr) (rest : List Instr) (s : State), step { s with pending := c :: rest } = exec c { s with pending := rest })
  ∧ (∀ (s : State), s.pending = [] → ∃ t, step s = .next t ∧ Only [.dict, .time, .channels, .dbg, .out] s t
      ∧ (s.boot.aon = false → t = s)
      ∧ (s.boot.aon = true → s.reg 0x2900 4 = 0 → s.time.slewLeft = 0 → Invariant s → s.time.frac < 2 ^ 48 →
          t.time.frac = s.time.frac
          ∧ (s.time.nanos ≠ 999999999 → t.time.nanos = s.time.nanos + 1 ∧ t.time.seconds = s.time.seconds % 2 ^ 64)
          ∧ (s.time.nanos = 999999999 → t.time.nanos = 0 ∧ t.time.seconds = (s.time.seconds + 1) % 2 ^ 64)))

/-- No command faults or is refused by the model: exec answers a next state for every command with any operands in every
state, and the queue of waiting commands is what it was; so a step takes exactly the front command out of the queue. -/
def Obligations.EveryCommandCompletes : Prop :=
  (∀ (c : Instr) (s : State), ∃ t, exec c s = .next t ∧ t.pending = s.pending)
  ∧ (∀ (c : Instr) (rest : List Instr) (s : State), ∃ t, step { s with pending := c :: rest } = .next t ∧ t.pending = rest)

/-- In State.reset no slot of any spindle is present, no accumulator set is tagged INT48 (so every one is FP32) or
poisoned, and every byte, those of the local stores and of the side array among them, reads as zero, in a codeword
that is taken as correct. The same holds of what a Power and a Device reset leave of any state (POWER_ON, and
WATCHDOG where firmware runs). It says of each of these commands that it completes (exec answers a next state with
the effect told above, under conditions on the state and the operands alone): POWER_ON (powerOn), WATCHDOG
(watchdog). -/
def Obligations.ResetLeaves : Prop :=
  let clear : State → Prop := fun t =>
    (∀ u : SpindleId, (t.spindle u.val).present = [] ∧ (t.spindle u.val).int48 = [] ∧ (t.spindle u.val).poison = [])
    ∧ (∀ x, storeBase ≤ x → x < bufferBase ∨ sideBase ≤ x → t.byteAt x = 0 ∧ t.codeAt (x / 16) = .clean)
  clear State.reset
  ∧ (∀ (s : State), Completes .powerOn s clear)
  ∧ (∀ (s : State), s.boot.image ≠ [] → Completes .watchdog s clear)

/-- The reset state's memory is in canonical form (it lists nothing), NANOSECONDS is below 10^9 and every
synchronisation object is a 32-bit number. -/
def Obligations.ResetMeetsInvariant : Prop :=
  Invariant State.reset

/-- From every state that meets the invariant (memory in canonical form, NANOSECONDS below 10^9, every synchronisation
object below 2^32), a step that answers a next state answers one that meets it: all 240 commands, and the fabric
cycle of an empty queue. -/
def Obligations.StepKeepsInvariant : Prop :=
  ∀ (s t : State), Invariant s → step s = .next t → Invariant t

/-- Of all 240 commands, one that changes the timebase is an agent's access to the dictionary (STEP, SLEW and
CANCEL_SLEW reach it so), a reset, or the servo's Sync or its time-out; one that changes the translation store or
its shadow is an access or a reset. Every other command, with any operands, in any state, leaves them as they are. -/
def Obligations.WhatChangesTheTimebase : Prop :=
  ∀ (c : Instr) (s t : State), exec c s = .next t →
    (t.time ≠ s.time → sourceOf c = .access ∨ sourceOf c = .reset ∨ sourceOf c = .servo)
    ∧ (t.xlat ≠ s.xlat ∨ t.xlatShadow ≠ s.xlatShadow → sourceOf c = .access ∨ sourceOf c = .reset)

/-- For every agent, subindex, length, value and state whose checks (R371 steps 1 to 6, the gates of R401 and R457, the
commit owner of R378) refuse the write, REGISTER_WRITE completes, the agent's reply holds the abort code, and
nothing else changes (2102h:02 also consumes one free value of the model). The code is 0602_0000h for an index that
does not exist, 0609_0011h for a subindex that does not, 0601_0002h for ro and const, 0607_0010h for a wrong length,
0800_0021h for an agent barred by the owner, 0800_0022h for a rw-idle subindex of a block that is not idle and
0609_0030h for a value that is not accepted. That the gates are judged after step 6 is the model's reading (log
entry 71). -/
def Obligations.RegisterWriteRefused : Prop :=
  (∀ (s : State) (a : Agent) (ix sub len v : Nat), ¬ Admitted s a ix sub len v →
    Does (.registerWrite a ix sub len v) s [.replies, .freeUsed] [] (fun t =>
      Replied a (s.writeCheck (agentNo a) ix sub len v) 0 t ∧ (¬ (ix = 0x2102 ∧ sub = 2) → t.freeUsed = s.freeUsed)))
  ∧ (∀ (s : State) (a : Agent) (ix sub len v : Nat), odHasIndex ix = false → s.writeCheck (agentNo a) ix sub len v = 0x06020000)
  ∧ (∀ (s : State) (a : Agent) (ix sub len v : Nat), odHasIndex ix = true → odFind ix sub = none → s.writeCheck (agentNo a) ix sub len v = 0x06090011)
  ∧ (∀ (s : State) (a : Agent) (ix sub len v : Nat), odHasIndex ix = true →
    (∃ e, odFind ix sub = some e ∧ (e.acc = .const ∨ e.acc = .ro)) → s.writeCheck (agentNo a) ix sub len v = 0x06010002)
  ∧ (∀ (s : State) (a : Agent) (ix sub len v : Nat), odHasIndex ix = true →
    (∃ e, odFind ix sub = some e ∧ e.acc ≠ .const ∧ e.acc ≠ .ro ∧ len ≠ e.bytes) → s.writeCheck (agentNo a) ix sub len v = 0x06070010)
  ∧ (∀ (s : State) (a : Agent) (ix sub len v : Nat), odHasIndex ix = true →
    (∃ e, odFind ix sub = some e ∧ e.acc ≠ .const ∧ e.acc ≠ .ro ∧ len = e.bytes) → s.barred (agentNo a) ix sub = true →
    s.writeCheck (agentNo a) ix sub len v = 0x08000021)
  ∧ (∀ (s : State) (a : Agent) (ix sub len v : Nat), odHasIndex ix = true →
    (∃ e, odFind ix sub = some e ∧ e.acc = .rwIdle ∧ len = e.bytes) → s.barred (agentNo a) ix sub = false →
    s.blockIdle (agentNo a) ix = false → s.writeCheck (agentNo a) ix sub len v = 0x08000022)
  ∧ (∀ (s : State) (a : Agent) (ix sub len v : Nat), odHasIndex ix = true →
    (∃ e, odFind ix sub = some e ∧ e.acc ≠ .const ∧ e.acc ≠ .ro ∧ e.acc ≠ .rwIdle ∧ len = e.bytes) → s.barred (agentNo a) ix sub = false →
    valueOk ix sub v = false → s.writeCheck (agentNo a) ix sub len v = 0x06090030)

/-- An admitted REGISTER_WRITE of a plain setting (1017h:00, 2900h:09, 2900h:10, 2B30h:02, 2E00h:03, 2C10h:01) completes
with the register at the written value, cut to its type, the reply 0, and no other register and no other part
changed. An admitted OWNER_WRITE writes 0 or the agent's own code, and leaves 2304h:07 at it. Where the rules leave
room the clauses follow the model's reading (log entries 71, 72). It says of each of these commands that it
completes (exec answers a next state with the effect told above, under conditions on the state and the operands
alone): REGISTER_WRITE (registerWrite), OWNER_WRITE (ownerWrite). -/
def Obligations.RegisterWrite : Prop :=
  (∀ (x : Nat × Nat) (s : State) (a : Agent) (v : Nat), x ∈ [(0x1017, 0), (0x2900, 9), (0x2900, 0x10), (0x2B30, 2), (0x2E00, 3), (0x2C10, 1)] →
    Admitted s a x.1 x.2 (odBytes x.1 x.2) v →
    Does (.registerWrite a x.1 x.2 (odBytes x.1 x.2) v) s [.dict, .replies] [x] (fun t =>
      t.reg x.1 x.2 = v % 256 ^ odBytes x.1 x.2 ∧ Replied a 0 0 t))
  ∧ (∀ (s : State) (a : Agent) (v : Nat), Admitted s a 0x2304 7 1 v →
    (v = 0 ∨ v = agentNo a + 1)
    ∧ Does (.ownerWrite a v) s [.dict, .replies] [(0x2304, 7)] (fun t => t.reg 0x2304 7 = v ∧ Replied a 0 0 t))

/-- An admitted COMMIT whose checks find no breach completes with the reply 0, STATUS and DETAIL 0, COMMITS one higher,
and the accepted value of every dictionary shadow equal to the shadow; each setting that comes into force at COMMIT
and each page whose shadow differs is at its shadow. One whose checks find a breach completes with the reply
0604_0043h, STATUS and DETAIL naming the first breach, REFUSALS counted, and no accepted value, no shadow and no
other part changed. An admitted DISCARD completes with every shadow back at its accepted value and the translation
shadows back at the entries in force. Where the rules leave room the clauses follow the model's reading (log entry
78). It says of each of these commands that it completes (exec answers a next state with the effect told above,
under conditions on the state and the operands alone): COMMIT (commit), DISCARD (discard). -/
def Obligations.CommitAccepted : Prop :=
  (∀ (s : State) (a : Agent), Admitted s a 0x2304 1 1 1 → s.commitBreaches = [] →
    Does (.commit a) s [.dict, .accepted, .replies, .xlat, .calderas, .skeins, .dbg]
        ([(0x2304, 2), (0x2304, 3), (0x2304, 5)] ++ (shadowList.filter (fun x => appliesNow x.1)).map (fun x => forceOf x.1 x.2)
          ++ (List.range 8).map (fun p => (0x2310 + p, 0x0C)) ++ writeRegs
          ++ (List.range 64).flatMap (fun g => [(0x2440 + g, 1), (0x2440 + g, 2)]) ++ traceRegs) (fun t =>
      Replied a 0 0 t ∧ t.reg 0x2304 2 = 0 ∧ t.reg 0x2304 3 = 0 ∧ t.reg 0x2304 5 = (s.reg 0x2304 5 + 1) % 2 ^ 32
      ∧ (∀ x ∈ shadowList, t.acc x.1 x.2 = s.reg x.1 x.2)
      ∧ (∀ x ∈ shadowList, appliesNow x.1 = true → s.shadowDiffers x = true →
          t.reg (forceOf x.1 x.2).1 (forceOf x.1 x.2).2 = s.reg x.1 x.2 % 256 ^ odBytes (forceOf x.1 x.2).1 (forceOf x.1 x.2).2)
      ∧ (∀ id, t.entry id = if s.changedPages.contains id then s.entryShadow id else s.entry id)))
  ∧ (∀ (s : State) (a : Agent) (st ix sub page : Nat) (rest : List (Nat × Nat × Nat × Nat)), Admitted s a 0x2304 1 1 1 →
    s.commitBreaches = (st, ix, sub, page) :: rest →
    Does (.commit a) s [.dict, .replies] [(0x2304, 2), (0x2304, 3), (0x2304, 6)] (fun t =>
      Replied a 0x06040043 0 t ∧ t.reg 0x2304 2 = st % 256
      ∧ t.reg 0x2304 3 = (page * 2 ^ 32 + ix * 2 ^ 16 + sub * 2 ^ 8) % 2 ^ 64))
  ∧ (∀ (s : State) (a : Agent), Admitted s a 0x2304 1 1 2 →
    Does (.discard a) s [.dict, .xlatShadow, .replies] shadowList (fun t =>
      Replied a 0 0 t ∧ t.xlatShadow = s.xlat
      ∧ ∀ x ∈ shadowList, s.acc x.1 x.2 < 256 ^ odBytes x.1 x.2 → t.reg x.1 x.2 = s.acc x.1 x.2))

/-- Object 2420h: sub 00 reads 03h; SELECT is an UNSIGNED32 rw with default 0 that accepts exactly 0 to 131,071 and then
names the object for the agent that wrote it; VALUE is an UNSIGNED32 rw with default 0 whose read returns the
selected counter and whose write (SYNC_VALUE_WRITE) sets it; ADD is an UNSIGNED32 wo whose write (SYNC_ADD_WRITE)
adds modulo 2^32 (R111). No other object changes, and no part but the dictionary (counters), the objects and the
calderas, where an event waits for each stream whose WAIT the write satisfies. It says of each of these commands
that it completes (exec answers a next state with the effect told above, under conditions on the state and the
operands alone): REGISTER_WRITE (registerWrite), SYNC_VALUE_WRITE (syncValueWrite), SYNC_ADD_WRITE (syncAddWrite). -/
def Obligations.SyncObjectAccess : Prop :=
  (∃ e, odFind 0x2420 0 = some e ∧ e.bytes = 1 ∧ e.acc = .const ∧ e.dflt = 3)
  ∧ (∃ e, odFind 0x2420 1 = some e ∧ e.bytes = 4 ∧ e.acc = .rw ∧ e.dflt = 0)
  ∧ (∃ e, odFind 0x2420 2 = some e ∧ e.bytes = 4 ∧ e.acc = .rw ∧ e.dflt = 0)
  ∧ (∃ e, odFind 0x2420 3 = some e ∧ e.bytes = 4 ∧ e.acc = .wo)
  ∧ (∀ (v : Nat), (valueOk 0x2420 1 v = true ↔ v ≤ 131071))
  ∧ (∀ (s : State) (a : Agent), s.odValue (agentNo a) 0x2420 2 = s.sync (s.sel (agentNo a) 0x2420) % 2 ^ 32)
  ∧ (∀ (s : State) (a : Agent) (v : Nat), Admitted s a 0x2420 1 4 v →
    Does (.registerWrite a 0x2420 1 4 v) s [.selects, .replies] [] (fun t =>
      t.sel (agentNo a) 0x2420 = v ∧ (∀ b, b ≠ a → t.sel (agentNo b) 0x2420 = s.sel (agentNo b) 0x2420) ∧ Replied a 0 0 t))
  ∧ (∀ (s : State) (a : Agent) (v : Nat), Admitted s a 0x2420 2 4 v →
    Does (.syncValueWrite a v) s [.dict, .syncs, .calderas, .replies] countRegs (fun t =>
      t.sync (s.sel (agentNo a) 0x2420) = v % 2 ^ 32 ∧ KeptBut State.sync [s.sel (agentNo a) 0x2420] s t ∧ Replied a 0 0 t))
  ∧ (∀ (s : State) (a : Agent) (v : Nat), Admitted s a 0x2420 3 4 v →
    Does (.syncAddWrite a v) s [.dict, .syncs, .calderas, .replies] countRegs (fun t =>
      t.sync (s.sel (agentNo a) 0x2420) = (s.sync (s.sel (agentNo a) 0x2420) + v) % 2 ^ 32
      ∧ KeptBut State.sync [s.sel (agentNo a) 0x2420] s t ∧ Replied a 0 0 t))

/-- While the host link is up and the endpoint released, MAILBOX_REQUEST on a mailbox that is not BUSY starts the
request (BUSY set, DONE, ABORTED and ABORT cleared, the mailbox queued at the arbiter) or stores LENGTH or the
written bytes of DATA, or REQUEST and LENGTH at once; on one that is BUSY it sets OVERRUN and nothing else of the
mailbox. A write of STATUS, ABORT or the reserved bytes is discarded. The host's bytes are counted in 2E30h:0B. No
other mailbox and no other part changes. While the link is down nothing changes. It says of this command that it
completes (exec answers a next state with the effect told above, under conditions on the state and the operands
alone): MAILBOX_REQUEST (mailboxRequest). -/
def Obligations.MailboxRequest : Prop :=
  (∀ (s : State) (i : Fin 16) (r : Nat), s.pcieUp = true → 6 ≤ s.boot.released → (s.mailbox i.val).busy = false →
    Does (.mailboxRequest i (.request r)) s [.dict, .mailboxes, .mirrorQueue] [(0x2E30, 0x0B)] (fun t =>
      t.mailbox i.val = { s.mailbox i.val with request := r, busy := true, done := false, aborted := false, abort := 0 }
      ∧ KeptBut State.mailbox [i.val] s t ∧ t.mirrorQueue = s.mirrorQueue ++ [i.val]
      ∧ t.reg 0x2E30 0x0B = (s.reg 0x2E30 0x0B + 4) % 2 ^ 64))
  ∧ (∀ (s : State) (i : Fin 16) (n : Nat), s.pcieUp = true → 6 ≤ s.boot.released → (s.mailbox i.val).busy = false →
    Does (.mailboxRequest i (.length n)) s [.dict, .mailboxes] [(0x2E30, 0x0B)] (fun t =>
      t.mailbox i.val = { s.mailbox i.val with length := n } ∧ KeptBut State.mailbox [i.val] s t
      ∧ t.reg 0x2E30 0x0B = (s.reg 0x2E30 0x0B + 4) % 2 ^ 64))
  ∧ (∀ (s : State) (i : Fin 16) (r : Nat) (n : Nat), s.pcieUp = true → 6 ≤ s.boot.released → (s.mailbox i.val).busy = false →
    Does (.mailboxRequest i (.requestLength r n)) s [.dict, .mailboxes, .mirrorQueue] [(0x2E30, 0x0B)] (fun t =>
      t.mailbox i.val = { s.mailbox i.val with request := r, length := n, busy := true, done := false, aborted := false, abort := 0 }
      ∧ KeptBut State.mailbox [i.val] s t ∧ t.mirrorQueue = s.mirrorQueue ++ [i.val]
      ∧ t.reg 0x2E30 0x0B = (s.reg 0x2E30 0x0B + 8) % 2 ^ 64))
  ∧ (∀ (s : State) (i : Fin 16) (v : Nat) (b : Nat) (x : Nat × Nat), s.pcieUp = true → 6 ≤ s.boot.released → (s.mailbox i.val).busy = false →
    (x.2 = 4 ∨ x.2 = 8) → x.1 + x.2 ≤ 32 → b < 32 →
    Does (.mailboxRequest i (.data x.1 x.2 v)) s [.dict, .mailboxes] [(0x2E30, 0x0B)] (fun t =>
      t.mailbox i.val = { s.mailbox i.val with data := (t.mailbox i.val).data }
      ∧ (t.mailbox i.val).data / 256 ^ b % 256
        = (if x.1 ≤ b ∧ b < x.1 + x.2 then v / 256 ^ (b - x.1) % 256 else (s.mailbox i.val).data / 256 ^ b % 256)
      ∧ KeptBut State.mailbox [i.val] s t ∧ t.reg 0x2E30 0x0B = (s.reg 0x2E30 0x0B + x.2) % 2 ^ 64))
  ∧ (∀ (s : State) (i : Fin 16) (n : Nat), s.pcieUp = true → 6 ≤ s.boot.released → (n = 4 ∨ n = 8) →
    Does (.mailboxRequest i (.readOnly n)) s [.dict] [(0x2E30, 0x0B)] (fun t => t.reg 0x2E30 0x0B = (s.reg 0x2E30 0x0B + n) % 2 ^ 64))
  ∧ (∀ (s : State) (i : Fin 16) (w : MailboxWrite), s.pcieUp = true → 6 ≤ s.boot.released → (s.mailbox i.val).busy = true →
    w ≠ .readOnly (mailboxBytes w) →
    Does (.mailboxRequest i w) s [.dict, .mailboxes] [(0x2E30, 0x0B)] (fun t =>
      t.mailbox i.val = { s.mailbox i.val with overrun := true } ∧ KeptBut State.mailbox [i.val] s t))
  ∧ (∀ (s : State) (i : Fin 16) (w : MailboxWrite), s.pcieUp = false → Does (.mailboxRequest i w) s [] [] (fun t => t = s))

/-- With the busy mailbox i at the front of the mirror's requests: a read request that passes ends with LENGTH and DATA
filled, DONE set and ABORT 0; a read or a write that a check refuses, and a request of neither kind, ends with DONE
and ABORTED set and the abort code; an admitted write of 1017h stores it. BUSY is cleared, the request leaves the
queue, no other mailbox changes, and MSI-X 0 goes out where the request asks for it and the endpoint may reach the
host (is held where its entry of the MSI-X table masks it). The two progress registers may read a fresh free value
(2F01h:04, 2F02h:04). Where the rules leave room the clauses follow the model's reading (log entries 71, 99). It
says of this command that it completes (exec answers a next state with the effect told above, under conditions on
the state and the operands alone): MAILBOX_COMPLETE (mailboxComplete). -/
def Obligations.MailboxComplete : Prop :=
  (∀ (s : State) (i : Nat) (rest : List Nat) (r : State × Nat × Nat), s.mirrorQueue = i :: rest → (s.mailbox i).busy = true →
    (s.mailbox i).request % 4 = 1 →
    r = (s.withMirrorQueue rest).odRead .mirror ((s.mailbox i).request / 65536) ((s.mailbox i).request / 256 % 256) →
    Does .mailboxComplete s [.dict, .replies, .latches, .mailboxes, .mirrorQueue, .freeUsed, .out] [(0x2F01, 4), (0x2F02, 4), (0x2E30, 0x0A)] (fun t =>
      t.mirrorQueue = rest ∧ KeptBut State.mailbox [i] s t
      ∧ (r.2.1 = 0 → t.mailbox i = { s.mailbox i with
          busy := false, done := true, aborted := false, abort := 0, data := r.2.2,
          length := odBytes ((s.mailbox i).request / 65536) ((s.mailbox i).request / 256 % 256) })
      ∧ (r.2.1 ≠ 0 → t.mailbox i = { s.mailbox i with busy := false, done := true, aborted := true, abort := r.2.1 })
      ∧ t.out = (if bit (s.mailbox i).request 7 then msixOut s 0 else []) ++ s.out))
  ∧ (∀ (s : State) (i : Nat) (rest : List Nat), s.mirrorQueue = i :: rest → (s.mailbox i).busy = true → (s.mailbox i).request % 4 = 2 →
    ¬ Admitted s .mirror ((s.mailbox i).request / 65536) ((s.mailbox i).request / 256 % 256) (s.mailbox i).length
      ((s.mailbox i).data % 256 ^ Nat.min 32 (s.mailbox i).length) →
    Does .mailboxComplete s [.dict, .replies, .mailboxes, .mirrorQueue, .freeUsed, .out] [(0x2E30, 0x0A)] (fun t =>
      t.mirrorQueue = rest ∧ KeptBut State.mailbox [i] s t
      ∧ t.mailbox i = { s.mailbox i with busy := false, done := true, aborted := true,
                                         abort := s.writeCheck 2 ((s.mailbox i).request / 65536) ((s.mailbox i).request / 256 % 256)
                                           (s.mailbox i).length ((s.mailbox i).data % 256 ^ Nat.min 32 (s.mailbox i).length) }))
  ∧ (∀ (s : State) (i : Nat) (rest : List Nat), s.mirrorQueue = i :: rest → (s.mailbox i).busy = true → (s.mailbox i).request % 4 = 2 →
    (s.mailbox i).request / 256 = 0x101700 → (s.mailbox i).length = 2 → Admitted s .mirror 0x1017 0 2 ((s.mailbox i).data % 65536) →
    Does .mailboxComplete s [.dict, .replies, .mailboxes, .mirrorQueue, .out] [(0x1017, 0), (0x2E30, 0x0A)] (fun t =>
      t.reg 0x1017 0 = (s.mailbox i).data % 65536 ∧ t.mirrorQueue = rest ∧ KeptBut State.mailbox [i] s t
      ∧ t.mailbox i = { s.mailbox i with busy := false, done := true, aborted := false, abort := 0 }))
  ∧ (∀ (s : State) (i : Nat) (rest : List Nat), s.mirrorQueue = i :: rest → (s.mailbox i).busy = true → (s.mailbox i).request % 4 ∉ [1, 2] →
    Does .mailboxComplete s [.dict, .mailboxes, .mirrorQueue, .out] [(0x2E30, 0x0A)] (fun t =>
      t.mirrorQueue = rest ∧ KeptBut State.mailbox [i] s t
      ∧ t.mailbox i = { s.mailbox i with busy := false, done := true, aborted := true, abort := 0x05040001 }))

/-- On a controller that takes part on its bus, the NMT commands start, stop and enter pre-operational set the NMT state
of that controller alone. Reset node and reset communication give objects 1000h to 1FFFh their defaults (but the
const ones and the PDO COB-IDs, which follow the node ID), take OWNER back where the controller holds it, enter
Pre-operational and send the boot-up message. HEARTBEAT sends 05h, 04h or 7Fh by the state. A controller that is off
or bus-off ignores each. BUS_OFF of a live controller is counted in its bus-off counter, ends its segmented
transfer, drops its waiting RPDOs and returns OWNER to 0 where it holds it; its NMT state stays. BUS_OFF_RECOVERY
clears the bus-off state. What the error counters then hold is no rule of the spec (log entry 76) and is not stated.
The other controller and every other part stay. Where the rules leave room the clauses follow the model's reading
(log entry 77). It says of each of these commands that it completes (exec answers a next state with the effect told
above, under conditions on the state and the operands alone): NMT_START_REMOTE_NODE (nmtStartRemoteNode),
NMT_STOP_REMOTE_NODE (nmtStopRemoteNode), NMT_ENTER_PRE_OPERATIONAL (nmtEnterPreOperational), NMT_RESET_NODE
(nmtResetNode), NMT_RESET_COMMUNICATION (nmtResetCommunication), HEARTBEAT (heartbeat), BUS_OFF (busOff),
BUS_OFF_RECOVERY (busOffRecovery). -/
def Obligations.NmtCommands : Prop :=
  (∀ (s : State) (c : CanId), s.canLive c.val = true →
    Does (.nmtStartRemoteNode c) s [.cans] [] (fun t => t.can c.val = { s.can c.val with nmt := .operational } ∧ KeptBut State.can [c.val] s t)
    ∧ Does (.nmtStopRemoteNode c) s [.cans] [] (fun t => t.can c.val = { s.can c.val with nmt := .stopped } ∧ KeptBut State.can [c.val] s t)
    ∧ Does (.nmtEnterPreOperational c) s [.cans] [] (fun t =>
        t.can c.val = { s.can c.val with nmt := .preOperational } ∧ KeptBut State.can [c.val] s t))
  ∧ (∀ (s : State) (c : CanId) (i : Instr), s.canLive c.val = true → i ∈ [.nmtResetNode c, .nmtResetCommunication c] →
    ∃ t, exec i s = .next t ∧
      Only [.dict, .cans, .out] s t ∧ t.can c.val = { Can.init with nmt := .preOperational } ∧ KeptBut State.can [c.val] s t
      ∧ t.out = .bootUp c.val :: s.out
      ∧ t.reg 0x2304 7 = (if s.reg 0x2304 7 = c.val + 1 then 0 else s.reg 0x2304 7)
      ∧ (∀ ix, ∀ sub, 0x2000 ≤ ix → sub < 256 → (ix, sub) ≠ (0x2304, 7) → t.reg ix sub = s.reg ix sub)
      ∧ (∀ n : Fin 4, t.reg (0x1400 + n.val) 1 = (odDefault (0x1400 + n.val) 1 + s.canNode) % 2 ^ 32
          ∧ t.reg (0x1800 + n.val) 1 = (odDefault (0x1800 + n.val) 1 + s.canNode) % 2 ^ 32)
      ∧ (∀ ix, ∀ sub, ix < 0x2000 → sub < 256 → (∀ n : Fin 4, (ix, sub) ≠ (0x1400 + n.val, 1) ∧ (ix, sub) ≠ (0x1800 + n.val, 1)) →
          t.reg ix sub = if (odFind ix sub).any (fun e => e.acc == .const) then s.reg ix sub else odDefault ix sub))
  ∧ (∀ (s : State) (c : CanId), s.canLive c.val = true → s.reg 0x1017 0 ≠ 0 →
    Does (.heartbeat c) s [.out] [] (fun t =>
      ((s.can c.val).nmt = .operational → t.out = .heartbeat c.val 5 :: s.out)
      ∧ ((s.can c.val).nmt = .stopped → t.out = .heartbeat c.val 4 :: s.out)
      ∧ ((s.can c.val).nmt = .preOperational → t.out = .heartbeat c.val 0x7F :: s.out)))
  ∧ (∀ (s : State) (c : CanId) (i : Instr), s.canLive c.val = false →
    i ∈ [.nmtStartRemoteNode c, .nmtStopRemoteNode c, .nmtEnterPreOperational c, .nmtResetNode c, .nmtResetCommunication c, .heartbeat c] →
    Does i s [] [] (fun t => t = s))
  ∧ (∀ (s : State) (c : CanId), s.canLive c.val = true →
    Does (.busOff c) s [.dict, .cans, .freeUsed] [(0x2D38, 5 * c.val + 1), (0x2D38, 5 * c.val + 3), (0x2304, 7)] (fun t =>
      t.can c.val = { s.can c.val with busOff := true, segment := none, waiting := [] } ∧ KeptBut State.can [c.val] s t
      ∧ t.reg 0x2304 7 = (if s.reg 0x2304 7 = c.val + 1 then 0 else s.reg 0x2304 7)
      ∧ t.reg 0x2D38 (5 * c.val + 3) = Nat.min (s.reg 0x2D38 (5 * c.val + 3) + 1) (256 ^ odBytes 0x2D38 (5 * c.val + 3) - 1)))
  ∧ (∀ (s : State) (c : CanId), (s.can c.val).busOff = true →
    Does (.busOffRecovery c) s [.dict, .cans] [(0x2D38, 5 * c.val + 1), (0x2D38, 5 * c.val + 2)] (fun t =>
      t.can c.val = { s.can c.val with busOff := false } ∧ KeptBut State.can [c.val] s t))

/-- While a controller serves USDO, a read answers the length and value of the subindex, or the abort code of its
checks; a write that a check refuses answers its abort code, and an admitted write of 1017h stores it and answers 0;
the start of a segmented write, and each segment but the last, answers 0 and keeps the transfer; a segment with none
in progress and an unsupported service answer 0504_0001h, a wrong toggle bit 0503_0000h, too many bytes 0607_0010h,
a time-out 0504_0000h, and each ends the transfer. No other part changes. Where the rules leave room the clauses
follow the model's reading (log entry 75). It says of each of these commands that it completes (exec answers a next
state with the effect told above, under conditions on the state and the operands alone): USDO_REQUEST (usdoRequest),
USDO_TIMEOUT (usdoTimeout). -/
def Obligations.UsdoTransfers : Prop :=
  (∀ (s : State) (c : CanId) (ix sub : Nat), s.canEnabled c.val = true → s.readCheck c.val ix sub = 0 → ix ≠ 0x2F01 → ix ≠ 0x2F02 →
    Does (.usdoRequest c (.read ix sub)) s [.cans, .replies, .latches, .out] [] (fun t =>
      t.out = .usdo c.val 0 (odBytes ix sub) (s.odValue c.val ix sub) :: s.out
      ∧ t.can c.val = { s.can c.val with segment := none } ∧ KeptBut State.can [c.val] s t))
  ∧ (∀ (s : State) (c : CanId) (ix sub : Nat), s.canEnabled c.val = true → s.readCheck c.val ix sub ≠ 0 →
    Does (.usdoRequest c (.read ix sub)) s [.cans, .replies, .out] [] (fun t =>
      t.out = .usdo c.val (s.readCheck c.val ix sub) 0 0 :: s.out))
  ∧ (∀ (s : State) (c : CanId) (ix sub len v : Nat), s.canEnabled c.val = true → ¬ Admitted s (agentOf c.val) ix sub len v →
    Does (.usdoRequest c (.write ix sub len v)) s [.cans, .replies, .freeUsed, .out] [] (fun t =>
      t.out = .usdo c.val (s.writeCheck c.val ix sub len v) 0 0 :: s.out))
  ∧ (∀ (s : State) (c : CanId) (v : Nat), s.canEnabled c.val = true → Admitted s (agentOf c.val) 0x1017 0 2 v →
    Does (.usdoRequest c (.write 0x1017 0 2 v)) s [.dict, .cans, .replies, .out] [(0x1017, 0)] (fun t =>
      t.reg 0x1017 0 = v % 65536 ∧ t.out = .usdo c.val 0 0 0 :: s.out))
  ∧ (∀ (s : State) (c : CanId) (ix sub len : Nat), s.canEnabled c.val = true →
    Does (.usdoRequest c (.writeStart ix sub len)) s [.cans, .out] [] (fun t =>
      t.can c.val = { s.can c.val with segment := some (ix, sub, len, false, []) } ∧ KeptBut State.can [c.val] s t
      ∧ t.out = .usdo c.val 0 0 0 :: s.out))
  ∧ (∀ (s : State) (c : CanId) (ix sub len : Nat) (next toggle : Bool) (got bytes : List Byte), s.canEnabled c.val = true →
    (s.can c.val).segment = some (ix, sub, len, next, got) →
    (toggle ≠ next → Does (.usdoRequest c (.segment toggle bytes)) s [.cans, .out] [] (fun t =>
      (t.can c.val).segment = none ∧ t.out = .usdo c.val 0x05030000 0 0 :: s.out))
    ∧ (toggle = next → len < got.length + bytes.length → Does (.usdoRequest c (.segment toggle bytes)) s [.cans, .out] [] (fun t =>
      (t.can c.val).segment = none ∧ t.out = .usdo c.val 0x06070010 0 0 :: s.out))
    ∧ (toggle = next → got.length + bytes.length < len → Does (.usdoRequest c (.segment toggle bytes)) s [.cans, .out] [] (fun t =>
      (t.can c.val).segment = some (ix, sub, len, !next, got ++ bytes) ∧ t.out = .usdo c.val 0 0 0 :: s.out))
    ∧ (toggle = next → got.length + bytes.length = len → ix = 0x1017 → sub = 0 → len = 2 →
      Admitted s (agentOf c.val) 0x1017 0 2 (leNat (got ++ bytes)) →
      Does (.usdoRequest c (.segment toggle bytes)) s [.dict, .cans, .replies, .out] [(0x1017, 0)] (fun t =>
        (t.can c.val).segment = none ∧ t.reg 0x1017 0 = leNat (got ++ bytes) % 65536 ∧ t.out = .usdo c.val 0 0 0 :: s.out)))
  ∧ (∀ (s : State) (c : CanId) (m : UsdoMessage), s.canEnabled c.val = true → (s.can c.val).segment = none →
    m ∈ [.unsupported, .segment true [], .segment false []] →
    Does (.usdoRequest c m) s [.out] [] (fun t => t.out = .usdo c.val 0x05040001 0 0 :: s.out))
  ∧ (∀ (s : State) (c : CanId), s.canEnabled c.val = true → (s.can c.val).segment ≠ none →
    Does (.usdoTimeout c) s [.cans, .out] [] (fun t =>
      t.can c.val = { s.can c.val with segment := none } ∧ KeptBut State.can [c.val] s t ∧ t.out = .usdo c.val 0x05040000 0 0 :: s.out))

/-- In Operational and on the bus: a received RPDO of transmission type 01h to F0h waits for SYNC, replacing one that
waits; one of another type is applied at once, whole, or not at all and counted. At a SYNC of the identifier of
1005h what waits is applied and a synchronous TPDO is sent, or its SYNC counted, by its type. The event timer of a
TPDO of type FEh or FFh sends it. The message holds the mapped values, as many bytes as they have. A controller in
another state ignores all three. Where the rules leave room the clauses follow the model's reading (log entry 74).
It says of each of these commands that it completes (exec answers a next state with the effect told above, under
conditions on the state and the operands alone): SYNC_RECEIVED (syncReceived), RPDO_RECEIVED (rpdoReceived),
TPDO_EVENT_TIMER (tpdoEventTimer). -/
def Obligations.ProcessDataObjects : Prop :=
  (∀ (s : State) (c : CanId) (cob n : Nat) (data : List Byte), (s.can c.val).nmt = .operational → (s.can c.val).busOff = false →
    (List.range 4).filter (fun n => s.pdoValid (0x1400 + n) && s.reg (0x1400 + n) 1 % 2048 == cob) = [n] →
    inRange (s.reg (0x1400 + n) 2) 1 0xF0 = true →
    Does (.rpdoReceived c cob data) s [.cans] [] (fun t =>
      t.can c.val = { s.can c.val with waiting := (s.can c.val).waiting.filter (fun x => x.1 ≠ n) ++ [(n, data)] }
      ∧ KeptBut State.can [c.val] s t))
  ∧ (∀ (s : State) (c : CanId) (cob n : Nat) (data : List Byte), (s.can c.val).nmt = .operational → (s.can c.val).busOff = false →
    (List.range 4).filter (fun n => s.pdoValid (0x1400 + n) && s.reg (0x1400 + n) 1 % 2048 == cob) = [n] →
    inRange (s.reg (0x1400 + n) 2) 1 0xF0 = false →
    (∀ t, State.rpdoWrite c.val (s.pdoMap (0x1400 + n)) data s = some t → exec (.rpdoReceived c cob data) s = .next t)
    ∧ (State.rpdoWrite c.val (s.pdoMap (0x1400 + n)) data s = none → Does (.rpdoReceived c cob data) s [.dict] [(0x2D38, 5 * c.val + 4)] (fun t =>
        t.reg 0x2D38 (5 * c.val + 4) = Nat.min (s.reg 0x2D38 (5 * c.val + 4) + 1) (256 ^ odBytes 0x2D38 (5 * c.val + 4) - 1)))
    ∧ (s.pdoMap (0x1400 + n) = [0x10170010] → 2 ≤ data.length → Admitted s (agentOf c.val) 0x1017 0 2 (leNat (data.take 2)) →
        Does (.rpdoReceived c cob data) s [.dict, .replies] [(0x1017, 0)] (fun t => t.reg 0x1017 0 = leNat (data.take 2) % 65536)))
  ∧ (∀ (s : State) (c : CanId) (cob n : Nat) (data : List Byte), (s.can c.val).nmt = .operational → (s.can c.val).busOff = false →
    cob = s.reg 0x1005 0 % 2048 → (s.can c.val).waiting = [(n, data)] → n < 4 →
    (List.range 4).filter (fun n => s.pdoValid (0x1800 + n) && inRange (s.reg (0x1800 + n) 2) 1 0xF0) = [] →
    s.pdoMap (0x1400 + n) = [0x10170010] → 2 ≤ data.length → Admitted s (agentOf c.val) 0x1017 0 2 (leNat (data.take 2)) →
    Does (.syncReceived c cob) s [.dict, .cans, .replies] [(0x1017, 0)] (fun t =>
      t.reg 0x1017 0 = leNat (data.take 2) % 65536 ∧ t.can c.val = { s.can c.val with waiting := [] } ∧ KeptBut State.can [c.val] s t))
  ∧ (∀ (s : State) (c : CanId) (cob n : Nat), (s.can c.val).nmt = .operational → (s.can c.val).busOff = false →
    cob = s.reg 0x1005 0 % 2048 → (s.can c.val).waiting = [] → n < 4 →
    (List.range 4).filter (fun n => s.pdoValid (0x1800 + n) && inRange (s.reg (0x1800 + n) 2) 1 0xF0) = [n] →
    (tblGet 0 (s.can c.val).syncs n + 1 < s.reg (0x1800 + n) 2 → Does (.syncReceived c cob) s [.cans] [] (fun t =>
      tblGet 0 (t.can c.val).syncs n = tblGet 0 (s.can c.val).syncs n + 1 ∧ KeptBut State.can [c.val] s t))
    ∧ (s.reg (0x1800 + n) 2 ≤ tblGet 0 (s.can c.val).syncs n + 1 →
      Does (.syncReceived c cob) s [.dict, .cans, .latches, .freeUsed, .out] [(0x2F01, 4), (0x2F02, 4)] (fun t =>
        tblGet 0 (t.can c.val).syncs n = 0 ∧ KeptBut State.can [c.val] s t
        ∧ t.out.tail = s.out ∧ ∃ d, t.out.head? = some (.tpdo c.val n d))))
  ∧ (∀ (s : State) (c : CanId) (n : Fin 4), (s.can c.val).nmt = .operational → (s.can c.val).busOff = false →
    s.pdoValid (0x1800 + n.val) = true → 0xFE ≤ s.reg (0x1800 + n.val) 2 → s.reg (0x1800 + n.val) 5 ≠ 0 →
    Does (.tpdoEventTimer c n) s [.dict, .latches, .freeUsed, .out] [(0x2F01, 4), (0x2F02, 4)] (fun t =>
      t.out.tail = s.out ∧ (∃ d, t.out.head? = some (.tpdo c.val n.val d))
      ∧ (s.pdoMap (0x1800 + n.val) = [0x10170010] → s.readCheck c.val 0x1017 0 = 0 →
          t.out = .tpdo c.val n.val (leBytes 2 (s.reg 0x1017 0 % 65536)) :: s.out)))
  ∧ (∀ (s : State) (c : CanId) (cob : Nat) (data : List Byte) (n : Fin 4), (s.can c.val).nmt ≠ .operational ∨ (s.can c.val).busOff = true →
    Does (.rpdoReceived c cob data) s [] [] (fun t => t = s) ∧ Does (.syncReceived c cob) s [] [] (fun t => t = s)
    ∧ Does (.tpdoEventTimer c n) s [] [] (fun t => t = s))

/-- An admitted PDO_MAPPING_COUNT_WRITE stores the count where every entry up to it may be mapped with its own length
and all have at most 64 bytes; where one may not it answers 0604_0041h, where they are too long 0604_0042h, and
nothing changes. An admitted ERROR_LIST_CLEAR leaves 1003h with no entry. Where the rules leave room the clauses
follow the model's reading (log entry 77). It says of each of these commands that it completes (exec answers a next
state with the effect told above, under conditions on the state and the operands alone): PDO_MAPPING_COUNT_WRITE
(pdoMappingCountWrite), ERROR_LIST_CLEAR (errorListClear). -/
def Obligations.PdoMappingAndErrorList : Prop :=
  (∀ (s : State) (a : Agent) (ix v : Nat), ix ∈ [0x1600, 0x1601, 0x1602, 0x1603, 0x1A00, 0x1A01, 0x1A02, 0x1A03] → Admitted s a ix 0 1 v →
    (s.mappingCheck ix v = 0 → Does (.pdoMappingCountWrite a ix v) s [.dict, .replies] [(ix, 0)] (fun t => t.reg ix 0 = v ∧ Replied a 0 0 t))
    ∧ (s.mappingCheck ix v ≠ 0 → Does (.pdoMappingCountWrite a ix v) s [.replies] [] (fun t =>
        Replied a (s.mappingCheck ix v) 0 t ∧ (s.mappingCheck ix v = 0x06040041 ∨ s.mappingCheck ix v = 0x06040042))))
  ∧ (∀ (s : State) (a : Agent), Admitted s a 0x1003 0 1 0 →
    Does (.errorListClear a) s [.dict, .replies] ((List.range 9).map (fun i => (0x1003, i))) (fun t =>
      (∀ i ∈ List.range 9, t.reg 0x1003 i = 0) ∧ Replied a 0 0 t))

/-- POWER_ON, a brown-out of VDD_AON and REFERENCE_CLOCK_FAILURE, and PLL_LOCK_LOST of PLL 0 while the always-on domain
runs, leave every part as at reset but OTP (option slots, SVN fuses, lifecycle), pins, the outside world and the
waiting commands, with the source in CAUSE. RESET_N_LOW, WATCHDOG, MANAGEMENT_LOCK_UP, PLL_LOCK_LOST of another PLL,
a brown-out of another rail and an admitted RESET do the same but keep the timebase running, count RESETS and record
the stamp in LAST_STAMP. Each source's own condition is the hypothesis. After a brown-out and after RESET_N_LOW
every output group of pins is in its reset state (which step releases a group is the model's reading, log entry
115). Where the rules leave room the clauses follow the model's reading (log entries 2, 70). It says of each of
these commands that it completes (exec answers a next state with the effect told above, under conditions on the
state and the operands alone): POWER_ON (powerOn), BROWN_OUT (brownOut), REFERENCE_CLOCK_FAILURE
(referenceClockFailure), PLL_LOCK_LOST (pllLockLost), RESET_N_LOW (resetNLow), WATCHDOG (watchdog),
MANAGEMENT_LOCK_UP (managementLockUp), RESET (reset). -/
def Obligations.ResetSources : Prop :=
  (∀ (s : State) (x : Instr × Nat), x ∈ [(.powerOn, 1), (.brownOut 2, 1), (.referenceClockFailure, 64), (.pllLockLost 0, 128)] →
    (x.1 = .pllLockLost 0 → s.boot.aon = true) →
    Completes x.1 s (fun t =>
      Only [.pending, .boot, .dbg, .hostMem, .freeUsed, .out] State.reset t
      ∧ t.pending = s.pending ∧ t.hostMem = s.hostMem ∧ t.freeUsed = s.freeUsed ∧ t.out = s.out
      ∧ t.boot = { State.reset.boot with resetN := s.boot.resetN, perstN := s.boot.perstN, slots := s.boot.slots, fuses := s.boot.fuses,
                                         lifecycle := s.boot.lifecycle, cause := x.2, resets := 1, lastStamp := 0, tempPeak := none }
      ∧ t.dbg = { State.reset.dbg with nonces := s.dbg.nonces }))
  ∧ (∀ (s : State) (a : Agent) (rail : RailId) (pll : PllId) (x : Instr × Nat),
    x ∈ [(.watchdog, 8), (.managementLockUp, 256), (.reset a, 16), (.brownOut rail, 2 + 2 ^ (16 + rail.val)), (.pllLockLost pll, 128 + pll.val * 2 ^ 12)] →
    (x.1 = .watchdog → s.boot.image ≠ []) → (x.1 = .managementLockUp → 4 ≤ s.boot.released) →
    (x.1 = .reset a → Admitted s a 0x2100 5 2 0x5A01) → (x.1 = .brownOut rail → rail ≠ 2) →
    (x.1 = .pllLockLost pll → pll ≠ 0 ∧ 3 ≤ s.boot.released) →
    Completes x.1 s (fun t =>
      Only [.pending, .time, .boot, .dbg, .hostMem, .freeUsed, .out] State.reset t
      ∧ t.pending = s.pending ∧ t.hostMem = s.hostMem ∧ t.freeUsed = s.freeUsed ∧ t.out = s.out
      ∧ t.time.seconds = s.time.seconds ∧ t.time.nanos = s.time.nanos ∧ t.time.frac = s.time.frac
      ∧ t.boot = { State.reset.boot with
          resetN := s.boot.resetN, perstN := s.boot.perstN, slots := s.boot.slots, fuses := s.boot.fuses,
          lifecycle := s.boot.lifecycle, aon := s.boot.aon, cause := x.2, resets := (s.boot.resets + 1) % 2 ^ 32,
          lastStamp := s.stamp, tempPeak := s.boot.tempPeak, pllRestarts := s.boot.pllRestarts }
      ∧ t.dbg = { State.reset.dbg with nonces := s.dbg.nonces }))
  ∧ (∀ (s : State), s.boot.resetN = true →
    Completes .resetNLow s (fun t =>
      Only [.pending, .time, .boot, .dbg, .hostMem, .freeUsed, .out] State.reset t
      ∧ t.pending = s.pending ∧ t.time.seconds = s.time.seconds ∧ t.time.nanos = s.time.nanos
      ∧ t.boot.resetN = false ∧ t.boot.cause = 4 ∧ t.boot.released = 0 ∧ t.boot.resets = (s.boot.resets + 1) % 2 ^ 32
      ∧ t.boot.lastStamp = s.stamp ∧ t.boot.slots = s.boot.slots ∧ t.boot.fuses = s.boot.fuses))
  ∧ (∀ (s : State) (rail : RailId) (g : PinGroup), Completes (.brownOut rail) s (fun t => t.pinHold g = .reset))
  ∧ (∀ (s : State) (g : PinGroup), s.boot.resetN = true → Completes .resetNLow s (fun t => t.pinHold g = .reset))

/-- RESET_N_RISE reads the option bytes: the highest qualifying slot comes into force and the defaults that follow from
it are set. DOMAIN_RELEASE then releases the steps in order: the always-on domain, the PLLs, the management island
(STATE LOADING, or BOOT_WAIT where BOOT is 01h), the memory (the fill begins), the endpoint and links (on an
ordinary reset every enabled link starts to train), and after an accepted image the sensor ports, the eight calderas
one after another, and the last step, after which STATE is RUN and each controller present is Pre-operational and
has sent its boot-up. PLL_LOCK_TIMEOUT starts again from step 0 and counts; after three nothing is released.
MEMORY_FILL_COMPLETE ends the fill. Where the rules leave room the clauses follow the model's reading (log entries
67, 68). It says of each of these commands that it completes (exec answers a next state with the effect told above,
under conditions on the state and the operands alone): RESET_N_RISE (resetNRise), DOMAIN_RELEASE (domainRelease),
PLL_LOCK_TIMEOUT (pllLockTimeout), MEMORY_FILL_COMPLETE (memoryFillComplete). -/
def Obligations.ReleaseSequence : Prop :=
  (∀ (s : State), s.boot.resetN = false →
    Does .resetNRise s [.dict, .boot] ([(0x2500, 1), (0x2E00, 1), (0x2100, 4)] ++ (List.range 4).map (fun n => (0x1400 + n, 1)) ++ (List.range 4).map (fun n => (0x1800 + n, 1)))
      (fun t => t.boot = { s.boot with resetN := true, slotInForce := bestSlot s.boot.slots, optionStart := s.now,
                                       released := if s.boot.aon then 2 else 1 }
        ∧ t.reg 0x2500 1 = field t.options 3 1 ∧ t.reg 0x2E00 1 = field t.options 4 2 ∧ t.reg 0x2100 4 = t.watchdogMs))
  ∧ (∀ (s : State), s.boot.resetN = true → s.boot.pllRestarts < 3 →
    (s.boot.released = 1 → Does .domainRelease s [.boot] [] (fun t => t.boot = { s.boot with released := 2, aon := true }))
    ∧ (s.boot.released = 2 → Does .domainRelease s [.boot] [] (fun t => t.boot = { s.boot with released := 3 }))
    ∧ (s.boot.released = 3 → Does .domainRelease s [.dict, .boot] [(0x2100, 1), (0x2C00, 5), (0x2C00, 6), (0x2C00, 7)] (fun t =>
        t.boot.released = 4 ∧ t.reg 0x2100 1 = (if s.bootMode = 1 then 1 else 0) ∧ t.boot.loadAccepted = decide (s.bootMode = 1)))
    ∧ (s.boot.released = 4 → Does .domainRelease s [.dict, .boot] [(0x2F01, 2), (0x2F01, 4), (0x2F01, 5), (0x2F01, 6), (0x2F01, 7), (0x2F01, 8)] (fun t =>
        t.boot = { s.boot with released := 5 } ∧ (s.boot.filled = false → t.reg 0x2F01 2 = 1 ∧ t.reg 0x2F01 4 = 0 ∧ t.reg 0x2F01 5 = 0x200000000)))
    ∧ (s.boot.released = 5 → Does .domainRelease s [.dict, .boot, .links, .discovery, .dbg, .out] linkRegs (fun t =>
        t.boot = { s.boot with released := 6 }
        ∧ (s.reg 0x2E00 3 ≠ 1 → ∀ l : LinkId, t.linkState l.val = if s.reg (0x2E08 + l.val) 1 = 0 then s.linkState l.val else 1))))
  ∧ (∀ (s : State), s.boot.resetN = true → s.boot.pllRestarts < 3 → s.boot.image ≠ [] →
    (s.boot.released = 6 → Does .domainRelease s [.boot] [] (fun t => t.boot = { s.boot with released := 7 }))
    ∧ (s.boot.released = 7 → Does .domainRelease s [.boot] [] (fun t =>
        t.boot = { s.boot with calderas := s.boot.calderas + 1, released := if s.boot.calderas + 1 = 8 then 8 else 7 }))
    ∧ (s.boot.released = 8 → Does .domainRelease s [.dict, .boot, .cans, .freeUsed, .out] [(0x2100, 1), (0x2100, 7)] (fun t =>
        t.boot = { s.boot with released := 9 } ∧ t.reg 0x2100 1 = 2
        ∧ (∀ c, c < 2 → (t.can c).nmt = if s.canPresent c then .preOperational else (s.can c).nmt))))
  ∧ (∀ (s : State), s.boot.resetN = false ∨ 8 < s.boot.released ∨ (3 ≤ s.boot.pllRestarts ∧ s.boot.released ≠ 0) ∨ (s.boot.image = [] ∧ 6 ≤ s.boot.released) →
    Does .domainRelease s [] [] (fun t => t = s))
  ∧ (∀ (s : State) (pll : PllId), s.boot.resetN = true → s.boot.pllRestarts < 3 →
    (pll = 0 ∧ s.boot.released = 1) ∨ (pll ≠ 0 ∧ s.boot.released = 2) →
    Does (.pllLockTimeout pll) s [.boot] [] (fun t =>
      t.boot.released = 0 ∧ t.boot.pllRestarts = s.boot.pllRestarts + 1 ∧ bit t.boot.cause 7 = true ∧ bits t.boot.cause 15 12 = pll.val
      ∧ bits t.boot.cause 31 16 = bits s.boot.cause 31 16 ∧ t.boot.slots = s.boot.slots ∧ t.boot.resets = s.boot.resets))
  ∧ (∀ (s : State), s.boot.filled = false → 5 ≤ s.boot.released →
    Does .memoryFillComplete s [.dict, .boot] [(0x2F01, 2), (0x2F01, 4), (0x2F01, 6)] (fun t =>
      t.boot = { s.boot with filled := true } ∧ t.reg 0x2F01 2 = 2 ∧ t.reg 0x2F01 6 = 0))

/-- IMAGE_VERIFY answers a next state for the image that the flash delivers (it goes to buffer page 3) and for the one
that a host LOAD staged there: one that passes runs and is reported with status 00h, one that fails leaves the
device FAILED with its status. SPI_HEADER_TIMEOUT leaves it FAILED with 86h. An admitted LOAD is refused with
0800_0022h and STATUS 89h in a state that takes none (STATUS 01h stays while an operation runs); one whose source is
no aligned host memory fails with 86h; else it stages the image and STATUS reads 01h until IMAGE_VERIFY. An admitted
PROGRAM in RUN verifies what it copied to STAGE and hands it to the flash; FIRMWARE_PROGRAM_COMPLETE reports the
read-back. Where the rules leave room the clauses follow the model's reading (log entries 10, 65). It says of each
of these commands that it completes (exec answers a next state with the effect told above, under conditions on the
state and the operands alone): SPI_HEADER_TIMEOUT (spiHeaderTimeout), IMAGE_VERIFY (imageVerify), FIRMWARE_LOAD
(firmwareLoad), FIRMWARE_PROGRAM (firmwareProgram), FIRMWARE_PROGRAM_COMPLETE (firmwareProgramComplete). -/
def Obligations.FirmwareBoot : Prop :=
  (∀ (s : State) (image : List Byte), 4 ≤ s.boot.released → s.reg 0x2100 1 = 0 → s.boot.image = [] → s.bootMode ≠ 1 → s.reg 0x2C10 4 ≠ 1 →
    Does (.imageVerify image) s [.dict, .mem, .flips, .boot] imageRegs (fun t =>
      t.rd page3 image.length = image ∧ BytesKept page3 image.length s t
      ∧ (s.verifyImage image = 0 → t.boot.image = image ∧ t.boot.loadAccepted = false ∧ t.reg 0x2C10 4 = 0 ∧ t.reg 0x2100 1 = 0
          ∧ t.reg 0x2C10 7 = field image 16 1)
      ∧ (s.verifyImage image ≠ 0 → t.boot.image = [] ∧ t.reg 0x2100 1 = 3 ∧ t.reg 0x2C10 4 = s.verifyImage image % 256
          ∧ t.boot.loadAccepted = decide (s.bootMode = 2))))
  ∧ (∀ (s : State) (image b : List Byte) (st : Nat), 4 ≤ s.boot.released → s.reg 0x2100 1 = 0 → s.boot.image = [] → s.reg 0x2C10 4 = 1 →
    b = s.rd page3 (Nat.min (s.reg 0x2C10 2) 0x200000) →
    st = (if s.badRange page3 (Nat.min (s.reg 0x2C10 2) 0x200000) then 0x88 else if field b 8 4 ≠ s.reg 0x2C10 2 then 0x87 else s.verifyImage b) →
    Does (.imageVerify image) s [.dict, .boot] imageRegs (fun t =>
      t.reg 0x2C10 4 = st % 256
      ∧ (st = 0 → t.boot.image = b ∧ t.boot.loadAccepted = false ∧ t.reg 0x2100 1 = 0 ∧ t.reg 0x2C10 7 = field b 16 1)
      ∧ (st ≠ 0 → t.boot.image = [] ∧ t.boot.loadAccepted = true ∧ t.reg 0x2100 1 = 3)))
  ∧ (∀ (s : State), 4 ≤ s.boot.released → s.reg 0x2100 1 = 0 → s.boot.image = [] → s.bootMode ≠ 1 → s.reg 0x2C10 4 ≠ 1 →
    Does .spiHeaderTimeout s [.dict, .boot] ([(0x2100, 1), (0x2C10, 4)] ++ opRegs 0) (fun t =>
      t.reg 0x2100 1 = 3 ∧ t.reg 0x2C10 4 = 0x86 ∧ t.boot = { s.boot with loadAccepted := decide (s.bootMode = 2) }))
  ∧ (∀ (s : State) (a : Agent), Admitted s a 0x2C10 3 1 1 → (s.reg 0x2100 1 ≠ 1 ∧ s.reg 0x2100 1 ≠ 3) ∨ s.boot.loadAccepted = false →
    Does (.firmwareLoad a) s [.dict, .replies] [(0x2C10, 4)] (fun t =>
      t.reg 0x2C10 4 = (if s.reg 0x2C10 4 = 1 then 1 else 0x89) ∧ Replied a 0x08000022 0 t))
  ∧ (∀ (s : State) (a : Agent), Admitted s a 0x2C10 3 1 1 → s.reg 0x2100 1 = 1 ∨ s.reg 0x2100 1 = 3 → s.boot.loadAccepted = true →
    (s.opStart 0 (s.reg 0x2C10 2)).imageSource (s.reg 0x2C10 1) (s.reg 0x2C10 2) = none →
    Does (.firmwareLoad a) s [.dict, .boot, .replies] ([(0x2100, 1), (0x2C10, 4)] ++ opRegs 0) (fun t =>
      Replied a 0 0 t ∧ t.reg 0x2C10 4 = 0x86 ∧ t.reg 0x2100 1 = 3 ∧ t.boot = s.boot))
  ∧ (∀ (s : State) (a : Agent) (b : List Byte), Admitted s a 0x2C10 3 1 1 → s.reg 0x2100 1 = 1 ∨ s.reg 0x2100 1 = 3 → s.boot.loadAccepted = true →
    (s.opStart 0 (s.reg 0x2C10 2)).imageSource (s.reg 0x2C10 1) (s.reg 0x2C10 2) = some b →
    Does (.firmwareLoad a) s [.dict, .mem, .flips, .boot, .replies] ([(0x2100, 1), (0x2C10, 4)] ++ opRegs 0 ++ readRegs) (fun t =>
      Replied a 0 0 t ∧ t.reg 0x2C10 4 = 1 ∧ t.reg 0x2100 1 = 0 ∧ t.boot = { s.boot with loadAccepted := false }
      ∧ t.rd page3 (b.take 0x200000).length = b.take 0x200000 ∧ BytesKept page3 (b.take 0x200000).length s t))
  ∧ (∀ (s : State) (a : Agent) (b : List Byte) (u : State × Nat), Admitted s a 0x2C10 3 1 2 → s.reg 0x2100 1 = 2 → s.reg 0x2C10 4 ≠ 1 →
    s.reg 0x2C10 9 ≠ 0 → s.reg 0x2C10 9 % 0x200000 = 0 → regionOf (s.reg 0x2C10 9) = .pkg → s.mgmtOk true (s.reg 0x2C10 9) 0x200000 = true →
    (s.opStart 0 (2 * s.reg 0x2C10 2)).imageSource (s.reg 0x2C10 1) (s.reg 0x2C10 2) = some b →
    s.reg 0x2C10 2 ≤ 0x200000 →
    u = ((s.opStart 0 (2 * s.reg 0x2C10 2)).readEvents [] (s.reg 0x2C10 1) (s.reg 0x2C10 2)).writeDev [] (s.reg 0x2C10 9) b →
    Does (.firmwareProgram a) s [.dict, .mem, .flips, .hostMem, .boot, .calderas, .scrubPending, .replies]
      ((0x2C10, 4) :: opRegs 0 ++ readRegs ++ writeRegs) (fun t =>
      Replied a 0 0 t ∧ t.boot.image = s.boot.image ∧ t.mem = u.1.mem
      ∧ (u.2 ≠ 0 → t.reg 0x2C10 4 = 0x88 ∧ t.boot = s.boot)
      ∧ (u.2 = 0 → field b 8 4 ≠ s.reg 0x2C10 2 → t.reg 0x2C10 4 = 0x87 ∧ t.boot = s.boot)
      ∧ (u.2 = 0 → field b 8 4 = s.reg 0x2C10 2 → s.verifyImage b ≠ 0 → t.reg 0x2C10 4 = s.verifyImage b % 256 ∧ t.boot = s.boot)
      ∧ (u.2 = 0 → field b 8 4 = s.reg 0x2C10 2 → s.verifyImage b = 0 → t.reg 0x2C10 4 = 1 ∧ t.boot = { s.boot with programming := b })))
  ∧ (∀ (s : State) (ok : Bool), s.reg 0x2C10 4 = 1 → s.reg 0x2100 1 = 2 →
    Does (.firmwareProgramComplete ok) s [.dict, .boot] [(0x2C10, 4), (0x2F00, 2), (0x2F00, 4), (0x2F00, 6)] (fun t =>
      t.reg 0x2C10 4 = (if ok then 0 else 0x88) ∧ t.boot = { s.boot with programming := [] } ∧ t.reg 0x2F00 2 = (if ok then 2 else 3)))

/-- An admitted OPTION_PROGRAM of good bytes writes the lowest unwritten slot; bytes that R397 refuses give status 80h;
with no slot left it is refused with 81h, in lifecycle 3 with 83h. SVN_COMMIT blows the fuses up to the SVN of the
image that runs, or is refused with 82h. ATTEST and EXPORT_ID write to ADDRESS, or are refused with 80h where it may
not take the output; ATTEST needs a fresh NONCE, uses it up, and is refused with 81h without one. LOAD_PATTERN_KEY
takes a key whose digest is the one of the option bytes, and else gives 83h. Where the rules leave room the clauses
follow the model's reading (log entries 10, 65). It says of each of these commands that it completes (exec answers a
next state with the effect told above, under conditions on the state and the operands alone): OPTION_PROGRAM
(optionProgram), ATTEST (attest), EXPORT_ID (exportId), SVN_COMMIT (svnCommit), LOAD_PATTERN_KEY (loadPatternKey). -/
def Obligations.OptionAndIdentity : Prop :=
  (∀ (s : State) (a : Agent) (ok : Bool) (b : List Byte), Admitted s a 0x2102 2 1 1 → s.boot.lifecycle ≠ 3 → s.boot.slots.length < 4 →
    s.mgmtRead (s.reg 0x2102 1) 64 = some b →
    Does (.optionProgram a ok) s [.dict, .mem, .flips, .boot, .replies] ((0x2102, 3) :: readRegs) (fun t =>
      Replied a 0 0 t ∧ BytesSame s t
      ∧ (optionOk b = true → t.boot = { s.boot with slots := s.boot.slots ++ [if ok then b else []] } ∧ t.reg 0x2102 3 = (if ok then 0 else 0x82))
      ∧ (optionOk b = false → t.boot = s.boot ∧ t.reg 0x2102 3 = 0x80)))
  ∧ (∀ (s : State) (a : Agent) (ok : Bool), Admitted s a 0x2102 2 1 1 → s.boot.lifecycle = 3 ∨ 4 ≤ s.boot.slots.length →
    Does (.optionProgram a ok) s [.dict, .replies] [(0x2102, 3)] (fun t =>
      Replied a 0x08000022 0 t ∧ t.reg 0x2102 3 = (if s.boot.lifecycle = 3 then 0x83 else 0x81)))
  ∧ (∀ (s : State) (a : Agent), Admitted s a 0x2C00 0x0A 1 3 →
    Does (.svnCommit a) s [.dict, .boot, .replies] [(0x2C00, 0x0B)] (fun t =>
      (s.boot.fuses < s.reg 0x2C10 7 → t.boot = { s.boot with fuses := s.reg 0x2C10 7 } ∧ t.reg 0x2C00 0x0B = 0 ∧ Replied a 0 0 t)
      ∧ (s.reg 0x2C10 7 ≤ s.boot.fuses → t.boot = s.boot ∧ t.reg 0x2C00 0x0B = 0x82 ∧ Replied a 0x08000022 0 t)))
  ∧ (∀ (s : State) (a : Agent), Admitted s a 0x2C00 0x0A 1 1 → s.addressOk (128 + 64 * s.boot.log.length + 2420) = true → s.boot.nonceFresh = true →
    Does (.attest a) s [.dict, .mem, .flips, .hostMem, .boot, .calderas, .scrubPending, .replies] ((0x2C00, 0x0B) :: writeRegs) (fun t =>
      Replied a 0 0 t ∧ t.boot = { s.boot with nonceFresh := false } ∧ (t.reg 0x2C00 0x0B = 0 ∨ t.reg 0x2C00 0x0B = 0x84)))
  ∧ (∀ (s : State) (a : Agent), Admitted s a 0x2C00 0x0A 1 1 →
    s.addressOk (128 + 64 * s.boot.log.length + 2420) = false ∨ s.boot.nonceFresh = false →
    Does (.attest a) s [.dict, .replies] [(0x2C00, 0x0B)] (fun t =>
      Replied a 0x08000022 0 t ∧ t.reg 0x2C00 0x0B = (if s.addressOk (128 + 64 * s.boot.log.length + 2420) then 0x81 else 0x80)))
  ∧ (∀ (s : State) (a : Agent), Admitted s a 0x2C00 0x0A 1 2 →
    (s.addressOk 1312 = true → Does (.exportId a) s [.dict, .mem, .flips, .hostMem, .calderas, .scrubPending, .replies] ((0x2C00, 0x0B) :: writeRegs)
      (fun t => Replied a 0 0 t ∧ (t.reg 0x2C00 0x0B = 0 ∨ t.reg 0x2C00 0x0B = 0x84)))
    ∧ (s.addressOk 1312 = false → Does (.exportId a) s [.dict, .replies] [(0x2C00, 0x0B)] (fun t =>
      Replied a 0x08000022 0 t ∧ t.reg 0x2C00 0x0B = 0x80)))
  ∧ (∀ (s : State) (a : Agent) (k : List Byte), Admitted s a 0x2C00 0x0A 1 4 → s.reg 0x2C00 9 % 32 = 0 → s.mgmtRead (s.reg 0x2C00 9) 1312 = some k →
    Does (.loadPatternKey a) s [.dict, .mem, .flips, .boot, .replies] ([(0x2C00, 0x0B), (0x2C00, 5), (0x2C00, 6), (0x2C00, 7)] ++ readRegs) (fun t =>
      Replied a 0 0 t ∧ BytesSame s t
      ∧ ((s.keyHash = zeros 32 ∨ sha3 k ≠ s.keyHash) → t.boot = s.boot ∧ t.reg 0x2C00 0x0B = 0x83)
      ∧ (s.keyHash ≠ zeros 32 → sha3 k = s.keyHash → t.boot.patternKey = some k ∧ t.reg 0x2C00 0x0B = 0)))

/-- An admitted CALDERA_POWER_OFF of a free caldera switches it off, an admitted CALDERA_RESET of free calderas puts
each in reset and switching: the skeins, the spindles, scratchpads and local stores of those calderas are as at
reset, their objects at their defaults, and every other register, skein, spindle and byte stays. One caldera that is
not free refuses the command with 0800_0022h. CALDERA_POWER_ON of an off caldera starts switching, and the
completions end it; a caldera out of service is in service again only after a sweep that passed. RAIL_SAMPLE stores
the rails and the temperature, and keeps the peak. Where the rules leave room the clauses follow the model's reading
(log entry 69). It says of each of these commands that it completes (exec answers a next state with the effect told
above, under conditions on the state and the operands alone): CALDERA_POWER_OFF (calderaPowerOff), CALDERA_POWER_ON
(calderaPowerOn), CALDERA_POWER_ON_COMPLETE (calderaPowerOnComplete), CALDERA_RESET (calderaReset),
CALDERA_RESET_COMPLETE (calderaResetComplete), RAIL_SAMPLE (railSample). -/
def Obligations.CalderaPower : Prop :=
  (∀ (s : State) (a : Agent) (c : CalderaId), Admitted s a 0x2108 9 2 (256 * c.val) → s.calderaFree c.val = true →
    ∃ t, exec (.calderaPowerOff a c) s = .next t ∧
      (Replied a 0 0 t ∧ Only [.dict, .accepted, .mem, .flips, .skeins, .spindles, .calderas, .replies] s t ∧ t.reg 0x2108 (c.val + 1) = 0
      ∧ (∀ g, t.skein g = if g / 8 = c.val then Skein.init else s.skein g)
      ∧ (∀ u, t.spindle u = if u / 32 = c.val then Spindle.init else s.spindle u)
      ∧ KeptBut State.caldera [c.val] s t
      ∧ (∀ x, spadAt (8 * c.val) 0 ≤ x → x < spadAt (8 * c.val) 0 + 0x400000 → t.byteAt x = 0)
      ∧ (∀ x, x < scratchBase → t.byteAt x = s.byteAt x)
      ∧ (∀ ix, ∀ sub, sub < 256 → (ix, sub) ≠ (0x2108, c.val + 1) →
          (CalderaObject c.val ix → t.reg ix sub = odDefault ix sub) ∧ (¬ CalderaObject c.val ix → t.reg ix sub = s.reg ix sub))))
  ∧ (∀ (s : State) (a : Agent) (mask : Nat), Admitted s a 0x2100 6 1 mask → (maskList 8 mask).all s.calderaFree = true → maskList 8 mask ≠ [] →
    ∃ t, exec (.calderaReset a mask) s = .next t ∧
      (Replied a 0 0 t ∧ Only [.dict, .accepted, .mem, .flips, .skeins, .spindles, .calderas, .replies] s t
      ∧ (∀ c ∈ maskList 8 mask, t.reg 0x2108 (c + 1) = 2 ∧ (t.caldera c).resetting = true)
      ∧ (∀ g, t.skein g = if maskList 8 mask |>.contains (g / 8) then Skein.init else s.skein g)
      ∧ (∀ u, t.spindle u = if maskList 8 mask |>.contains (u / 32) then Spindle.init else s.spindle u)
      ∧ KeptBut State.caldera (maskList 8 mask) s t
      ∧ (∀ x, x < scratchBase → t.byteAt x = s.byteAt x)
      ∧ (∀ ix, ∀ sub, sub < 256 → (∀ c ∈ maskList 8 mask, (ix, sub) ≠ (0x2108, c + 1) ∧ ¬ CalderaObject c ix) → t.reg ix sub = s.reg ix sub)))
  ∧ (∀ (s : State) (a : Agent) (c : CalderaId), s.calderaFree c.val = false →
    (Admitted s a 0x2108 9 2 (256 * c.val) → Does (.calderaPowerOff a c) s [.replies] [] (fun t => Replied a 0x08000022 0 t))
    ∧ (Admitted s a 0x2100 6 1 (2 ^ c.val) → Does (.calderaReset a (2 ^ c.val)) s [.replies] [] (fun t => Replied a 0x08000022 0 t)))
  ∧ (∀ (s : State) (a : Agent) (c : CalderaId), Admitted s a 0x2108 9 2 (256 * c.val + 1) →
    (s.reg 0x2108 (c.val + 1) = 0 → Does (.calderaPowerOn a c) s [.dict, .replies] [(0x2108, c.val + 1)] (fun t =>
      t.reg 0x2108 (c.val + 1) = 2 ∧ Replied a 0 0 t))
    ∧ (s.reg 0x2108 (c.val + 1) = 2 → Does (.calderaPowerOn a c) s [.replies] [] (fun t => Replied a 0x08000022 0 t)))
  ∧ (∀ (s : State) (c : CalderaId), s.reg 0x2108 (c.val + 1) = 2 → (s.caldera c.val).resetting = false →
    Does (.calderaPowerOnComplete c) s [.dict] [(0x2108, c.val + 1)] (fun t => t.reg 0x2108 (c.val + 1) = 1))
  ∧ (∀ (s : State) (c : CalderaId) (passed : Bool), (s.caldera c.val).resetting = true → (s.oos c.val = true → passed = true) →
    Does (.calderaResetComplete c passed) s [.dict, .calderas] [(0x2108, c.val + 1), (0x2B30, 3), (0x2B00, 0x0B)] (fun t =>
      t.reg 0x2108 (c.val + 1) = 1 ∧ t.caldera c.val = { s.caldera c.val with resetting := false } ∧ KeptBut State.caldera [c.val] s t
      ∧ t.oos c.val = false))
  ∧ (∀ (s : State) (c : CalderaId), (s.caldera c.val).resetting = true → s.oos c.val = true → s.reg 0x2B00 4 = 0xFFFF →
    Does (.calderaResetComplete c false) s [.dict, .calderas] [(0x2108, c.val + 1), (0x2B30, 3), (0x2B30, 4), (0x2B00, 9)] (fun t =>
      t.reg 0x2108 (c.val + 1) = 1 ∧ (t.caldera c.val).resetting = false ∧ t.oos c.val = true))
  ∧ (∀ (s : State) (mv : List Nat) (temp : Int), 4 ≤ s.boot.released →
    Does (.railSample mv temp) s [.dict, .boot] ((List.range 8).map (fun i => (0x2104, i + 1))) (fun t =>
      (∀ i ∈ List.range 7, t.reg 0x2104 (i + 1) = mv.getD i 0 % 65536) ∧ t.reg 0x2104 8 = enc 16 temp
      ∧ t.boot = { s.boot with tempPeak := some (max (s.boot.tempPeak.getD temp) temp) }))

/-- An admitted STREAM_START of a stream that may start (IDLE or ERROR, the caldera on and in service, no load in
progress, the plan that set its BASE still held) leaves it RUNNING at BASE with STATUS, FLAGS, ITERATION and the
fault address 0 and its chain seeded; of one that may not it answers 0800_0022h and changes nothing. An admitted
ABANDON of a live stream with work outstanding drops what was fetched and a held WAIT, and takes no more; of one
that has none it ends the stream with status 41h. An admitted CLEAR_FLAGS clears FLAGS. No other stream changes.
Where the rules leave room the clauses follow the model's reading (log entry 25). It says of each of these commands
that it completes (exec answers a next state with the effect told above, under conditions on the state and the
operands alone): STREAM_START (streamStart), ABANDON (abandon), CLEAR_FLAGS (clearFlags). -/
def Obligations.StreamControl : Prop :=
  (∀ (s : State) (a : Agent) (g : SkeinId), Admitted s a (0x2440 + g.val) 9 1 1 → s.startOk g.val = true →
    Does (.streamStart a g) s [.dict, .skeins, .safety, .dbg, .replies]
      ([(0x2440 + g.val, 2), (0x2440 + g.val, 3), (0x2440 + g.val, 5), (0x2440 + g.val, 7), (0x2440 + g.val, 8)] ++ stateRegs g.val
        ++ (List.range 8).map (fun p => (0x2B08 + p, 1))) (fun t =>
      Replied a 0 0 t ∧ t.reg (0x2440 + g.val) 1 = 1 ∧ t.reg (0x2440 + g.val) 3 = s.reg (0x2440 + g.val) 4 % 2 ^ 64
      ∧ t.reg (0x2440 + g.val) 2 = 0 ∧ t.reg (0x2440 + g.val) 5 = 0 ∧ t.reg (0x2440 + g.val) 7 = 0 ∧ t.reg (0x2440 + g.val) 8 = 0
      ∧ t.skein g.val = { s.skein g.val with
          fetched := [], haltPage := none, abandoned := false, flags2 := 0, flagsLater := [], recorded := 0, batch := none,
          layers := 0, iterFlags := 0,
          chain := sha3 (s.chainDigest g.val ++ leBytes 1 g.val ++ leBytes 4 0) }
      ∧ KeptBut State.skein [g.val] s t))
  ∧ (∀ (s : State) (a : Agent) (g : SkeinId), Admitted s a (0x2440 + g.val) 9 1 1 → s.startOk g.val = false →
    Does (.streamStart a g) s [.replies] [] (fun t => Replied a 0x08000022 0 t))
  ∧ (∀ (s : State) (a : Agent) (g : SkeinId), Admitted s a (0x2440 + g.val) 9 1 2 → s.streamLive g.val = true →
    ((s.skein g.val).flights.any (fun f => opOf f.word != 0x10) = true →
      Does (.abandon a g) s [.skeins, .replies] [] (fun t =>
        Replied a 0 0 t ∧ t.skein g.val = { s.skein g.val with
          abandoned := true, fetched := [], haltPage := none, flights := (s.skein g.val).flights.filter (fun f => opOf f.word ≠ 0x10) }
        ∧ KeptBut State.skein [g.val] s t))
    ∧ ((s.skein g.val).flights.all (fun f => opOf f.word == 0x10) = true → s.spindlesQuiet g.val = true → s.reg 0x2E30 4 = 0xFFFF →
      Does (.abandon a g) s [.dict, .skeins, .safety, .dbg, .replies] (endRegs g.val) (fun t =>
        Replied a 0 0 t ∧ (Unretried s 6 g.val → t.safety = s.safety) ∧ t.reg (0x2440 + g.val) 1 = 4 ∧ t.reg (0x2440 + g.val) 2 = 0x41 ∧ (t.skein g.val).flights = [] ∧ (t.skein g.val).fetched = []
        ∧ KeptBut State.skein [g.val] s t)))
  ∧ (∀ (s : State) (a : Agent) (g : SkeinId), Admitted s a (0x2440 + g.val) 9 1 3 →
    Does (.clearFlags a g) s [.dict, .replies] [(0x2440 + g.val, 7)] (fun t => Replied a 0 0 t ∧ t.reg (0x2440 + g.val) 7 = 0))

/-- PREFETCH_READ of a RUNNING or WAITING stream with room in its buffer answers a next state in which up to eight
descriptors at the next address, up to the end of the page and to the first FENCE or END, are appended; at a page
that is not present, with nothing left to dispatch, the stream halts with status 20h. DESCRIPTOR_DISPATCH answers a
next state in which the first fetched descriptor is in flight with its translations, with POSITION behind it (at a
MATMUL it stays, R95), where nothing in flight holds dispatch, its header, pages and ranges pass, no range conflicts
and a CONV's checks pass; one with a bad header ends the stream with the status; a conflict holds it. Where the
rules leave room the clauses follow the model's reading (log entries 22, 24). It says of each of these commands that
it completes (exec answers a next state with the effect told above, under conditions on the state and the operands
alone): PREFETCH_READ (prefetchRead), DESCRIPTOR_DISPATCH (descriptorDispatch). -/
def Obligations.FetchAndDispatch : Prop :=
  (∀ (s : State) (g : SkeinId), s.streamState g.val = 1 ∨ s.streamState g.val = 2 → (s.skein g.val).abandoned = false →
    (s.skein g.val).fetched.length ≤ 56 → (s.skein g.val).fetched.any (fun d => stopsFetch d.2) = false →
    (s.skein g.val).flights.any (fun f => stopsFetch f.word) = false → regionOf (s.nextFetch g.val) = .pkg →
    s.accessStatus (some (s.skeinPart g.val)) false (s.nextFetch g.val) = 0 →
    (s.readDev [] (s.nextFetch g.val) (32 * Nat.min 8 ((0x200000 - s.nextFetch g.val % 0x200000) / 32))).status = 0 →
    Does (.prefetchRead g) s [.dict, .skeins, .calderas, .channels]
      ([(0x2440 + g.val, 6), (0x2280 + g.val / 8, 2)] ++ readRegs ++ countRegs) (fun t =>
      KeptBut State.skein [g.val] s t ∧ KeptBut State.caldera [g.val / 8] s t
      ∧ t.skein g.val = { s.skein g.val with
          fetched := (s.skein g.val).fetched ++ takeFetch
            ((List.range (Nat.min 8 ((0x200000 - s.nextFetch g.val % 0x200000) / 32))).map (fun j => (s.nextFetch g.val + 32 * j,
            leNat (((s.readDev [] (s.nextFetch g.val) (32 * Nat.min 8 ((0x200000 - s.nextFetch g.val % 0x200000) / 32))).bytes.drop (32 * j)).take 32)))) }))
  ∧ (∀ (s : State) (g : SkeinId), s.streamState g.val = 1 → (s.skein g.val).abandoned = false → (s.skein g.val).fetched = [] →
    (s.skein g.val).flights.any (fun f => stopsFetch f.word) = false → regionOf (s.nextFetch g.val) = .pkg →
    s.accessStatus (some (s.skeinPart g.val)) false (s.nextFetch g.val) = 0x20 → s.reg 0x2220 1 = 0xFFFF →
    Does (.prefetchRead g) s [.dict, .skeins, .dbg] ([(0x2440 + g.val, 5), (0x2220, 2), (0x2220, 3)] ++ endRegs g.val) (fun t =>
      t.reg (0x2440 + g.val) 1 = 3 ∧ t.reg (0x2440 + g.val) 2 = 0x20 ∧ t.reg (0x2440 + g.val) 5 = s.nextFetch g.val % 2 ^ 64
      ∧ t.skein g.val = { s.skein g.val with haltPage := pageId (s.nextFetch g.val) } ∧ KeptBut State.skein [g.val] s t))
  ∧ (∀ (s : State) (g : SkeinId) (a w : Nat) (rest : List (Nat × Nat)), s.streamState g.val = 1 → (s.skein g.val).abandoned = false →
    (s.skein g.val).flights.any blocksDispatch = false → (s.caldera (g.val / 8)).reserved = false → (s.skein g.val).flights.length < 16 →
    (s.skein g.val).fetched = (a, w) :: rest → s.breakHit g.val w = false → headerStatus w = 0 → (descPages w).length ≤ 32 →
    (s.descRanges g.val w).any (fun r => (s.skein g.val).flights.any (fun f => (s.descRanges g.val f.word).any (fun x => rangesMeet x r))) = false →
    (s.translateDesc g.val w).1 = 0 → s.hostRefused w = none → s.convDispatch g.val w = 0 →
    Does (.descriptorDispatch g) s [.dict, .mem, .flips, .skeins, .dbg]
      ([(0x2440 + g.val, 3), (0x2440 + g.val, 6), (0x2D40 + g.val / 8, 0x21 + g.val % 8)] ++ traceRegs) (fun t =>
      (opOf w ≠ 3 → t.reg (0x2440 + g.val) 3 = (a + 32) % 2 ^ 64) ∧ (opOf w = 3 → t.reg (0x2440 + g.val) 3 = s.reg (0x2440 + g.val) 3)
      ∧ (∀ b x r, rest = (b, x) :: r → b = t.reg (0x2440 + g.val) 3 → t.reg (0x2440 + g.val) 6 = tagOf x)
      ∧ KeptBut State.skein [g.val] s t ∧ BytesSame s t
      ∧ t.skein g.val = { s.skein g.val with
          fetched := rest, serials := (s.skein g.val).serials + 1,
          flights := (s.skein g.val).flights ++
            [⟨a, w, (descPages w).map (fun id => (id, s.entry id)), false, s.startParts g.val w, (s.geomRead g.val w).2.getD [], [], 0, 0, 0,
              (s.skein g.val).serials⟩] }))
  ∧ (∀ (s : State) (g : SkeinId) (a w : Nat) (rest : List (Nat × Nat)), s.streamState g.val = 1 → (s.skein g.val).abandoned = false →
    (s.skein g.val).flights.any blocksDispatch = false → (s.caldera (g.val / 8)).reserved = false → (s.skein g.val).flights.length < 16 →
    (s.skein g.val).fetched = (a, w) :: rest → s.breakHit g.val w = false → s.reg 0x2E30 4 = 0xFFFF → headerStatus w ≠ 0 →
    Does (.descriptorDispatch g) s [.dict, .skeins, .safety, .dbg] (endRegs g.val) (fun t =>
      t.reg (0x2440 + g.val) 1 = 4 ∧ t.reg (0x2440 + g.val) 2 = headerStatus w ∧ t.reg (0x2440 + g.val) 3 = a % 2 ^ 64
      ∧ t.reg (0x2440 + g.val) 6 = tagOf w ∧ (headerStatus w = 0x10 ∨ headerStatus w = 0x11) ∧ (Unretried s 6 g.val → t.safety = s.safety)))
  ∧ (∀ (s : State) (g : SkeinId), s.streamState g.val ≠ 1 ∨ (s.skein g.val).abandoned = true ∨ (s.skein g.val).flights.any blocksDispatch = true →
    Does (.descriptorDispatch g) s [] [] (fun t => t = s))

/-- A FENCE with nothing before it in flight and the skein's spindles quiet completes and changes nothing else; with
something before it, or a spindle at work, nothing changes. An END then forms a RESULT record and leaves the stream
IDLE with status 01h at its own address; an END_LOOP forms the record, adds 1 to ITERATION, goes back to BASE, drops
what was fetched and seeds the chain anew. The two are stated here for a partition whose record queue is not set
(the record is counted as dropped) and an iteration with no expected entry. Where the rules leave room the clauses
follow the model's reading (log entry 32). It says of each of these commands that it completes (exec answers a next
state with the effect told above, under conditions on the state and the operands alone): FENCE (fence), END
(endStream), END_LOOP (endLoop). -/
def Obligations.EndAndFence : Prop :=
  (∀ (s : State) (g : SkeinId) (i : Nat) (f : Flight), s.flightAt g.val i 0x12 = some f → s.earlier g.val f.serial = [] → s.spindlesQuiet g.val = true →
    Lone s g.val f.serial = true →
    Does (.fence g i) s [.skeins] [] (fun t =>
      t.skein g.val = { s.skein g.val with flights := (s.skein g.val).flights.filter (fun x => x.serial ≠ f.serial) } ∧ KeptBut State.skein [g.val] s t))
  ∧ (∀ (s : State) (g : SkeinId) (i : Nat) (f : Flight) (c : Instr), c ∈ [.fence g i, .endStream g i, .endLoop g i] →
    s.flightAt g.val i 0x12 = some f ∨ s.flightAt g.val i 0x1F = some f → s.earlier g.val f.serial ≠ [] ∨ s.spindlesQuiet g.val = false →
    Does c s [] [] (fun t => t = s))
  ∧ (∀ (s : State) (g : SkeinId) (i : Nat) (f : Flight), s.flightAt g.val i 0x1F = some f → bit f.word 32 = false → s.earlier g.val f.serial = [] →
    s.spindlesQuiet g.val = true → (s.skein g.val).abandoned = false → s.reg 0x2E30 4 = 0xFFFF → s.reg (0x2330 + s.skeinPart g.val) 1 = 0xFFFF →
    s.expectedFor (s.skeinPart g.val) g.val 2 (tagOf f.word) (s.reg (0x2440 + g.val) 8) = none →
    Does (.endStream g i) s [.dict, .skeins, .safety, .dbg] ([(0x2330 + s.skeinPart g.val, 2), (0x2330 + s.skeinPart g.val, 3)] ++ endRegs g.val) (fun t =>
      t.reg (0x2440 + g.val) 1 = 0 ∧ t.reg (0x2440 + g.val) 2 = 1 ∧ t.reg (0x2440 + g.val) 3 = f.addr % 2 ^ 64 ∧ t.reg (0x2440 + g.val) 6 = tagOf f.word
      ∧ t.reg (0x2330 + s.skeinPart g.val) 2 = (s.reg (0x2330 + s.skeinPart g.val) 2 + 1) % 2 ^ 32
      ∧ (t.skein g.val).flights = ((s.skein g.val).flights.filter (fun x => x.serial ≠ f.serial)).filter (fun x => !isControl x.word)
      ∧ (t.skein g.val).fetched = [] ∧ (Unretried s 6 g.val → t.safety = s.safety) ∧ KeptBut State.skein [g.val] s t))
  ∧ (∀ (s : State) (g : SkeinId) (i : Nat) (f : Flight), s.flightAt g.val i 0x1F = some f → bit f.word 32 = true → s.earlier g.val f.serial = [] →
    s.spindlesQuiet g.val = true → (s.skein g.val).abandoned = false → s.reg (0x2330 + s.skeinPart g.val) 1 = 0xFFFF →
    s.expectedFor (s.skeinPart g.val) g.val 2 (tagOf f.word) (s.reg (0x2440 + g.val) 8) = none →
    Does (.endLoop g i) s [.dict, .skeins, .safety, .dbg]
      ([(0x2330 + s.skeinPart g.val, 2), (0x2330 + s.skeinPart g.val, 3), (0x2440 + g.val, 3), (0x2440 + g.val, 8)] ++ traceRegs) (fun t =>
      t.reg (0x2440 + g.val) 8 = (s.reg (0x2440 + g.val) 8 + 1) % 2 ^ 32 ∧ t.reg (0x2440 + g.val) 3 = s.reg (0x2440 + g.val) 4 % 2 ^ 64
      ∧ t.skein g.val = { s.skein g.val with
          flights := (s.skein g.val).flights.filter (fun x => x.serial ≠ f.serial), fetched := [], layers := 0, iterFlags := 0,
          chain := sha3 (s.chainDigest g.val ++ leBytes 1 g.val ++ leBytes 4 ((s.reg (0x2440 + g.val) 8 + 1) % 2 ^ 32)) }
      ∧ (Unretried s 6 g.val → t.safety = s.safety) ∧ KeptBut State.skein [g.val] s t))

/-- A LOAD into the scratchpad whose form passes and whose rows can be read places its rows at DST, one pitch apart, and
completes; a LOAD into distaff slots fills every masked slot that is free and makes it present. A LOAD_QPOP takes
ROWS entries from its own queue into the scratchpad and completes. A STORE to an I/O-die buffer writes its row and
completes; a STORE to package memory hands its unit to the channel's queue and waits for the acknowledgement. No
other memory changes. Stated for memory with no damaged codeword and no damaged line of the weight cache, and where
completing the descriptor completes no other. Where the rules leave room the clauses follow the model's reading (log
entry 31). It says of each of these commands that it completes (exec answers a next state with the effect told
above, under conditions on the state and the operands alone): LOAD (load), LOAD_QPOP (loadQpop), STORE (store). -/
def Obligations.LoadAndStore : Prop :=
  (∀ (s u : State) (g : SkeinId) (i : Nat) (f : Flight) (r : ReadResult), s.flips = [] → s.flightAt g.val i 1 = some f → bit f.word 52 = false →
    loadStatus g.val f.word = 0 → f.data = [] → loadKind f.word = 0 → Lone s g.val f.serial = true →
    (∀ e ∈ (s.caldera (g.val / 8)).lines, e.2.damage ≠ 2) →
    u = (if f.started then s else (s.loadLines g.val f).setFlight g.val { f with started := true }) → u.loadRead g.val f = some r → r.status = 0 →
    r.bytes.length = loadTotal f.word →
    Does (.load g i) s [.dict, .mem, .skeins, .calderas, .channels]
        ([1, 2, 4, 5].map (fun i => (0x2280 + g.val / 8, i)) ++ readRegs ++ countRegs) (fun t =>
      KeptBut State.caldera [g.val / 8] s t ∧ KeptBut State.skein [g.val] s t
      ∧ (t.skein g.val).flights = (s.skein g.val).flights.filter (fun x => x.serial ≠ f.serial)
      ∧ BytesKept (spadAt g.val (bits f.word 75 57)) (spanOf (loadDstPitch f.word) (loadRows f.word) (loadRow f.word)) s t
      ∧ (loadRow f.word ≤ loadDstPitch f.word → ∀ j, j < loadRows f.word →
          t.rd (spadAt g.val (bits f.word 75 57 + j * loadDstPitch f.word)) (loadRow f.word) = (r.bytes.drop (j * loadRow f.word)).take (loadRow f.word))))
  ∧ (∀ (s u : State) (g : SkeinId) (i : Nat) (f : Flight) (r : ReadResult), s.flips = [] → s.flightAt g.val i 1 = some f → bit f.word 52 = false →
    loadStatus g.val f.word = 0 → f.data = [] → loadKind f.word ≠ 0 → bit f.word 53 = false → Lone s g.val f.serial = true →
    (∀ e ∈ (s.caldera (g.val / 8)).lines, e.2.damage ≠ 2) →
    f.left.all (fun p => !(s.spindle (4 * g.val + p / 16)).present.contains (p % 16) && !s.partTaken g.val f p) = true →
    u = (if f.started then s else (s.loadLines g.val f).setFlight g.val { f with started := true }) → u.loadRead g.val f = some r → r.status = 0 → r.bytes.length = loadTotal f.word →
    Does (.load g i) s [.dict, .mem, .skeins, .spindles, .calderas, .channels]
        ([1, 2, 4, 5].map (fun i => (0x2280 + g.val / 8, i)) ++ readRegs ++ countRegs) (fun t =>
      KeptBut State.caldera [g.val / 8] s t ∧ KeptBut State.skein [g.val] s t
      ∧ (t.skein g.val).flights = (s.skein g.val).flights.filter (fun x => x.serial ≠ f.serial)
      ∧ f.left.all (fun p => (t.spindle (4 * g.val + p / 16)).present.contains (p % 16)) = true
      ∧ f.left.all (fun p => t.rd (slotAt (4 * g.val + p / 16) (p % 16))
          ((((r.bytes.take (loadTotal f.word)).drop (4096 * (p % 16 - (if loadKind f.word = 1 then bits f.word 59 57 else 8 + bits f.word 59 57)))).take 4096).length)
          == ((r.bytes.take (loadTotal f.word)).drop (4096 * (p % 16 - (if loadKind f.word = 1 then bits f.word 59 57 else 8 + bits f.word 59 57)))).take 4096) = true
      ∧ (∀ x, x < storeBase → t.byteAt x = s.byteAt x)))
  ∧ (∀ (s : State) (g : SkeinId) (i : Nat) (f : Flight) (q n : Nat) (bs : List (List Byte)), s.flips = [] → s.flightAt g.val i 1 = some f →
    bit f.word 52 = true → q = bits f.word 221 208 → n = loadRows f.word →
    (n ≠ 0 ∧ loadRow f.word = 32 ∧ loadKind f.word = 0 ∧ bit f.word 53 = false ∧ bit f.word 54 = false ∧ bits f.word 75 57 % 32 = 0
      ∧ bits f.word 159 128 % 32 = 0 ∧ bits f.word 95 76 % 32 = 0
      ∧ spadFits (bits f.word 75 57) (spanOf (loadDstPitch f.word) n 32) = true) →
    (s.earlier g.val f.serial).any (fun x => s.sameStore x.word f.word) = false →
    s.queuePart q = s.skeinPart g.val → (s.queue q).consumer = g.val → n ≤ (s.queue q).count → s.queuePeek q n = (0, bs) → Lone s g.val f.serial = true →
    Does (.loadQpop g i) s [.dict, .mem, .queues, .skeins] (readRegs ++ countRegs) (fun t =>
      (t.skein g.val).batch = (match bs.reverse.find? (fun e => field e 0 1 == 0x20) with
        | some e => some (field e 1 1, field e 8 4)
        | none => (s.skein g.val).batch) ∧
      t.queue q = { s.queue q with count := (s.queue q).count - n, head := ((s.queue q).head + n) % 2 ^ (s.queue q).log2 } ∧ KeptBut State.queue [q] s t
      ∧ (t.skein g.val).flights = (s.skein g.val).flights.filter (fun x => x.serial ≠ f.serial) ∧ KeptBut State.skein [g.val] s t
      ∧ BytesKept (spadAt g.val (bits f.word 75 57)) (spanOf (loadDstPitch f.word) n 32) s t
      ∧ (n = 1 → (bs.flatten).length = 32 → t.rd (spadAt g.val (bits f.word 75 57)) 32 = bs.flatten)))
  ∧ (∀ (s : State) (g : SkeinId) (i k : Nat) (f : Flight), s.flips = [] → s.flightAt g.val i 2 = some f → f.started = false → storeStatus f.word = 0 →
    bit f.word 104 = false → storeRows f.word = 1 → storeRow f.word = 32 → s.placeFor f.pages (storeDst f.word) = .buf k → f.left = [] → f.status = 0 →
    Lone s g.val f.serial = true →
    Does (.store g i) s [.dict, .mem, .skeins] countRegs (fun t =>
      t.rd k 32 = s.rd (spadAt g.val (storeSrc f.word)) 32 ∧ BytesKept k 32 s t
      ∧ (t.skein g.val).flights = (s.skein g.val).flights.filter (fun x => x.serial ≠ f.serial) ∧ KeptBut State.skein [g.val] s t))
  ∧ (∀ (s : State) (g : SkeinId) (i pa : Nat) (f : Flight), s.flips = [] → s.flightAt g.val i 2 = some f → f.started = false → storeStatus f.word = 0 →
    bit f.word 104 = false → storeRows f.word = 1 → storeRow f.word = 32 → s.placeFor f.pages (storeDst f.word) = .pkg pa → s.bankLate pa = false →
    Lone s g.val f.serial = true →
    Does (.store g i) s [.dict, .skeins, .channels] countRegs (fun t =>
      t.channel (channelOf pa) = { s.channel (channelOf pa) with
          queue := (s.channel (channelOf pa)).queue ++
            [⟨s.skeinPart g.val, pa, .write ((s.rd (spadAt g.val (storeSrc f.word)) 32).map some) (some (g.val, f.serial)),
              s.pageFor f.pages (storeDst f.word), false⟩] }
      ∧ KeptBut State.channel [channelOf pa] s t
      ∧ (t.skein g.val).flights = (s.skein g.val).flights.map (fun x => if x.serial = f.serial then { f with started := true, unacked := 1 } else x)
      ∧ KeptBut State.skein [g.val] s t))

/-- A MATMUL that passes places its instructions in the queue of every masked spindle, in order, and completes where
there is room for all; where a queue is full the rest waits; POSITION passes it where it is the latest dispatched. A
DRAIN that passes puts one drain behind those of every masked spindle. An UNROLL that passes fills its slots with
the rows of R141, makes them present and completes. Each pooling takes its next masked position range, writes for
each position of it the pooled channels of R149 at their place, and completes with the last range. Stated for memory
with no damaged codeword, and where completing the descriptor completes no other. Where the rules leave room the
clauses follow the model's reading (log entry 21). It says of each of these commands that it completes (exec answers
a next state with the effect told above, under conditions on the state and the operands alone): MATMUL (matmul),
UNROLL (unroll), MAX_INCL (maxIncl), MAX_EXCL (maxExcl), AVG_INCL (avgIncl), AVG_EXCL (avgExcl), DRAIN (drain). -/
def Obligations.SpindleDescriptors : Prop :=
  (∀ (s : State) (g : SkeinId) (i : Nat) (f : Flight), s.flightAt g.val i 3 = some f → matmulStatus f.word = 0 → f.started = false →
    Lone s g.val f.serial = true → (∀ u ∈ spmList f.word, (s.spindle (4 * g.val + u)).queue.length + bits f.word 72 70 + 1 ≤ 4) →
    Does (.matmul g i) s [.dict, .skeins, .spindles] [(0x2440 + g.val, 3), (0x2440 + g.val, 6)] (fun t =>
      (t.reg (0x2440 + g.val) 3 = if s.streamLive g.val ∧ s.reg (0x2440 + g.val) 3 = f.addr then (f.addr + 32) % 2 ^ 64
        else s.reg (0x2440 + g.val) 3) ∧
      (∀ u ∈ spmList f.word, t.spindle (4 * g.val + u) = { s.spindle (4 * g.val + u) with
        queue := (s.spindle (4 * g.val + u)).queue ++ matmulInstrs f.word f.addr f.serial })
      ∧ KeptBut State.spindle ((spmList f.word).map (fun u => 4 * g.val + u)) s t
      ∧ (t.skein g.val).flights = (s.skein g.val).flights.filter (fun x => x.serial ≠ f.serial) ∧ KeptBut State.skein [g.val] s t))
  ∧ (∀ (s : State) (g : SkeinId) (i : Nat) (f : Flight), s.flightAt g.val i 3 = some f → matmulStatus f.word = 0 → f.started = false →
    spmList f.word ≠ [] → (∀ u ∈ spmList f.word, 4 ≤ (s.spindle (4 * g.val + u)).queue.length) →
    Does (.matmul g i) s [.skeins] [] (fun t =>
      (t.skein g.val).flights = (s.skein g.val).flights.map (fun x =>
        if x.serial = f.serial then { f with started := true, left := matmulParts f.word } else x) ∧ KeptBut State.skein [g.val] s t))
  ∧ (∀ (s : State) (g : SkeinId) (i : Nat) (f : Flight), s.flips = [] → s.flightAt g.val i 5 = some f → f.started = false → drainStatus f.word = 0 →
    s.drainOpen g.val f = false → bit f.word 183 = false →
    Does (.drain g i) s [.skeins, .spindles] [] (fun t =>
      (∀ u ∈ spmList f.word, t.spindle (4 * g.val + u) = { s.spindle (4 * g.val + u) with
          drains := (s.spindle (4 * g.val + u)).drains ++
            [⟨bits f.word 255 237 + u * 64 * drainPitch f.word, drainPitch f.word, bits f.word 216 198, drainFmt f.word, bits f.word 193 192,
          bits f.word 191 185, bit f.word 184, f.serial, false, 0, false⟩] })
      ∧ KeptBut State.spindle ((spmList f.word).map (fun u => 4 * g.val + u)) s t
      ∧ (t.skein g.val).flights = (s.skein g.val).flights.map (fun x =>
          if x.serial = f.serial then { f with started := true, left := spmList f.word, unacked := 1 } else x) ∧ KeptBut State.skein [g.val] s t))
  ∧ (∀ (s : State) (g : SkeinId) (i : Nat) (f : Flight) (q : Geom), s.flips = [] → s.flightAt g.val i 4 = some f → (s.caldera (g.val / 8)).reserved = false →
    q = geomOf f.data → q.mode = 0 → convStatus q f.word = 0 → Lone s g.val f.serial = true →
    f.left = fillParts f.word (convSlot f.word) (if elemBits (convFmt f.word) = 16 then 2 else 1) 0 → (s.skein g.val).flights.filter (fun x => x.serial = f.serial) = [f] →
    f.left.all (fun p => !(s.spindle (4 * g.val + p / 16)).present.contains (p % 16) && !s.partTaken g.val f p) = true →
    Does (.unroll g i) s [.mem, .skeins, .spindles] [] (fun t =>
      (t.skein g.val).flights = (s.skein g.val).flights.filter (fun x => x.serial ≠ f.serial) ∧ KeptBut State.skein [g.val] s t
      ∧ f.left.all (fun p => (t.spindle (4 * g.val + p / 16)).present.contains (p % 16)) = true
      ∧ (∀ x, x < storeBase → t.byteAt x = s.byteAt x)
      ∧ (isBlockCode (convFmt f.word) = false → ∀ p ∈ f.left, ∀ r ∈ convPartRows q f.word p,
          t.rd (slotAt (4 * g.val + p / 16) (convSlot f.word) + r * convRowBytes (convFmt f.word) q.tileK) (convRowBytes (convFmt f.word) q.tileK)
            = s.convRow g.val q f.word (geomOut q (convFirst f.word (p / 16) + r)))))
  ∧ (∀ (s : State) (g : SkeinId) (i u : Nat) (f : Flight) (q : Geom) (rest : List Nat) (x : Instr × Nat),
    x ∈ [(.maxIncl g i, 1), (.maxExcl g i, 2), (.avgIncl g i, 3), (.avgExcl g i, 4)] → s.flips = [] → s.flightAt g.val i 4 = some f →
    s.vectorFree g.val f = true → (s.caldera (g.val / 8)).stopped = false → q = geomOf f.data → q.mode = x.2 → convStatus q f.word = 0 →
    f.left = poolPart u :: rest → u ∈ spmList f.word → Lone s g.val f.serial = true →
    Does x.1 s [.dict, .mem, .skeins] [(0x2440 + g.val, 7)] (fun t =>
      ((t.skein g.val).flights = if rest = [] then (s.skein g.val).flights.filter (fun y => y.serial ≠ f.serial)
        else (s.skein g.val).flights.map (fun y => if y.serial = f.serial then { f with started := true, left := rest } else y))
      ∧ KeptBut State.skein [g.val] s t
      ∧ (∀ y, (y < scratchBase ∨ scratchBase + 0x2000000 ≤ y) → t.byteAt y = s.byteAt y)
      ∧ (∀ p, poolPositions f.word u = [p] →
          t.rd (spadAt g.val (poolAt q (convKb f.word) p)) (poolBytes q (convKb f.word))
            = packElems (elemBits q.poolFmt) ((s.poolPos g.val q f.word (geomOut q p)).map (fun v => v.1))
          ∧ BytesKept (spadAt g.val (poolAt q (convKb f.word) p)) (poolBytes q (convKb f.word)) s t)))

/-- Each ELTWISE operation that passes computes its elements, of one vector from the operands as they stood, stores them
in FMT_D at DST, collects the arithmetic flags and completes. Each reduction stores the reduced elements in FMT_OUT.
TABLE takes a good table into its slot. No other memory, register or skein changes. An uncorrectable source ends the
stream with status 30h and stores nothing. The first three are stated for memory with no damaged codeword, and where
completing the descriptor completes no other. Where the rules leave room the clauses follow the model's reading (log
entries 17, 20). It says of each of these commands that it completes (exec answers a next state with the effect told
above, under conditions on the state and the operands alone): ADD (add), SUB (sub), MUL (mul), FMA (fma), MIN (min),
MAX (max), SHR (shr), CVT (cvt), TBL (tbl), REDUCE_SUM (reduceSum), REDUCE_MAX (reduceMax), REDUCE_MIN (reduceMin),
TABLE (table). -/
def Obligations.VectorDescriptors : Prop :=
  (∀ (s : State) (g : SkeinId) (i n : Nat) (f : Flight) (x : Instr × Nat) (os : List (Flagged Nat)),
    x ∈ [(.add g i, 0), (.sub g i, 1), (.mul g i, 2), (.fma g i, 3), (.min g i, 4), (.max g i, 5), (.shr g i, 6), (.cvt g i, 7), (.tbl g i, 8)] →
    s.flips = [] → s.flightAt g.val i 6 = some f → bits f.word 162 155 = x.2 → s.vectorFree g.val f = true → eltStatus f.word = 0 →
    (x.2 = 8 → tblGet [] (s.skein g.val).tables (bits f.word 151 149) ≠ []) → Lone s g.val f.serial = true → n = bits f.word 198 175 →
    os = (List.zip (s.elems g.val (bits f.word 255 237) (bits f.word 174 171) 0 n)
        (List.zip (if eltUsesB f.word then s.elems g.val (bits f.word 236 218) (bits f.word 170 167) 0 n else List.replicate n (bits f.word 148 117))
          (s.elems g.val (bits f.word 217 199) (bits f.word 166 163) 0 n))).map
      (fun y => eltElem f.word (tblGet [] (s.skein g.val).tables (bits f.word 151 149)) y.1 y.2.1 y.2.2) →
    Does x.1 s [.dict, .mem, .skeins] [(0x2440 + g.val, 7)] (fun t =>
      (t.skein g.val).flights = (s.skein g.val).flights.filter (fun y => y.serial ≠ f.serial) ∧ KeptBut State.skein [g.val] s t
      ∧ BytesKept (spadAt g.val (bits f.word 217 199)) (spanBytes (bits f.word 166 163) n) s t
      ∧ (n ≤ 256 → t.rd (spadAt g.val (bits f.word 217 199)) (spanBytes (bits f.word 166 163) n)
            = packElems (elemBits (bits f.word 166 163)) (os.map (fun o => o.1))
          ∧ t.reg (0x2440 + g.val) 7 % 16 = (s.reg (0x2440 + g.val) 7 ||| os.foldl (fun (m : Nat) o => m ||| o.2) 0) % 16)))
  ∧ (∀ (s : State) (g : SkeinId) (i : Nat) (f : Flight) (x : Instr × Nat) (os : List (Flagged Nat)),
    x ∈ [(.reduceSum g i, 0), (.reduceMax g i, 1), (.reduceMin g i, 2)] → s.flips = [] → s.flightAt g.val i 7 = some f →
    bits f.word 193 192 = x.2 → s.vectorFree g.val f = true → reduceStatus f.word = 0 → Lone s g.val f.serial = true →
    os = reduceOut f.word (s.elems g.val (bits f.word 255 237) (bits f.word 201 198) 0 (256 * bits f.word 217 202)) →
    Does x.1 s [.dict, .mem, .skeins] [(0x2440 + g.val, 7)] (fun t =>
      t.rd (spadAt g.val (bits f.word 236 218)) (packElems (elemBits (bits f.word 197 194)) (os.map (fun o => o.1))).length
        = packElems (elemBits (bits f.word 197 194)) (os.map (fun o => o.1))
      ∧ BytesKept (spadAt g.val (bits f.word 236 218)) (packElems (elemBits (bits f.word 197 194)) (os.map (fun o => o.1))).length s t
      ∧ t.reg (0x2440 + g.val) 7 % 16 = (s.reg (0x2440 + g.val) 7 ||| os.foldl (fun (m : Nat) o => m ||| o.2) 0) % 16
      ∧ (t.skein g.val).flights = (s.skein g.val).flights.filter (fun y => y.serial ≠ f.serial) ∧ KeptBut State.skein [g.val] s t))
  ∧ (∀ (s : State) (g : SkeinId) (i : Nat) (f : Flight), s.flips = [] → s.flightAt g.val i 8 = some f → s.vectorFree g.val f = true →
    bits f.word 255 237 % 32 = 0 → spadFits (bits f.word 255 237) 384 = true → tableOk (s.rd (spadAt g.val (bits f.word 255 237)) 384) = true →
    Lone s g.val f.serial = true →
    Does (.table g i) s [.skeins] [] (fun t =>
      t.skein g.val = { s.skein g.val with
        flights := (s.skein g.val).flights.filter (fun y => y.serial ≠ f.serial)
        tables := tblPut [] (s.skein g.val).tables (bits f.word 236 234) (s.rd (spadAt g.val (bits f.word 255 237)) 384) }
      ∧ KeptBut State.skein [g.val] s t))
  ∧ (∀ (s : State) (g : SkeinId) (i : Nat) (f : Flight) (x : Instr × Nat),
    x ∈ [(.add g i, 0), (.sub g i, 1), (.mul g i, 2), (.fma g i, 3), (.min g i, 4), (.max g i, 5), (.shr g i, 6), (.cvt g i, 7)] →
    s.flightAt g.val i 6 = some f → bits f.word 162 155 = x.2 → s.vectorFree g.val f = true → eltStatus f.word = 0 → s.streamLive g.val = true →
    (eltSources f.word).any (fun r => s.badRange (spadAt g.val r.1) r.2) = true → s.reg 0x2E30 4 = 0xFFFF → s.reg 0x2B00 4 = 0xFFFF →
    Does x.1 s [.dict, .skeins, .safety, .dbg, .out] ((0x2440 + g.val, 5) :: endRegs g.val ++ alarmRegs) (fun t =>
      t.reg (0x2440 + g.val) 1 = 4 ∧ t.reg (0x2440 + g.val) 2 = 0x30 ∧ t.reg (0x2440 + g.val) 3 = f.addr % 2 ^ 64 ∧ KeptBut State.skein [g.val] s t))

/-- DIGEST INIT opens its context empty. DIGEST ABSORB of a readable source adds its bytes, in address order, to an open
context. DIGEST FINAL, once the FINALs and the work before it are done, writes the SHA3-256 of the bytes to DST,
closes the context and forms a LAYER record, chained and counted as a layer unless the context is 7; where the
partition's record queue takes it, it is pushed as two entries. Each completes its descriptor and leaves every other
context. Where the rules leave room the clauses follow the model's reading (log entries 9, 32). It says of each of
these commands that it completes (exec answers a next state with the effect told above, under conditions on the
state and the operands alone): DIGEST_INIT (digestInit), DIGEST_ABSORB (digestAbsorb), DIGEST_FINAL (digestFinal). -/
def Obligations.DigestDescriptors : Prop :=
  (∀ (s : State) (g : SkeinId) (i c : Nat) (f : Flight), s.flightAt g.val i 0x13 = some f → bits f.word 156 155 = 0 → c = bits f.word 154 152 →
    s.ctxFree g.val f = true → Lone s g.val f.serial = true →
    Does (.digestInit g i) s [.skeins] [] (fun t =>
      t.ctx g.val c = ⟨true, []⟩ ∧ (∀ d, d ≠ c → t.ctx g.val d = s.ctx g.val d)
      ∧ (t.skein g.val).flights = (s.skein g.val).flights.filter (fun y => y.serial ≠ f.serial) ∧ KeptBut State.skein [g.val] s t))
  ∧ (∀ (s : State) (g : SkeinId) (i c : Nat) (f : Flight) (r : ReadResult), s.flightAt g.val i 0x13 = some f → bits f.word 156 155 = 1 →
    c = bits f.word 154 152 → s.ctxFree g.val f = true → sourceStatus g.val (bits f.word 255 208) (bits f.word 207 176) = 0 → (s.ctx g.val c).isOpen = true →
    r = s.readDev f.pages (bits f.word 255 208) (bits f.word 207 176) → r.status = 0 → Lone s g.val f.serial = true →
    Does (.digestAbsorb g i) s [.dict, .mem, .flips, .skeins] (readRegs ++ countRegs) (fun t =>
      BytesSame s t ∧
      t.ctx g.val c = { s.ctx g.val c with bytes := (s.ctx g.val c).bytes ++ r.bytes } ∧ (∀ d, d ≠ c → t.ctx g.val d = s.ctx g.val d)
      ∧ (t.skein g.val).flights = (s.skein g.val).flights.filter (fun y => y.serial ≠ f.serial) ∧ KeptBut State.skein [g.val] s t))
  ∧ (∀ (s : State) (g : SkeinId) (i c : Nat) (f : Flight), s.flips = [] → s.flightAt g.val i 0x13 = some f → bits f.word 156 155 = 2 →
    c = bits f.word 154 152 → s.finalReady g.val f = true → bits f.word 175 157 % 32 = 0 → (s.ctx g.val c).isOpen = true → Lone s g.val f.serial = true →
    s.reg (0x2330 + s.skeinPart g.val) 1 = 0xFFFF → s.expectedFor (s.skeinPart g.val) g.val 1 (tagOf f.word) (s.reg (0x2440 + g.val) 8) = none →
    Does (.digestFinal g i) s [.dict, .mem, .skeins, .safety, .dbg]
      ([(0x2330 + s.skeinPart g.val, 2), (0x2330 + s.skeinPart g.val, 3)] ++ traceRegs) (fun t =>
      t.rd (spadAt g.val (bits f.word 175 157)) 32 = sha3 (s.ctx g.val c).bytes ∧ BytesKept (spadAt g.val (bits f.word 175 157)) 32 s t
      ∧ t.ctx g.val c = ⟨false, []⟩ ∧ (∀ d, d ≠ c → t.ctx g.val d = s.ctx g.val d)
      ∧ (t.skein g.val).layers = (s.skein g.val).layers + (if c = 7 then 0 else 1) ∧ (t.skein g.val).flags2 = ((s.skein g.val).flagsNext f.serial).1
      ∧ t.reg (0x2330 + s.skeinPart g.val) 2 = (s.reg (0x2330 + s.skeinPart g.val) 2 + 1) % 2 ^ 32
      ∧ (t.skein g.val).flights = (s.skein g.val).flights.filter (fun y => y.serial ≠ f.serial) ∧ KeptBut State.skein [g.val] s t))
  ∧ (∀ (s : State) (g : SkeinId) (i c q : Nat) (f : Flight), s.flightAt g.val i 0x13 = some f → bits f.word 156 155 = 2 → c = bits f.word 154 152 →
    s.finalReady g.val f = true → bits f.word 175 157 % 32 = 0 → (s.ctx g.val c).isOpen = true → Lone s g.val f.serial = true →
    q = s.reg (0x2330 + s.skeinPart g.val) 1 → q ≤ 16383 → s.queuePart q = s.skeinPart g.val → (s.queue q).enabled = true →
    (s.queue q).count + 2 ≤ 2 ^ (s.queue q).log2 → s.streamState g.val ≠ 2 →
    s.expectedFor (s.skeinPart g.val) g.val 1 (tagOf f.word) (s.reg (0x2440 + g.val) 8) = none →
    Does (.digestFinal g i) s [.dict, .mem, .flips, .hostMem, .queues, .skeins, .calderas, .scrubPending, .safety, .dbg, .out]
      ((0x2330 + s.skeinPart g.val, 2) :: pushRegs s) (fun t =>
      (t.queue q).count = (s.queue q).count + 2 ∧ KeptBut State.queue [q] s t
      ∧ (t.skein g.val).flights = (s.skein g.val).flights.filter (fun y => y.serial ≠ f.serial)))

/-- A WAIT behind which nothing earlier works on its object or queue completes and changes nothing else where its
condition holds; else it leaves the stream WAITING at the WAIT; its time-out crosses to the caldera as an external
event (whose effect ends the stream with status 40h, see ExternalEvents). SIGNAL_ADD and SIGNAL_SET of an object of
the partition add or set the operand VALUE + ITERATION x ITER_MUL, modulo 2^32, and complete; SIGNAL_RELEASE_APPLY
does so once nothing earlier is in flight. No other object changes; streams whose WAIT an update satisfies run on.
It says of each of these commands that it completes (exec answers a next state with the effect told above, under
conditions on the state and the operands alone): WAIT (wait), WAIT_TIMEOUT (waitTimeout), SIGNAL_ADD (signalAdd),
SIGNAL_SET (signalSet), SIGNAL_RELEASE_APPLY (signalReleaseApply). -/
def Obligations.WaitAndSignal : Prop :=
  (∀ (s : State) (g : SkeinId) (i : Nat) (f : Flight), s.flightAt g.val i 0x10 = some f → f.started = false → s.waitStatus g.val f.word = 0 →
    (s.earlier g.val f.serial).any (fun x => s.sameStore x.word f.word) = false → s.waitSatisfied g.val f.word = true → Lone s g.val f.serial = true →
    Does (.wait g i) s [.skeins] [] (fun t =>
      (t.skein g.val).flights = (s.skein g.val).flights.filter (fun y => y.serial ≠ f.serial) ∧ KeptBut State.skein [g.val] s t))
  ∧ (∀ (s : State) (g : SkeinId) (i : Nat) (f : Flight), s.flightAt g.val i 0x10 = some f → f.started = false → s.waitStatus g.val f.word = 0 →
    (s.earlier g.val f.serial).any (fun x => s.sameStore x.word f.word) = false → s.waitSatisfied g.val f.word = false → s.streamState g.val ≠ 5 →
    Does (.wait g i) s [.dict, .skeins, .dbg] ([(0x2440 + g.val, 3), (0x2440 + g.val, 6)] ++ stateRegs g.val) (fun t =>
      t.reg (0x2440 + g.val) 1 = 2 ∧ t.reg (0x2440 + g.val) 3 = f.addr % 2 ^ 64 ∧ t.reg (0x2440 + g.val) 6 = tagOf f.word
      ∧ (t.skein g.val).flights = (s.skein g.val).flights.map (fun y => if y.serial = f.serial then { f with started := true } else y)
      ∧ KeptBut State.skein [g.val] s t))
  ∧ (∀ (s : State) (g : SkeinId) (f : Flight), s.streamState g.val = 2 → (s.skein g.val).flights.find? (fun f => opOf f.word == 0x10 && f.started) = some f →
    bits f.word 205 190 ≠ 0 → (s.caldera (g.val / 8)).external.contains (.timeout g.val f.serial) = false →
    Does (.waitTimeout g) s [.calderas] [] (fun t =>
      t.caldera (g.val / 8) = { s.caldera (g.val / 8) with external := (s.caldera (g.val / 8)).external ++ [.timeout g.val f.serial] }
      ∧ KeptBut State.caldera [g.val / 8] s t))
  ∧ (∀ (s : State) (g : SkeinId) (i : Nat) (f : Flight) (x : Instr), x ∈ [.signalAdd g i, .signalSet g i, .signalReleaseApply g i] →
    s.flightAt g.val i 0x11 = some f → (x = .signalAdd g i → bit f.word 205 = false ∧ bit f.word 206 = false) →
    (x = .signalSet g i → bit f.word 205 = false ∧ bit f.word 206 = true) →
    (x = .signalReleaseApply g i → bit f.word 205 = true ∧ s.earlier g.val f.serial = []) →
    s.syncPart (bits f.word 223 207) = s.skeinPart g.val → s.streamState g.val ≠ 2 → Lone s g.val f.serial = true →
    Does x s [.dict, .syncs, .skeins, .dbg] (countRegs ++ wakeRegs s) (fun t =>
      t.sync (bits f.word 223 207) = ((if bit f.word 206 then 0 else s.sync (bits f.word 223 207))
          + (bits f.word 255 224 + s.reg (0x2440 + g.val) 8 * bits f.word 204 189) % 2 ^ 32) % 2 ^ 32
      ∧ KeptBut State.sync [bits f.word 223 207] s t
      ∧ (t.skein g.val).flights = (s.skein g.val).flights.filter (fun y => y.serial ≠ f.serial)))
  ∧ (∀ (s : State) (g : SkeinId) (i : Nat) (f v : Flight) (h : Nat), s.flightAt g.val i 0x11 = some f → bit f.word 205 = false → bit f.word 206 = false →
    s.syncPart (bits f.word 223 207) = s.skeinPart g.val → s.streamState g.val ≠ 2 → Lone s g.val f.serial = true → h < 64 →
    s.skeins.map (fun k => k.1) = [g.val, h] → s.streamState h = 2 →
    (s.skein h).flights.find? (fun f => opOf f.word == 0x10 && f.started) = some v → bit v.word 206 = false → bits v.word 223 207 = bits f.word 223 207 →
    syncReached ((s.sync (bits f.word 223 207) + s.signalOperand g.val f.word) % 2 ^ 32)
      (iterOperand (bits v.word 255 224) (s.reg (0x2440 + h) 8) (bits v.word 189 174)) = true →
    Completes (.signalAdd g i) s (fun t => t.streamState h = 1 ∧ t.reg (0x2440 + h) 3 = (v.addr + 32) % 2 ^ 64
      ∧ (t.skein h).flights = (s.skein h).flights.filter (fun y => y.serial ≠ v.serial)))

/-- A WOPEN whose range passes opens a closed window that meets no open one, with the next epoch. A WCLOSE of an open
window closes it at once where no accepted write of it is outstanding, and otherwise leaves it closing. A SEND to a
skein of the own device hands its parts, none across a 256-byte boundary of the window offset, to the window logic
there, and waits for their answers; one frame to another node leaves on the link of its route. A SEND_QUEUE to a
queue of the own device with room pushes its entries whole and completes. Stated for memory with no damaged
codeword. Where the rules leave room the clauses follow the model's reading (log entry 33). It says of each of these
commands that it completes (exec answers a next state with the effect told above, under conditions on the state and
the operands alone): WOPEN (wopen), WCLOSE (wclose), SEND (send), SEND_QUEUE (sendQueue). -/
def Obligations.WindowsAndSend : Prop :=
  (∀ (s : State) (g : SkeinId) (i : Nat) (f : Flight) (base size w : Nat), s.flightAt g.val i 0x14 = some f → base = bits f.word 255 237 →
    size = bits f.word 236 217 → w = bits f.word 216 213 → base % 32 = 0 → size % 32 = 0 → 32 ≤ size → size ≤ 0x80000 → base + size ≤ 0x80000 →
    (s.window g.val w).state = .closed →
    (List.range 16).any (fun v => (s.window g.val v).state == .opened
      && decide ((s.window g.val v).base < base + size ∧ base < (s.window g.val v).base + (s.window g.val v).size)) = false →
    Lone s g.val f.serial = true →
    Does (.wopen g i) s [.skeins] [] (fun t =>
      t.window g.val w = ⟨.opened, base, size, if (s.window g.val w).epoch = 0xFFFF then 1 else (s.window g.val w).epoch + 1⟩
      ∧ (∀ v, v ≠ w → t.window g.val v = s.window g.val v)
      ∧ (t.skein g.val).flights = (s.skein g.val).flights.filter (fun y => y.serial ≠ f.serial) ∧ KeptBut State.skein [g.val] s t))
  ∧ (∀ (s : State) (g : SkeinId) (i : Nat) (f : Flight), s.flightAt g.val i 0x15 = some f → f.started = false →
    (s.window g.val (bits f.word 255 252)).state = .opened →
    (List.range 16).all (fun v => (s.window g.val v).state != .closing) = true →
    (s.skein g.val).flights.filter (fun y => y.serial = f.serial) = [f] →
    (s.skein g.val).flights.all (fun y => y.serial == f.serial || !(opOf y.word == 0x15 && y.started)) = true → Lone s g.val f.serial = true →
    ((s.skein g.val).accepted.any (fun r => r.win == some (bits f.word 255 252)) = false →
      Does (.wclose g i) s [.skeins] [] (fun t =>
        t.window g.val (bits f.word 255 252) = { s.window g.val (bits f.word 255 252) with state := .closed }
        ∧ (∀ v, v ≠ bits f.word 255 252 → t.window g.val v = s.window g.val v)
        ∧ (t.skein g.val).flights = (s.skein g.val).flights.filter (fun y => y.serial ≠ f.serial) ∧ KeptBut State.skein [g.val] s t))
    ∧ ((s.skein g.val).accepted.any (fun r => r.win == some (bits f.word 255 252)) = true →
      Does (.wclose g i) s [.skeins] [] (fun t =>
        t.window g.val (bits f.word 255 252) = { s.window g.val (bits f.word 255 252) with state := .closing }
        ∧ (t.skein g.val).flights = (s.skein g.val).flights.map (fun y => if y.serial = f.serial then { f with started := true } else y)
        ∧ KeptBut State.skein [g.val] s t)))
  ∧ (∀ (s : State) (g : SkeinId) (i : Nat) (f : Flight), s.flips = [] → s.flightAt g.val i 0x16 = some f → bit f.word 151 = false → f.started = false →
    sendStatus f.word = 0 → s.sendLocal f.word = true → sendSkein f.word ≠ g.val →
    Does (.send g i) s [.skeins] [] (fun t =>
      (t.skein (sendSkein f.word)).arrivals = (s.skein (sendSkein f.word)).arrivals ++ (sendChunks (bits f.word 188 169) (sendLen f.word)).map (fun c =>
        ⟨.skein g.val, some (bits f.word 192 189), c.1, if bit f.word 152 then some (bits f.word 168 153) else none,
          (((s.rd (spadAt g.val (bits f.word 255 237)) (sendLen f.word)).drop (c.1 - bits f.word 188 169)).take c.2).map some,
          (s.skein g.val).nextXid, false⟩)
      ∧ (t.skein g.val).nextXid = ((s.skein g.val).nextXid + 1) % 2 ^ 32
      ∧ (t.skein g.val).flights = (s.skein g.val).flights.map (fun y => if y.serial = f.serial then
          { f with started := true, xid := (s.skein g.val).nextXid, unacked := (sendChunks (bits f.word 188 169) (sendLen f.word)).length } else y)
      ∧ KeptBut State.skein [g.val, sendSkein f.word] s t))
  ∧ (∀ (s : State) (g : SkeinId) (i l : Nat) (f : Flight), s.flips = [] → s.flightAt g.val i 0x16 = some f → bit f.word 151 = false → f.started = false →
    sendStatus f.word = 0 → s.sendLocal f.word = false → s.routeOf (sendNode f.word) = some l → s.linkUp l = true → (s.link l).waiting = [] →
    (s.link l).replay.length < 32 → 0 < (s.link l).credit0 → bit f.word 133 = false → bits f.word 188 169 % 256 + sendLen f.word ≤ 256 → l < 4 →
    Does (.send g i) s [.dict, .skeins, .links, .out] ((0x2E08 + l, 5) :: countRegs) (fun t =>
      t.out = .frame l {
          type := 1, flags := b2n (bit f.word 152) * 2 + 4, seq := (s.link l).txSeq, dst := sendNode f.word, src := s.nodeId,
          srcPart := s.skeinPart g.val, srcSkein := g.val, dstSkein := sendSkein f.word, win := bits f.word 192 189, off := bits f.word 188 169,
          epoch := bits f.word 168 153, len := sendLen f.word, xid := (s.skein g.val).nextXid,
          payload := s.rd (spadAt g.val (bits f.word 255 237)) (sendLen f.word) } :: s.out
      ∧ (t.link l).txSeq = ((s.link l).txSeq + 1) % 4096 ∧ (t.link l).credit0 = (s.link l).credit0 - 1 ∧ (t.link l).replay.length = (s.link l).replay.length + 1
      ∧ KeptBut State.link [l] s t ∧ KeptBut State.skein [g.val] s t))
  ∧ (∀ (s : State) (g : SkeinId) (i q : Nat) (f : Flight), s.flips = [] → s.flightAt g.val i 0x16 = some f → bit f.word 151 = true → f.started = false →
    f.status = 0 → sendStatus f.word = 0 → s.sendLocal f.word = true → bit f.word 133 = false → q = bits f.word 182 169 → s.queuePart q = s.skeinPart g.val →
    (s.queue q).enabled = true → (s.queue q).count + sendLen f.word / 32 ≤ 2 ^ (s.queue q).log2 → s.streamState g.val ≠ 2 → Lone s g.val f.serial = true →
    (s.earlier g.val f.serial).any (fun x => s.sameStore x.word f.word) = false →
    Does (.sendQueue g i) s [.dict, .mem, .flips, .hostMem, .queues, .skeins, .calderas, .scrubPending, .dbg, .out] (pushRegs s) (fun t =>
      (t.queue q).count = (s.queue q).count + sendLen f.word / 32 ∧ KeptBut State.queue [q] s t
      ∧ (t.skein g.val).flights = (s.skein g.val).flights.filter (fun y => y.serial ≠ f.serial)
      ∧ (t.skein g.val).nextXid = ((s.skein g.val).nextXid + 1) % 2 ^ 32))

/-- On a live stream with no event queue, a descriptor of each opcode that its own checks refuse ends its stream in
ERROR: STATUS is the status of R126, POSITION and TAG name the descriptor, the descriptors that only the sequencer
completes leave flight, and no memory, queue, object, spindle, window or other stream changes. The checks of a CONV
end its stream at its dispatch, before it is in flight (R135). Where the rules leave room the clauses follow the
model's reading (log entries 21, 22). It says of this command that it completes (exec answers a next state with the
effect told above, under conditions on the state and the operands alone): DESCRIPTOR_DISPATCH (descriptorDispatch). -/
def Obligations.DescriptorErrors : Prop :=
  (∀ (s : State) (g : SkeinId) (i : Nat) (f : Flight), s.streamLive g.val = true → s.reg 0x2E30 4 = 0xFFFF → s.flightAt g.val i 1 = some f →
    bit f.word 52 = false → loadStatus g.val f.word ≠ 0 → FailsWith (.load g i) s g.val f (loadStatus g.val f.word))
  ∧ (∀ (s : State) (g : SkeinId) (i : Nat) (f : Flight), s.streamLive g.val = true → s.reg 0x2E30 4 = 0xFFFF → s.flightAt g.val i 1 = some f →
    bit f.word 52 = true →
    (loadRows f.word ≠ 0 ∧ loadRow f.word = 32 ∧ loadKind f.word = 0 ∧ bit f.word 53 = false ∧ bit f.word 54 = false ∧ bits f.word 75 57 % 32 = 0
      ∧ bits f.word 159 128 % 32 = 0 ∧ bits f.word 95 76 % 32 = 0
      ∧ spadFits (bits f.word 75 57) (spanOf (loadDstPitch f.word) (loadRows f.word) 32) = true) →
    (s.earlier g.val f.serial).any (fun x => s.sameStore x.word f.word) = false →
    (s.queuePart (bits f.word 221 208) ≠ s.skeinPart g.val → FailsWith (.loadQpop g i) s g.val f 0x22)
    ∧ (s.queuePart (bits f.word 221 208) = s.skeinPart g.val → (s.queue (bits f.word 221 208)).consumer ≠ g.val → FailsWith (.loadQpop g i) s g.val f 0x28)
    ∧ (s.queuePart (bits f.word 221 208) = s.skeinPart g.val → (s.queue (bits f.word 221 208)).consumer = g.val →
        (s.queue (bits f.word 221 208)).count < loadRows f.word → FailsWith (.loadQpop g i) s g.val f 0x27))
  ∧ (∀ (s : State) (g : SkeinId) (i : Nat) (f : Flight), s.streamLive g.val = true → s.reg 0x2E30 4 = 0xFFFF → s.flightAt g.val i 2 = some f →
    f.started = false → storeStatus f.word ≠ 0 → FailsWith (.store g i) s g.val f (storeStatus f.word))
  ∧ (∀ (s : State) (g : SkeinId) (i : Nat) (f : Flight), s.streamLive g.val = true → s.reg 0x2E30 4 = 0xFFFF →
    (s.flightAt g.val i 3 = some f → matmulStatus f.word ≠ 0 → FailsWith (.matmul g i) s g.val f (matmulStatus f.word))
    ∧ (s.flightAt g.val i 5 = some f → f.started = false → s.drainOpen g.val f = false → drainStatus f.word ≠ 0 → FailsWith (.drain g i) s g.val f (drainStatus f.word))
    ∧ (s.flightAt g.val i 0x11 = some f → bit f.word 205 = true → s.earlier g.val f.serial = [] →
        s.syncPart (bits f.word 223 207) ≠ s.skeinPart g.val → FailsWith (.signalReleaseApply g i) s g.val f 0x22))
  ∧ (∀ (s : State) (g : SkeinId) (a w : Nat) (rest : List (Nat × Nat)), s.streamState g.val = 1 → s.reg 0x2E30 4 = 0xFFFF →
    (s.skein g.val).abandoned = false → (s.skein g.val).flights.any blocksDispatch = false → (s.caldera (g.val / 8)).reserved = false →
    (s.skein g.val).flights.length < 16 → (s.skein g.val).fetched = (a, w) :: rest → s.breakHit g.val w = false → headerStatus w = 0 →
    (s.descRanges g.val w).any (fun r => (s.skein g.val).flights.any (fun f => (s.descRanges g.val f.word).any (fun x => rangesMeet x r))) = false →
    opOf w = 4 → s.convDispatch g.val w ≠ 0 → s.convDispatch g.val w ≠ 0x30 →
    Does (.descriptorDispatch g) s [.dict, .skeins, .safety, .dbg] (endRegs g.val) (fun t =>
      t.reg (0x2440 + g.val) 1 = 4 ∧ t.reg (0x2440 + g.val) 2 = s.convDispatch g.val w ∧ t.reg (0x2440 + g.val) 3 = a % 2 ^ 64
      ∧ t.reg (0x2440 + g.val) 6 = tagOf w ∧ (s.convDispatch g.val w = 0x12 ∨ s.convDispatch g.val w = 0x17 ∨ s.convDispatch g.val w = 0x18)
      ∧ (Unretried s 6 g.val → t.safety = s.safety) ∧ KeptBut State.skein [g.val] s t))
  ∧ (∀ (s : State) (g : SkeinId) (i : Nat) (f : Flight) (x : Instr × Nat), s.streamLive g.val = true → s.reg 0x2E30 4 = 0xFFFF →
    s.vectorFree g.val f = true →
    (x ∈ [(.add g i, 0), (.sub g i, 1), (.mul g i, 2), (.fma g i, 3), (.min g i, 4), (.max g i, 5), (.shr g i, 6), (.cvt g i, 7), (.tbl g i, 8)] →
      s.flightAt g.val i 6 = some f → bits f.word 162 155 = x.2 → eltStatus f.word ≠ 0 → FailsWith x.1 s g.val f (eltStatus f.word))
    ∧ (x ∈ [(.reduceSum g i, 0), (.reduceMax g i, 1), (.reduceMin g i, 2)] →
      s.flightAt g.val i 7 = some f → bits f.word 193 192 = x.2 → reduceStatus f.word ≠ 0 → FailsWith x.1 s g.val f (reduceStatus f.word))
    ∧ (s.flightAt g.val i 8 = some f → bits f.word 255 237 % 32 ≠ 0 → FailsWith (.table g i) s g.val f 0x17)
    ∧ (s.flightAt g.val i 8 = some f → s.flips = [] → bits f.word 255 237 % 32 = 0 → spadFits (bits f.word 255 237) 384 = true →
        tableOk (s.rd (spadAt g.val (bits f.word 255 237)) 384) = false → FailsWith (.table g i) s g.val f 0x16))
  ∧ (∀ (s : State) (g : SkeinId) (i : Nat) (f : Flight), s.streamLive g.val = true → s.reg 0x2E30 4 = 0xFFFF → s.flightAt g.val i 0x13 = some f →
    s.ctxFree g.val f = true → (s.ctx g.val (bits f.word 154 152)).isOpen = false →
    (bits f.word 156 155 = 2 → s.finalReady g.val f = true → bits f.word 175 157 % 32 = 0 → FailsWith (.digestFinal g i) s g.val f 0x19)
    ∧ (bits f.word 156 155 = 1 → sourceStatus g.val (bits f.word 255 208) (bits f.word 207 176) = 0 → FailsWith (.digestAbsorb g i) s g.val f 0x19))
  ∧ (∀ (s : State) (g : SkeinId) (i : Nat) (f : Flight), s.streamLive g.val = true → s.reg 0x2E30 4 = 0xFFFF →
    (s.flightAt g.val i 0x10 = some f → f.started = false → (s.earlier g.val f.serial).any (fun x => s.sameStore x.word f.word) = false →
        s.waitStatus g.val f.word ≠ 0 → FailsWith (.wait g i) s g.val f (s.waitStatus g.val f.word))
    ∧ (s.flightAt g.val i 0x11 = some f → bit f.word 205 = false → bit f.word 206 = false → s.syncPart (bits f.word 223 207) ≠ s.skeinPart g.val →
        FailsWith (.signalAdd g i) s g.val f 0x22)
    ∧ (s.flightAt g.val i 0x11 = some f → bit f.word 205 = false → bit f.word 206 = true → s.syncPart (bits f.word 223 207) ≠ s.skeinPart g.val →
        FailsWith (.signalSet g i) s g.val f 0x22))
  ∧ (∀ (s : State) (g : SkeinId) (i : Nat) (f : Flight), s.streamLive g.val = true → s.reg 0x2E30 4 = 0xFFFF →
    (s.flightAt g.val i 0x14 = some f → bits f.word 255 237 % 32 ≠ 0 ∨ bits f.word 236 217 = 0 → FailsWith (.wopen g i) s g.val f 0x17)
    ∧ (s.flightAt g.val i 0x15 = some f → f.started = false → (s.window g.val (bits f.word 255 252)).state ≠ .opened → FailsWith (.wclose g i) s g.val f 0x1A)
    ∧ (s.flightAt g.val i 0x16 = some f → f.started = false → (s.earlier g.val f.serial).any (fun x => s.sameStore x.word f.word) = false →
        sendStatus f.word ≠ 0 →
        FailsWith (if bit f.word 151 then .sendQueue g i else .send g i) s g.val f (sendStatus f.word)))

/-- SHADOW_LOAD_START copies the B tile (and for block formats its scales) of the first queued instruction whose tile is
not in the active plane from its slot into the shadow plane, where that slot is present and no load runs;
SHADOW_LOAD_COMPLETE ends the load. INSTRUCTION_ISSUE of a head instruction whose slots, tile, tag and drain order
allow it makes it the running instruction at step 0, swaps the planes where its tile waits in the shadow plane, and
with INIT clears the poison bit and sets the tag of its set; one whose tag differs ends the stream with 14h and
leaves its set alone. No other spindle changes. Where the rules leave room the clauses follow the model's reading
(log entry 26). It says of each of these commands that it completes (exec answers a next state with the effect told
above, under conditions on the state and the operands alone): SHADOW_LOAD_START (shadowLoadStart),
SHADOW_LOAD_COMPLETE (shadowLoadComplete), INSTRUCTION_ISSUE (instructionIssue). -/
def Obligations.SpindlePlanes : Prop :=
  (∀ (s : State) (u : SpindleId) (i : SpInstr), s.flips = [] → (s.spindle u.val).wanted = some i → (s.spindle u.val).shadowBusy = false →
    tileFor (s.spindle u.val).shadow i = false → (s.spindle u.val).bPresent i = true → s.held u.val = false → s.oos (u.val / 32) = false →
    Does (.shadowLoadStart u) s [.spindles] [] (fun t =>
      t.spindle u.val = { s.spindle u.val with
          shadowBusy := true,
          shadow := some ⟨i.bSlot, i.column, i.fmtB, true, s.rd (slotAt u.val (8 + i.bSlot)) (4096 * pairSlots i.fmtB),
            if isBlockCode i.fmtB then s.rd (slotAt u.val 15 + 128 * i.bSlot) 128 else [], false⟩ }
      ∧ KeptBut State.spindle [u.val] s t))
  ∧ (∀ (s : State) (u : SpindleId), s.held u.val = false →
    Does (.shadowLoadComplete u) s [.spindles] [] (fun t =>
      t.spindle u.val = { s.spindle u.val with shadowBusy := false } ∧ KeptBut State.spindle [u.val] s t))
  ∧ (∀ (s : State) (u : SpindleId) (i : SpInstr), (s.spindle u.val).wanted = some i → (s.spindle u.val).bPresent i = false →
    exec (.shadowLoadStart u) s = .next s)
  ∧ (∀ (s : State) (u : SpindleId) (i : SpInstr) (rest : List SpInstr), (s.spindle u.val).queue = i :: rest → s.issueReady u.val i = true →
    s.guardOk u.val (instrSteps i) = true →
    Does (.instructionIssue u) s [.spindles] [] (fun t =>
      (t.spindle u.val).running = some (i, 0) ∧ (t.spindle u.val).queue = rest
      ∧ (t.spindle u.val).present = (s.spindle u.val).present ∧ (t.spindle u.val).landing = (s.spindle u.val).landing
      ∧ (t.spindle u.val).drains = (s.spindle u.val).drains
      ∧ (tileFor (s.spindle u.val).active i = true →
          (t.spindle u.val).active = (s.spindle u.val).active ∧ (t.spindle u.val).shadow = (s.spindle u.val).shadow)
      ∧ (tileFor (s.spindle u.val).active i = false →
          (t.spindle u.val).active = (s.spindle u.val).shadow ∧ (t.spindle u.val).shadow = none)
      ∧ (i.init = true → (t.spindle u.val).poison.contains i.set = false
          ∧ (t.spindle u.val).int48.contains i.set = pairInt i.fmtA i.fmtB)
      ∧ (∀ q, q ≠ i.set ∨ i.init = false → (t.spindle u.val).poison.contains q = (s.spindle u.val).poison.contains q
          ∧ (t.spindle u.val).int48.contains q = (s.spindle u.val).int48.contains q)
      ∧ KeptBut State.spindle [u.val] s t))
  ∧ (∀ (s : State) (u : SpindleId) (i : SpInstr) (rest : List SpInstr), (s.spindle u.val).queue = i :: rest →
    i.init = false → (s.spindle u.val).tagOk i = false → s.streamLive (u.val / 4) = true → s.reg 0x2E30 4 = 0xFFFF →
    Does (.instructionIssue u) s [.dict, .skeins, .spindles, .safety, .dbg] (endRegs (u.val / 4)) (fun t =>
      (Unretried s 6 (u.val / 4) → t.safety = s.safety) ∧
      t.reg (0x2440 + u.val / 4) 1 = 4 ∧ t.reg (0x2440 + u.val / 4) 2 = 0x14 ∧ t.reg (0x2440 + u.val / 4) 3 = i.addr % 2 ^ 64
      ∧ t.reg (0x2440 + u.val / 4) 6 = i.tag % 2 ^ 16 ∧ t.spindle u.val = { s.spindle u.val with queue := rest }
      ∧ KeptBut State.spindle [u.val] s t ∧ KeptBut State.skein [u.val / 4] s t))

/-- RESULT_LAND takes the oldest result that is due and adds it, in the order of its K-blocks, to its row of its set, or
replaces the row where the instruction carries INIT: the row then holds those values (the upper 16 bits of INT48 in
the side array), the flags of the additions are set, and every other byte of every memory stays. DRAIN_BEGIN of a
head drain that is ready begins it; where tag, OUT_FMT or records disagree on any masked spindle the whole DRAIN
ends with 15h on all of them; where its set is poisoned it is over with 30h; neither changes an accumulator. Where
the rules leave room the clauses follow the model's reading (log entries 19, 96). It says of each of these commands
that it completes (exec answers a next state with the effect told above, under conditions on the state and the
operands alone): RESULT_LAND (resultLand), DRAIN_BEGIN (drainBegin). -/
def Obligations.SpindleResults : Prop :=
  (∀ (s : State) (u : SpindleId) (l : Landing) (rest : List Landing), s.flips = [] → (s.spindle u.val).landing = l :: rest → l.steps = 0 →
    l.set < 4 → l.row < 64 → l.blocks.all (fun b => b.length == 64) = true → (s.skein (u.val / 4)).abandoned = false →
    Does (.resultLand u) s [.dict, .mem, .skeins, .spindles] [(0x2440 + u.val / 4, 7)] (fun t =>
      let vs := landRow l.int48 l.init (s.accRow u.val l.set l.row l.int48) l.blocks
      (t.spindle u.val = { s.spindle u.val with landing := rest })
      ∧ t.rd (accAt u.val l.set l.row) 256 = (vs.map (fun v => leBytes 4 (enc 48 v.1 % 2 ^ 32))).flatten
      ∧ (l.int48 = true → t.rd (sideAt u.val l.set l.row) 128 = (vs.map (fun v => leBytes 2 (enc 48 v.1 / 2 ^ 32))).flatten)
      ∧ (∀ x, ¬ (accAt u.val l.set l.row ≤ x ∧ x < accAt u.val l.set l.row + 256) →
          ¬ (l.int48 = true ∧ sideAt u.val l.set l.row ≤ x ∧ x < sideAt u.val l.set l.row + 128) → t.byteAt x = s.byteAt x)
      ∧ t.reg (0x2440 + u.val / 4) 7 = (if vs.foldl (fun (n : Nat) v => n ||| v.2) 0 = 0 then s.reg (0x2440 + u.val / 4) 7
          else (s.reg (0x2440 + u.val / 4) 7 ||| vs.foldl (fun (n : Nat) v => n ||| v.2) 0) % 2 ^ 8) ∧ KeptBut State.spindle [u.val] s t))
  ∧ (∀ (s : State) (u : SpindleId) (l : Landing) (rest : List Landing), (s.spindle u.val).landing = l :: rest → l.steps ≠ 0 →
    exec (.resultLand u) s = .next s)
  ∧ (∀ (s : State) (u : SpindleId) (j : DrainJob) (rest : List DrainJob), (s.spindle u.val).drains = j :: rest → s.drainReady u.val j = true →
    s.guardOk u.val (drainSteps j) = true →
    (s.drainUnchecked u.val j = true → ∀ v ∈ s.drainUnits u.val j, s.drainAgrees v j = true) → (s.spindle u.val).poison.contains j.set = false →
    Does (.drainBegin u) s [.skeins, .spindles] [] (fun t =>
      t.spindle u.val = { s.spindle u.val with drains := { j with begun := true } :: rest } ∧ KeptBut State.spindle [u.val] s t
      ∧ t.skein (u.val / 4) = { s.skein (u.val / 4) with
          flights := (s.skein (u.val / 4)).flights.map (fun f => if f.serial = j.serial then { f with unacked := 0 } else f) }
      ∧ KeptBut State.skein [u.val / 4] s t))
  ∧ (∀ (s : State) (u : SpindleId) (j : DrainJob) (rest : List DrainJob) (f : Flight), (s.spindle u.val).drains = j :: rest →
    s.drainReady u.val j = true → s.guardOk u.val (drainSteps j) = true → s.drainUnchecked u.val j = true →
    (s.drainUnits u.val j).all (fun v => s.drainAgrees v j) = false → (s.skein (u.val / 4)).flights.find? (fun f => f.serial == j.serial) = some f →
    s.streamLive (u.val / 4) = true → s.reg 0x2E30 4 = 0xFFFF →
    Does (.drainBegin u) s [.dict, .skeins, .spindles, .safety, .dbg] (endRegs (u.val / 4)) (fun t =>
      (∀ v ∈ s.drainUnits u.val j, t.spindle v = { s.spindle v with drains := (s.spindle v).drains.filter (fun x => x.serial != j.serial) })
      ∧ KeptBut State.spindle (s.drainUnits u.val j) s t
      ∧ t.reg (0x2440 + u.val / 4) 1 = 4 ∧ t.reg (0x2440 + u.val / 4) 2 = 0x15 ∧ t.reg (0x2440 + u.val / 4) 3 = f.addr % 2 ^ 64
      ∧ (t.skein (u.val / 4)).flights = ((s.skein (u.val / 4)).flights.filter (fun x => x.serial ≠ f.serial)).filter (fun x => !isControl x.word)
      ∧ (Unretried s 6 (u.val / 4) → t.safety = s.safety) ∧ KeptBut State.skein [u.val / 4] s t))
  ∧ (∀ (s : State) (u : SpindleId) (j : DrainJob) (rest : List DrainJob) (f : Flight), (s.spindle u.val).drains = j :: rest →
    s.drainReady u.val j = true → s.guardOk u.val (drainSteps j) = true →
    (s.drainUnchecked u.val j = true → ∀ v ∈ s.drainUnits u.val j, s.drainAgrees v j = true) → (s.spindle u.val).poison.contains j.set = true →
    (s.skein (u.val / 4)).abandoned = false → (s.skein (u.val / 4)).flights = [f] → f.serial = j.serial → opOf f.word = 5 → f.started = true →
    s.reg 0x2E30 4 = 0xFFFF → f.status = 0 → f.left = [u.val % 4] → s.streamLive (u.val / 4) = true →
    Does (.drainBegin u) s [.dict, .skeins, .spindles, .safety, .dbg] (endRegs (u.val / 4)) (fun t =>
      (Unretried s 6 (u.val / 4) → t.safety = s.safety) ∧
      (t.spindle u.val).drains = (s.spindle u.val).drains.filter (fun x => x.serial ≠ j.serial) ∧ KeptBut State.spindle [u.val] s t
      ∧ t.reg (0x2440 + u.val / 4) 1 = 4 ∧ t.reg (0x2440 + u.val / 4) 3 = f.addr % 2 ^ 64
      ∧ t.reg (0x2440 + u.val / 4) 2 = 0x30))

/-- TREADLE_TICK completes. While the frame has ticks left and no plan waits for its PLAN_START, it counts the tick;
else nothing changes. At a paced caldera in service whose handshake has completed it releases one step where the
gate is open: STEPS counts it and every running instruction of the caldera advances by one step and retires after
its last, and nothing of another caldera's spindles moves. A handshake that has not completed makes it an overrun
instead: SLIP counts it, the first of a row raises fault 09h, and nothing steps. In a free-running partition the
tick places slots only, and STEP_HANDSHAKE_COMPLETE completes and releases the step; in a paced one that command
changes nothing. Where the rules leave room the clauses follow the model's reading (log entry 96). It says of each
of these commands that it completes (exec answers a next state with the effect told above, under conditions on the
state and the operands alone): TREADLE_TICK (treadleTick), STEP_HANDSHAKE_COMPLETE (stepHandshakeComplete). -/
def Obligations.TreadleTicks : Prop :=
  (∀ (s : State) (p : PartId) (late : Nat), s.reg (0x2310 + p.val) 4 ≤ (s.plan p.val).tick ∨ (s.plan p.val).startDue = true →
    exec (.treadleTick p late) s = .next s)
  ∧ (∀ (s : State) (p : PartId) (late : Nat), s.reg (0x2310 + p.val) 2 ≠ 0 →
    (s.plan p.val).tick < s.reg (0x2310 + p.val) 4 → (s.plan p.val).startDue = false →
    Does (.treadleTick p late) s [.plans] [] (fun t =>
      t.plan p.val = { s.plan p.val with tick := (s.plan p.val).tick + 1 } ∧ KeptBut State.plan [p.val] s t))
  ∧ (∀ (s : State) (p : PartId) (late : Nat) (c : CalderaId) (u : SpindleId), s.reg (0x2310 + p.val) 2 = 0 → s.partCalderas p.val = [c.val] →
    (s.plan p.val).tick < s.reg (0x2310 + p.val) 4 → (s.plan p.val).startDue = false →
    bit late c.val = false → s.gateOpen c.val = true → u.val / 32 = c.val →
    Completes (.treadleTick p late) s (fun t =>
      Only ([.skeins, .spindles, .plans, .freeUsed] ++ alarmParts) s t ∧
      (t.plan p.val).tick = (s.plan p.val).tick + 1 ∧ t.reg (0x2320 + c.val) 4 = (s.reg (0x2320 + c.val) 4 + 1) % 2 ^ 64
      ∧ (t.caldera c.val).handshakeLate = false
      ∧ (∀ x, (s.spindle u.val).running = some x →
          (t.spindle u.val).running = (if x.2 + 1 < instrSteps x.1 then some (x.1, x.2 + 1) else none))
      ∧ ((s.spindle u.val).running = none → (t.spindle u.val).running = none
          ∧ (t.spindle u.val).landing = (s.spindle u.val).landing.map (fun l => { l with steps := l.steps - 1 }))
      ∧ (∀ n, n / 32 ≠ c.val → t.spindle n = s.spindle n)))
  ∧ (∀ (s : State) (p : PartId) (late : Nat) (c : CalderaId), s.reg (0x2310 + p.val) 2 = 0 → s.partCalderas p.val = [c.val] →
    (s.plan p.val).tick < s.reg (0x2310 + p.val) 4 → (s.plan p.val).startDue = false →
    bit late c.val = true → s.oos c.val = false → s.reg (0x2320 + c.val) 5 < 0xFFFF → s.reg (0x2320 + c.val) 9 < 0xFFFFFFFF →
    Does (.treadleTick p late) s (.plans :: alarmParts) ((0x2320 + c.val, 5) :: (0x2320 + c.val, 9) :: alarmRegs) (fun t =>
      (t.plan p.val).tick = (s.plan p.val).tick + 1 ∧ t.reg (0x2320 + c.val) 5 = s.reg (0x2320 + c.val) 5 + 1
      ∧ (t.caldera c.val).handshakeLate = true ∧ (t.caldera c.val).overrunSeen = true
      ∧ t.reg (0x2320 + c.val) 9 = s.reg (0x2320 + c.val) 9 + (if (s.caldera c.val).handshakeLate then 0 else 1)
      ∧ ((s.caldera c.val).handshakeLate = false → s.reg 0x2B00 5 < 0xFFFFFFFF → t.reg 0x2B00 5 = s.reg 0x2B00 5 + 1)))
  ∧ (∀ (s : State) (c : CalderaId) (u : SpindleId), s.reg (0x2310 + s.calderaPart c.val) 2 ≠ 0 → s.gateOpen c.val = true → u.val / 32 = c.val →
    Completes (.stepHandshakeComplete c) s (fun t =>
      Only ([.skeins, .spindles, .freeUsed] ++ alarmParts) s t ∧
      t.reg (0x2320 + c.val) 4 = (s.reg (0x2320 + c.val) 4 + 1) % 2 ^ 64
      ∧ (∀ x, (s.spindle u.val).running = some x →
          (t.spindle u.val).running = (if x.2 + 1 < instrSteps x.1 then some (x.1, x.2 + 1) else none))
      ∧ (∀ n, n / 32 ≠ c.val → t.spindle n = s.spindle n)))
  ∧ (∀ (s : State) (c : CalderaId), s.reg (0x2310 + s.calderaPart c.val) 2 = 0 → exec (.stepHandshakeComplete c) s = .next s)

/-- TREADLE_SETTINGS_APPLY completes: it puts the accepted MODE, TICKS, PERIOD, PHASE and EQ of the partition into
force, but leaves a mode or a rate that changes while a caldera of the partition is not idle. TREADLE_FRAME_START of
a plan that runs waits for the last of the frame's TICKS; else it completes: it counts the frame, restarts its
ticks, and at each caldera of the partition puts RESERVE into force, folds SLIP into SLIP_MAX, clears SLIP and
stores the MARGIN that the replica gave. WHEEL_PERIOD_START puts the accepted shares into force and begins the wheel
of every channel again, whose queues stay. RESERVED_SLOT_BEGIN completes and holds the steps of the caldera at a
slot that RESERVE marks and changes nothing at another; RESERVED_SLOT_END lets them go on, and a sweep that has not
ended waits for the next slot. COMPLETION_DELIVERY of a completion that arrived later than its delivery time, EQ in
whole ticks and SLIP, in a paced partition completes and raises SLIP to its lateness in ticks and counts it as late
by refresh or by queueing; any other changes nothing. Where the rules leave room the clauses follow the model's
reading (log entries 27, 28, 29). It says of each of these commands that it completes (exec answers a next state
with the effect told above, under conditions on the state and the operands alone): WHEEL_PERIOD_START
(wheelPeriodStart), TREADLE_SETTINGS_APPLY (treadleSettingsApply), TREADLE_FRAME_START (treadleFrameStart),
RESERVED_SLOT_BEGIN (reservedSlotBegin), RESERVED_SLOT_END (reservedSlotEnd), COMPLETION_DELIVERY
(completionDelivery). -/
def Obligations.TreadleFrames : Prop :=
  (∀ (s : State) (p : PartId),
    ([1, 3, 5].all (fun i => s.reg (0x2310 + p.val) (i + 1) == s.acc (0x2310 + p.val) i)) = true
      ∨ (s.partCalderas p.val).all s.calderaIdle = true →
    Does (.treadleSettingsApply p) s [.dict] ([2, 4, 6, 8, 0x0A].map (fun i => (0x2310 + p.val, i))) (fun t =>
      ∀ i, i ∈ [1, 3, 5, 7, 9] → t.reg (0x2310 + p.val) (i + 1) = s.acc (0x2310 + p.val) i % 256 ^ odBytes (0x2310 + p.val) (i + 1)))
  ∧ (∀ (s : State) (p : PartId), ([1, 3, 5].all (fun i => s.reg (0x2310 + p.val) (i + 1) == s.acc (0x2310 + p.val) i)) = false →
    (s.partCalderas p.val).all s.calderaIdle = false → exec (.treadleSettingsApply p) s = .next s)
  ∧ (∀ (s : State) (p : PartId), s.planRuns p.val = true → (s.plan p.val).tick < s.reg (0x2310 + p.val) 4 →
    exec (.treadleFrameStart p) s = .next s)
  ∧ (∀ (s : State) (p : PartId), s.reg (0x2310 + p.val) 2 ≠ 0 → s.partState p.val ≠ 2 → s.safety.warnings = [] →
    s.planRuns p.val = false ∨ s.reg (0x2310 + p.val) 4 ≤ (s.plan p.val).tick →
    Does (.treadleFrameStart p) s [.dict, .plans, .calderas, .safety, .freeUsed]
      ((0x2310 + p.val, 0x0C) :: (s.partCalderas p.val).flatMap (fun c => [2, 5, 6, 0x0A].map (fun i => (0x2320 + c, i)))) (fun t =>
        t.reg (0x2310 + p.val) 0x0C = (s.reg (0x2310 + p.val) 0x0C + 1) % 2 ^ 32
        ∧ t.plan p.val = { s.plan p.val with tick := 0, frame := (s.plan p.val).frame + 1, startDue := (s.plan p.val).starting }
        ∧ KeptBut State.plan [p.val] s t ∧ ((∀ c ∈ s.partCalderas p.val, Unretried s 9 c) → t.safety = s.safety)
        ∧ t.freeUsed = s.freeUsed + (s.partCalderas p.val).length
        ∧ ∀ c, c ∈ s.partCalderas p.val → t.reg (0x2320 + c) 2 = s.acc (0x2320 + c) 1 % 2 ^ 64 ∧ t.reg (0x2320 + c) 5 = 0
            ∧ t.reg (0x2320 + c) 0x0A ≤ 100
            ∧ t.reg (0x2320 + c) 6 = (if s.reg (0x2320 + c) 6 < s.reg (0x2320 + c) 5 then Nat.min (s.reg (0x2320 + c) 5) 0xFFFF
                else s.reg (0x2320 + c) 6)))
  ∧ (∀ (s : State) (p : PartId), s.reg (0x2310 + p.val) 2 = 0 →
    s.planRuns p.val = false ∨ s.reg (0x2310 + p.val) 4 ≤ (s.plan p.val).tick →
    Does (.treadleFrameStart p) s ([.plans, .freeUsed] ++ alarmParts)
      ((0x2310 + p.val, 0x0C) :: (s.partCalderas p.val).flatMap (fun c => [2, 5, 6, 0x0A].map (fun i => (0x2320 + c, i))) ++ alarmRegs) (fun t =>
      t.reg (0x2310 + p.val) 0x0C = (s.reg (0x2310 + p.val) 0x0C + 1) % 2 ^ 32
      ∧ t.plan p.val = { s.plan p.val with tick := 0, frame := (s.plan p.val).frame + 1, startDue := (s.plan p.val).starting }
      ∧ KeptBut State.plan [p.val] s t
      ∧ ∀ c, c ∈ s.partCalderas p.val → t.reg (0x2320 + c) 2 = s.acc (0x2320 + c) 1 % 2 ^ 64 ∧ t.reg (0x2320 + c) 5 = 0
          ∧ (t.caldera c).overrunSeen = false ∧ t.reg (0x2320 + c) 0x0A ≤ 100))
  ∧ (∀ (s : State),
    Does .wheelPeriodStart s [.dict, .channels] ((List.range 8).map (fun p => (0x2203, p + 1))) (fun t =>
      (∀ p, p < 8 → t.reg 0x2203 (p + 1) = s.acc 0x2202 (p + 1) % 256 ^ odBytes 0x2203 (p + 1))
      ∧ ∀ q, t.channel q = { s.channel q with slot := 0 }))
  ∧ (∀ (s : State) (c : CalderaId), bit (s.reg (0x2320 + c.val) 2) (s.slotNow (s.calderaPart c.val)) = true →
    Does (.reservedSlotBegin c) s [.calderas] [] (fun t =>
      t.caldera c.val = { s.caldera c.val with reserved := true } ∧ KeptBut State.caldera [c.val] s t))
  ∧ (∀ (s : State) (c : CalderaId), bit (s.reg (0x2320 + c.val) 2) (s.slotNow (s.calderaPart c.val)) = false →
    exec (.reservedSlotBegin c) s = .next s)
  ∧ (∀ (s : State) (c : CalderaId), (∀ i < 8, Settled s (8 * c.val + i) = true) →
    Does (.reservedSlotEnd c) s [.dict, .calderas] [(0x2F04, 2)] (fun t =>
      t.caldera c.val = { s.caldera c.val with reserved := false } ∧ KeptBut State.caldera [c.val] s t
      ∧ (s.reg 0x2F04 2 ≠ 1 → t.reg 0x2F04 2 = s.reg 0x2F04 2)
      ∧ (s.reg 0x2F04 2 = 1 → t.reg 0x2F04 2 = (if t.calderas.any (fun k => k.2.reserved) then 1 else 4))))
  ∧ (∀ (s : State) (c : CalderaId) (n : Nat) (refresh : Bool), s.reg (0x2310 + s.calderaPart c.val) 2 = 0 →
    s.ticksUp (s.calderaPart c.val) (s.reg (0x2310 + s.calderaPart c.val) 0x0A) + s.reg (0x2320 + c.val) 5
      < s.ticksUp (s.calderaPart c.val) n →
    s.reg (0x2320 + c.val) (if refresh then 7 else 8) < 0xFFFFFFFF →
    Does (.completionDelivery c n refresh) s [.dict] [(0x2320 + c.val, 5), (0x2320 + c.val, if refresh then 7 else 8)] (fun t =>
      t.reg (0x2320 + c.val) 5 = Nat.min (s.ticksUp (s.calderaPart c.val) n
        - s.ticksUp (s.calderaPart c.val) (s.reg (0x2310 + s.calderaPart c.val) 0x0A)) 0xFFFF
      ∧ t.reg (0x2320 + c.val) (if refresh then 7 else 8) = s.reg (0x2320 + c.val) (if refresh then 7 else 8) + 1))
  ∧ (∀ (s : State) (c : CalderaId) (n : Nat) (refresh : Bool), s.reg (0x2310 + s.calderaPart c.val) 2 ≠ 0
      ∨ s.ticksUp (s.calderaPart c.val) n
          ≤ s.ticksUp (s.calderaPart c.val) (s.reg (0x2310 + s.calderaPart c.val) 0x0A) + s.reg (0x2320 + c.val) 5 →
    exec (.completionDelivery c n refresh) s = .next s)

/-- EXTERNAL_EVENT_EFFECT completes: it takes the oldest event that has crossed the bridge. A stop puts every RUNNING,
WAITING or HALTED stream of the caldera into STOPPED, which records what it was, and sets the break flag; streams of
other calderas stay. A release lets a STOPPED stream return to what it recorded, and the gate goes on. An update
from outside lets the stream whose WAIT it satisfied return to RUNNING behind the WAIT; a time-out ends a stream
whose WAIT is still not satisfied with status 40h; an answer to a SEND is counted, and the last one completes it.
With no event nothing changes. Where the rules leave room the clauses follow the model's reading (log entry 84). It
says of this command that it completes (exec answers a next state with the effect told above, under conditions on
the state and the operands alone): EXTERNAL_EVENT_EFFECT (externalEventEffect). -/
def Obligations.ExternalEvents : Prop :=
  (∀ (s : State) (c : CalderaId) (rest : List External), (s.caldera c.val).external = .stop :: rest →
    Does (.externalEventEffect c) s [.dict, .skeins, .calderas, .dbg] ((List.range 8).flatMap (fun i => stateRegs (8 * c.val + i))) (fun t =>
      (∀ i, i < 8 → if s.streamState (8 * c.val + i) = 1 ∨ s.streamState (8 * c.val + i) = 2 ∨ s.streamState (8 * c.val + i) = 3
        then t.streamState (8 * c.val + i) = 5 ∧ t.skein (8 * c.val + i) = { s.skein (8 * c.val + i) with recorded := s.streamState (8 * c.val + i) }
        else t.streamState (8 * c.val + i) = s.streamState (8 * c.val + i) ∧ t.skein (8 * c.val + i) = s.skein (8 * c.val + i))
      ∧ KeptBut State.skein ((List.range 8).map (8 * c.val + ·)) s t
      ∧ t.caldera c.val = { s.caldera c.val with external := rest, stopped := true, stopMark := true } ∧ KeptBut State.caldera [c.val] s t
      ∧ t.dbg.broken.contains c.val = true ∧ t.dbg.untaken = s.dbg.untaken.filter (· != c.val)))
  ∧ (∀ (s : State) (c : CalderaId) (i : Nat) (rest : List External), (s.caldera c.val).external = .releaseStop :: rest → i < 8 →
    Does (.externalEventEffect c) s [.dict, .skeins, .calderas, .dbg]
      (wakeRegs s ++ (List.range 64).flatMap endRegs ++ [(0x2D10, 3), (0x2D10, 4)]) (fun t =>
      t.caldera c.val = { s.caldera c.val with external := rest, stopped := false } ∧ KeptBut State.caldera [c.val] s t
      ∧ (s.streamState (8 * c.val + i) = 5 → (s.skein (8 * c.val + i)).recorded = 1 →
          t.streamState (8 * c.val + i) = 1 ∧ t.skein (8 * c.val + i) = { s.skein (8 * c.val + i) with recorded := 0 })
      ∧ (s.streamState (8 * c.val + i) = 0 ∨ s.streamState (8 * c.val + i) = 4 →
          t.streamState (8 * c.val + i) = s.streamState (8 * c.val + i) ∧ t.skein (8 * c.val + i) = s.skein (8 * c.val + i))))
  ∧ (∀ (s : State) (c : CalderaId) (g : SkeinId) (f : Flight) (rest : List External), (s.caldera c.val).external = .wake g.val :: rest →
    s.streamState g.val = 2 → (s.skein g.val).flights.find? (fun f => opOf f.word == 0x10 && f.started) = some f →
    (s.waitSatisfied g.val f.word = true →
      Does (.externalEventEffect c) s [.dict, .skeins, .calderas, .dbg] ((0x2440 + g.val, 3) :: (0x2440 + g.val, 6) :: stateRegs g.val) (fun t =>
        t.streamState g.val = 1 ∧ t.reg (0x2440 + g.val) 3 = (f.addr + 32) % 2 ^ 64
        ∧ t.skein g.val = { s.skein g.val with flights := (s.skein g.val).flights.filter (fun x => x.serial ≠ f.serial) }
        ∧ KeptBut State.skein [g.val] s t ∧ t.caldera c.val = { s.caldera c.val with external := rest } ∧ KeptBut State.caldera [c.val] s t))
    ∧ (s.waitSatisfied g.val f.word = false →
      Does (.externalEventEffect c) s [.calderas] [] (fun t =>
        t.caldera c.val = { s.caldera c.val with external := rest } ∧ KeptBut State.caldera [c.val] s t)))
  ∧ (∀ (s : State) (c : CalderaId) (g : SkeinId) (n : Nat) (f : Flight) (rest : List External),
    (s.caldera c.val).external = .timeout g.val n :: rest → s.streamState g.val = 2 →
    (s.skein g.val).flights.find? (fun f => opOf f.word == 0x10 && f.started && f.serial == n) = some f →
    s.waitSatisfied g.val f.word = false → s.reg 0x2E30 4 = 0xFFFF →
    Does (.externalEventEffect c) s [.dict, .skeins, .calderas, .safety, .dbg] (endRegs g.val) (fun t =>
      t.streamState g.val = 4 ∧ t.reg (0x2440 + g.val) 2 = 0x40 ∧ t.reg (0x2440 + g.val) 3 = f.addr % 2 ^ 64
      ∧ t.reg (0x2440 + g.val) 6 = tagOf f.word ∧ (Unretried s 6 g.val → t.safety = s.safety)
      ∧ (t.skein g.val).flights = ((s.skein g.val).flights.filter (fun x => x.serial ≠ f.serial)).filter (fun x => !isControl x.word)
      ∧ KeptBut State.skein [g.val] s t
      ∧ t.caldera c.val = { s.caldera c.val with external := rest } ∧ KeptBut State.caldera [c.val] s t))
  ∧ (∀ (s : State) (c : CalderaId) (g : SkeinId) (xid st : Nat) (f : Flight) (rest : List External),
    (s.caldera c.val).external = .ack g.val xid st :: rest →
    (s.skein g.val).flights.find? (fun f => opOf f.word == 0x16 && f.started && f.xid == xid && decide (0 < f.unacked)) = some f →
    (1 < f.unacked → Does (.externalEventEffect c) s [.skeins, .calderas] [] (fun t =>
      t.skein g.val = { s.skein g.val with flights := (s.skein g.val).flights.map (fun x => if x.serial = f.serial
          then { f with unacked := f.unacked - 1, status := if f.status = 0 then st else f.status } else x) }
      ∧ KeptBut State.skein [g.val] s t ∧ t.caldera c.val = { s.caldera c.val with external := rest } ∧ KeptBut State.caldera [c.val] s t))
    ∧ (f.unacked = 1 → f.status = 0 → st = 0 → bit f.word 133 = false → Lone s g.val f.serial = true →
      Does (.externalEventEffect c) s [.skeins, .calderas] [] (fun t =>
        t.skein g.val = { s.skein g.val with flights := (s.skein g.val).flights.filter (fun x => x.serial ≠ f.serial) }
        ∧ KeptBut State.skein [g.val] s t ∧ t.caldera c.val = { s.caldera c.val with external := rest } ∧ KeptBut State.caldera [c.val] s t)))
  ∧ (∀ (s : State) (c : CalderaId), (s.caldera c.val).external = [] → exec (.externalEventEffect c) s = .next s)

/-- An admitted PLAN_LOAD of a partition whose plan is EMPTY or REFUSED completes and leaves it LOADING with STATUS 01h:
the container at SOURCE is read and checked, what steps 1 to 6 give is held for PLAN_LOAD_COMPLETE, and no byte, no
page and no object that the container names has changed; one that cannot be read is held with its status.
PLAN_LOAD_COMPLETE makes the writes of step 7 and publishes LOADED with PLAN_ID and PLAN_DIGEST, or REFUSED with the
status of the load or of a section that could not be written. ACTIVATE makes a LOADED plan ACTIVE, measures it and
lets its streams wait for PLAN_START, which, at tick 0 of the next treadle frame, starts those marked START at their
BASE. UNLOAD of a plan with no live stream returns everything to EMPTY. A command in a state that does not allow it
answers 0800_0022h with STATUS 8Ah. Where the rules leave room the clauses follow the model's reading (log entries
81, 82, 107). It says of each of these commands that it completes (exec answers a next state with the effect told
above, under conditions on the state and the operands alone): PLAN_LOAD (planLoad), PLAN_LOAD_COMPLETE
(planLoadComplete), ACTIVATE (activate), PLAN_START (planStart), UNLOAD (unload). -/
def Obligations.PlanCommands : Prop :=
  (∀ (s : State) (a : Agent) (p : PartId), Admitted s a (0x2490 + p.val) 3 1 1 → s.reg (0x2490 + p.val) 8 = 0 ∨ s.reg (0x2490 + p.val) 8 = 4 →
    (s.container p.val).1 ∈ [0x82, 0x88, 0x8B] →
    Does (.planLoad a p) s [.dict, .plans, .replies] [(0x2490 + p.val, 4), (0x2490 + p.val, 5), (0x2490 + p.val, 8)] (fun t =>
      Replied a 0 0 t ∧ t.reg (0x2490 + p.val) 8 = 1 ∧ t.reg (0x2490 + p.val) 4 = 1 ∧ t.reg (0x2490 + p.val) 5 = 0
      ∧ (t.plan p.val).pendingStatus = (s.container p.val).1 ∧ (t.plan p.val).pendingBody = [] ∧ KeptBut State.plan [p.val] s t))
  ∧ (∀ (s : State) (a : Agent) (p : PartId), Admitted s a (0x2490 + p.val) 3 1 1 → s.reg (0x2490 + p.val) 8 = 0 ∨ s.reg (0x2490 + p.val) 8 = 4 →
    (s.container p.val).1 = 0x8C →
    Does (.planLoad a p) s ([.plans, .replies] ++ alarmParts)
        ([(0x2490 + p.val, 4), (0x2490 + p.val, 5), (0x2490 + p.val, 8)] ++ readRegs ++ alarmRegs) (fun t =>
      Replied a 0 0 t ∧ t.reg (0x2490 + p.val) 8 = 1 ∧ (t.plan p.val).pendingStatus = 0x8C ∧ (t.plan p.val).pendingBody = []
      ∧ KeptBut State.plan [p.val] s t))
  ∧ (∀ (s u : State) (a : Agent) (p : PartId) (b : List Byte) (r : LoadResult), Admitted s a (0x2490 + p.val) 3 1 1 →
    s.reg (0x2490 + p.val) 8 = 0 ∨ s.reg (0x2490 + p.val) 8 = 4 → s.container p.val = (0, b) →
    u = ((((s.setReg (0x2490 + p.val) 8 1).setReg (0x2490 + p.val) 4 1).setReg (0x2490 + p.val) 5 0).readEvents []
      (s.reg (0x2490 + p.val) 1) (s.reg (0x2490 + p.val) 2)) → r = u.planCheck p.val b →
    Does (.planLoad a p) s [.dict, .mem, .flips, .plans, .replies]
        (readRegs ++ [(0x2490 + p.val, 4), (0x2490 + p.val, 5), (0x2490 + p.val, 8)]) (fun t =>
      Replied a 0 0 t ∧ t.reg (0x2490 + p.val) 8 = 1 ∧ t.reg (0x2490 + p.val) 4 = 1 ∧ t.reg (0x2490 + p.val) 5 = 0
      ∧ t.plan p.val = { s.plan p.val with
          pendingStatus := r.status, pendingDetail := if r.status = 0 then 0 else r.detail, pendingDigest := slice b 32 32,
          pendingId := field b 8 4, pendingBody := if r.status = 0 then b else [],
          calderaMask := if r.status = 0 then field b 16 1 else (s.plan p.val).calderaMask }
      ∧ KeptBut State.plan [p.val] s t ∧ BytesSame s t))
  ∧ (∀ (s u : State) (p : PartId) (broken : Option Nat) (r : LoadResult), s.reg (0x2490 + p.val) 8 = 1 → (s.plan p.val).pendingStatus = 0 →
    s.planWrite p.val (s.plan p.val).pendingBody broken = (u, r) →
    (r.status = 0 → Completes (.planLoadComplete ⟨p, broken⟩) s (fun t =>
      t.reg (0x2490 + p.val) 8 = 2 ∧ t.reg (0x2490 + p.val) 4 = 0 ∧ t.reg (0x2490 + p.val) 6 = (s.plan p.val).pendingId % 2 ^ 32
      ∧ t.reg (0x2490 + p.val) 7 = leNat (s.plan p.val).pendingDigest % 2 ^ 256 ∧ (t.plan p.val).digest = (s.plan p.val).pendingDigest
      ∧ (t.plan p.val).pendingBody = []
      ∧ KeptBut State.plan [p.val] u t ∧ Only [.dict, .plans, .safety] u t
      ∧ RegsKept ([4, 5, 6, 7, 8].map (fun i => (0x2490 + p.val, i)) ++ [(0x2B38 + p.val, 0x0C)] ++ (List.range 8).map (fun x => (0x2B08 + x, 1))) u t))
    ∧ (r.status ≠ 0 → Completes (.planLoadComplete ⟨p, broken⟩) s (fun t =>
      t.reg (0x2490 + p.val) 8 = 4 ∧ t.reg (0x2490 + p.val) 4 = r.status % 2 ^ 8 ∧ t.reg (0x2490 + p.val) 5 = r.detail % 2 ^ 32
      ∧ t.reg (0x2490 + p.val) 6 = 0 ∧ t.reg (0x2490 + p.val) 7 = 0 ∧ (t.plan p.val).calderaMask = 0 ∧ (t.plan p.val).digest = []
      ∧ KeptBut State.plan [p.val] u t ∧ Only [.dict, .plans] u t
      ∧ RegsKept ([4, 5, 6, 7, 8].map (fun i => (0x2490 + p.val, i))) u t)))
  ∧ (∀ (s : State) (p : PartId) (broken : Option Nat), s.reg (0x2490 + p.val) 8 = 1 → (s.plan p.val).pendingStatus ≠ 0 →
    Does (.planLoadComplete ⟨p, broken⟩) s [.dict, .plans] ([4, 5, 6, 7, 8].map (fun i => (0x2490 + p.val, i))) (fun t =>
      t.reg (0x2490 + p.val) 8 = 4 ∧ t.reg (0x2490 + p.val) 4 = (s.plan p.val).pendingStatus % 2 ^ 8
      ∧ t.reg (0x2490 + p.val) 5 = (s.plan p.val).pendingDetail % 2 ^ 32 ∧ t.reg (0x2490 + p.val) 6 = 0 ∧ t.reg (0x2490 + p.val) 7 = 0
      ∧ (t.plan p.val).calderaMask = 0 ∧ KeptBut State.plan [p.val] s t))
  ∧ (∀ (s : State) (p : PartId) (broken : Option Nat), s.reg (0x2490 + p.val) 8 ≠ 1 → exec (.planLoadComplete ⟨p, broken⟩) s = .next s)
  ∧ (∀ (s : State) (a : Agent) (p : PartId), Admitted s a (0x2490 + p.val) 3 1 2 → s.reg (0x2490 + p.val) 8 = 2 → s.safetyOk p.val = true →
    (∀ c < 8, bit (s.plan p.val).calderaMask c = true → s.oos c = false) →
    Completes (.activate a p) s (fun t =>
      Only [.dict, .boot, .plans, .cameras, .decoders, .launches, .safety, .replies] s t
      ∧ Replied a 0 0 t ∧ t.reg (0x2490 + p.val) 8 = 3 ∧ t.reg (0x2490 + p.val) 4 = 0
      ∧ t.plan p.val = { s.plan p.val with starting := true } ∧ KeptBut State.plan [p.val] s t
      ∧ (∀ b, b ∈ (s.plan p.val).blocks → b < 16 → s.reg (0x2810 + b) 1 ≠ 0 → s.reg (0x2810 + b) 2 = p.val →
          t.reg (0x2810 + b) 3 = 1 ∧ t.reg (0x2810 + b) 1 = 2)
      ∧ (∀ d, d ∈ (s.plan p.val).decoders → d < 8 → s.reg (0x2610 + d) 1 ≠ 0 → s.decOn d = false → s.streamPart (40 + d) = p.val →
          t.reg (0x2610 + d) 2 = 1 ∧ t.reg (0x2610 + d) 1 = 2)))
  ∧ (∀ (s : State) (p : PartId), (s.plan p.val).starting = true → (s.plan p.val).startDue = true → s.reg (0x2490 + p.val) 8 = 3 →
    (s.plan p.val).streams.all (fun e => decide (e.1 < 64)) = true →
    Does (.planStart p) s [.dict, .skeins, .plans, .safety, .dbg]
        ((List.range 64).flatMap (fun g => [1, 2, 3, 5, 7, 8].map (fun i => (0x2440 + g, i))) ++ (List.range 8).map (fun x => (0x2B08 + x, 1)) ++ traceRegs) (fun t =>
      t.plan p.val = { s.plan p.val with starting := false, startDue := false, frame := 0 } ∧ KeptBut State.plan [p.val] s t
      ∧ (∀ g, (g, 1) ∈ (s.plan p.val).streams → g < 64 → s.startOk g = true →
          t.reg (0x2440 + g) 1 = 1 ∧ t.reg (0x2440 + g) 3 = s.reg (0x2440 + g) 4 % 2 ^ 64 ∧ t.reg (0x2440 + g) 2 = 0)
      ∧ (∀ g, g < 64 → (g, 1) ∉ (s.plan p.val).streams → t.reg (0x2440 + g) 1 = s.reg (0x2440 + g) 1 ∧ t.skein g = s.skein g)))
  ∧ (∀ (s : State) (p : PartId), (s.plan p.val).starting = false ∨ (s.plan p.val).startDue = false → exec (.planStart p) s = .next s)
  ∧ (∀ (s : State) (a : Agent) (p : PartId), Admitted s a (0x2490 + p.val) 3 1 3 → s.unloadOk p.val = true →
    Completes (.unload a p) s (fun t =>
      Only ([.skeins, .plans, .cameras, .chains, .decoders, .lanes, .gatherQueue, .gatherBusy, .blocks, .launches, .replies] ++ alarmParts) s t
      ∧ Replied a 0 0 t ∧ ([4, 5, 6, 7, 8].all (fun i => t.reg (0x2490 + p.val) i == 0)) = true
      ∧ t.plan p.val = { Plan.init with expected := (s.plan p.val).expected } ∧ KeptBut State.plan [p.val] s t
      ∧ (∀ q ∈ (s.plan p.val).queues, t.queueAwaited q = false → (t.queue q).enabled = false ∧ (t.queue q).count = 0)
      ∧ (s.plan p.val).launches.all (fun l => t.launch l == LaunchQ.init) = true))
  ∧ (∀ (s : State) (a : Agent) (p : PartId) (c : Instr) (v : Nat), (c, v) ∈ [(.planLoad a p, 1), (.activate a p, 2), (.unload a p, 3)] →
    Admitted s a (0x2490 + p.val) 3 1 v → (v = 1 → s.reg (0x2490 + p.val) 8 ≠ 0 ∧ s.reg (0x2490 + p.val) 8 ≠ 4) →
    (v = 2 → s.reg (0x2490 + p.val) 8 ≠ 2 ∨ s.safetyOk p.val = false ∨ ∃ c < 8, bit (s.plan p.val).calderaMask c = true ∧ s.oos c = true) →
    (v = 3 → s.unloadOk p.val = false) →
    Does c s [.dict, .replies] [(0x2490 + p.val, 4)] (fun t => Replied a 0x08000022 0 t ∧ t.reg (0x2490 + p.val) 4 = 0x8A))

/-- An admitted QUEUE_ENABLE completes: a disabled queue with a consumer and a ring in present pages of its partition is
enabled, and another answers 0800_0022h. An admitted QUEUE_DISABLE completes and discards its entries, with COUNT,
HEAD and TAIL 0 and no vector armed. QUEUE_PUSH of entries that fit, from the host, an I/O-die block or the queue's
partition, completes and raises COUNT by their number, moves TAIL on round the ring, sends an armed vector (holds it
where its entry of the MSI-X table masks it), and writes each entry at its place: of one entry in package memory the
32 bytes read back and all other bytes stay. A push of the host or a block changes no stream: one whose WAIT it
satisfies goes on when the event that waits at its caldera takes effect. One that does not fit is refused whole and
counted; one to a disabled queue, or from another partition, changes nothing. QUEUE_POP of a number that the queue
holds completes, takes it from COUNT and moves HEAD on; a greater number changes nothing. Where the rules leave room
the clauses follow the model's reading (log entries 87, 99). It says of each of these commands that it completes
(exec answers a next state with the effect told above, under conditions on the state and the operands alone):
QUEUE_ENABLE (queueEnable), QUEUE_DISABLE (queueDisable), QUEUE_PUSH (queuePush), QUEUE_POP (queuePop). -/
def Obligations.QueueStore : Prop :=
  (∀ (s : State) (a : Agent) (q : Nat), Admitted s a 0x2410 5 1 1 → q = s.sel (agentNo a) 0x2410 → (s.queue q).enabled = false →
    (s.queue q).consumer ≠ 0xFFFF → s.ringOk (s.queuePart q) (s.queue q).ringBase (s.queue q).log2 = true →
    Does (.queueEnable a) s [.queues, .replies] [] (fun t =>
      Replied a 0 0 t ∧ t.queue q = { s.queue q with enabled := true } ∧ KeptBut State.queue [q] s t))
  ∧ (∀ (s : State) (a : Agent) (q : Nat), Admitted s a 0x2410 5 1 1 → q = s.sel (agentNo a) 0x2410 → (s.queue q).enabled = false →
    (s.queue q).consumer = 0xFFFF ∨ s.ringOk (s.queuePart q) (s.queue q).ringBase (s.queue q).log2 = false →
    Does (.queueEnable a) s [.replies] [] (Replied a 0x08000022 0))
  ∧ (∀ (s : State) (a : Agent) (q : Nat), Admitted s a 0x2410 5 1 0 → q = s.sel (agentNo a) 0x2410 →
    Does (.queueDisable a) s [.queues, .replies] [] (fun t =>
      Replied a 0 0 t ∧ t.queue q = { s.queue q with enabled := false, count := 0, head := 0, tail := 0, armed := none }
      ∧ KeptBut State.queue [q] s t))
  ∧ (∀ (s : State) (src : Producer) (q : Nat) (es : List (List Byte)), es ≠ [] → q ≤ 16383 →
    producerPart src = none ∨ producerPart src = some (s.queuePart q) → (s.queue q).enabled = true →
    (s.queue q).count + es.length ≤ 2 ^ (s.queue q).log2 →
    Does (.queuePush src q es) s
        ((if producerPart src = none then [] else [.skeins, .dbg]) ++ [.dict, .mem, .flips, .hostMem, .queues, .calderas, .scrubPending, .out])
        (if producerPart src = none then outerRegs else pushRegs s) (fun t =>
      t.queue q = { s.queue q with
          count := (s.queue q).count + es.length, tail := ((s.queue q).tail + es.length) % 2 ^ (s.queue q).log2, armed := none }
      ∧ KeptBut State.queue [q] s t
      ∧ t.out = (match (s.queue q).armed with
          | some v => msixOut s v ++ s.out
          | none => s.out)))
  ∧ (∀ (s : State) (src : Producer) (q pa : Nat) (e : List Byte), s.flips = [] → q ≤ 16383 →
    producerPart src = none ∨ producerPart src = some (s.queuePart q) → (s.queue q).enabled = true →
    (s.queue q).count < 2 ^ (s.queue q).log2 → s.place (ringAddr (s.queue q) (s.queue q).tail) = .pkg pa → s.bankLate pa = false →
    Does (.queuePush src q [e]) s [.dict, .mem, .flips, .queues, .skeins, .calderas, .scrubPending, .dbg, .out] (pushRegs s) (fun t =>
      t.rd pa 32 = slice e 0 32 ∧ BytesKept pa 32 s t ∧ KeptBut State.queue [q] s t))
  ∧ (∀ (s : State) (src : Producer) (q : Nat) (es : List (List Byte)), es ≠ [] → q ≤ 16383 →
    producerPart src = none ∨ producerPart src = some (s.queuePart q) → (s.queue q).enabled = true →
    2 ^ (s.queue q).log2 < (s.queue q).count + es.length →
    Does (.queuePush src q es) s [.queues] [] (fun t =>
      t.queue q = { s.queue q with fullRefusals := Nat.min ((s.queue q).fullRefusals + 1) (2 ^ 32 - 1) } ∧ KeptBut State.queue [q] s t))
  ∧ (∀ (s : State) (src : Producer) (q : Nat) (es : List (List Byte)), (s.queue q).enabled = false ∨ 16383 < q
      ∨ (producerPart src ≠ none ∧ producerPart src ≠ some (s.queuePart q)) →
    exec (.queuePush src q es) s = .next s)
  ∧ (∀ (s : State) (q n : Nat), q ≤ 16383 → n ≤ (s.queue q).count →
    Does (.queuePop q n) s [.dict, .queues] countRegs (fun t =>
      t.queue q = { s.queue q with count := (s.queue q).count - n, head := ((s.queue q).head + n) % 2 ^ (s.queue q).log2 }
      ∧ KeptBut State.queue [q] s t))
  ∧ (∀ (s : State) (q n : Nat), 16383 < q ∨ (s.queue q).count < n → exec (.queuePop q n) s = .next s)

/-- With the link up and every earlier host write landed, DOORBELL_PUSH, DOORBELL_POP and SYNC_DOORBELL_WRITE complete:
a 64-bit PUSH whose source can be read pushes its entries, as the host, where they fit, and one that breaks a rule
is refused, counted and recorded with its status. A 64-bit POP of a host queue takes N entries and arms V - 1, which
goes out at once where entries stay (is held where its entry of the MSI-X table masks it); a POP that breaks a rule
pops nothing. A 32-bit synchronisation doorbell adds its value to the object modulo 2^32; a 64-bit one is refused
with 17h. While an earlier host write waits, a doorbell changes nothing yet. Where the rules leave room the clauses
follow the model's reading (log entries 61, 99). It says of each of these commands that it completes (exec answers a
next state with the effect told above, under conditions on the state and the operands alone): DOORBELL_PUSH
(doorbellPush), DOORBELL_POP (doorbellPop), SYNC_DOORBELL_WRITE (syncDoorbellWrite). -/
def Obligations.Doorbells : Prop :=
  (∀ (s u : State) (q v : Nat), s.pcieUp = true → q ≤ 16383 → s.hostWritePending = false → bits v 63 56 = 0 →
    regionOf (bits v 47 0) = .pkg ∨ regionOf (bits v 47 0) = .host → bits v 47 0 % 32 = 0 →
    (s.rangeStatus none false (bits v 47 0) (32 * (bits v 55 48 + 1))).1 = 0 →
    u = ((s.bumpBy 0x2E30 0x0B 8).outsideRead (bits v 47 0) (32 * (bits v 55 48 + 1))).1 →
    ((s.bumpBy 0x2E30 0x0B 8).outsideRead (bits v 47 0) (32 * (bits v 55 48 + 1))).2.status = 0 → (u.queue q).enabled = true →
    (u.queue q).count + (bits v 55 48 + 1) ≤ 2 ^ (u.queue q).log2 →
    Does (.doorbellPush q 8 v) s [.dict, .mem, .flips, .hostMem, .queues, .calderas, .scrubPending, .out]
        ((0x2E30, 0x0B) :: readRegs ++ outerRegs) (fun t =>
      (t.queue q).count = (u.queue q).count + (bits v 55 48 + 1) ∧ KeptBut State.queue [q] u t
      ∧ t.reg 0x2E30 0x0B = (s.reg 0x2E30 0x0B + 8) % 2 ^ 64 ∧ t.reg 0x2E30 8 = s.reg 0x2E30 8))
  ∧ (∀ (s : State) (q n v st : Nat), s.pcieUp = true → q ≤ 16383 → s.hostWritePending = false → s.reg 0x2E30 8 < 0xFFFFFFFF →
    (n ≠ 8 ∧ st = 0x17) ∨ (n = 8 ∧ bits v 63 56 ≠ 0 ∧ st = 0x11)
      ∨ (n = 8 ∧ bits v 63 56 = 0 ∧ regionOf (bits v 47 0) ≠ .pkg ∧ regionOf (bits v 47 0) ≠ .host ∧ st = 0x25)
      ∨ (n = 8 ∧ bits v 63 56 = 0 ∧ (regionOf (bits v 47 0) = .pkg ∨ regionOf (bits v 47 0) = .host) ∧ bits v 47 0 % 32 = 0
          ∧ (s.rangeStatus none false (bits v 47 0) (32 * (bits v 55 48 + 1))).1 = st ∧ st ≠ 0 ∧ st < 256) →
    Does (.doorbellPush q n v) s [.dict] [(0x2E30, 8), (0x2E30, 9), (0x2E30, 0x0B)] (fun t =>
      t.reg 0x2E30 8 = s.reg 0x2E30 8 + 1 ∧ t.reg 0x2E30 9 = st * 2 ^ 24 + q))
  ∧ (∀ (s : State) (q v : Nat), s.pcieUp = true → q ≤ 16383 → s.hostWritePending = false → bits v 55 21 = 0 →
    bits v 63 56 ≠ 1 → bits v 63 56 ≤ 0x20 → (s.queue q).consumer = 0x100 → bits v 20 0 ≤ (s.queue q).count →
    Does (.doorbellPop q 8 v) s [.dict, .queues, .out] ([(0x2E30, 0x0A), (0x2E30, 0x0B)] ++ countRegs) (fun t =>
      (t.queue q).count = (s.queue q).count - bits v 20 0 ∧ (t.queue q).head = ((s.queue q).head + bits v 20 0) % 2 ^ (s.queue q).log2
      ∧ KeptBut State.queue [q] s t
      ∧ (bits v 63 56 ≠ 0 → bits v 20 0 = (s.queue q).count → (t.queue q).armed = some (bits v 63 56 - 1) ∧ t.out = s.out)
      ∧ (bits v 63 56 ≠ 0 → bits v 20 0 < (s.queue q).count →
          (t.queue q).armed = none ∧ t.out = msixOut s (bits v 63 56 - 1) ++ s.out)))
  ∧ (∀ (s : State) (q n v st : Nat), s.pcieUp = true → q ≤ 16383 → s.hostWritePending = false → s.reg 0x2E30 8 < 0xFFFFFFFF →
    (n ≠ 8 ∧ st = 0x17) ∨ (n = 8 ∧ (bits v 55 21 ≠ 0 ∨ bits v 63 56 = 1 ∨ 0x20 < bits v 63 56) ∧ st = 0x11)
      ∨ (n = 8 ∧ bits v 55 21 = 0 ∧ bits v 63 56 ≠ 1 ∧ bits v 63 56 ≤ 0x20 ∧ (s.queue q).consumer ≠ 0x100 ∧ st = 0x28)
      ∨ (n = 8 ∧ bits v 55 21 = 0 ∧ bits v 63 56 ≠ 1 ∧ bits v 63 56 ≤ 0x20 ∧ (s.queue q).consumer = 0x100
          ∧ (s.queue q).count < bits v 20 0 ∧ st = 0x27) →
    Does (.doorbellPop q n v) s [.dict] [(0x2E30, 8), (0x2E30, 9), (0x2E30, 0x0B)] (fun t =>
      t.reg 0x2E30 8 = s.reg 0x2E30 8 + 1 ∧ t.reg 0x2E30 9 = st * 2 ^ 24 + 2 ^ 22 + q))
  ∧ (∀ (s : State) (n v : Nat), s.pcieUp = true → n ≤ 131071 → s.hostWritePending = false →
    Does (.syncDoorbellWrite n 4 v) s [.dict, .syncs, .calderas] ((0x2E30, 0x0B) :: countRegs) (fun t =>
      t.sync n = (s.sync n + v % 2 ^ 32) % 2 ^ 32 ∧ KeptBut State.sync [n] s t))
  ∧ (∀ (s : State) (n v : Nat), s.pcieUp = true → n ≤ 131071 → s.hostWritePending = false → s.reg 0x2E30 8 < 0xFFFFFFFF →
    Does (.syncDoorbellWrite n 8 v) s [.dict] [(0x2E30, 8), (0x2E30, 9), (0x2E30, 0x0B)] (fun t =>
      t.reg 0x2E30 8 = s.reg 0x2E30 8 + 1 ∧ t.reg 0x2E30 9 = 0x17 * 2 ^ 24 + 2 ^ 23 + n))

/-- With the link up HOST_MEMORY_READ and HOST_MEMORY_WRITE complete: a read that passes answers the bytes at the device
address and changes no memory. A write that passes joins the channel queue of its unit in package memory with the
translation that it took, changes exactly the written bytes of an idle scratchpad, an idle local store or a buffer,
and becomes a remote write at the scratchpad of a live stream. A refused one, or one to an unmapped offset, is
answered with Completer Abort, counted in HOST_REFUSALS and recorded with its status and device address (for an
unmapped offset the model records the offset), and moves no data. Where the rules leave room the clauses follow the
model's reading (log entries 31, 62). It says of each of these commands that it completes (exec answers a next state
with the effect told above, under conditions on the state and the operands alone): HOST_MEMORY_READ
(hostMemoryRead), HOST_MEMORY_WRITE (hostMemoryWrite). -/
def Obligations.HostAccess : Prop :=
  (∀ (s : State) (b : Bool) (off len da : Nat), s.flips = [] → s.pcieUp = true → barAddr b off = some da →
    (pieces da len).all (fun p => s.outsideReadStatus p == 0) = true →
    Does (.hostMemoryRead b off len) s [.dict, .out] [(0x2E30, 0x0B)] (fun t =>
      t.out = .hostRead ((pieces da len).map (fun p => s.placeBytes (s.place p.1) p.2)).flatten :: s.out
      ∧ t.reg 0x2E30 0x0B = (s.reg 0x2E30 0x0B + len) % 2 ^ 64))
  ∧ (∀ (s : State) (b : Bool) (off len da : Nat), s.pcieUp = true → barAddr b off = some da → 0 < len → s.outsideStatus false da ≠ 0 →
    s.outsideStatus false da ≠ 0x30 → s.reg 0x2E30 6 < 0xFFFFFFFF →
    Does (.hostMemoryRead b off len) s [.dict, .out] [(0x2E30, 6), (0x2E30, 7), (0x2E30, 0x0B)] (fun t =>
      t.out = .completerAbort da (s.outsideStatus false da) :: s.out ∧ t.reg 0x2E30 6 = s.reg 0x2E30 6 + 1
      ∧ t.reg 0x2E30 7 = (s.outsideStatus false da * 2 ^ 56 + da) % 2 ^ 64))
  ∧ (∀ (s : State) (c : Instr) (b : Bool) (off len : Nat) (bs : List (Option Byte)), c ∈ [.hostMemoryRead b off len, .hostMemoryWrite b off bs] →
    s.pcieUp = true → barAddr b off = none → s.reg 0x2E30 6 < 0xFFFFFFFF →
    Does c s [.dict, .out] [(0x2E30, 6), (0x2E30, 7), (0x2E30, 0x0B)] (fun t =>
      t.out = .completerAbort off 0x25 :: s.out ∧ t.reg 0x2E30 6 = s.reg 0x2E30 6 + 1))
  ∧ (∀ (s : State) (b : Bool) (off da pa : Nat) (bs : List (Option Byte)), s.pcieUp = true → barAddr b off = some da →
    pieces da bs.length = [(da, bs.length)] → s.outsideStatus true da = 0 → s.place da = .pkg pa → s.bankLate pa = false →
    Does (.hostMemoryWrite b off bs) s [.dict, .channels] [(0x2E30, 0x0B)] (fun t =>
      (t.channel (channelOf pa)) = { s.channel (channelOf pa) with
        queue := (s.channel (channelOf pa)).queue ++ [⟨s.addrPart da, pa / 32 * 32,
          .write (List.replicate (pa % 32) none ++ bs ++ List.replicate (32 - pa % 32 - bs.length) none) none, s.pageFor [] da, true⟩] }
      ∧ KeptBut State.channel [channelOf pa] s t))
  ∧ (∀ (s : State) (b : Bool) (off da k : Nat) (bs : List Byte), s.flips = [] → s.pcieUp = true → barAddr b off = some da →
    pieces da bs.length = [(da, bs.length)] → s.outsideStatus true da = 0 →
    s.place da = .lstore k ∨ s.place da = .buf k ∨ (s.place da = .spad k ∧ s.streamIdle (spadSkein da) = true) →
    Does (.hostMemoryWrite b off (bs.map some)) s [.dict, .mem] [(0x2E30, 0x0B)] (fun t =>
      t.rd k bs.length = bs ∧ BytesKept k bs.length s t ∧ t.reg 0x2E30 0x0B = (s.reg 0x2E30 0x0B + bs.length) % 2 ^ 64))
  ∧ (∀ (s : State) (b : Bool) (off da : Nat) (bs : List (Option Byte)), s.pcieUp = true → barAddr b off = some da → regionOf da = .spad →
    (pieces da bs.length).all (fun p => s.outsideStatus true p.1 == 0) = true → s.streamIdle (spadSkein da) = false →
    Does (.hostMemoryWrite b off bs) s [.dict, .skeins] [(0x2E30, 0x0B)] (fun t =>
      t.skein (spadSkein da) = { s.skein (spadSkein da) with
        arrivals := (s.skein (spadSkein da)).arrivals ++ [⟨.host, none, (da - scratchBase) % 0x80000, none, bs, 0, true⟩] }
      ∧ KeptBut State.skein [spadSkein da] s t))
  ∧ (∀ (s : State) (b : Bool) (off da : Nat) (bs : List (Option Byte)), s.pcieUp = true → barAddr b off = some da → bs ≠ [] →
    s.outsideStatus true da ≠ 0 → s.reg 0x2E30 6 < 0xFFFFFFFF →
    Does (.hostMemoryWrite b off bs) s [.dict, .out] [(0x2E30, 6), (0x2E30, 7), (0x2E30, 0x0B)] (fun t =>
      t.out = .completerAbort da (s.outsideStatus true da) :: s.out ∧ t.reg 0x2E30 6 = s.reg 0x2E30 6 + 1
      ∧ t.reg 0x2E30 7 = (s.outsideStatus true da * 2 ^ 56 + da) % 2 ^ 64))

/-- With the link up, BAR0_REFUSED_ACCESS of an aligned request of 4 or 8 bytes is not refused and changes nothing. Any
other request is refused with 17h, counted in HOST_REFUSALS (which stays at its greatest value) and recorded in
LAST_HOST_REFUSAL with status 17h; no Completer Abort is sent; a write is discarded, and a read is answered with
data of all ones. Nothing but the count, the record and RX_BYTES changes. It says of this command that it completes
(exec answers a next state with the effect told above, under conditions on the state and the operands alone):
BAR0_REFUSED_ACCESS (bar0RefusedAccess). -/
def Obligations.Bar0Requests : Prop :=
  (∀ (s : State) (w : Bool) (off n : Nat), (n = 4 ∨ n = 8) → off % n = 0 → exec (.bar0RefusedAccess w off n) s = .next s)
  ∧ (∀ (s : State) (w : Bool) (off n : Nat), s.pcieUp = true → ¬ ((n = 4 ∨ n = 8) ∧ off % n = 0) → off < 2 ^ 48 →
    Does (.bar0RefusedAccess w off n) s [.dict, .out] [(0x2E30, 6), (0x2E30, 7), (0x2E30, 0x0B)] (fun t =>
      t.reg 0x2E30 6 = Nat.min (s.reg 0x2E30 6 + 1) 0xFFFFFFFF ∧ t.reg 0x2E30 7 / 2 ^ 56 = 0x17
      ∧ t.out = (if w then s.out else .hostOnes n :: s.out)))

/-- Configuration space reads Device ID 0960h, class 12_00_00h, the stepping as Revision ID, Interrupt Pin 0 and the
serial number of 1018h. PCIE_LINK_UP, with the endpoint released and PERST_N high, completes and reports the speed
and the lanes; PCIE_LINK_DOWN clears them and takes OWNER from the mirror; BUS_MASTER is set exactly while Bus
Master Enable is set, the function is in D0 and the link is up, and CONFIGURATION_WRITE sets the first two and
changes no other field of configuration space. COMPLETION_TIMEOUT of a descriptor in flight that reads the host
range ends its stream with 30h and is a detected fault; of an engine's job that reads it, ends the job with 03h and
is one too. PERST_N_LOW clears the mailboxes and their queue, Bus Master Enable, the power state and the MSI-X
table, takes the link down, and returns OWNER to 0 where the mirror holds it; a firmware load in progress ends with
86h. PERST_N_RISE releases the pin. No other part changes. Where the rules leave room the clauses follow the model's
reading (log entries 35, 99). It says of each of these commands that it completes (exec answers a next state with
the effect told above, under conditions on the state and the operands alone): PERST_N_LOW (perstNLow), PERST_N_RISE
(perstNRise), PCIE_LINK_DOWN (pcieLinkDown), PCIE_LINK_UP (pcieLinkUp), COMPLETION_TIMEOUT (completionTimeout),
CONFIGURATION_WRITE (configurationWrite). -/
def Obligations.Endpoint : Prop :=
  (∀ (s : State), s.configSpace.device = 0x0960 ∧ s.configSpace.classCode = 0x120000 ∧ s.configSpace.interruptPin = 0
    ∧ s.configSpace.revision = BitVec.ofNat 8 (odDefault 0x2000 0x0B)
    ∧ s.configSpace.serialNumber = BitVec.ofNat 32 (odDefault 0x1018 1) ++ BitVec.ofNat 32 (odDefault 0x1018 4)
    ∧ s.configSpace.busMasterEnable = s.busMaster ∧ s.configSpace.d3hot = s.d3hot)
  ∧   (∀ (s : State) (v w : Nat), 6 ≤ s.boot.released → s.boot.perstN = true → s.pcieUp = false → v = 1 ∨ v = 2 ∨ v = 3 → w = 1 ∨ w = 2 ∨ w = 4 →
    Does (.pcieLinkUp v w) s [.dict] [(0x2E30, 1), (0x2E30, 2), (0x2E30, 3)] (fun t =>
      t.reg 0x2E30 1 = v ∧ t.reg 0x2E30 2 = w ∧ t.reg 0x2E30 3 = b2n (s.busMaster && !s.d3hot)))
  ∧ (∀ (s : State),
    Does .pcieLinkDown s [.dict] [(0x2E30, 1), (0x2E30, 2), (0x2E30, 3), (0x2304, 7)] (fun t =>
      t.reg 0x2E30 1 = 0 ∧ t.reg 0x2E30 2 = 0 ∧ t.reg 0x2E30 3 = 0
      ∧ t.reg 0x2304 7 = (if s.reg 0x2304 7 = 3 then 0 else s.reg 0x2304 7)))
  ∧ (∀ (s : State) (m d : Bool), s.pcieUp = true →
    Does (.configurationWrite m d) s [.dict, .busMaster, .d3hot] [(0x2E30, 3)] (fun t =>
      t.busMaster = m ∧ t.d3hot = d ∧ t.reg 0x2E30 3 = b2n (m && !d)
      ∧ t.configSpace = { s.configSpace with busMasterEnable := m, d3hot := d }))
  ∧ (∀ (s : State) (g : SkeinId) (i : Nat) (f : Flight), (s.skein g.val).flights[i]? = some f →
    (descPages f.word).any (fun id => decide (0x4000 ≤ id)) = true → opOf f.word ≠ 2 → isControl f.word = false →
    s.streamLive g.val = true → s.reg 0x2E30 4 = 0xFFFF → s.reg 0x2B00 5 < 0xFFFFFFFF →
    Does (.completionTimeout (.skein g) i) s (.skeins :: alarmParts) (endRegs g.val ++ alarmRegs) (fun t =>
      t.reg (0x2440 + g.val) 1 = 4 ∧ t.reg (0x2440 + g.val) 2 = 0x30 ∧ t.reg (0x2440 + g.val) 3 = f.addr % 2 ^ 64
      ∧ (t.skein g.val).flights.any (fun x => x.serial == f.serial) = false ∧ t.reg 0x2B00 5 = s.reg 0x2B00 5 + 1
      ∧ t.reg (0x2B08 + s.skeinPart g.val) 1 = (if s.partState (s.skeinPart g.val) = 3 then 3 else 1)))
  ∧ (∀ (s : State) (e : EngineId) (i : Nat) (j : Job), s.engine e.val = some j → j.finished = false →
    (jobAddresses j.entry)[i]?.any (fun da => regionOf da == .host) = true → s.reg 0x2B00 5 < 0xFFFFFFFF →
    Does (.completionTimeout (.engine e) i) s (.engines :: alarmParts) alarmRegs (fun t =>
      t.engines = (s.setEngine e.val (failedJob j 3)).engines ∧ t.reg 0x2B00 5 = s.reg 0x2B00 5 + 1))
  ∧ (∀ (s : State), s.boot.perstN = true → s.reg 0x2100 1 ≠ 0 ∨ s.reg 0x2C10 4 ≠ 1 →
    Does .perstNLow s [.dict, .boot, .mailboxes, .mirrorQueue, .busMaster, .d3hot, .msixTable] [(0x2E30, 1), (0x2E30, 2), (0x2E30, 3), (0x2304, 7)] (fun t =>
      t.boot = { s.boot with perstN := false } ∧ t.mailboxes = [] ∧ t.mirrorQueue = [] ∧ t.busMaster = false ∧ t.d3hot = false ∧ t.msixTable = []
      ∧ t.reg 0x2E30 1 = 0 ∧ t.reg 0x2E30 2 = 0 ∧ t.reg 0x2E30 3 = 0
      ∧ t.reg 0x2304 7 = (if s.reg 0x2304 7 = 3 then 0 else s.reg 0x2304 7)))
  ∧ (∀ (s : State), s.boot.perstN = true → s.reg 0x2100 1 = 0 → s.reg 0x2C10 4 = 1 →
    Completes .perstNLow s (fun t => t.boot.perstN = false ∧ t.boot.image = s.boot.image ∧ t.reg 0x2C10 4 = 0x86 ∧ t.reg 0x2E30 1 = 0
      ∧ t.mailboxes = []))
  ∧ (∀ (s : State), Does .perstNRise s [.boot] [] (fun t => t.boot = { s.boot with perstN := true }))

/-- REMOTE_WRITE judges the head of the arrivals: one that the conditions refuse is taken at once, discarded, counted in
its counter with LAST_REFUSED, and a host write is answered with Completer Abort; one they accept waits, with all
behind it, until the 4 KiB hold room, and is then accepted with its window. REMOTE_WRITE_LAND writes the bytes of
the oldest accepted write, all of them and no other byte, at their place in the window; after the last one of a
CLOSING window it is CLOSED. It says of each of these commands that it completes (exec answers a next state with the
effect told above, under conditions on the state and the operands alone): REMOTE_WRITE (remoteWrite),
REMOTE_WRITE_LAND (remoteWriteLand). -/
def Obligations.RemoteWrites : Prop :=
  (∀ (s : State) (g : SkeinId) (r : RemoteWrite) (rest : List RemoteWrite), (s.skein g.val).arrivals = r :: rest → r.sender = .host →
    (s.judgeWrite g.val r).1 ≠ 0 → s.reg (0x2240 + g.val) (s.judgeWrite g.val r).2 < 0xFFFFFFFF → s.reg 0x2E30 6 < 0xFFFFFFFF →
    Does (.remoteWrite g) s [.dict, .skeins, .out]
      [(0x2240 + g.val, (s.judgeWrite g.val r).2), (0x2240 + g.val, 0x15), (0x2E30, 6), (0x2E30, 7)] (fun t =>
      t.skein g.val = { s.skein g.val with arrivals := rest } ∧ KeptBut State.skein [g.val] s t
      ∧ t.reg (0x2240 + g.val) (s.judgeWrite g.val r).2 = s.reg (0x2240 + g.val) (s.judgeWrite g.val r).2 + 1
      ∧ t.reg (0x2240 + g.val) 0x15 = 2 ^ 16 + (s.judgeWrite g.val r).1
      ∧ t.out = .completerAbort (spadAt g.val r.off) (s.judgeWrite g.val r).1 :: s.out))
  ∧ (∀ (s : State) (g : SkeinId) (r : RemoteWrite) (rest : List RemoteWrite) (x : Nat × Nat), (s.skein g.val).arrivals = r :: rest →
    r.bytes ≠ [] → (s.judgeWrite g.val r).1 = 0 → s.writeWindow g.val r = some x →
    ((s.skein g.val).accepted.map (fun y => y.bytes.length)).foldl (· + ·) 0 + r.bytes.length ≤ 4096 →
    Does (.remoteWrite g) s [.dict, .skeins] countRegs (fun t =>
      t.skein g.val = { s.skein g.val with
        arrivals := rest, accepted := (s.skein g.val).accepted ++ [{ r with win := some x.1, off := x.2 }] }
      ∧ KeptBut State.skein [g.val] s t))
  ∧ (∀ (s : State) (g : SkeinId) (r : RemoteWrite) (rest : List RemoteWrite), (s.skein g.val).arrivals = r :: rest →
    r.bytes ≠ [] → (s.judgeWrite g.val r).1 = 0 →
    4096 < ((s.skein g.val).accepted.map (fun y => y.bytes.length)).foldl (· + ·) 0 + r.bytes.length → exec (.remoteWrite g) s = .next s)
  ∧ (∀ (s : State) (g : SkeinId) (r : RemoteWrite) (rest : List RemoteWrite) (w : Nat) (bs : List Byte), s.flips = [] →
    (s.skein g.val).accepted = r :: rest → r.sender = .host → r.win = some w → r.bytes = bs.map some →
    (List.range 16).all (fun v => (s.window g.val v).state != .closing) = true →
    Does (.remoteWriteLand g) s [.mem, .skeins] [] (fun t =>
      t.skein g.val = { s.skein g.val with accepted := rest } ∧ KeptBut State.skein [g.val] s t
      ∧ t.rd (spadAt g.val ((s.window g.val w).base + r.off)) bs.length = bs
      ∧ BytesKept (spadAt g.val ((s.window g.val w).base + r.off)) bs.length s t))
  ∧ (∀ (s : State) (g : SkeinId) (r : RemoteWrite) (rest : List RemoteWrite) (w : Nat), (s.skein g.val).accepted = r :: rest →
    r.sender = .host → r.win = some w → w < 16 → (s.window g.val w).state = .closing →
    Completes (.remoteWriteLand g) s (fun t => (t.skein g.val).accepted = rest
      ∧ (t.window g.val w).state = (if rest.any (fun x => x.win == some w) then .closing else .closed)))

/-- CHANNEL_ACCESS_SLOT completes and moves the wheel on by one slot. A slot that no partition owns stays idle, one
whose owner has nothing queued stays idle and is counted as such, and one of an owner with a queued access carries
its oldest: a write changes exactly the enabled bytes of its unit. During refresh-busy a slot is lost, until at most
22 are (which slot ends it is a free value). REFRESH_BUSY completes and makes the channel busy. SCRUB_READ, where
the channel's next slot is one of partition 0 that nothing of it waits for, takes that slot, reads the next unit of
the pass and moves it on; without such a slot the pass waits. A corrected codeword makes a write-back pending, and
SCRUB_WRITE_BACK writes it back in such a slot, so that no read of any byte delivers anything else than before and
the codewords it wrote are clean; one whose bank has left ON is given up. Where the rules leave room the clauses
follow the model's reading (log entries 30, 31). It says of each of these commands that it completes (exec answers a
next state with the effect told above, under conditions on the state and the operands alone): CHANNEL_ACCESS_SLOT
(channelAccessSlot), REFRESH_BUSY (refreshBusy), SCRUB_READ (scrubRead), SCRUB_WRITE_BACK (scrubWriteBack). -/
def Obligations.ChannelSlots : Prop :=
  (∀ (s : State) (q : ChannelId), s.boot.filled = true → (s.channel q.val).busy = 0 → s.rankOwner (bitRev6 (s.channel q.val).slot) = none →
    Does (.channelAccessSlot q) s [.channels] [] (fun t =>
      t.channel q.val = { s.channel q.val with slot := ((s.channel q.val).slot + 1) % 64 } ∧ KeptBut State.channel [q.val] s t))
  ∧ (∀ (s : State) (q : ChannelId) (p : Nat), s.boot.filled = true → (s.channel q.val).busy = 0 →
    s.rankOwner (bitRev6 (s.channel q.val).slot) = some p → (s.channel q.val).queue.any (fun a => a.part == p) = false →
    Does (.channelAccessSlot q) s [.dict, .channels] countRegs (fun t =>
      t.channel q.val = { s.channel q.val with slot := ((s.channel q.val).slot + 1) % 64 } ∧ KeptBut State.channel [q.val] s t))
  ∧ (∀ (s : State) (q : ChannelId) (a : Access) (bs : List (Option Byte)), s.boot.filled = true → (s.channel q.val).busy = 0 → s.flips = [] →
    (s.rankOwner (bitRev6 (s.channel q.val).slot)).bind (fun p => (s.channel q.val).queue.find? (fun x => x.part == p)) = some a →
    a.kind = .write bs none → s.scrubPending = none →
    Does (.channelAccessSlot q) s [.dict, .mem, .calderas, .channels] (countRegs ++ (List.range 8).map (fun c => (0x2280 + c, 3))) (fun t =>
      t.channel q.val = { s.channel q.val with
        slot := ((s.channel q.val).slot + 1) % 64, queue := (s.channel q.val).queue.erase a } ∧ KeptBut State.channel [q.val] s t
      ∧ (∀ j, j < 32 → t.byteAt (a.pa + j) = (bs.getD j none).getD (s.byteAt (a.pa + j))) ∧ BytesKept a.pa 32 s t))
  ∧ (∀ (s : State) (q : ChannelId), s.boot.filled = true → (s.channel q.val).busy ≠ 0 → s.rankOwner (bitRev6 (s.channel q.val).slot) = none →
    Does (.channelAccessSlot q) s [.channels, .freeUsed] [] (fun t =>
      (t.channel q.val).slot = ((s.channel q.val).slot + 1) % 64 ∧ (t.channel q.val).queue = (s.channel q.val).queue
      ∧ ((t.channel q.val).busy = 0 ∨ ((t.channel q.val).busy = (s.channel q.val).busy + 1 ∧ (s.channel q.val).busy ≤ 22))
      ∧ KeptBut State.channel [q.val] s t ∧ t.freeUsed = s.freeUsed + 1))
  ∧ (∀ (s : State) (q : ChannelId), (s.channel q.val).busy = 0 →
    Does (.refreshBusy q) s [.dict, .channels] countRegs (fun t =>
      t.channel q.val = { s.channel q.val with busy := 1 } ∧ KeptBut State.channel [q.val] s t))
  ∧ (∀ (s : State) (u : Nat), s.reg 0x2230 1 ≠ 0 → s.boot.filled = true → s.scrubPending = none → s.scrubNext (s.reg 0x2230 6) = some u →
    s.scrubSlot (channelOf u) = true → u + 32 < 0x200000000 → s.reg 0x2238 1 ≤ 0xFFFFFFFF → s.badRange u 32 = false → (codewords u 32).all (fun c => s.codeAt c != .uncorrectable) = true →
    Does .scrubRead s [.dict, .channels, .scrubPending]
      ([(0x2230, 6), (0x2230, 7), (0x2238, 1), (0x2238, 2), (0x2238, 3), (0x2238, 4)] ++ [2, 4, 5, 6, 7, 8].map (fun i => (0x2F03, i)) ++ countRegs) (fun t =>
      t.reg 0x2230 6 = u + 32 ∧ (s.scrubLate = true → t.reg 0x2230 7 = 1)
      ∧ t.channel (channelOf u) = { s.channel (channelOf u) with slot := ((s.channel (channelOf u)).slot + 1) % 64 }
      ∧ KeptBut State.channel [channelOf u] s t ∧ t.scrubPending = (if s.correctedIn u 32 = [] then none else some u)
      ∧ t.reg 0x2238 1 = Nat.min (s.reg 0x2238 1 + (s.correctedIn u 32).length) 0xFFFFFFFF))
  ∧ (∀ (s : State) (u : Nat), s.reg 0x2230 1 ≠ 0 → s.boot.filled = true → s.scrubPending = none → s.scrubNext (s.reg 0x2230 6) = some u →
    s.scrubSlot (channelOf u) = false → Does .scrubRead s [.dict] [(0x2F03, 2)] (fun t => s.reg 0x2F03 2 = 1 → t.reg 0x2F03 2 = 4))
  ∧ (∀ (s : State) (u : Nat), s.scrubPending = some u → s.bankState (bankOf u) ≠ 2 →
    Does .scrubWriteBack s [.scrubPending] [] (fun t => t.scrubPending = none))
  ∧ (∀ (s : State) (u : Nat), s.scrubPending = some u → s.bankState (bankOf u) = 2 → s.scrubSlot (channelOf u) = false →
    Does .scrubWriteBack s [.dict] [(0x2F03, 2)] (fun t => s.reg 0x2F03 2 = 1 → t.reg 0x2F03 2 = 4))
  ∧ (∀ (s : State) (u : Nat), s.scrubPending = some u → s.bankState (bankOf u) = 2 → s.scrubSlot (channelOf u) = true →
    Does .scrubWriteBack s [.dict, .mem, .flips, .channels, .scrubPending]
        ((0x2230, 4) :: [2, 4, 5, 6, 7, 8].map (fun i => (0x2F03, i)) ++ countRegs) (fun t =>
      t.scrubPending = none ∧ (∀ x, t.byteAt x = s.byteAt x)
      ∧ (codewords u 32).all (fun c => s.codeAt c == .uncorrectable || t.codeAt c == .clean) = true))

/-- An admitted WC_FLUSH completes: the cache has no lines and counts them as invalidated, and a fetch in progress is to
be discarded; WC_LINE_FETCH_COMPLETE of a whole line gives it to the LOADs that wait for it, and the cache keeps it
unless it was invalidated meanwhile; a fetch that met a closed bank gives them 25h and the cache keeps nothing. An
admitted BANK_OFF or BANK_RETAIN of a bank that is ON and that no present entry maps completes and makes it CLOSING
at once, and an admitted BANK_ON of an OFF or RETAIN bank completes and makes it OPENING; any other answers
0800_0022h and changes nothing. A CLOSING bank with no accepted write left becomes OFF, with its contents lost, or
RETAIN with all bytes as they were; an OPENING one becomes ON, filled with zero after OFF and as it was after
RETAIN. Bytes of other banks stay. Where the rules leave room the clauses follow the model's reading (log entry 31).
It says of each of these commands that it completes (exec answers a next state with the effect told above, under
conditions on the state and the operands alone): WC_FLUSH (wcFlush), WC_LINE_FETCH_COMPLETE (wcLineFetchComplete),
BANK_OFF (bankOff), BANK_RETAIN (bankRetain), BANK_ON (bankOn), BANK_CLOSE_COMPLETE (bankCloseComplete),
BANK_OPEN_COMPLETE (bankOpenComplete). -/
def Obligations.BanksAndCaches : Prop :=
  (∀ (s : State) (a : Agent) (c : CalderaId), Admitted s a (0x2280 + c.val) 6 1 1 →
    Does (.wcFlush a c) s [.dict, .calderas, .replies] [(0x2280 + c.val, 3)] (fun t =>
      Replied a 0 0 t ∧ t.caldera c.val = { s.caldera c.val with lines := [], fetches := (s.caldera c.val).fetches.map (fun f => { f with discard := true }) }
      ∧ KeptBut State.caldera [c.val] s t
      ∧ t.reg (0x2280 + c.val) 3 = Nat.min (s.reg (0x2280 + c.val) 3 + (s.caldera c.val).lines.length) (256 ^ odBytes (0x2280 + c.val) 3 - 1)))
  ∧ (∀ (s : State) (c : CalderaId) (f : WcFetch), (s.caldera c.val).fetches.find? (fun x => decide (8 ≤ x.units.length)) = some f → f.bad = false → f.refused = false →
    Does (.wcLineFetchComplete c) s [.dict, .calderas, .safety] countRegs (fun t =>
      KeptBut State.caldera [c.val] s t ∧ (f.refetch = false → t.safety = s.safety)
      ∧ (t.caldera c.val).delivered = (s.caldera c.val).delivered ++ f.waiters.map (fun w => ⟨w.1, w.2, f.line, 0, f.units.flatten⟩)
      ∧ (t.caldera c.val).fetches = (s.caldera c.val).fetches.erase f
      ∧ (f.discard = true → (t.caldera c.val).lines = (s.caldera c.val).lines)
      ∧ (f.discard = false → tblGet ⟨[], 0, 0⟩ (t.caldera c.val).lines f.line = ⟨f.units.flatten, (s.caldera c.val).useClock, 0⟩)))
  ∧ (∀ (s : State) (c : CalderaId) (f : WcFetch), (s.caldera c.val).fetches.find? (fun x => decide (8 ≤ x.units.length)) = some f →
    f.refused = true → f.bad = false →
    Does (.wcLineFetchComplete c) s [.calderas, .safety] [] (fun t =>
      KeptBut State.caldera [c.val] s t ∧ (f.refetch = false → t.safety = s.safety)
      ∧ t.caldera c.val = { s.caldera c.val with
          delivered := (s.caldera c.val).delivered ++ f.waiters.map (fun w => ⟨w.1, w.2, f.line, 0x25, []⟩)
          fetches := (s.caldera c.val).fetches.erase f }))
  ∧ (∀ (s : State) (a : Agent) (b : BankId) (c : Instr) (v : Nat), (c, v) ∈ [(.bankOff a b, 0), (.bankRetain a b, 1)] →
    Admitted s a 0x2290 0x11 2 (256 * b.val + v) → s.bankState b.val = 2 → s.bankMapped b.val = false →
    Does c s [.dict, .bankTargets, .replies] [(0x2290, b.val + 1)] (fun t =>
      Replied a 0 0 t ∧ t.bankState b.val = 3 ∧ tblGet 0 t.bankTargets b.val = 1 - v ∧ KeptBut (fun s n => tblGet 0 s.bankTargets n) [b.val] s t))
  ∧ (∀ (s : State) (a : Agent) (b : BankId), Admitted s a 0x2290 0x11 2 (256 * b.val + 2) → s.bankState b.val = 0 ∨ s.bankState b.val = 1 →
    Does (.bankOn a b) s [.dict, .bankTargets, .replies] ((0x2290, b.val + 1) :: [2, 4, 5, 6, 7, 8].map (fun i => (0x2F02, i))) (fun t =>
      Replied a 0 0 t ∧ t.bankState b.val = 4 ∧ tblGet 0 t.bankTargets b.val = 1 - s.bankState b.val))
  ∧ (∀ (s : State) (a : Agent) (b : BankId) (c : Instr) (v : Nat), (c, v) ∈ [(.bankOff a b, 0), (.bankRetain a b, 1), (.bankOn a b, 2)] →
    Admitted s a 0x2290 0x11 2 (256 * b.val + v) → (v ≠ 2 → s.bankState b.val ≠ 2 ∨ s.bankMapped b.val = true) →
    (v = 2 → s.bankState b.val ≠ 0 ∧ s.bankState b.val ≠ 1) → Does c s [.replies] [] (Replied a 0x08000022 0))
  ∧ (∀ (s : State) (b : BankId), s.flips = [] → s.bankState b.val = 3 → s.channels.all (fun c => c.2.queue.all (fun a => bankOf a.pa != b.val)) = true →
    Does (.bankCloseComplete b) s [.dict, .mem, .flips, .bankTargets] [(0x2290, b.val + 1)] (fun t =>
      (tblGet 0 s.bankTargets b.val = 0 → t.bankState b.val = 1 ∧ t.mem = s.mem)
      ∧ (tblGet 0 s.bankTargets b.val = 1 → t.bankState b.val = 0 ∧ BytesKept (b.val * 0x20000000) 0x20000000 s t
          ∧ ∀ x, b.val * 0x20000000 ≤ x → x < (b.val + 1) * 0x20000000 → t.byteAt x = 0)))
  ∧ (∀ (s : State) (b : BankId), s.flips = [] → s.bankState b.val = 4 →
    Does (.bankOpenComplete b) s [.dict, .mem, .flips, .bankTargets] ((0x2290, b.val + 1) :: [2, 4, 6].map (fun i => (0x2F02, i))) (fun t =>
      t.bankState b.val = 2 ∧ tblGet 0 t.bankTargets b.val = 0
      ∧ (tblGet 0 s.bankTargets b.val = 0 → t.mem = s.mem)
      ∧ (tblGet 0 s.bankTargets b.val = 1 → BytesKept (b.val * 0x20000000) 0x20000000 s t
          ∧ ∀ x, b.val * 0x20000000 ≤ x → x < (b.val + 1) * 0x20000000 → t.byteAt x = 0)))

/-- In native mode each command of a port completes: APHY_LINK_UP and APHY_LINK_LOSS move the port between up and lost,
a loss is counted, closes the open frames and is a fault of the partition of an enabled stream. A packet that did
not arrive is only counted, and a corrected header or, where RETX is set, its retransmissions are counted beside
what the packet does. FRAME_START on a mapped channel closes the open frame and opens the next with its number;
FRAME_END and FRAME_TIMEOUT close it and count it. LINE_START gives the next line's index where LINE_SYNC asks for
it; LINE_END of a mapped channel changes nothing. An undamaged line of the open frame becomes its next line; a
damaged one is counted at the port, concealed and counted, and LAST_RUN names the run that it ends. A packet of no
enabled stream is counted in UNMAPPED. MISSING_FRAME counts a frame and is a fault. ENABLE and its end follow R243
and R269. Where the rules leave room the clauses follow the model's reading (log entries 36, 41). It says of each of
these commands that it completes (exec answers a next state with the effect told above, under conditions on the
state and the operands alone): APHY_LINK_UP (aphyLinkUp), APHY_LINK_LOSS (aphyLinkLoss), FRAME_START (frameStart),
FRAME_END (frameEnd), LINE_START (lineStart), LINE_END (lineEnd), IMAGE_LINE (imageLine), UNMAPPED_PACKET
(unmappedPacket), FRAME_TIMEOUT (frameTimeout), MISSING_FRAME (missingFrame), CAMERA_STREAM_ENABLE
(cameraStreamEnable), CAMERA_STREAM_DISABLE (cameraStreamDisable). -/
def Obligations.CameraFrames : Prop :=
  (∀ (s : State) (p : PortId), s.portUp p.val = false → 7 ≤ s.boot.released →
    Does (.aphyLinkUp p) s [.dict] [(0x2510 + p.val, 3)] (fun t => t.reg (0x2510 + p.val) 3 = 2))
  ∧ (∀ (s : State) (p : PortId), s.portUp p.val = true → s.reg (0x2510 + p.val) 0x0A < 0xFFFFFFFF →
    (portStreams p.val).all (fun n => !s.camOn n && (s.camera n).openFrame.isNone) = true →
    Does (.aphyLinkLoss p) s [.dict] [(0x2510 + p.val, 3), (0x2510 + p.val, 0x0A)] (fun t =>
      t.reg (0x2510 + p.val) 3 = 1 ∧ t.reg (0x2510 + p.val) 0x0A = s.reg (0x2510 + p.val) 0x0A + 1))
  ∧ (∀ (s : State) (p : PortId) (n : CamId), s.portUp p.val = true → (portStreams p.val).filter s.camOn = [n.val] → s.reg 0x2B00 5 < 0xFFFFFFFF →
    Does (.aphyLinkLoss p) s (.cameras :: .lanes :: alarmParts)
        ([(0x2510 + p.val, 3), (0x2510 + p.val, 0x0A)] ++ (portStreams p.val).flatMap cameraRegs ++ alarmRegs) (fun t =>
      t.reg (0x2510 + p.val) 3 = 1 ∧ (t.camera n.val).openFrame = none ∧ t.reg 0x2B00 5 = s.reg 0x2B00 5 + 1))
  ∧ (∀ (s : State) (p : PortId) (vc : Fin 16) (k : Nat) (c : Instr), c ∈ [.frameStart p ⟨vc, .none⟩ k, .frameEnd p ⟨vc, .none⟩, .lineStart p ⟨vc, .none⟩ k, .lineEnd p ⟨vc, .none⟩] →
    s.portUp p.val = true → s.streamOn p.val vc.val = none → s.reg (0x2510 + p.val) 9 < 0xFFFFFFFF →
    Does c s [.dict] [(0x2510 + p.val, 9)] (fun t => t.reg (0x2510 + p.val) 9 = s.reg (0x2510 + p.val) 9 + 1))
  ∧ (∀ (s : State) (p : PortId) (vc : Fin 16) (k sub : Nat) (d : PacketDamage) (c : Instr), (d, sub) ∈ [(.header, 6), (.overrun, 8)] →
    c ∈ [.frameStart p ⟨vc, d⟩ k, .frameEnd p ⟨vc, d⟩, .lineStart p ⟨vc, d⟩ k, .lineEnd p ⟨vc, d⟩, .unmappedPacket ⟨p, d⟩] →
    s.portUp p.val = true → s.reg (0x2510 + p.val) sub < 0xFFFFFFFF →
    Does c s [.dict] [(0x2510 + p.val, sub)] (fun t => t.reg (0x2510 + p.val) sub = s.reg (0x2510 + p.val) sub + 1))
  ∧ (∀ (s : State) (p : PortId) (vc : Fin 16) (n k : Nat), s.portUp p.val = true → s.streamOn p.val vc.val = some n →
    (s.reg (0x2510 + p.val) 5 < 0xFFFFFFFF → Does (.lineEnd p ⟨vc, .headerCorrected⟩) s [.dict] [(0x2510 + p.val, 5)] (fun t =>
      t.reg (0x2510 + p.val) 5 = s.reg (0x2510 + p.val) 5 + 1))
    ∧ (s.reg (0x2510 + p.val) 2 = 1 → s.reg (0x2510 + p.val) 4 + k ≤ 0xFFFFFFFF →
      Does (.lineEnd p ⟨vc, (.retransmitted k)⟩) s [.dict] [(0x2510 + p.val, 4)] (fun t =>
        t.reg (0x2510 + p.val) 4 = s.reg (0x2510 + p.val) 4 + k))
    ∧ (s.reg (0x2510 + p.val) 2 ≠ 1 → exec (.lineEnd p ⟨vc, (.retransmitted k)⟩) s = .next s))
  ∧ (∀ (s : State) (p : PortId), s.portUp p.val = true → s.reg (0x2510 + p.val) 9 < 0xFFFFFFFF →
    Does (.unmappedPacket ⟨p, .none⟩) s [.dict] [(0x2510 + p.val, 9)] (fun t => t.reg (0x2510 + p.val) 9 = s.reg (0x2510 + p.val) 9 + 1))
  ∧ (∀ (s : State) (p : PortId) (vc : Fin 16) (k n : Nat), s.portUp p.val = true → s.streamOn p.val vc.val = some n → s.chain n = [] →
    (s.camera n).openFrame = none →
    Does (.frameStart p ⟨vc, .none⟩ k) s [.cameras] [] (fun t =>
      t.camera n = { s.camera n with
        lastCsi := some (k % 65536),
        openFrame := some {
          number := s.nextNumber n, csi := k % 65536, t0 := nsStamp (s.now - s.reg 0x2900 0x0F), next := 0, lineStart := none, runs := [],
          lastRun := none, concealed := 0, received := 0,
          skip := (match (s.camera n).lastCsi with | some l => decide (k % 65536 ≠ (l + 1) % 65536 ∧ k % 65536 ≠ 0) | none => false),
          extra := false, deviated := false, held := [], handed := 0, history := [] } }
      ∧ KeptBut State.camera [n] s t))
  ∧ (∀ (s : State) (p : PortId) (vc : Fin 16) (k n : Nat) (o : OpenFrame), s.portUp p.val = true → s.streamOn p.val vc.val = some n →
    (s.camera n).openFrame = some o →
    Does (.frameStart p ⟨vc, .none⟩ k) s ([.syncs, .cameras, .lanes, .gatherQueue] ++ alarmParts) (cameraRegs n ++ alarmRegs) (fun t =>
      KeptBut State.camera [n] s t ∧
      ((t.camera n).openFrame.map (·.number)) = some ((s.reg (0x2540 + n) 0x0C + 1) % 2 ^ 32)
      ∧ t.reg (0x2540 + n) 0x0C = (s.reg (0x2540 + n) 0x0C + 1) % 2 ^ 32))
  ∧ (∀ (s : State) (p : PortId) (vc : Fin 16) (n : Nat) (o : OpenFrame), s.portUp p.val = true → s.streamOn p.val vc.val = some n →
    (s.camera n).openFrame = some o →
    Does (.frameEnd p ⟨vc, .none⟩) s ([.cameras, .lanes] ++ alarmParts) (cameraRegs n ++ alarmRegs) (fun t =>
      KeptBut State.camera [n] s t ∧ (t.camera n).openFrame = none ∧ t.reg (0x2540 + n) 0x0C = (s.reg (0x2540 + n) 0x0C + 1) % 2 ^ 32))
  ∧ (∀ (s : State) (n : CamId) (o : OpenFrame), (s.camera n.val).openFrame = some o →
    Does (.frameTimeout n) s ([.cameras, .lanes] ++ alarmParts) (cameraRegs n.val ++ alarmRegs) (fun t =>
      KeptBut State.camera [n.val] s t ∧
      (t.camera n.val).openFrame = none ∧ t.reg (0x2540 + n.val) 0x0C = (s.reg (0x2540 + n.val) 0x0C + 1) % 2 ^ 32))
  ∧ (∀ (s : State) (p : PortId) (vc : Fin 16) (k n : Nat) (o : OpenFrame), s.portUp p.val = true → s.streamOn p.val vc.val = some n →
    (s.camera n).openFrame = some o → s.reg (0x2540 + n) 6 = 1 →
    Does (.lineStart p ⟨vc, .none⟩ k) s [.cameras] [] (fun t =>
      (t.camera n).openFrame = some { o with lineStart := some ((k % 65536 : Nat) - (s.reg (0x2540 + n) 7 : Int)) }
      ∧ KeptBut State.camera [n] s t))
  ∧ (∀ (s : State) (p : PortId) (vc : Fin 16) (n : Nat), s.streamOn p.val vc.val = some n → exec (.lineEnd p ⟨vc, .none⟩) s = .next s)
  ∧ (∀ (s : State) (p : PortId) (vc : Fin 16) (n : Nat) (o : OpenFrame) (bs : List Byte), s.portUp p.val = true →
    s.streamOn p.val vc.val = some n → dimMode s = false → (s.camera n).openFrame = some o → (s.camera n).frames = [] →
    s.reg (0x2540 + n) 6 = 0 → o.next < s.camH n → bs.length = s.camW n * rawBits (s.reg (0x2540 + n) 3) / 8 →
    Does (.imageLine p vc (s.reg (0x2540 + n) 3) .none bs) s [.cameras] [] (fun t =>
      (t.camera n).openFrame = some { o with
        lineStart := none, next := o.next + 1, received := o.received + 1, handed := o.handed + 1,
        history := (unpackLine (rawBits (s.reg (0x2540 + n) 3)) bs (s.camW n) :: o.history).take 4 }
      ∧ KeptBut State.camera [n] s t))
  ∧ (∀ (s : State) (p : PortId) (vc : Fin 16) (n sub cause : Nat) (o : OpenFrame) (bs : List Byte) (d : PacketDamage),
    (d, sub, cause) ∈ [(.crc, 7, 2), (.header, 6, 1), (.overrun, 8, 6)] → s.portUp p.val = true →
    s.streamOn p.val vc.val = some n → n < 40 → dimMode s = false → (s.camera n).openFrame = some o → (s.camera n).frames = [] →
    s.reg (0x2540 + n) 6 = 0 → o.next < s.camH n → s.reg (0x2510 + p.val) sub < 0xFFFFFFFF → s.reg (0x2540 + n) 0x0D < 0xFFFFFFFF →
    Does (.imageLine p vc (s.reg (0x2540 + n) 3) d bs) s [.dict, .cameras] [(0x2510 + p.val, sub), (0x2540 + n, 0x0D), (0x2540 + n, 0x0F)] (fun t =>
      t.reg (0x2510 + p.val) sub = s.reg (0x2510 + p.val) sub + 1 ∧ t.reg (0x2540 + n) 0x0D = s.reg (0x2540 + n) 0x0D + 1
      ∧ (t.camera n).openFrame = some { o with
          lineStart := none, next := o.next + 1, concealed := o.concealed + 1, handed := o.handed + 1, runs := addRun o.runs cause o.next,
          lastRun := some (growRun o.lastRun cause o.next),
          history := ((if o.history.length < 4 then List.replicate (s.camW n) (s.reg (0x2540 + n) 8) else o.history.getD 3 []) :: o.history).take 4 }
      ∧ KeptBut State.camera [n] s t))
  ∧ (∀ (s : State) (p : PortId) (vc : Fin 16) (n ty : Nat) (bs : List Byte), s.portUp p.val = true → s.streamOn p.val vc.val = some n →
    ty ≠ s.reg (0x2540 + n) 3 → s.reg (0x2510 + p.val) 9 < 0xFFFFFFFF →
    Does (.imageLine p vc ty .none bs) s [.dict] [(0x2510 + p.val, 9)] (fun t => t.reg (0x2510 + p.val) 9 = s.reg (0x2510 + p.val) 9 + 1))
  ∧ (∀ (s : State) (n : CamId), s.camOn n.val = true → s.reg (0x2540 + n.val) 0x0A ≠ 0 → s.chain n.val = [] → s.reg 0x2B00 5 < 0xFFFFFFFF →
    Does (.missingFrame n) s alarmParts (cameraRegs n.val ++ alarmRegs) (fun t =>
      t.reg (0x2540 + n.val) 0x0C = (s.reg (0x2540 + n.val) 0x0C + 1) % 2 ^ 32 ∧ t.reg 0x2B00 5 = s.reg 0x2B00 5 + 1))
  ∧ (∀ (s : State) (a : Agent) (n : CamId), Admitted s a (0x2540 + n.val) 1 1 1 → s.camOn n.val = false →
    (portStreams (n.val / 4)).any (fun m => m != n.val && s.camOn m && s.reg (0x2540 + m) 2 == s.reg (0x2540 + n.val) 2) = false →
    s.reg (0x2490 + s.streamPart n.val) 8 = 2 ∨ s.reg (0x2490 + s.streamPart n.val) 8 = 3 →
    (s.plan (s.streamPart n.val)).chains.contains n.val = true → s.reg (0x2540 + n.val) 0x0B = 0xFFFF →
    Does (.cameraStreamEnable a n) s [.dict, .cameras, .replies] [(0x2540 + n.val, 1), (0x2710 + n.val, 1)] (fun t =>
      Replied a 0 0 t ∧ t.camOn n.val = true ∧ t.reg (0x2710 + n.val) 1 = 2
      ∧ t.camera n.val = { s.camera n.val with
          openFrame := none, lastCsi := none, nextSubmit := 0, lastMask := none,
          free0 := s.sync (field (stage (s.chain n.val) 6) 16 4) } ∧ KeptBut State.camera [n.val] s t))
  ∧ (∀ (s : State) (a : Agent) (n : CamId), Admitted s a (0x2540 + n.val) 1 1 1 → s.camOn n.val = false →
    (s.plan (s.streamPart n.val)).chains.contains n.val = false →
    Does (.cameraStreamEnable a n) s [.replies] [] (Replied a 0x08000022 0))
  ∧ (∀ (s : State) (a : Agent) (n : CamId), Admitted s a (0x2540 + n.val) 1 1 0 → s.camOn n.val = true →
    Does (.cameraStreamDisable a n) s ([.cameras, .lanes, .replies] ++ alarmParts)
        ([(0x2540 + n.val, 1), (0x2710 + n.val, 1)] ++ cameraRegs n.val ++ alarmRegs) (fun t =>
      Replied a 0 0 t ∧ KeptBut State.camera [n.val] s t ∧ t.camOn n.val = false ∧ (t.camera n.val).openFrame = none ∧ t.reg (0x2710 + n.val) 1 = (if s.chain n.val = [] then 0 else 1)))

/-- ETHERNET_FRAME_RECEIVED completes. A frame at a range MAC that is disabled or whose link is down is ignored; else it
is counted, a damaged one in its error count, one of another protocol as discarded. A whole UDP datagram for an
enabled decoder that fits enters its RX ring with its length and stamp. An ARP request for the own address is
answered. IPV4 holds the address's bytes in network order. A frame at an enabled output MAC that is no PTP message
is discarded and counted. REASSEMBLY_TIMEOUT drops the reassembly and counts it. A link loss is counted, and a fault
where a decoder of the MAC is enabled. SAMPLE_TAKE takes the oldest datagram; SAMPLE_DECODE_COMPLETE decodes it (a
data error is cause 09h and a fault, and what was decoded before it stands in the marker); SAMPLE_PUSH pushes all
its points at once and frees the decoder, or leaves the sample waiting where they do not fit; SAMPLE_BUDGET_EXPIRY
abandons it. Where the rules leave room the clauses follow the model's reading (log entries 42, 43). It says of each
of these commands that it completes (exec answers a next state with the effect told above, under conditions on the
state and the operands alone): ETHERNET_FRAME_RECEIVED (ethernetFrameReceived), REASSEMBLY_TIMEOUT
(reassemblyTimeout), RANGE_LINK_LOSS (rangeLinkLoss), SAMPLE_TAKE (sampleTake), SAMPLE_DECODE_COMPLETE
(sampleDecodeComplete), SAMPLE_PUSH (samplePush), SAMPLE_BUDGET_EXPIRY (sampleBudgetExpiry), RANGE_LINK_UP
(rangeLinkUp). -/
def Obligations.RangeReception : Prop :=
  (∀ (s : State) (m : PtpPort) (ok : Bool) (bs : List Byte), m.val < 4 → s.mac m.val 5 ≠ 1 ∨ s.mac m.val 4 ≠ 1 →
    exec (.ethernetFrameReceived m ok bs) s = .next s)
  ∧ (∀ (s : State) (m : PtpPort) (ok : Bool) (bs : List Byte), 4 ≤ m.val →
    (s.macOn m.val = false → exec (.ethernetFrameReceived m ok bs) s = .next s)
    ∧ (s.macOn m.val = true → 14 ≤ bs.length → beField bs 12 2 ∉ [0x8100, 0x0800, 0x88F7] → s.reg (0x2910 + m.val) 0x0B < 0xFFFFFFFF →
      Does (.ethernetFrameReceived m ok bs) s [.dict] [(0x2910 + m.val, 0x0B)] (fun t =>
        t.reg (0x2910 + m.val) 0x0B = s.reg (0x2910 + m.val) 0x0B + 1)))
  ∧ (∀ (s : State) (m : PtpPort) (bs : List Byte), m.val < 4 → s.mac m.val 5 = 1 → s.mac m.val 4 = 1 → s.mac m.val 7 < 0xFFFFFFFF →
    Does (.ethernetFrameReceived m false bs) s [.dict] [(0x2530 + m.val, 6), (0x2530 + m.val, 7)] (fun t =>
      t.mac m.val 7 = s.mac m.val 7 + 1 ∧ t.mac m.val 6 = (s.mac m.val 6 + 1) % 256 ^ odBytes (0x2530 + m.val) 6))
  ∧ (∀ (s : State) (m : PtpPort) (bs : List Byte), m.val < 4 → s.mac m.val 5 = 1 → s.mac m.val 4 = 1 → 14 ≤ bs.length → bs.length ≤ 9018 →
    beField bs 12 2 ∉ [0x8100, 0x0800, 0x0806, 0x88F7] → s.mac m.val 8 < 0xFFFFFFFF →
    Does (.ethernetFrameReceived m true bs) s [.dict] [(0x2530 + m.val, 6), (0x2530 + m.val, 8)] (fun t => t.mac m.val 8 = s.mac m.val 8 + 1))
  ∧ (∀ (s : State) (m : PtpPort) (d : DecoderId) (bs ip u : List Byte), m.val < 4 → s.mac m.val 5 = 1 → s.mac m.val 4 = 1 → 14 ≤ bs.length →
    bs.length ≤ 9018 → beField bs 12 2 = 0x0800 → ip = bs.drop 14 → isPtpUdp ip = false → u = (ip.take (beField ip 2 2)).drop 20 →
    beField ip 0 1 = 0x45 → 20 ≤ beField ip 2 2 → beField ip 2 2 ≤ ip.length → ipSumOk (ipSum (ip.take 20)) = true →
    beField ip 9 1 = 17 → beField ip 16 4 = s.macIpv4 m.val → s.macIpv4 m.val ≠ 0 → beField ip 6 2 % 0x4000 = 0 →
    s.macSlot m.val (beField u 2 2) (beField ip 12 4) none = some d.val → udpOk (beField ip 12 4) (beField ip 16 4) u = true →
    s.decOn d.val = true → beField u 4 2 ≤ 65515 → ringUsed (s.decoder d.val) + (beField u 4 2 - 8) ≤ ringSize (s.decoder d.val) →
    Does (.ethernetFrameReceived m true bs) s [.dict, .mem, .flips, .hostMem, .calderas, .scrubPending, .decoders]
        ((0x2530 + m.val, 6) :: writeRegs) (fun t =>
      t.decoder d.val = { s.decoder d.val with
        ring := (s.decoder d.val).ring ++ [((s.decoder d.val).rxPos, beField u 4 2 - 8, s.stamp)],
        rxPos := ((s.decoder d.val).rxPos + (beField u 4 2 - 8)) % ringSize (s.decoder d.val) }
      ∧ KeptBut State.decoder [d.val] s t))
  ∧ (∀ (s : State) (m : PtpPort) (bs : List Byte), m.val < 4 → s.mac m.val 5 = 1 → s.mac m.val 4 = 1 → 14 ≤ bs.length → bs.length ≤ 9018 →
    beField bs 12 2 = 0x0806 → s.mac m.val 2 ≠ 0 → beField bs 14 2 = 1 → beField bs 16 2 = 0x800 → beField bs 20 2 = 1 →
    beField bs 38 4 = s.macIpv4 m.val →
    Does (.ethernetFrameReceived m true bs) s [.dict, .out] [(0x2530 + m.val, 6)] (fun t => t.out = .arpReply m.val (slice bs 22 10) :: s.out))
  ∧ (∀ (s : State) (d : DecoderId), (s.decoder d.val).reassembly.isSome = true → s.mac (d.val / 2) 9 < 0xFFFFFFFF →
    Does (.reassemblyTimeout d) s [.dict, .decoders] [(0x2530 + d.val / 2, 9)] (fun t =>
      t.decoder d.val = { s.decoder d.val with reassembly := none } ∧ KeptBut State.decoder [d.val] s t
      ∧ t.mac (d.val / 2) 9 = s.mac (d.val / 2) 9 + 1))
  ∧ (∀ (s : State) (m : RangeMac), 7 ≤ s.boot.released →
    Does (.rangeLinkUp m) s [.dict] [(0x2530 + m.val, 5)] (fun t => t.mac m.val 5 = 1))
  ∧ (∀ (s : State) (m : RangeMac), s.mac m.val 5 = 1 → s.mac m.val 0x0B < 0xFFFFFFFF → s.decOn (2 * m.val) = false → s.decOn (2 * m.val + 1) = false →
    Does (.rangeLinkLoss m) s [.dict] [(0x2530 + m.val, 5), (0x2530 + m.val, 0x0B)] (fun t =>
      t.mac m.val 5 = 0 ∧ t.mac m.val 0x0B = s.mac m.val 0x0B + 1))
  ∧ (∀ (s : State) (m : RangeMac), s.mac m.val 5 = 1 → s.mac m.val 0x0B < 0xFFFFFFFF → s.decOn (2 * m.val) = true → s.decOn (2 * m.val + 1) = false →
    s.reg 0x2B00 5 < 0xFFFFFFFF →
    Does (.rangeLinkLoss m) s alarmParts ([(0x2530 + m.val, 5), (0x2530 + m.val, 0x0B)] ++ alarmRegs) (fun t =>
      t.mac m.val 5 = 0 ∧ t.mac m.val 0x0B = s.mac m.val 0x0B + 1 ∧ t.reg 0x2B00 5 = s.reg 0x2B00 5 + 1))
  ∧ (∀ (s : State) (d : DecoderId) (x : Nat × Nat × Nat) (rest : List (Nat × Nat × Nat)), (s.decoder d.val).ring = x :: rest → s.decOn d.val = true →
    (s.decoder d.val).sample = none →
    Does (.sampleTake d) s [.dict, .decoders] [(0x2610 + d.val, 4)] (fun t =>
      t.decoder d.val = { s.decoder d.val with
        ring := rest,
        sample := some ⟨x.1, x.2.1, x.2.2, s.reg (0x2610 + d.val) 4, s.now, false, 0, none, none, 0, 0, 0⟩ }
      ∧ KeptBut State.decoder [d.val] s t
      ∧ t.reg (0x2610 + d.val) 4 = (s.reg (0x2610 + d.val) 4 + 1) % 256 ^ odBytes (0x2610 + d.val) 4))
  ∧ (∀ (s : State) (d : DecoderId) (x : Sample) (bs : List Byte) (r : Decoded), (s.decoder d.val).sample = some x → x.decoded = false →
    s.samplePayload d.val x = some bs → r = decodeSample (s.sampleEnv d.val x) bs →
    Does (.sampleDecodeComplete d) s [.dict, .mem, .flips, .hostMem, .calderas, .scrubPending, .decoders]
        ((0x2610 + d.val, 8) :: writeRegs) (fun t =>
      t.decoder d.val = { s.decoder d.val with sample := some { x with
        decoded := true, cause := r.cause, sequence := r.sequence, baseTime := baseOf (s.sampleEnv d.val x) r,
        offset := if r.cause = 0 then bs.length else r.offset, item := r.item, points := if r.cause = 0 then r.points.length else 0 } }
      ∧ KeptBut State.decoder [d.val] s t))
  ∧ (∀ (s : State) (d : DecoderId) (x : Sample) (r : Decoded), (s.decoder d.val).sample = some x → x.decoded = false →
    s.samplePayload d.val x = none → s.reg 0x2B00 5 < 0xFFFFFFFF →
    r = decodeUpTo (s.sampleEnv d.val x) (s.samplePrefix d.val x) (s.samplePrefix d.val x).length →
    Does (.sampleDecodeComplete d) s (.decoders :: alarmParts) ((0x2610 + d.val, 8) :: alarmRegs) (fun t =>
      t.decoder d.val = { s.decoder d.val with sample := some { x with
        decoded := true, cause := 9, sequence := r.sequence, baseTime := baseOf (s.sampleEnv d.val x) r,
        offset := (s.samplePrefix d.val x).length, item := r.item, points := 0 } }
      ∧ KeptBut State.decoder [d.val] s t ∧ t.reg 0x2B00 5 = s.reg 0x2B00 5 + 1))
  ∧ (∀ (s : State) (d : DecoderId) (x : Sample) (pts : List (List Byte)), (s.decoder d.val).sample = some x → x.decoded = true →
    endCause (s.decoder d.val) x = 0 → s.staged d.val x.points = some pts → gapMarker d.val (s.decoder d.val) x = [] → pts ≠ [] →
    gapOf (s.decoder d.val) x = 0 → (s.outerPush (field (s.decoder d.val).schema 16 2) pts).2 = 0 →
    Completes (.samplePush d) s (fun t =>
      Only [.dict, .decoders, .safety] (s.outerPush (field (s.decoder d.val).schema 16 2) pts).1 t
      ∧ RegsKept ([5, 7, 0x0B].map (fun i => (0x2610 + d.val, i)) ++ (List.range 8).map (fun x => (0x2B08 + x, 1)))
          (s.outerPush (field (s.decoder d.val).schema 16 2) pts).1 t
      ∧ t.decoder d.val = { s.decoder d.val with sample := none, expected := nextExpected (s.decoder d.val) x }
      ∧ KeptBut State.decoder [d.val] s t
      ∧ t.reg (0x2610 + d.val) 5 = (s.reg (0x2610 + d.val) 5 + pts.length) % 256 ^ odBytes (0x2610 + d.val) 5))
  ∧ (∀ (s : State) (d : DecoderId) (x : Sample) (pts : List (List Byte)), (s.decoder d.val).sample = some x → x.decoded = true →
    endCause (s.decoder d.val) x = 0 → s.staged d.val x.points = some pts → gapMarker d.val (s.decoder d.val) x = [] → pts ≠ [] →
    (s.queue (field (s.decoder d.val).schema 16 2)).enabled = false →
    Does (.samplePush d) s [.dict, .safety] ((List.range 8).map (fun x => (0x2B08 + x, 1))) (fun t =>
      Unretried s 0x14 (40 + d.val) → Unretried s 0x0C (40 + d.val) → t = s))
  ∧ (∀ (s : State) (d : DecoderId) (x : Sample) (off : Nat), (s.decoder d.val).sample = some x → s.reg (0x2610 + d.val) 0x0C < 0xFFFFFFFF →
    s.reg (0x2610 + d.val) 6 < 0xFFFFFFFF →
    Does (.sampleBudgetExpiry d off) s [.dict, .mem, .flips, .hostMem, .queues, .calderas, .scrubPending, .decoders, .out]
        ([6, 7, 8, 9, 0x0A, 0x0B, 0x0C].map (fun i => (0x2610 + d.val, i)) ++ outerRegs) (fun t =>
      (t.decoder d.val).sample = none ∧ (t.decoder d.val).ring = (s.decoder d.val).ring ∧ KeptBut State.decoder [d.val] s t
      ∧ t.reg (0x2610 + d.val) 0x0C = s.reg (0x2610 + d.val) 0x0C + 1 ∧ t.reg (0x2610 + d.val) 6 = s.reg (0x2610 + d.val) 6 + 1
      ∧ t.reg (0x2610 + d.val) 5 = s.reg (0x2610 + d.val) 5))

/-- POINT_POP completes: it takes the head of the lowest projector queue and stores it in the history of its stream, or
counts it where its stream keeps none. PROJECTION_START of the frame whose turn it is takes a free lane with the
plane that the points give, or marks the frame without heights where they cannot be read; out of turn it changes
nothing. PROJECTION_COMPLETE frees the lane, writes the plane at HPLANE and counts the points. ROW_LAND writes the
next row of a level at its place, and a row that completes a stripe adds 1 to the level's synchronisation object.
SLOT_GATHER gives the oldest released slot to a free engine and writes its tile-list entry; SLOT_GATHER_COMPLETE
completes, frees the engine and counts the slot off its batch. BATCH_PUSH pushes the oldest entry once it is ready
and the queue takes it; BATCH_PUSH_TIMEOUT reports the oldest ready one that waits once. Where the rules leave room
the clauses follow the model's reading (log entries 37, 38, 39). It says of each of these commands that it completes
(exec answers a next state with the effect told above, under conditions on the state and the operands alone):
POINT_POP (pointPop), PROJECTION_START (projectionStart), PROJECTION_COMPLETE (projectionComplete), ROW_LAND
(rowLand), SLOT_GATHER (slotGather), SLOT_GATHER_COMPLETE (slotGatherComplete), BATCH_PUSH (batchPush),
BATCH_PUSH_TIMEOUT (batchPushTimeout). -/
def Obligations.PipelineWork : Prop :=
  (∀ (s : State), s.queues.any (fun q => q.2.consumer == 0x210) = false → exec .pointPop s = .next s)
  ∧ (∀ (s : State) (q : Nat × Queue) (e : List Byte) (d : DecoderId), s.queues.find? (fun q => q.2.consumer == 0x210 && q.2.enabled && decide (0 < q.2.count)) = some q →
    s.queue q.1 = q.2 → s.queuePeek q.1 1 = (0, [e]) → field e 26 1 = 40 + d.val → hasStage (s.chain (40 + d.val)) 7 = true →
    Does .pointPop s [.dict, .mem, .flips, .hostMem, .queues, .calderas, .scrubPending, .decoders]
        ([(0x2700, 5), (0x2700, 6), (0x2710 + 40 + d.val, 0x0E)] ++ readRegs ++ outerRegs) (fun t =>
      KeptBut State.decoder [d.val] s t ∧
      t.queue q.1 = { q.2 with count := q.2.count - 1, head := (q.2.head + 1) % 2 ^ q.2.log2 } ∧ KeptBut State.queue [q.1] s t
      ∧ t.decoder d.val = { s.decoder d.val with stored := (s.decoder d.val).stored + 1 }
      ∧ t.reg (0x2710 + 40 + d.val) 0x0E = (s.reg (0x2710 + 40 + d.val) 0x0E + 1) % 256 ^ odBytes (0x2710 + 40 + d.val) 0x0E))
  ∧ (∀ (s : State) (q : Nat × Queue) (e : List Byte), s.queues.find? (fun q => q.2.consumer == 0x210 && q.2.enabled && decide (0 < q.2.count)) = some q →
    s.queue q.1 = q.2 → s.queuePeek q.1 1 = (0, [e]) → field e 26 1 < 40 → s.reg 0x2700 6 < 0xFFFFFFFF →
    Does .pointPop s [.dict, .mem, .flips, .queues] ((0x2700, 6) :: readRegs ++ countRegs) (fun t =>
      BytesSame s t ∧
      t.queue q.1 = { q.2 with count := q.2.count - 1, head := (q.2.head + 1) % 2 ^ q.2.log2 } ∧ KeptBut State.queue [q.1] s t
      ∧ t.reg 0x2700 6 = s.reg 0x2700 6 + 1))
  ∧ (∀ (s : State) (n : CamId) (f : ChainFrame) (r : List Nat × Nat × Bool), (s.camera n.val).frames = [f] → f.projection = 1 →
    s.lanes.length < 8 → s.lanes.contains n.val = false → s.laneTurn n.val f = true → s.projectFrame n.val f = some r →
    Does (.projectionStart n) s [.cameras, .lanes] [] (fun t =>
      t.lanes = s.lanes ++ [n.val]
      ∧ t.camera n.val = { s.camera n.val with frames := [{ f with projection := 2, plane := r.1, projected := r.2.1, marked := r.2.2 }] }
      ∧ KeptBut State.camera [n.val] s t))
  ∧ (∀ (s : State) (n : CamId) (f : ChainFrame), (s.camera n.val).frames = [f] → f.projection = 1 →
    s.lanes.contains n.val = false →
    (8 ≤ s.lanes.length ∨ s.laneTurn n.val f = false → exec (.projectionStart n) s = .next s)
    ∧ (s.lanes.length < 8 → s.laneTurn n.val f = true → s.projectFrame n.val f = none →
      Does (.projectionStart n) s (.cameras :: alarmParts) ((0x2710 + n.val, 0x0B) :: readRegs ++ alarmRegs) (fun t =>
        t.camera n.val = { s.camera n.val with frames := [{ f with projection := 3, plane := [], heightGap := true, holdAbandon := false }] }
        ∧ KeptBut State.camera [n.val] s t)))
  ∧ (∀ (s : State) (n : CamId) (f : ChainFrame), (s.camera n.val).frames = [f] → f.projection = 2 →
    Does (.projectionComplete n) s [.dict, .mem, .flips, .hostMem, .calderas, .scrubPending, .cameras, .lanes]
        ([(0x2700, 4), (0x2710 + n.val, 0x0B)] ++ writeRegs) (fun t =>
      Only [.dict, .cameras, .lanes] (s.blockWrite (s.streamPart n.val) (bufAt (field (stage (s.chain n.val) 4) 12 4))
        ((List.range (cellCount (s.chain n.val))).map (fun i => (BitVec.ofNat 8 (f.plane.getD i 255) : Byte)))).1 t ∧
      t.lanes = s.lanes.filter (· ≠ n.val) ∧ t.reg 0x2700 4 = (s.reg 0x2700 4 + f.projected) % 256 ^ odBytes 0x2700 4
      ∧ t.camera n.val = { s.camera n.val with frames := [{ f with projection := 3, heightGap := f.marked }] }
      ∧ KeptBut State.camera [n.val] s t))
  ∧ (∀ (s : State) (n : CamId) (k : Fin 4) (f f' : ChainFrame), (s.camera n.val).frames = [f] → rowReady (s.chain n.val) f k.val = true →
    f' = { f with rows := f.rows.set k.val (f.rows.getD k.val 0 + 1) } → stripeReady (s.chain n.val) f' k.val = false →
    f.tiles = none → f.formed = false → f.pushed = false →
    Completes (.rowLand n k) s (fun t =>
      Only [.cameras] (s.blockWrite (s.streamPart n.val)
        (planeBase (s.chain n.val) f.number + levelOffset (s.chain n.val) k.val + f.rows.getD k.val 0 * levelPitch (s.chain n.val) k.val)
        (levelRow (s.chain n.val) f k.val (f.rows.getD k.val 0))).1 t
      ∧ t.camera n.val = { s.camera n.val with frames := [f'] } ∧ KeptBut State.camera [n.val] s t))
  ∧ (∀ (s : State) (n : CamId) (k : Fin 4) (f f' : ChainFrame), (s.camera n.val).frames = [f] → rowReady (s.chain n.val) f k.val = true →
    f' = { f with rows := f.rows.set k.val (f.rows.getD k.val 0 + 1) } → stripeReady (s.chain n.val) f' k.val = true → k.val ≠ 0 →
    stripeReady (s.chain n.val) { f' with released := f'.released.set k.val (f'.released.getD k.val 0 + 1) } k.val = false →
    f.tiles = none → f.formed = false → f.pushed = false →
    Does (.rowLand n k) s [.dict, .mem, .flips, .hostMem, .syncs, .calderas, .scrubPending, .cameras] outerRegs (fun t =>
      KeptBut State.sync [syncBase (s.chain n.val) + k.val, syncBase (s.chain n.val) + 4] s t ∧ KeptBut State.camera [n.val] s t ∧
      t.sync (syncBase (s.chain n.val) + k.val) = (s.sync (syncBase (s.chain n.val) + k.val) + 1) % 2 ^ 32
      ∧ t.camera n.val = { s.camera n.val with
          frames := [{ f' with released := f'.released.set k.val (f'.released.getD k.val 0 + 1) }] }))
  ∧ (∀ (s : State) (e : Fin 8) (g : GatherSlot) (rest : List GatherSlot), s.gatherQueue = g :: rest → s.gatherBusy.any (fun x => x.1 == e.val) = false →
    Does (.slotGather e) s [.dict, .mem, .flips, .hostMem, .calderas, .scrubPending, .cameras, .gatherQueue, .gatherBusy]
        ((0x2710 + g.stream, 7) :: writeRegs) (fun t =>
      t.gatherQueue = rest ∧ t.gatherBusy = tblIns s.gatherBusy e.val g ∧ KeptBut State.camera [g.stream] s t
      ∧ (g.tile = none ∨ g.concealed = true → t.cameras = s.cameras)
      ∧ (t.camera g.stream).frames = (s.camera g.stream).frames
      ∧ (t.camera g.stream).entries.map (fun b => { b with clean := [] }) = (s.camera g.stream).entries.map (fun b => { b with clean := [] })))
  ∧ (∀ (s : State) (e : Fin 8) (g : GatherSlot), s.gatherBusy.find? (fun x => x.1 == e.val) = some (e.val, g) →
    Does (.slotGatherComplete e) s ([.cameras, .gatherBusy, .freeUsed] ++ alarmParts) (readRegs ++ alarmRegs) (fun t =>
      t.gatherBusy = tblDel s.gatherBusy e.val
      ∧ t.camera g.stream = { s.camera g.stream with
          entries := (s.camera g.stream).entries.map (fun b =>
            if b.submit = g.submit ∧ b.frame = g.frame then { b with slotsLeft := b.slotsLeft - 1 } else b) }
      ∧ KeptBut State.camera [g.stream] s t))
  ∧ (∀ (s : State) (n : CamId) (e : BatchEntry) (rest : List BatchEntry), (s.camera n.val).entries = e :: rest → s.entryReady n.val e = true →
    (s.outerPush e.queue [batchBytes n.val e]).2 = 0 →
    Completes (.batchPush n) s (fun t =>
      Only [.dict, .cameras, .queues, .dbg] (s.outerPush e.queue [batchBytes n.val e]).1 t ∧ (t.camera n.val).entries = rest
      ∧ RegsKept ([4, 5, 6, 0x0D].map (fun i => (0x2710 + n.val, i)) ++ traceRegs) (s.outerPush e.queue [batchBytes n.val e]).1 t
      ∧ (s.chain n.val ≠ [] → t.queues = (s.outerPush e.queue [batchBytes n.val e]).1.queues)
      ∧ KeptBut State.camera [n.val] s t
      ∧ t.reg (0x2710 + n.val) 6 = (s.reg (0x2710 + n.val) 6 + 1) % 256 ^ odBytes (0x2710 + n.val) 6
      ∧ t.reg (0x2710 + n.val) 5 = (s.reg (0x2710 + n.val) 5 + e.tiles) % 256 ^ odBytes (0x2710 + n.val) 5))
  ∧ (∀ (s : State) (n : CamId) (e : BatchEntry) (rest : List BatchEntry), (s.camera n.val).entries = e :: rest →
    s.entryReady n.val e = false ∨ (s.queue e.queue).enabled = false → exec (.batchPush n) s = .next s)
  ∧ (∀ (s : State) (n : CamId) (e : BatchEntry), (s.camera n.val).entries.find? (fun e => s.entryReady n.val e && !e.late) = some e →
    s.reg 0x2B00 5 < 0xFFFFFFFF →
    Does (.batchPushTimeout n) s (.cameras :: alarmParts) alarmRegs (fun t =>
      t.camera n.val = { s.camera n.val with entries := (s.camera n.val).entries.map (fun b =>
        if b.submit = e.submit ∧ b.frame = e.frame then { b with late := true } else b) } ∧ KeptBut State.camera [n.val] s t
      ∧ t.reg 0x2B00 5 = s.reg 0x2B00 5 + 1))

/-- JOB_POP completes and gives a free engine the head entry of the next enabled block with a job, in rotating order.
JOB_COMPLETE finishes it with the status and records that decoding, ordering and suppression give. JOB_PUSH of a
finished job, behind every earlier job of its queue, pushes all its records at once, stores LAST_STATUS and frees
the engine; where they do not fit the job waits. JOB_BUDGET_EXPIRY ends the job with status 01h, frees the engine,
counts it in BUDGET_MISS, and in JOBS_FAILED where its summary could be pushed, and is a fault. Where the rules
leave room the clauses follow the model's reading (log entry 44). It says of each of these commands that it
completes (exec answers a next state with the effect told above, under conditions on the state and the operands
alone): JOB_POP (jobPop), JOB_COMPLETE (jobComplete), JOB_PUSH (jobPush), JOB_BUDGET_EXPIRY (jobBudgetExpiry). -/
def Obligations.PostProcessorJobs : Prop :=
  (∀ (s : State) (e : EngineId) (b : Nat) (x : List (List Byte)), s.engine e.val = none → s.nextJobBlock = some b →
    s.queuePeek (blkIn (s.block b)) 1 = (0, x) →
    Does (.jobPop e) s [.dict, .mem, .flips, .queues, .engines, .jobOrder, .nextBlock] ((0x2810 + b, 5) :: readRegs ++ countRegs) (fun t =>
      BytesSame s t ∧
      t.engine e.val = some ⟨b, x.flatten, s.jobOrder, s.now, blkOut (s.block b), false, 0, [], false, false⟩
      ∧ (t.queue (blkIn (s.block b))).count = (s.queue (blkIn (s.block b))).count - 1 ∧ KeptBut State.queue [blkIn (s.block b)] s t
      ∧ t.jobOrder = s.jobOrder + 1 ∧ t.nextBlock = (b + 1) % 16
      ∧ t.reg (0x2810 + b) 5 = (s.reg (0x2810 + b) 5 + 1) % 256 ^ odBytes (0x2810 + b) 5))
  ∧ (∀ (s : State) (e : EngineId) (j : Job), s.engine e.val = some j → j.finished = false →
    Does (.jobComplete e) s (.engines :: alarmParts) (readRegs ++ alarmRegs) (fun t => t.engine e.val = some (s.runJob j).1 ∧ (s.runJob j).1.finished = true
      ∧ (∀ x, x ≠ e.val → t.engine x = s.engine x)))
  ∧ (∀ (s : State) (e : EngineId) (j : Job), s.engine e.val = some j → j.finished = true →
    s.engines.any (fun x => x.2.outQueue == j.outQueue && decide (x.2.order < j.order)) = false →
    (s.outerPush j.outQueue j.records).2 = 0 →
    Completes (.jobPush e) s (fun t =>
      Only [.dict, .engines] (s.outerPush j.outQueue j.records).1 t
      ∧ RegsKept ([6, 7, 8].map (fun i => (0x2810 + j.block, i)) ++ [3, 4, 6].map (fun i => (0x2800, i))) (s.outerPush j.outQueue j.records).1 t
      ∧ t.engines = tblDel s.engines e.val
      ∧ t.reg (0x2810 + j.block) 6 = j.status % 256 ^ odBytes (0x2810 + j.block) 6
      ∧ (j.status = 0 → t.reg 0x2800 3 = (s.reg 0x2800 3 + 1) % 256 ^ odBytes 0x2800 3)))
  ∧ (∀ (s : State) (e : EngineId) (j : Job), s.engine e.val = some j →
    j.finished = false ∨ s.engines.any (fun x => x.2.outQueue == j.outQueue && decide (x.2.order < j.order)) = true
      ∨ (s.queue j.outQueue).enabled = false → exec (.jobPush e) s = .next s)
  ∧ (∀ (s : State) (e : EngineId) (j : Job), s.engine e.val = some j → j.block < 16 → s.reg 0x2B00 5 < 0xFFFFFFFF → s.reg 0x2800 4 < 0xFFFFFFFF →
    s.reg (0x2810 + j.block) 9 < 0xFFFFFFFF →
    Does (.jobBudgetExpiry e) s (.engines :: alarmParts)
        ([6, 7, 8, 9].map (fun i => (0x2810 + j.block, i)) ++ [4, 6].map (fun i => (0x2800, i)) ++ alarmRegs) (fun t =>
      t.engines = tblDel s.engines e.val
      ∧ t.reg 0x2800 4 = s.reg 0x2800 4 + (if s.queueRoom j.outQueue (expiredJob j).records.length then 1 else 0)
      ∧ t.reg (0x2810 + j.block) 9 = s.reg (0x2810 + j.block) 9 + 1 ∧ t.reg 0x2B00 5 = s.reg 0x2B00 5 + 1))

/-- STEP, with no launch queue enabled, completes: the timebase is at SET_SECONDS and SET_NS with FRACTION zero and the
step is counted; with one enabled it is refused with 0800_0022h and nothing changes. SLEW adds OFFSET to the slew
that is left; CANCEL_SLEW makes it zero. A Sync on the upstream port in its domain, with SOURCE 01h, steps by its
offset where that exceeds STEP_THRESHOLD and no launch queue is enabled, else slews by it and sets FREQ; it stores
LAST_OFFSET, and STATE is locked after 16 Syncs below 100 ns and acquiring from 1 us on. Any other Sync changes
nothing. DELAY_REQ_SEND of a 1588 upstream port sends a Delay_Req with its stamp, and its answer after a Sync gives
the path delay. SYNC_TIMEOUT enters holdover, a warning. HOLDOVER_LIMIT_EXPIRY in holdover is one detected event of
every partition. The STEP carries SET_NS of 10^9 and more into the seconds, which only an unreachable state holds.
Where the rules leave room the clauses follow the model's reading (log entries 45, 106). It says of each of these
commands that it completes (exec answers a next state with the effect told above, under conditions on the state and
the operands alone): STEP (step), SLEW (slew), CANCEL_SLEW (cancelSlew), PTP_SYNC_RECEIVED (ptpSyncReceived),
DELAY_REQ_SEND (delayReqSend), SYNC_TIMEOUT (syncTimeout), HOLDOVER_LIMIT_EXPIRY (holdoverLimitExpiry). -/
def Obligations.TimebaseAndServo : Prop :=
  (∀ (s : State) (a : Agent), Admitted s a 0x2900 8 1 1 → s.launchOn = false → s.reg 0x2900 0x0E < 0xFFFFFFFF →
    Does (.step a) s [.dict, .time, .replies] [(0x2900, 0x0E)] (fun t =>
      Replied a 0 0 t ∧ t.reg 0x2900 0x0E = s.reg 0x2900 0x0E + 1
      ∧ t.time = { s.time with
          seconds := (s.reg 0x2900 5 + s.reg 0x2900 6 / 1000000000) % 2 ^ 64, nanos := s.reg 0x2900 6 % 1000000000, frac := 0,
          syncDelta := none, peers := s.time.peers.map (fun x => (x.1, { x.2 with last := none })) }))
  ∧ (∀ (s : State) (a : Agent), Admitted s a 0x2900 8 1 1 → s.launchOn = true → Does (.step a) s [.replies] [] (Replied a 0x08000022 0))
  ∧ (∀ (s : State) (a : Agent), Admitted s a 0x2900 8 1 2 →
    Does (.slew a) s [.time, .replies] [] (fun t =>
      Replied a 0 0 t ∧ t.time = { s.time with slewLeft := s.time.slewLeft + sgn 64 (s.reg 0x2900 7) * 2 ^ 48 }))
  ∧ (∀ (s : State) (a : Agent), Admitted s a 0x2900 8 1 3 →
    Does (.cancelSlew a) s [.time, .replies] [] (fun t => Replied a 0 0 t ∧ t.time = { s.time with slewLeft := 0 }))
  ∧ (∀ (s : State) (m : PtpPort) (origin rate off : Int), s.reg 0x2900 0x0B = 1 → s.upstream m.val = true → (0x81, 0) ∉ s.safety.warnings →
    s.ptpMode m.val ≠ 2 ∨ s.asCapable m.val = true → off = s.syncOffset m.val origin rate → s.launchOn = true ∨ off.natAbs ≤ s.reg 0x2900 0x10 →
    Does (.ptpSyncReceived m (s.reg (0x2910 + m.val) 3) ⟨origin, rate⟩) s [.dict, .time] [(0x2900, 4), (0x2900, 0x0C), (0x2900, 0x0D)] (fun t =>
      t.time = { s.time with
        slewLeft := s.time.slewLeft + off * 2 ^ 48, servoSum := s.time.servoSum + off, syncDelta := some (s.ingressAt m.val - origin),
        lockCount := if off.natAbs < 100 then s.time.lockCount + 1 else 0 }
      ∧ t.reg 0x2900 0x0D = enc 32 (clampI (-(2 ^ 31)) (2 ^ 31 - 1) off)
      ∧ t.reg 0x2900 4 = enc 32 (clampI (-128000000) 128000000 (32 * off + 2 * (s.time.servoSum + off)))
      ∧ t.reg 0x2900 0x0C = (if 1000 ≤ off.natAbs then 1
          else if off.natAbs < 100 ∧ 16 ≤ s.time.lockCount + 1 then 2 else if s.reg 0x2900 0x0C = 2 then 2 else 1)))
  ∧ (∀ (s : State) (m : PtpPort) (origin rate off : Int), s.reg 0x2900 0x0B = 1 → s.upstream m.val = true → (0x81, 0) ∉ s.safety.warnings →
    s.ptpMode m.val ≠ 2 ∨ s.asCapable m.val = true → off = s.syncOffset m.val origin rate →
    s.launchOn = false → s.reg 0x2900 0x10 < off.natAbs → s.reg 0x2900 0x0E < 0xFFFFFFFF →
    Does (.ptpSyncReceived m (s.reg (0x2910 + m.val) 3) ⟨origin, rate⟩) s [.dict, .time] [(0x2900, 0x0C), (0x2900, 0x0D), (0x2900, 0x0E)] (fun t =>
      t.time = { s.time with
        seconds := ((s.now : Int) + off).toNat / 1000000000 % 2 ^ 64, nanos := ((s.now : Int) + off).toNat % 1000000000, frac := 0,
        syncDelta := none, peers := s.time.peers.map (fun x => (x.1, { x.2 with last := none })),
        lockCount := if 100 ≤ off.natAbs then 0 else s.time.lockCount + 1 }
      ∧ t.reg 0x2900 0x0E = s.reg 0x2900 0x0E + 1))
  ∧ (∀ (s : State) (m : PtpPort) (d : Nat) (origin rate : Int),
    s.reg 0x2900 0x0B ≠ 1 ∨ s.upstream m.val = false ∨ d ≠ s.reg (0x2910 + m.val) 3 ∨ (s.ptpMode m.val = 2 ∧ s.asCapable m.val = false) →
    exec (.ptpSyncReceived m d ⟨origin, rate⟩) s = .next s)
  ∧ (∀ (s : State) (m : PtpPort) (e : Egress) (r : Option Int), s.reg 0x2900 0x0B = 1 → s.upstream m.val = true → s.ptpMode m.val = 1 →
    s.reg (0x2A00 + m.val) 9 < 0xFFFFFFFF →
    Does (.delayReqSend ⟨m, e, r⟩) s [.dict, .time, .out] [(0x2A00 + m.val, 9)] (fun t =>
      t.out = .delayReq m.val (s.egressAt m.val e) :: s.out
      ∧ t.reg (0x2A00 + m.val) 9 = s.reg (0x2A00 + m.val) 9 + (if e.held ∧ 4 ≤ m.val then 1 else 0)
      ∧ (∀ t4 d, r = some t4 → s.time.syncDelta = some d →
          t.time = { s.time with pathDelay := (d + (t4 - s.egressAt m.val e)) / 2 })
      ∧ (r = none ∨ s.time.syncDelta = none → t.time = s.time)))
  ∧ (∀ (s : State) (m : PtpPort) (e : Egress) (r : Option Int), s.reg 0x2900 0x0B ≠ 1 ∨ s.upstream m.val = false ∨ s.ptpMode m.val ≠ 1 →
    exec (.delayReqSend ⟨m, e, r⟩) s = .next s)
  ∧ (∀ (s : State), s.reg 0x2900 0x0B = 1 → s.reg 0x2900 0x0C ≠ 3 → s.reg 0x2B00 8 < 0xFFFFFFFF →
    Does .syncTimeout s (.time :: alarmParts) ((0x2900, 0x0C) :: alarmRegs) (fun t =>
      t.reg 0x2900 0x0C = 3 ∧ t.time = { s.time with lockCount := 0, holdoverSince := s.time.cycles }
      ∧ (0x81, 0) ∈ t.safety.warnings ∧ t.reg 0x2B00 8 = s.reg 0x2B00 8 + 1))
  ∧ (∀ (s : State), s.reg 0x2900 0x0B ≠ 1 ∨ s.reg 0x2900 0x0C = 3 → exec .syncTimeout s = .next s)
  ∧ (∀ (s : State), s.reg 0x2900 0x0C = 3 → s.reg 0x2B00 0x0A ≠ 0 → s.reg 0x2B00 5 < 0xFFFFFFFF →
    Does .holdoverLimitExpiry s alarmParts alarmRegs (fun t => t.reg 0x2B00 5 = s.reg 0x2B00 5 + 1))
  ∧ (∀ (s : State), s.reg 0x2900 0x0C ≠ 3 ∨ s.reg 0x2B00 0x0A = 0 → exec .holdoverLimitExpiry s = .next s)

/-- PTP_EVENT_FORWARD completes: a message taken at an enabled 1588 port leaves every other one (here: one), a one-step
Sync or Delay_Req with the residence added to its correction and its UDP checksum zero; a two-step Sync unchanged,
its residence kept; its Follow_Up with that residence, one without a match unchanged and counted in DISCARDS; any
other message unchanged; a forward that waited for the guard is counted at its output MAC. At an 802.1AS port
Announce from upstream leaves the master port, a Pdelay_Req is answered, and Sync and Follow_Up from upstream are
left to the relay. A message of another version or transport, at a port of another mode, of another domain, or a
peer-delay message at a 1588 port, is counted in DISCARDS; at a MAC that is off nothing happens. PDELAY_EXCHANGE
sends a Pdelay_Req; its answer gives the link delay of an 802.1AS port and its neighbour's rate. GPTP_SYNC_RELAY
sends a Sync and a Follow_Up with the scaled correction on the master port. TRIGGER_EDGE of an enabled slot counts
and sends the edge. Where the rules leave room the clauses follow the model's reading (log entries 47, 98, 106). It
says of each of these commands that it completes (exec answers a next state with the effect told above, under
conditions on the state and the operands alone): PTP_EVENT_FORWARD (ptpEventForward), PDELAY_EXCHANGE
(pdelayExchange), GPTP_SYNC_RELAY (gptpSyncRelay), TRIGGER_EDGE (triggerEdge). -/
def Obligations.PtpAndTriggers : Prop :=
  (∀ (s : State) (m o : PtpPort) (msg : PtpMessage) (es : List Egress), s.macOn m.val = true → s.ptpTaken m.val msg = true → s.ptpMode m.val = 1 →
    (egressOf es o.val).held = false ∨ o.val < 4 → s.clockPorts m.val = [o.val] → msg.kind = .syncOneStep ∨ msg.kind = .delayReq →
    Does (.ptpEventForward m msg.version msg.minor msg.toPtpBody es) s [.dict, .out] [(0x2910 + o.val, 7), (0x2910 + o.val, 8), (0x2910 + o.val, 9)] (fun t =>
      t.out = .ptp o.val { msg with correction := msg.correction + s.residence m.val o.val (egressOf es o.val),
                                    checksum := if msg.udp then 0 else msg.checksum } :: s.out
      ∧ t.reg (0x2910 + o.val) 7 = (s.reg (0x2910 + o.val) 7 + 1) % 256 ^ odBytes (0x2910 + o.val) 7
      ∧ t.reg (0x2910 + o.val) 8 = (s.reg (0x2910 + o.val) 8 + 1) % 256 ^ odBytes (0x2910 + o.val) 8))
  ∧ (∀ (s : State) (m o : PtpPort) (msg : PtpMessage) (es : List Egress), s.macOn m.val = true → s.ptpTaken m.val msg = true → s.ptpMode m.val = 1 →
    (egressOf es o.val).held = false ∨ o.val < 4 → s.clockPorts m.val = [o.val] → msg.kind = .syncTwoStep →
    Does (.ptpEventForward m msg.version msg.minor msg.toPtpBody es) s [.dict, .ptpPending, .out] [(0x2910 + o.val, 7)] (fun t =>
      t.out = .ptp o.val msg :: s.out
      ∧ t.ptpPending = s.ptpPending ++
          [⟨o.val, msg.sourcePort, msg.sequenceId, msg.domain, s.residence m.val o.val (egressOf es o.val), s.time.cycles⟩]))
  ∧ (∀ (s : State) (m o : PtpPort) (msg : PtpMessage) (es : List Egress) (p : PtpPending), s.macOn m.val = true → s.ptpTaken m.val msg = true →
    s.ptpMode m.val = 1 → (egressOf es o.val).held = false ∨ o.val < 4 → s.clockPorts m.val = [o.val] → msg.kind = .followUp →
    s.ptpPending.find? (fun p => p.out == o.val && p.sourcePort == msg.sourcePort && p.sequenceId == msg.sequenceId
      && p.domain == msg.domain && decide (s.time.cycles ≤ p.tIn + 100000000)) = some p →
    Does (.ptpEventForward m msg.version msg.minor msg.toPtpBody es) s [.dict, .ptpPending, .out]
      [(0x2910 + o.val, 7), (0x2910 + o.val, 8), (0x2910 + o.val, 9)] (fun t =>
      t.out = .ptp o.val { msg with correction := msg.correction + p.residence, checksum := if msg.udp then 0 else msg.checksum } :: s.out
      ∧ t.ptpPending = s.ptpPending.filter (· ≠ p)))
  ∧ (∀ (s : State) (m o : PtpPort) (msg : PtpMessage) (es : List Egress), s.macOn m.val = true → s.ptpTaken m.val msg = true → s.ptpMode m.val = 1 →
    (egressOf es o.val).held = false ∨ o.val < 4 → s.clockPorts m.val = [o.val] → msg.kind = .followUp →
    s.ptpPending.any (fun p => p.out == o.val && p.sourcePort == msg.sourcePort && p.sequenceId == msg.sequenceId
      && p.domain == msg.domain && decide (s.time.cycles ≤ p.tIn + 100000000)) = false → s.reg (0x2910 + o.val) 0x0B < 0xFFFFFFFF →
    Does (.ptpEventForward m msg.version msg.minor msg.toPtpBody es) s [.dict, .out] [(0x2910 + o.val, 7), (0x2910 + o.val, 0x0B)] (fun t =>
      t.out = .ptp o.val msg :: s.out ∧ t.reg (0x2910 + o.val) 0x0B = s.reg (0x2910 + o.val) 0x0B + 1))
  ∧ (∀ (s : State) (m o : PtpPort) (msg : PtpMessage) (es : List Egress), s.macOn m.val = true → s.ptpTaken m.val msg = true → s.ptpMode m.val = 1 →
    (egressOf es o.val).held = false ∨ o.val < 4 → s.clockPorts m.val = [o.val] → msg.kind = .general ∨ msg.kind = .announce →
    Does (.ptpEventForward m msg.version msg.minor msg.toPtpBody es) s [.dict, .out] [(0x2910 + o.val, 7)] (fun t => t.out = .ptp o.val msg :: s.out))
  ∧ (∀ (s : State) (m o : PtpPort) (msg : PtpMessage) (es : List Egress), s.macOn m.val = true → s.ptpTaken m.val msg = true → s.ptpMode m.val = 1 →
    (egressOf es o.val).held = true → 4 ≤ o.val → s.clockPorts m.val = [o.val] → msg.kind = .general ∨ msg.kind = .announce →
    s.reg (0x2A00 + o.val) 9 < 0xFFFFFFFF →
    Does (.ptpEventForward m msg.version msg.minor msg.toPtpBody es) s [.dict, .out] [(0x2910 + o.val, 7), (0x2A00 + o.val, 9)] (fun t =>
      t.out = .ptp o.val msg :: s.out ∧ t.reg (0x2A00 + o.val) 9 = s.reg (0x2A00 + o.val) 9 + 1))
  ∧ (∀ (s : State) (m o : PtpPort) (msg : PtpMessage) (es : List Egress), s.macOn m.val = true → s.ptpTaken m.val msg = true → s.ptpMode m.val = 2 →
    msg.domain = 0 → msg.kind = .announce → s.upstream m.val = true → (egressOf es o.val).held = false ∨ o.val < 4 →
    (List.range 6).filter (fun o => o ≠ m.val && s.macOn o && s.ptpMode o == 2 && s.reg (0x2910 + o) 2 == 0) = [o.val] →
    Does (.ptpEventForward m msg.version msg.minor msg.toPtpBody es) s [.dict, .out] [(0x2910 + o.val, 7)] (fun t => t.out = .ptp o.val msg :: s.out))
  ∧ (∀ (s : State) (m : PtpPort) (msg : PtpMessage) (es : List Egress), s.macOn m.val = true → s.ptpTaken m.val msg = true → s.ptpMode m.val = 2 →
    msg.domain = 0 → msg.kind = .pdelay → (egressOf es m.val).held = false ∨ m.val < 4 →
    Does (.ptpEventForward m msg.version msg.minor msg.toPtpBody es) s [.out] [] (fun t =>
      t.out = .pdelayResp m.val ((s.now : Int) - s.reg (0x2910 + m.val) 5) (s.egressAt m.val (egressOf es m.val)) :: s.out))
  ∧ (∀ (s : State) (m : PtpPort) (msg : PtpMessage) (es : List Egress), s.macOn m.val = true → s.ptpTaken m.val msg = true → s.ptpMode m.val = 2 →
    msg.domain = 0 → msg.kind = .syncTwoStep ∨ msg.kind = .followUp → s.upstream m.val = true → exec (.ptpEventForward m msg.version msg.minor msg.toPtpBody es) s = .next s)
  ∧ (∀ (s : State) (m : PtpPort) (msg : PtpMessage) (es : List Egress), s.macOn m.val = true →
    s.ptpTaken m.val msg = false ∨ (s.ptpMode m.val = 1 ∧ msg.kind = .pdelay) ∨ s.ptpMode m.val = 0 ∨ (s.ptpMode m.val = 2 ∧ msg.domain ≠ 0)
      ∨ (s.ptpMode m.val = 2 ∧ (msg.kind = .general ∨ msg.kind = .syncOneStep ∨ msg.kind = .delayReq))
      ∨ (s.ptpMode m.val = 2 ∧ s.upstream m.val = false ∧ msg.kind ≠ .pdelay) →
    s.reg (0x2910 + m.val) 0x0B < 0xFFFFFFFF →
    Does (.ptpEventForward m msg.version msg.minor msg.toPtpBody es) s [.dict] [(0x2910 + m.val, 0x0B)] (fun t =>
      t.reg (0x2910 + m.val) 0x0B = s.reg (0x2910 + m.val) 0x0B + 1))
  ∧ (∀ (s : State) (m : PtpPort) (msg : PtpMessage) (es : List Egress), s.macOn m.val = false → exec (.ptpEventForward m msg.version msg.minor msg.toPtpBody es) s = .next s)
  ∧ (∀ (s : State) (m : PtpPort) (e : Egress), s.macOn m.val = true → s.ptpMode m.val = 2 → e.held = false ∨ m.val < 4 →
    Does (.pdelayExchange m ⟨e, none⟩) s [.out] [] (fun t => t.out = .pdelayReq m.val (s.egressAt m.val e) :: s.out))
  ∧ (∀ (s : State) (m : PtpPort) (e : Egress) (a : PdelayAnswer), s.macOn m.val = true → s.ptpMode m.val = 2 → e.held = false ∨ m.val < 4 →
    (∀ l, (s.peer m.val).last = some l → s.egressAt m.val e + a.back ≤ l.2) →
    Does (.pdelayExchange m ⟨e, some a⟩) s [.dict, .time, .out] [(0x2910 + m.val, 0x0A)] (fun t =>
      t.out = .pdelayReq m.val (s.egressAt m.val e) :: s.out
      ∧ t.reg (0x2910 + m.val) 0x0A
          = (clampI 0 (2 ^ 32 - 1) ((scaled (a.back : Int) (s.peer m.val).rate - (a.t3 - a.t2)) / 2)).toNat
      ∧ t.peer m.val = ⟨some (a.t3, s.egressAt m.val e + a.back), (s.peer m.val).rate⟩ ∧ KeptBut State.peer [m.val] s t
      ∧ t.time = { s.time with peers := t.time.peers }))
  ∧ (∀ (s : State) (m : PtpPort) (e : Egress) (a : PdelayAnswer) (l : Int × Int), s.macOn m.val = true → s.ptpMode m.val = 2 →
    e.held = false ∨ m.val < 4 → (s.peer m.val).last = some l → l.2 < s.egressAt m.val e + a.back →
    Does (.pdelayExchange m ⟨e, some a⟩) s [.dict, .time, .out] [(0x2910 + m.val, 0x0A)] (fun t =>
      (t.peer m.val).rate = (a.t3 - l.1) * 2 ^ 41 / (s.egressAt m.val e + a.back - l.2) - 2 ^ 41
      ∧ (t.peer m.val).last = some (a.t3, s.egressAt m.val e + a.back) ∧ KeptBut State.peer [m.val] s t
      ∧ t.time = { s.time with peers := t.time.peers }
      ∧ t.reg (0x2910 + m.val) 0x0A
          = (clampI 0 (2 ^ 32 - 1) ((scaled (a.back : Int) (t.peer m.val).rate - (a.t3 - a.t2)) / 2)).toNat))
  ∧ (∀ (s : State) (m : PtpPort) (e : Egress) (a : Option PdelayAnswer), s.macOn m.val = false ∨ s.ptpMode m.val ≠ 2 →
    exec (.pdelayExchange m ⟨e, a⟩) s = .next s)
  ∧ (∀ (s : State) (m o : PtpPort) (c r : Int) (es : List Egress), s.upstream m.val = true → s.ptpMode m.val = 2 → s.asCapable m.val = true →
    (s.masterPorts m.val).filter s.asCapable = [o.val] → (egressOf es o.val).held = false ∨ o.val < 4 →
    Does (.gptpSyncRelay m c r es) s [.out] [] (fun t =>
      t.out = .gptpFollowUp o.val
          (c + ((s.reg (0x2910 + m.val) 0x0A : Int) * 65536 + s.residence m.val o.val (egressOf es o.val))
            * (2 ^ 41 + (r + (s.peer m.val).rate)) / 2 ^ 41) (r + (s.peer m.val).rate)
        :: .gptpSync o.val (s.egressAt o.val (egressOf es o.val)) :: s.out))
  ∧ (∀ (s : State) (m : PtpPort) (c r : Int) (es : List Egress), s.upstream m.val = false ∨ s.ptpMode m.val ≠ 2 ∨ s.asCapable m.val = false →
    exec (.gptpSyncRelay m c r es) s = .next s)
  ∧ (∀ (s : State) (p : PortId) (v : Fin 4), bit (s.reg (0x2920 + p.val) 1) v.val = true →
    Does (.triggerEdge p v) s [.dict, .out] [(0x2920 + p.val, 8)] (fun t =>
      t.out = .trigger p.val v.val :: s.out ∧ t.reg (0x2920 + p.val) 8 = (s.reg (0x2920 + p.val) 8 + 1) % 256 ^ odBytes (0x2920 + p.val) 8))
  ∧ (∀ (s : State) (p : PortId) (v : Fin 4), bit (s.reg (0x2920 + p.val) 1) v.val = false → exec (.triggerEdge p v) s = .next s)

/-- LAUNCH_ENTRY_MAP completes: of the launch queue whose turn it is in rotation it takes the head of its entry queue;
of another it does nothing. A direct event whose grid instant is accepted enters the calendar at it; one earlier
than the minimum lead is dropped and counted, and the next frame carries LATE_SEEN. LAUNCH_FRAME_SEND takes the
earliest instant, applies its events to the hold counts and sends one frame with its header, the state, what
changed, and the flags; KEEPALIVE sends a frame with CHANGED zero unless events are due at the instant. ENABLE
starts a queue of a loaded plan with an empty calendar and counts zero, and is refused beside a queue of its MAC
with its subslot or its nozzles; DISABLE discards the calendar, sends a frame with STATE zero, VALID clear and
FORCED_OFF set, and zeroes the counts. SPEED_WRITE stores and counts the speed. A lost output link is counted, and a
fault of the queues that use it; OUTPUT_LINK_UP shows it up. Where the rules leave room the clauses follow the
model's reading (log entries 48, 49). It says of each of these commands that it completes (exec answers a next state
with the effect told above, under conditions on the state and the operands alone): LAUNCH_ENTRY_MAP
(launchEntryMap), LAUNCH_FRAME_SEND (launchFrameSend), KEEPALIVE (keepalive), LAUNCH_QUEUE_ENABLE
(launchQueueEnable), LAUNCH_QUEUE_DISABLE (launchQueueDisable), SPEED_WRITE (speedWrite), OUTPUT_LINK_LOSS
(outputLinkLoss), OUTPUT_LINK_UP (outputLinkUp). -/
def Obligations.LaunchQueues : Prop :=
  (∀ (s : State) (l : LaunchId), s.reg (0x2A10 + l.val) 2 ≠ 1 ∨ (s.queue (lqIn (s.launch l.val).body)).enabled = false
      ∨ (s.queue (lqIn (s.launch l.val).body)).consumer ≠ 0x220 + l.val ∨ (s.queue (lqIn (s.launch l.val).body)).count = 0
      ∨ s.mapNext ≠ some l.val → exec (.launchEntryMap l) s = .next s)
  ∧ (∀ (s : State) (l : LaunchId) (q : Nat) (e : List Byte) (at_ : Int), s.mapNext = some l.val → q = lqIn (s.launch l.val).body →
    s.queuePeek q 1 = (0, [e]) → field e 0 1 = 0x30 → field e 1 1 ≤ 1 →
    lqFirst (s.launch l.val).body ≤ field e 2 2 → field e 2 2 < lqFirst (s.launch l.val).body + lqCount (s.launch l.val).body →
    at_ = s.gridNear (s.launch l.val).body (fullNs s.time.seconds (field e 8 8)) → s.insertCheck l.val at_ = 0 →
    Does (.launchEntryMap l) s [.dict, .mem, .flips, .queues, .launches] ((0x2A10 + l.val, 0x0E) :: readRegs ++ countRegs) (fun t =>
      t.launch l.val = { s.launch l.val with
        mapped := true
        calendar := tblIns (tblDel (s.launch l.val).calendar at_.toNat) at_.toNat
          (tblGet [] (s.launch l.val).calendar at_.toNat ++ [⟨field e 2 2, field e 1 1 == 1, bit (field e 4 1) 0⟩]) }
      ∧ (∀ j, j < 8 → j ≠ l.val → t.launch j = { s.launch j with mapped := false })
      ∧ (t.queue q).count = (s.queue q).count - 1 ∧ KeptBut State.queue [q] s t ∧ BytesSame s t))
  ∧ (∀ (s : State) (l : LaunchId) (q : Nat) (e : List Byte) (at_ : Int), s.mapNext = some l.val → q = lqIn (s.launch l.val).body →
    s.queuePeek q 1 = (0, [e]) → field e 0 1 = 0x30 → field e 1 1 ≤ 1 →
    lqFirst (s.launch l.val).body ≤ field e 2 2 → field e 2 2 < lqFirst (s.launch l.val).body + lqCount (s.launch l.val).body →
    at_ = s.gridNear (s.launch l.val).body (fullNs s.time.seconds (field e 8 8)) → at_ < s.now + 20000 → s.reg (0x2A10 + l.val) 7 < 0xFFFFFFFF →
    Does (.launchEntryMap l) s [.dict, .mem, .flips, .queues, .launches] ([(0x2A10 + l.val, 7), (0x2A10 + l.val, 0x0D)] ++ readRegs ++ countRegs) (fun t =>
      t.launch l.val = { s.launch l.val with mapped := true, lateSeen := true }
      ∧ (∀ j, j < 8 → j ≠ l.val → t.launch j = { s.launch j with mapped := false })
      ∧ t.reg (0x2A10 + l.val) 7 = s.reg (0x2A10 + l.val) 7 + 1
      ∧ (t.queue q).count = (s.queue q).count - 1 ∧ KeptBut State.queue [q] s t ∧ BytesSame s t))
  ∧ (∀ (s : State) (l : LaunchId) (m : OutMac) (at_ p : Nat) (es : List LaunchEvent) (rest : List (Nat × List LaunchEvent)) (k : LaunchQ)
      (forced : Bool) (state : Nat),
    s.reg (0x2A10 + l.val) 2 = 1 → s.flips = [] → (s.launch l.val).calendar = (at_, es) :: rest →
    k = applyEvents at_ es { s.launch l.val with calendar := rest } → maxOnNozzles k at_ = [] →
    lqMac (s.launch l.val).body = 4 + m.val → s.reg (0x2A04 + m.val) 6 = 1 → s.reg (0x2A04 + m.val) 7 = 1 → p = s.launchPart l.val →
    forced = (field (s.launch l.val).body 12 1 == 1 && !s.valid p) → state = (if forced then 0 else holdState k) →
    Does (.launchFrameSend l) s [.dict, .launches, .out, .dbg]
        ([(0x2A10 + l.val, 5), (0x2A10 + l.val, 6), (0x2A04 + m.val, 8)] ++ traceRegs) (fun t =>
      t.launch l.val = { k with sequence := (k.sequence + 1) % 2 ^ 32, lastState := state, lateSeen := false, lastSent := at_ }
      ∧ KeptBut State.launch [l.val] s t
      ∧ t.reg (0x2A10 + l.val) 6 = (s.reg (0x2A10 + l.val) 6 + es.length) % 256 ^ odBytes (0x2A10 + l.val) 6
      ∧ t.out = .launch (4 + m.val) (s.launchHeader (4 + m.val)) (launchPayload
          (b2n (s.valid p) + b2n (s.debugFlag p) * 2 + b2n (es.any (·.degraded)) * 4 + b2n (s.launch l.val).lateSeen * 16 + b2n forced * 32)
          l.val p (s.launch l.val).sequence (lqFirst (s.launch l.val).body) (lqCount (s.launch l.val).body) (at_ / 1000000000)
          (at_ % 1000000000) state (state ^^^ (s.launch l.val).lastState)) :: s.out))
  ∧ (∀ (s : State) (l : LaunchId), (s.launch l.val).calendar = [] ∨ s.reg (0x2A10 + l.val) 2 ≠ 1 → exec (.launchFrameSend l) s = .next s)
  ∧ (∀ (s : State) (l : LaunchId) (m : OutMac) (p : Nat) (forced : Bool) (state : Nat),
    s.reg (0x2A10 + l.val) 2 = 1 → (s.launch l.val).calendar.head?.any (fun e => decide (e.1 ≤ s.gridNext (s.launch l.val).body)) = false →
    lqMac (s.launch l.val).body = 4 + m.val → s.reg (0x2A04 + m.val) 6 = 1 → s.reg (0x2A04 + m.val) 7 = 1 → p = s.launchPart l.val →
    forced = (field (s.launch l.val).body 12 1 == 1 && !s.valid p) → state = (if forced then 0 else holdState (s.launch l.val)) →
    Does (.keepalive l) s [.dict, .launches, .out, .dbg] ([(0x2A10 + l.val, 5), (0x2A04 + m.val, 8)] ++ traceRegs) (fun t =>
      t.launch l.val = { s.launch l.val with
        sequence := ((s.launch l.val).sequence + 1) % 2 ^ 32, lastState := state, lateSeen := false,
        lastSent := s.gridNext (s.launch l.val).body }
      ∧ KeptBut State.launch [l.val] s t
      ∧ t.out = .launch (4 + m.val) (s.launchHeader (4 + m.val)) (launchPayload
          (b2n (s.valid p) + b2n (s.debugFlag p) * 2 + 8 + b2n (s.launch l.val).lateSeen * 16 + b2n forced * 32)
          l.val p (s.launch l.val).sequence (lqFirst (s.launch l.val).body) (lqCount (s.launch l.val).body)
          (s.gridNext (s.launch l.val).body / 1000000000) (s.gridNext (s.launch l.val).body % 1000000000) state 0) :: s.out))
  ∧ (∀ (s : State) (l : LaunchId),
    s.reg (0x2A10 + l.val) 2 ≠ 1 ∨ (s.launch l.val).calendar.head?.any (fun e => decide (e.1 ≤ s.gridNext (s.launch l.val).body)) = true →
    exec (.keepalive l) s = .next s)
  ∧ (∀ (s : State) (a : Agent) (l : LaunchId), Admitted s a (0x2A10 + l.val) 2 1 1 → s.reg (0x2A10 + l.val) 2 ≠ 1 → s.reg (0x2A10 + l.val) 1 ≠ 0 →
    s.planHeld (s.launchPart l.val) = true → s.reg (0x2A00 + lqMac (s.launch l.val).body) 6 = 1 →
    (∀ j, j < 8 → j ≠ l.val → s.reg (0x2A10 + j) 2 = 1 → lqMac (s.launch j).body = lqMac (s.launch l.val).body →
      lqSubslot (s.launch j).body ≠ lqSubslot (s.launch l.val).body
      ∧ (lqFirst (s.launch j).body + lqCount (s.launch j).body ≤ lqFirst (s.launch l.val).body
        ∨ lqFirst (s.launch l.val).body + lqCount (s.launch l.val).body ≤ lqFirst (s.launch j).body)) →
    Does (.launchQueueEnable a l) s [.dict, .launches, .replies] [(0x2A10 + l.val, 1), (0x2A10 + l.val, 2)] (fun t =>
      Replied a 0 0 t ∧ t.reg (0x2A10 + l.val) 2 = 1 ∧ t.reg (0x2A10 + l.val) 1 = 2
      ∧ t.launch l.val = { LaunchQ.init with
          body := (s.launch l.val).body, lastSent := s.now, mapped := (s.launch l.val).mapped }
      ∧ KeptBut State.launch [l.val] s t))
  ∧ (∀ (s : State) (a : Agent) (l j : LaunchId), Admitted s a (0x2A10 + l.val) 2 1 1 → s.reg (0x2A10 + l.val) 2 ≠ 1 →
    s.reg (0x2A10 + l.val) 1 = 0 ∨ s.planHeld (s.launchPart l.val) = false ∨ s.reg (0x2A00 + lqMac (s.launch l.val).body) 6 ≠ 1
      ∨ (j ≠ l ∧ s.reg (0x2A10 + j.val) 2 = 1 ∧ lqMac (s.launch j.val).body = lqMac (s.launch l.val).body
          ∧ lqSubslot (s.launch j.val).body = lqSubslot (s.launch l.val).body) →
    Does (.launchQueueEnable a l) s [.replies] [] (Replied a 0x08000022 0))
  ∧ (∀ (s : State) (a : Agent) (l : LaunchId) (m : OutMac), Admitted s a (0x2A10 + l.val) 2 1 0 → s.reg (0x2A10 + l.val) 2 = 1 →
    lqMac (s.launch l.val).body = 4 + m.val → s.reg (0x2A04 + m.val) 6 = 1 → s.reg (0x2A04 + m.val) 7 = 1 →
    Does (.launchQueueDisable a l) s [.dict, .launches, .out, .dbg, .replies]
        ([(0x2A10 + l.val, 1), (0x2A10 + l.val, 2), (0x2A10 + l.val, 5), (0x2A04 + m.val, 8)] ++ traceRegs) (fun t =>
      Replied a 0 0 t ∧ t.reg (0x2A10 + l.val) 2 = 0 ∧ t.reg (0x2A10 + l.val) 1 = 1
      ∧ (t.launch l.val).calendar = [] ∧ (t.launch l.val).counts = [] ∧ (t.launch l.val).lastState = 0 ∧ KeptBut State.launch [l.val] s t
      ∧ t.out = .launch (4 + m.val) (s.launchHeader (4 + m.val)) (launchPayload
          (b2n (s.debugFlag (s.launchPart l.val)) * 2 + b2n (s.launch l.val).lateSeen * 16 + 32)
          l.val (s.launchPart l.val) (s.launch l.val).sequence (lqFirst (s.launch l.val).body) (lqCount (s.launch l.val).body)
          (s.gridNext (s.launch l.val).body / 1000000000) (s.gridNext (s.launch l.val).body % 1000000000) 0 (s.launch l.val).lastState) :: s.out))
  ∧ (∀ (s : State) (a : Agent) (v : Nat), Admitted s a 0x2A01 1 4 v →
    Does (.speedWrite a v) s [.dict, .speedAt, .replies] [(0x2A01, 1), (0x2A01, 2)] (fun t =>
      Replied a 0 0 t ∧ t.reg 0x2A01 1 = v % 2 ^ 32 ∧ t.speedAt = some s.time.cycles ∧ t.reg 0x2A01 2 = (s.reg 0x2A01 2 + 1) % 2 ^ 32))
  ∧ (∀ (s : State) (m : OutMac), s.reg (0x2A04 + m.val) 7 = 1 → s.reg (0x2A04 + m.val) 0x0A < 0xFFFFFFFF →
    (List.range 8).all (fun l => s.reg (0x2A10 + l) 2 != 1 || lqMac (s.launch l).body != 4 + m.val) = true →
    Does (.outputLinkLoss m) s [.dict] [(0x2A04 + m.val, 7), (0x2A04 + m.val, 0x0A)] (fun t =>
      t.reg (0x2A04 + m.val) 7 = 0 ∧ t.reg (0x2A04 + m.val) 0x0A = s.reg (0x2A04 + m.val) 0x0A + 1))
  ∧ (∀ (s : State) (m : OutMac) (l : LaunchId), s.reg (0x2A04 + m.val) 7 = 1 → s.reg 0x2B00 5 < 0xFFFFFFFF → s.launchPart l.val < 8 →
    s.reg (0x2A04 + m.val) 0x0A < 0xFFFFFFFF →
    (List.range 8).filter (fun l => s.reg (0x2A10 + l) 2 == 1 && lqMac (s.launch l).body == 4 + m.val) = [l.val] →
    Does (.outputLinkLoss m) s alarmParts ([(0x2A04 + m.val, 7), (0x2A04 + m.val, 0x0A)] ++ alarmRegs) (fun t =>
      t.reg (0x2A04 + m.val) 7 = 0 ∧ t.reg (0x2A04 + m.val) 0x0A = s.reg (0x2A04 + m.val) 0x0A + 1 ∧ t.reg 0x2B00 5 = s.reg 0x2B00 5 + 1))
  ∧ (∀ (s : State) (m : OutMac), s.reg (0x2A04 + m.val) 7 ≠ 1 → exec (.outputLinkLoss m) s = .next s)
  ∧ (∀ (s : State) (m : OutMac), 9 ≤ s.boot.released →
    Does (.outputLinkUp m) s [.dict, .safety] ((0x2A04 + m.val, 7) :: (List.range 8).map (fun p => (0x2B08 + p, 1)))
      (fun t => t.reg (0x2A04 + m.val) 7 = 1))
  ∧ (∀ (s : State) (m : OutMac), s.boot.released < 9 → exec (.outputLinkUp m) s = .next s)

/-- FAULT_DETECT completes: a class D or T code latches each partition in scope (all of them for 12h, 17h, 18h, for a
fault inside an engine and for the shared blocks): STATE becomes RETRYING, or LASTING for CONFIG and where it was
LASTING; code, stamp and count are stored, the event waits for its classification, geyser passes and ACK are void,
DETECTED rises by one, and no other partition's STATE changes. Beside that a parity error spoils the work it meets:
of a spindle's instruction the set is poisoned, of a descriptor the stream ends with 31h, of an engine the job ends
with 03h, of a decoder the sample has cause 09h, of an access to the dictionary it ends with 0606_0000h. Another
code does nothing. WARNING puts the warning in force and counts it, and changes no STATE. MONITOR_REFRESH of a
running monitor refreshes the release of FAULT_N; MONITOR ends it and latches every partition. WATCH_CHECK counts
and raises a watch whose object is short, and does nothing where it is met or not checked. IO_CHECKER_TEST raises an
event of every partition where it fails. Where the rules leave room the clauses follow the model's reading (log
entries 35, 53, 102). It says of each of these commands that it completes (exec answers a next state with the effect
told above, under conditions on the state and the operands alone): FAULT_DETECT (faultDetect), WARNING (warning),
MONITOR_REFRESH (monitorRefresh), MONITOR (monitor), WATCH_CHECK (watchCheck), IO_CHECKER_TEST (ioCheckerTest). -/
def Obligations.FaultsAndWarnings : Prop :=
  (∀ (s : State) (code src det : Nat) (p : PartId), 0 < code → code ≤ 0x18 → code ≠ 0x12 → code ≠ 0x17 → code ≠ 0x18 →
    (code ≠ 1 ∧ code ≠ 0x0F ∧ code ≠ 0x15) ∨ src ≠ 0xFFFF → s.reg 0x2B00 5 < 0xFFFFFFFF → s.reg (0x2B08 + p.val) 7 < 0xFFFFFFFF →
    Does (.faultDetect code p ⟨src, .none⟩ det) s alarmParts alarmRegs (fun t =>
      t.reg (0x2B08 + p.val) 1 = (if s.partState p.val = 3 ∨ code = 0x16 then 3 else 1) ∧ t.reg (0x2B08 + p.val) 5 = code
      ∧ t.reg (0x2B08 + p.val) 6 = s.stamp % 2 ^ 64 ∧ t.reg (0x2B08 + p.val) 7 = s.reg (0x2B08 + p.val) 7 + 1
      ∧ t.reg 0x2B00 5 = s.reg 0x2B00 5 + 1
      ∧ t.part p.val = { s.part p.val with
          pending := if code = 0x16 then (s.part p.val).pending
            else (s.part p.val).pending ++ [⟨code, src, det, s.stamp, false, 0, 0, none⟩],
          geyserPassed := [], acked := false }
      ∧ ∀ q, q ≠ p.val → q < 8 → t.partState q = s.partState q ∧ t.part q = s.part q))
  ∧ (∀ (s : State) (code src det : Nat) (p : PartId), code = 0x12 ∨ code = 0x17 ∨ code = 0x18 ∨ (code ∈ [1, 0x0F, 0x15] ∧ src = 0xFFFF) →
    s.reg 0x2B00 5 < 0xFFFFFFFF →
    Does (.faultDetect code p ⟨src, .none⟩ det) s alarmParts alarmRegs (fun t =>
      t.reg 0x2B00 5 = s.reg 0x2B00 5 + 1
      ∧ ∀ q, q < 8 → t.partState q = (if s.partState q = 3 then 3 else 1)
        ∧ t.part q = { s.part q with
            pending := (s.part q).pending ++ [⟨code, src, det, s.stamp, true, 0, 0, none⟩], geyserPassed := [], acked := false }))
  ∧ (∀ (s : State) (src det : Nat) (p : PartId) (u : SpindleId) (r : SpInstr × Nat), src ≠ 0xFFFF → s.reg 0x2B00 5 < 0xFFFFFFFF →
    (s.spindle u.val).running = some r → (s.spindle u.val).poison.contains r.1.set = false →
    Does (.faultDetect 1 p ⟨src, .spindle u⟩ det) s (.spindles :: alarmParts) alarmRegs (fun t =>
      t.spindle u.val = { s.spindle u.val with poison := (s.spindle u.val).poison ++ [r.1.set] } ∧ KeptBut State.spindle [u.val] s t
      ∧ (t.part p.val).pending = (s.part p.val).pending ++ [⟨1, src, det, s.stamp, false, 1 + u.val / 32, 0, none⟩]
      ∧ t.partState p.val = (if s.partState p.val = 3 then 3 else 1) ∧ t.reg 0x2B00 5 = s.reg 0x2B00 5 + 1))
  ∧ (∀ (s : State) (src det i : Nat) (p : PartId) (g : SkeinId) (f : Flight), (s.skein g.val).flights[i]? = some f → s.streamLive g.val = true →
    s.reg 0x2E30 4 = 0xFFFF → s.skeinPart g.val < 8 → s.reg 0x2B00 5 < 0xFFFFFFFF →
    Does (.faultDetect 1 p ⟨src, .descriptor g i⟩ det) s (.skeins :: alarmParts) (endRegs g.val ++ alarmRegs) (fun t =>
      t.reg (0x2440 + g.val) 1 = 4 ∧ t.reg (0x2440 + g.val) 2 = 0x31 ∧ t.reg (0x2440 + g.val) 3 = f.addr % 2 ^ 64
      ∧ t.reg (0x2440 + g.val) 6 = tagOf f.word ∧ t.reg 0x2B00 5 = s.reg 0x2B00 5 + 1
      ∧ (t.skein g.val).flights = ((s.skein g.val).flights.filter (fun x => x.serial ≠ f.serial)).filter (fun x => !isControl x.word)
      ∧ KeptBut State.skein [g.val] s t))
  ∧ (∀ (s : State) (src det : Nat) (p : PartId) (e : EngineId) (j : Job), s.engine e.val = some j → s.reg 0x2B00 5 < 0xFFFFFFFF →
    Does (.faultDetect 0x0F p ⟨src, .engine e⟩ det) s (.engines :: alarmParts) alarmRegs (fun t =>
      t.engine e.val = some (failedJob j 3) ∧ (∀ x, x ≠ e.val → t.engine x = s.engine x) ∧ t.reg 0x2B00 5 = s.reg 0x2B00 5 + 1
      ∧ ∀ q, q < 8 → t.partState q = (if s.partState q = 3 then 3 else 1)))
  ∧ (∀ (s : State) (src det off : Nat) (p : PartId) (d : DecoderId) (x : Sample), (s.decoder d.val).sample = some x → x.decoded = false →
    s.streamPart (40 + d.val) < 8 → s.reg 0x2B00 5 < 0xFFFFFFFF →
    Does (.faultDetect 0x14 p ⟨src, .decoder d off⟩ det) s (.decoders :: alarmParts) ((0x2610 + d.val, 8) :: alarmRegs) (fun t =>
      t.reg 0x2B00 5 = s.reg 0x2B00 5 + 1 ∧ KeptBut State.decoder [d.val] s t
      ∧ ∃ y, (t.decoder d.val).sample = some y ∧ y.decoded = true ∧ y.cause = 9 ∧ y.points = 0 ∧ y.number = x.number))
  ∧ (∀ (s : State) (src det c : Nat) (p : PartId) (a : Agent), (a, c) ∈ [(Agent.can0, 0), (Agent.can1, 1)] → src ≠ 0xFFFF → s.canEnabled c = true →
    s.reg 0x2B00 5 < 0xFFFFFFFF →
    Does (.faultDetect 1 p ⟨src, .access a⟩ det) s (.replies :: alarmParts) alarmRegs (fun t =>
      Replied a 0x06060000 0 t ∧ t.reg 0x2B00 5 = s.reg 0x2B00 5 + 1 ∧ .usdo c 0x06060000 0 0 ∈ t.out))
  ∧ (∀ (s : State) (src det i : Nat) (rest : List Nat) (p : PartId), s.mirrorQueue = i :: rest → src ≠ 0xFFFF → s.reg 0x2B00 5 < 0xFFFFFFFF →
    Does (.faultDetect 1 p ⟨src, .access .mirror⟩ det) s ([.replies, .mailboxes, .mirrorQueue] ++ alarmParts) alarmRegs (fun t =>
      t.mirrorQueue = rest ∧ (t.mailbox i).busy = false ∧ (t.mailbox i).done = true ∧ (t.mailbox i).aborted = true
      ∧ (t.mailbox i).abort = 0x06060000 ∧ KeptBut State.mailbox [i] s t ∧ t.reg 0x2B00 5 = s.reg 0x2B00 5 + 1))
  ∧ (∀ (s : State) (code src det : Nat) (p : PartId) (u : FaultUnit), code = 0 ∨ 0x18 < code → exec (.faultDetect code p ⟨src, u⟩ det) s = .next s)
  ∧ (∀ (s : State) (code src det : Nat) (p : PartId), code = 0x80 ∨ code = 0x81 ∨ code = 0x82 → s.reg 0x2B00 8 < 0xFFFFFFFF →
    Does (.warning code p src det) s alarmParts ((0x2B30, 5) :: alarmRegs) (fun t =>
      (code, src) ∈ t.safety.warnings ∧ t.reg 0x2B00 8 = s.reg 0x2B00 8 + 1 ∧ (∀ q, q < 8 → t.partState q = s.partState q ∧ t.part q = s.part q)
      ∧ t.reg (0x2B08 + p.val) 5 = code ∧ t.reg (0x2B08 + p.val) 6 = s.stamp % 2 ^ 64
      ∧ (code = 0x82 → s.reg 0x2B30 5 < 0xFFFFFFFF → t.reg 0x2B30 5 = s.reg 0x2B30 5 + 1)))
  ∧ (∀ (s : State) (code src det : Nat) (p : PartId), code ∉ [0x80, 0x81, 0x82] → exec (.warning code p src det) s = .next s)
  ∧ (∀ (s : State), s.boot.image ≠ [] →
    Does .monitorRefresh s [.safety] [] (fun t => t.safety = { s.safety with refreshed := true, monitorLost := false }))
  ∧ (∀ (s : State), s.boot.image = [] → exec .monitorRefresh s = .next s)
  ∧ (∀ (s : State), s.safety.refreshed = true → s.reg 0x2B00 5 < 0xFFFFFFFF →
    Does .monitor s alarmParts alarmRegs (fun t =>
      t.safety.refreshed = false ∧ t.safety.monitorLost = true ∧ t.reg 0x2B00 5 = s.reg 0x2B00 5 + 1 ∧ t.faultN = 1
      ∧ ∀ q, q < 8 → t.partState q = (if s.partState q = 3 then 3 else 1)))
  ∧ (∀ (s : State), s.safety.refreshed = false → exec .monitor s = .next s)
  ∧ (∀ (s : State) (p : PartId) (w : Fin 8) (v : Nat), v = s.reg (0x2B20 + p.val) (w.val + 1) → bit v 127 = true → s.watchOn p.val = true →
    bits v 119 116 ≤ (s.plan p.val).frame →
    syncReached (s.sync (bits v 16 0)) (watchTarget v (tblGet 0 (s.part p.val).bases w.val) (s.plan p.val).frame) = false →
    s.reg (0x2B20 + p.val) 9 < 0xFFFFFFFF → s.reg 0x2B00 5 < 0xFFFFFFFF →
    Does (.watchCheck p w) s alarmParts ((0x2B20 + p.val, 9) :: alarmRegs) (fun t =>
      t.reg (0x2B20 + p.val) 9 = s.reg (0x2B20 + p.val) 9 + 1 ∧ t.reg 0x2B00 5 = s.reg 0x2B00 5 + 1
      ∧ t.partState p.val = (if s.partState p.val = 3 then 3 else 1)))
  ∧ (∀ (s : State) (p : PartId) (w : Fin 8) (v : Nat), v = s.reg (0x2B20 + p.val) (w.val + 1) →
    bit v 127 = false ∨ s.watchOn p.val = false ∨ (s.plan p.val).frame < bits v 119 116
      ∨ syncReached (s.sync (bits v 16 0)) (watchTarget v (tblGet 0 (s.part p.val).bases w.val) (s.plan p.val).frame) = true →
    exec (.watchCheck p w) s = .next s)
  ∧ (∀ (s : State), exec (.ioCheckerTest true) s = .next s)
  ∧ (∀ (s : State), s.reg 0x2B00 5 < 0xFFFFFFFF →
    Does (.ioCheckerTest false) s alarmParts alarmRegs (fun t =>
      t.reg 0x2B00 5 = s.reg 0x2B00 5 + 1 ∧ ∀ q, q < 8 → t.partState q = (if s.partState q = 3 then 3 else 1)))

/-- FAULT_RETRY does nothing where no fault of the partition can be judged. It completes: a passed retry counts a
transient, and a RETRYING partition whose last fault leaves becomes RECOVERING; a failed one, or a ninth transient
within a second, counts a lasting fault, the partition becomes LASTING, and the calderas that R340 names go out of
service. Where the retry is work of the machine, that work has given the verdict. A fault that is not retried leaves
when its condition has ended. ACK of a RECOVERING partition is kept; in another state it is refused.
CHECKPOINT_COMPARE completes: it takes the oldest record that arrived: in a break all held records are dropped and
counted; in OFF it is a CONFIG event; a masked TAG is counted; a record without a partner is held, a full store
giving up its oldest; a pair that agrees is counted, and is the passed retry of what is pending for such a pair; one
that does not is counted, recorded and a COMPARE event. COMPARE_TIMEOUT gives up the oldest held record, counts it
and raises the event. Where the rules leave room the clauses follow the model's reading (log entries 50, 51, 52). It
says of each of these commands that it completes (exec answers a next state with the effect told above, under
conditions on the state and the operands alone): FAULT_RETRY (faultRetry), ACK (ack), CHECKPOINT_COMPARE
(checkpointCompare), COMPARE_TIMEOUT (compareTimeout). -/
def Obligations.RetriesAndRecovery : Prop :=
  (∀ (s : State) (p : PartId) (ok : Bool), (s.part p.val).pending.any s.retryDue = false → exec (.faultRetry p ok) s = .next s)
  ∧ (∀ (s : State) (p : PartId) (f : PendingFault) (ok : Bool), (s.part p.val).pending = [f] → s.retryDue f = true → isRetried f.code = true →
    (if retriedByWork f then f.verdict = some true else ok = true) →
    s.ninth f = false → s.partState p.val = 1 → (s.part p.val).lasting = false → s.reg 0x2B00 6 < 0xFFFFFFFF →
    Does (.faultRetry p ok) s alarmParts ((0x2B00, 6) :: alarmRegs) (fun t =>
      t.reg 0x2B00 6 = s.reg 0x2B00 6 + 1 ∧ t.partState p.val = 2
      ∧ t.part p.val = { s.part p.val with pending := [], lasting := false, acked := false, geyserPassed := [] }
      ∧ (f.source, f.code, s.time.cycles) ∈ t.safety.transients))
  ∧ (∀ (s : State) (p : PartId) (f : PendingFault) (ok : Bool), (s.part p.val).pending = [f] → s.retryDue f = true → isRetried f.code = true →
    s.ninth f = true ∨ (if retriedByWork f then f.verdict ≠ some true else ok = false) →
    s.partState p.val = 1 → faultCalderas f = [] → s.reg 0x2B00 7 < 0xFFFFFFFF →
    Does (.faultRetry p ok) s alarmParts ((0x2B00, 7) :: alarmRegs) (fun t =>
      t.reg 0x2B00 7 = s.reg 0x2B00 7 + 1 ∧ t.partState p.val = 3 ∧ (t.part p.val).pending = []
      ∧ t.safety.transients = s.safety.transients))
  ∧ (∀ (s : State) (p : PartId) (f : PendingFault) (c : CalderaId) (ok : Bool), (s.part p.val).pending = [f] → s.retryDue f = true →
    isRetried f.code = true → s.ninth f = true ∨ (if retriedByWork f then f.verdict ≠ some true else ok = false) →
    c.val ∈ faultCalderas f → s.oos c.val = false → s.reg 0x2B00 7 < 0xFFFFFFFF →
    Completes (.faultRetry p ok) s (fun t => t.oos c.val = true ∧ t.reg 0x2B00 7 = s.reg 0x2B00 7 + 1 ∧ (t.caldera c.val).sweeping = false
      ∧ Only (.skeins :: .plans :: alarmParts) s t))
  ∧ (∀ (s : State) (p : PartId) (f : PendingFault), (s.part p.val).pending = [f] → isRetried f.code = false → s.stillHolds f = false →
    s.partState p.val = 1 → (s.part p.val).lasting = false →
    Does (.faultRetry p true) s [.dict, .safety] ((List.range 8).map (fun q => (0x2B08 + q, 1))) (fun t =>
      t.partState p.val = 2 ∧ t.part p.val = { s.part p.val with pending := [], lasting := false, acked := false, geyserPassed := [] }))
  ∧ (∀ (s : State) (p : PartId) (f : PendingFault) (ok : Bool), (s.part p.val).pending = [f] → isRetried f.code = false →
    ok = false ∨ s.stillHolds f = true →
    (List.range 8).all (fun q => (s.part q).pending != [] || (s.partState q != 1 && (s.partState q != 2 || !(s.part q).lasting))) = true →
    exec (.faultRetry p ok) s = .next s)
  ∧ (∀ (s : State) (a : Agent) (p : PartId), Admitted s a (0x2B08 + p.val) 4 1 1 → s.partState p.val = 2 →
    Does (.ack a p) s [.safety, .replies] [] (fun t =>
      Replied a 0 0 t ∧ t.part p.val = { s.part p.val with acked := true } ∧ (∀ q, q ≠ p.val → t.part q = s.part q)))
  ∧ (∀ (s : State) (a : Agent) (p : PartId), Admitted s a (0x2B08 + p.val) 4 1 1 → s.partState p.val ≠ 2 →
    Does (.ack a p) s [.replies] [] (Replied a 0x08000022 0))
  ∧ (∀ (s : State) (k : PairId), (s.pair k.val).arrivals = [] → exec (.checkpointCompare k) s = .next s)
  ∧ (∀ (s : State) (k : PairId), (s.pair k.val).arrivals ≠ [] → s.pairBroken k.val = true →
    s.reg (0x2B10 + k.val) 7 + (s.pair k.val).held.length + (s.pair k.val).arrivals.length < 0xFFFFFFFF →
    Does (.checkpointCompare k) s [.dict, .safety] [(0x2B10 + k.val, 7)] (fun t =>
      t.pair k.val = ⟨[], []⟩ ∧ KeptBut State.pair [k.val] s t
      ∧ t.reg (0x2B10 + k.val) 7 = s.reg (0x2B10 + k.val) 7 + (s.pair k.val).held.length + (s.pair k.val).arrivals.length))
  ∧ (∀ (s : State) (k : PairId) (r : SinterRec) (rest : List SinterRec), (s.pair k.val).arrivals = r :: rest → s.pairBroken k.val = false →
    s.reg (0x2B10 + k.val) 2 = 0 ∨ (s.reg (0x2B10 + k.val) 2 = 4 ∧ r.ctx ≠ 6) → s.reg 0x2B00 5 < 0xFFFFFFFF →
    s.skeinPart r.skein < 8 →
    Does (.checkpointCompare k) s alarmParts alarmRegs (fun t =>
      t.pair k.val = ⟨rest, (s.pair k.val).held⟩ ∧ KeptBut State.pair [k.val] s t
      ∧ t.partState (s.skeinPart r.skein) = 3 ∧ t.reg 0x2B00 5 = s.reg 0x2B00 5 + 1))
  ∧ (∀ (s : State) (k : PairId) (r : SinterRec) (rest : List SinterRec), (s.pair k.val).arrivals = r :: rest → s.pairBroken k.val = false →
    s.reg (0x2B10 + k.val) 2 ≠ 0 → (s.reg (0x2B10 + k.val) 2 = 4 → r.ctx = 6) → s.tagMasked k.val r.tag = true →
    s.reg (0x2B10 + k.val) 7 < 0xFFFFFFFF →
    Does (.checkpointCompare k) s [.dict, .safety] [(0x2B10 + k.val, 7)] (fun t =>
      t.pair k.val = ⟨rest, (s.pair k.val).held⟩ ∧ KeptBut State.pair [k.val] s t
      ∧ t.reg (0x2B10 + k.val) 7 = s.reg (0x2B10 + k.val) 7 + 1))
  ∧ (∀ (s : State) (k : PairId) (r : SinterRec) (rest : List SinterRec), (s.pair k.val).arrivals = r :: rest → s.pairBroken k.val = false →
    s.reg (0x2B10 + k.val) 2 ≠ 0 → (s.reg (0x2B10 + k.val) 2 = 4 → r.ctx = 6) → s.tagMasked k.val r.tag = false →
    (s.pair k.val).held.any (fun h => isPartner r h) = false → (s.pair k.val).held.length < 256 →
    Does (.checkpointCompare k) s [.safety] [] (fun t =>
      t.pair k.val = ⟨rest, (s.pair k.val).held ++ [r]⟩ ∧ KeptBut State.pair [k.val] s t ∧ ∀ p, t.part p = s.part p))
  ∧ (∀ (s : State) (k : PairId) (r h : SinterRec) (rest hs : List SinterRec), (s.pair k.val).arrivals = r :: rest → s.pairBroken k.val = false →
    s.reg (0x2B10 + k.val) 2 ≠ 0 → (s.reg (0x2B10 + k.val) 2 = 4 → r.ctx = 6) → s.tagMasked k.val r.tag = false →
    (s.pair k.val).held.any (fun h => isPartner r h) = false → (s.pair k.val).held = h :: hs → 255 ≤ hs.length →
    s.reg (0x2B10 + k.val) 6 < 0xFFFFFFFF → s.reg 0x2B00 5 < 0xFFFFFFFF → s.skeinPart h.skein < 8 →
    Does (.checkpointCompare k) s alarmParts ([(0x2B10 + k.val, 6), (0x2B10 + k.val, 8)] ++ alarmRegs) (fun t =>
      t.pair k.val = ⟨rest, hs ++ [r]⟩ ∧ KeptBut State.pair [k.val] s t ∧ t.reg (0x2B10 + k.val) 6 = s.reg (0x2B10 + k.val) 6 + 1
      ∧ t.reg 0x2B00 5 = s.reg 0x2B00 5 + 1 ∧ t.reg (0x2B08 + s.skeinPart h.skein) 5 = 5))
  ∧ (∀ (s : State) (k : PairId) (r h : SinterRec) (rest : List SinterRec), (s.pair k.val).arrivals = r :: rest → s.pairBroken k.val = false →
    s.reg (0x2B10 + k.val) 2 ≠ 0 → (s.reg (0x2B10 + k.val) 2 = 4 → r.ctx = 6) → s.tagMasked k.val r.tag = false →
    (s.pair k.val).held.find? (fun h => isPartner r h) = some h → sameFields r h = true → r.flags % 16 = h.flags % 16 →
    Does (.checkpointCompare k) s [.dict, .safety] [(0x2B10 + k.val, 4)] (fun t =>
      t.pair k.val = ⟨rest, (s.pair k.val).held.erase h⟩ ∧ KeptBut State.pair [k.val] s t
      ∧ t.reg (0x2B10 + k.val) 4 = (s.reg (0x2B10 + k.val) 4 + 1) % 256 ^ odBytes (0x2B10 + k.val) 4
      ∧ ∀ q f, q < 8 → f ∈ (s.part q).pending → f.source = k.val → f.verdict = none →
          (f.code = 4 ∧ f.key = pairKey r) ∨ (f.code = 5 ∧ f.key = evenSkein r.skein) →
          { f with verdict := some true } ∈ (t.part q).pending))
  ∧ (∀ (s : State) (k : PairId) (r h : SinterRec) (rest : List SinterRec), (s.pair k.val).arrivals = r :: rest → s.pairBroken k.val = false →
    s.reg (0x2B10 + k.val) 2 ≠ 0 → (s.reg (0x2B10 + k.val) 2 = 4 → r.ctx = 6) → s.tagMasked k.val r.tag = false →
    (s.pair k.val).held.find? (fun h => isPartner r h) = some h → sameFields r h = false ∨ r.flags % 16 ≠ h.flags % 16 →
    s.reg (0x2B10 + k.val) 5 < 0xFFFFFFFF → s.reg 0x2B00 5 < 0xFFFFFFFF → s.skeinPart r.skein < 8 →
    Does (.checkpointCompare k) s alarmParts ([(0x2B10 + k.val, 4), (0x2B10 + k.val, 5), (0x2B10 + k.val, 8)] ++ alarmRegs) (fun t =>
      t.pair k.val = ⟨rest, (s.pair k.val).held.erase h⟩ ∧ KeptBut State.pair [k.val] s t
      ∧ t.reg (0x2B10 + k.val) 5 = s.reg (0x2B10 + k.val) 5 + 1
      ∧ t.reg 0x2B00 5 = s.reg 0x2B00 5 + 1 ∧ t.reg (0x2B08 + s.skeinPart r.skein) 5 = 4))
  ∧ (∀ (s : State) (k : PairId) (h : SinterRec) (rest : List SinterRec), (s.pair k.val).held = h :: rest → s.pairBroken k.val = false →
    s.reg (0x2B10 + k.val) 6 < 0xFFFFFFFF → s.reg 0x2B00 5 < 0xFFFFFFFF → s.skeinPart h.skein < 8 →
    Does (.compareTimeout k) s alarmParts ([(0x2B10 + k.val, 6), (0x2B10 + k.val, 8)] ++ alarmRegs) (fun t =>
      t.pair k.val = ⟨(s.pair k.val).arrivals, rest⟩ ∧ KeptBut State.pair [k.val] s t
      ∧ t.reg (0x2B10 + k.val) 6 = s.reg (0x2B10 + k.val) 6 + 1
      ∧ t.reg 0x2B00 5 = s.reg 0x2B00 5 + 1 ∧ t.reg (0x2B08 + s.skeinPart h.skein) 5 = 5))
  ∧ (∀ (s : State) (k : PairId), (s.pair k.val).held ≠ [] → s.pairBroken k.val = true →
    s.reg (0x2B10 + k.val) 7 + (s.pair k.val).held.length + (s.pair k.val).arrivals.length < 0xFFFFFFFF →
    Does (.compareTimeout k) s [.dict, .safety] [(0x2B10 + k.val, 7)] (fun t =>
      t.pair k.val = ⟨[], []⟩ ∧ KeptBut State.pair [k.val] s t))
  ∧ (∀ (s : State) (k : PairId), (s.pair k.val).held = [] → exec (.compareTimeout k) s = .next s)

/-- SELFTEST_ELEMENT in a reserved slot that it fits completes: it begins a sweep, advances it by one element, passes to
the next item, or ends it and counts it; a failed element is counted and an event; elsewhere it does nothing.
SWEEP_LATE of a running sweep is a warning, once. GEYSER_TICK of a running plan injects into a stream in blanking
and passes to the next stream, or counts a skip, three in a row being an event; off, it does nothing. INSTALL of a
pattern that passes every check but the signature installs it exactly when the signature is right (82h otherwise);
it stores 88h where the source cannot be read and 80h or 81h where the header fails. MGMT_ENTRY takes an install
entry, installs from its source and pushes the reply; it discards and counts an entry of another form, and waits
while the queue does not meet its condition. That an install is one indivisible step is the model's choice (log
entry 64). Where the rules leave room the clauses follow the model's reading (log entries 55, 56, 63, 97). It says
of each of these commands that it completes (exec answers a next state with the effect told above, under conditions
on the state and the operands alone): SELFTEST_ELEMENT (selftestElement), SWEEP_LATE (sweepLate), GEYSER_TICK
(geyserTick), INSTALL (install), MGMT_ENTRY (mgmtEntry). -/
def Obligations.SelftestAndGeyser : Prop :=
  (∀ (s : State) (c : CalderaId) (ok : Bool),
    s.reg 0x2B30 1 = 0 ∨ s.oos c.val = true ∨ (s.caldera c.val).reserved = false ∨ s.elementFits c.val = false →
    exec (.selftestElement c ok) s = .next s)
  ∧ (∀ (s : State) (c : CalderaId), s.reg 0x2B30 1 ≠ 0 → s.oos c.val = false → (s.caldera c.val).reserved = true → s.elementFits c.val = true →
    (s.caldera c.val).sweeping = false →
    Does (.selftestElement c true) s [.dict, .calderas] ((0x2B30, c.val + 7) :: opRegs 4) (fun t =>
      t.reg 0x2B30 (c.val + 7) = 2 ^ 24 + 1
      ∧ t.caldera c.val = { s.caldera c.val with
          sweeping := true, sweepLate := false, sweepStart := s.now, sweepVectors := s.safety.vectors }
      ∧ KeptBut State.caldera [c.val] s t))
  ∧ (∀ (s : State) (c : CalderaId) (v : Nat), s.reg 0x2B30 1 ≠ 0 → s.oos c.val = false → (s.caldera c.val).reserved = true → s.elementFits c.val = true →
    (s.caldera c.val).sweeping = true → v = s.reg 0x2B30 (c.val + 7) → v % 2 ^ 24 + 1 < itemElements (v / 2 ^ 24) →
    Does (.selftestElement c true) s [.dict] ((0x2B30, c.val + 7) :: opRegs 4) (fun t => t.reg 0x2B30 (c.val + 7) = v + 1))
  ∧ (∀ (s : State) (c : CalderaId) (v : Nat), s.reg 0x2B30 1 ≠ 0 → s.oos c.val = false → (s.caldera c.val).reserved = true → s.elementFits c.val = true →
    (s.caldera c.val).sweeping = true → v = s.reg 0x2B30 (c.val + 7) → v % 2 ^ 24 + 1 = itemElements (v / 2 ^ 24) → v / 2 ^ 24 < 4 →
    Does (.selftestElement c true) s [.dict] ((0x2B30, c.val + 7) :: opRegs 4) (fun t => t.reg 0x2B30 (c.val + 7) = (v / 2 ^ 24 + 1) * 2 ^ 24))
  ∧ (∀ (s : State) (c : CalderaId), s.reg 0x2B30 1 ≠ 0 → s.oos c.val = false → (s.caldera c.val).reserved = true → s.elementFits c.val = true →
    (s.caldera c.val).sweeping = true → s.reg 0x2B30 (c.val + 7) = 4 * 2 ^ 24 + 4799 → (0x82, c.val) ∉ s.safety.warnings →
    Does (.selftestElement c true) s [.dict, .calderas] ([(0x2B30, c.val + 7), (0x2B30, 3), (0x2B30, 6)] ++ opRegs 4) (fun t =>
      t.reg 0x2B30 (c.val + 7) = 0 ∧ t.reg 0x2B30 3 = (s.reg 0x2B30 3 + 1) % 2 ^ 32
      ∧ t.caldera c.val = { s.caldera c.val with sweeping := false, sweepLate := false } ∧ KeptBut State.caldera [c.val] s t))
  ∧ (∀ (s : State) (c : CalderaId), s.reg 0x2B30 1 ≠ 0 → s.oos c.val = false → (s.caldera c.val).reserved = true → s.elementFits c.val = true →
    s.reg 0x2B30 4 < 0xFFFFFFFF → s.reg 0x2B00 5 < 0xFFFFFFFF → s.calderaPart c.val < 8 →
    Does (.selftestElement c false) s alarmParts ([(0x2B30, c.val + 7), (0x2B30, 3), (0x2B30, 4), (0x2B30, 6)] ++ opRegs 4 ++ alarmRegs) (fun t =>
      t.reg 0x2B30 4 = s.reg 0x2B30 4 + 1 ∧ t.reg 0x2B00 5 = s.reg 0x2B00 5 + 1))
  ∧ (∀ (s : State) (c : CalderaId), (s.caldera c.val).sweeping = true → (s.caldera c.val).sweepLate = false → s.reg 0x2B30 5 < 0xFFFFFFFF →
    s.calderaPart c.val < 8 →
    Does (.sweepLate c) s alarmParts ((0x2B30, 5) :: alarmRegs) (fun t =>
      (t.caldera c.val).sweepLate = true ∧ (t.caldera c.val).sweeping = true ∧ t.reg 0x2B30 5 = s.reg 0x2B30 5 + 1
      ∧ (0x82, c.val) ∈ t.safety.warnings))
  ∧ (∀ (s : State) (c : CalderaId), (s.caldera c.val).sweeping = false ∨ (s.caldera c.val).sweepLate = true → exec (.sweepLate c) s = .next s)
  ∧ (∀ (s : State) (p : PartId), s.reg (0x2B38 + p.val) 1 = 0 ∨ s.reg (0x2490 + p.val) 8 ≠ 3 ∨ (s.plan p.val).starting = true →
    exec (.geyserTick p) s = .next s)
  ∧ (∀ (s : State) (p : PartId) (n : Nat), s.reg (0x2B38 + p.val) 1 ≠ 0 → s.reg (0x2490 + p.val) 8 = 3 → (s.plan p.val).starting = false →
    (s.part p.val).geyserCount = 0 ∨ (s.geyserEntries p.val).all (entryMatched (s.part p.val)) = true →
    n = nextStream (s.reg (0x2B38 + p.val) 3) (s.reg (0x2B38 + p.val) 0x0B) → s.inBlanking n = true →
    Does (.geyserTick p) s alarmParts ([8, 0x0A, 0x0B, 0x0C].map (fun i => (0x2B38 + p.val, i)) ++ readRegs ++ outerRegs) (fun t =>
      t.reg (0x2B38 + p.val) 8 = (s.reg (0x2B38 + p.val) 8 + 1) % 2 ^ 32 ∧ t.reg (0x2B38 + p.val) 0x0A = 0
      ∧ t.reg (0x2B38 + p.val) 0x0B = nextStream (s.reg (0x2B38 + p.val) 3) (n + 1)
      ∧ (t.part p.val).geyserCount = ((s.part p.val).geyserCount + 1) % 2 ^ 32))
  ∧ (∀ (s : State) (p : PartId) (n : Nat), s.reg (0x2B38 + p.val) 1 ≠ 0 → s.reg (0x2490 + p.val) 8 = 3 → (s.plan p.val).starting = false →
    (s.part p.val).geyserCount = 0 ∨ (s.geyserEntries p.val).all (entryMatched (s.part p.val)) = true →
    n = nextStream (s.reg (0x2B38 + p.val) 3) (s.reg (0x2B38 + p.val) 0x0B) → s.inBlanking n = false →
    s.reg (0x2B38 + p.val) 9 < 0xFFFFFFFF → s.reg (0x2B38 + p.val) 0x0A < 0xFF → s.reg 0x2B00 5 < 0xFFFFFFFF →
    Does (.geyserTick p) s alarmParts ([9, 0x0A, 0x0B].map (fun i => (0x2B38 + p.val, i)) ++ alarmRegs) (fun t =>
      t.reg (0x2B38 + p.val) 9 = s.reg (0x2B38 + p.val) 9 + 1 ∧ t.reg (0x2B38 + p.val) 0x0A = s.reg (0x2B38 + p.val) 0x0A + 1
      ∧ t.reg (0x2B38 + p.val) 0x0B = n
      ∧ (t.part p.val).geyserCount = ((s.part p.val).geyserCount + 1) % 2 ^ 32
      ∧ t.reg 0x2B00 5 = s.reg 0x2B00 5 + (if s.reg (0x2B38 + p.val) 0x0A = 2 then 1 else 0)))
  ∧ (∀ (s : State) (a : Agent) (b k : List Byte) (n : Nat), Admitted s a 0x2B40 3 1 1 → n = s.reg 0x2B40 2 →
    s.mgmtRead (s.reg 0x2B40 1) n = some b → patternHeader b n = 0 → field b 4 1 = 2 → s.patternKeyNow = some k →
    s.reg 0x2B40 5 < field b 8 4 → (vectorsOf b).all vectorOk = true → s.storeOk n = true →
    (s.writeDev [] (s.reg 0x2B40 7) b).2 = 0 →
    Does (.install a) s [.dict, .mem, .flips, .hostMem, .boot, .calderas, .scrubPending, .safety, .replies]
        ([4, 5, 6].map (fun i => (0x2B40, i)) ++ [3, 5, 6, 7].map (fun i => (0x2C00, i)) ++ opRegs 7 ++ readRegs ++ writeRegs) (fun t =>
      Replied a 0 0 t ∧ t.reg 0x2B40 4 = (if Config.mlDsaVerify k (b.take (n - 2420)) (b.drop (n - 2420)) then 0 else 0x82)
      ∧ t.safety = { s.safety with
          vectors := if Config.mlDsaVerify k (b.take (n - 2420)) (b.drop (n - 2420)) then vectorsOf b else s.safety.vectors }
      ∧ (Config.mlDsaVerify k (b.take (n - 2420)) (b.drop (n - 2420)) = true →
          t.reg 0x2B40 5 = field b 8 4 ∧ t.reg 0x2B40 6 = (s.reg 0x2B40 6 + 1) % 2 ^ 32)))
  ∧ (∀ (s : State) (a : Agent) (b k : List Byte) (n p at_ : Nat), Admitted s a 0x2B40 3 1 1 → n = s.reg 0x2B40 2 →
    s.mgmtRead (s.reg 0x2B40 1) n = some b → patternHeader b n = 0 → field b 4 1 = 1 → p = field b 12 1 → s.patternKeyNow = some k →
    s.patternSeq 1 p < field b 8 4 → slice b 24 32 = leBytes 32 (s.reg (0x2490 + p) 7) → s.reg (0x2B38 + p) 0x0D + 80 ≤ field b 16 4 →
    s.goldenBodyOk b (s.reg (0x2B38 + p) 0x0D) p = true → s.storeOk n = true → at_ = s.reg 0x2B40 7 + patternArea * p →
    (s.writeDev [] at_ b).2 = 0 →
    Does (.install a) s [.dict, .mem, .flips, .hostMem, .boot, .calderas, .scrubPending, .safety, .replies]
        ([4, 5, 6].map (fun i => (0x2B40, i)) ++ [3, 5, 6, 7].map (fun i => (0x2C00, i)) ++ opRegs 7 ++ readRegs ++ writeRegs) (fun t =>
      Replied a 0 0 t ∧ t.reg 0x2B40 4 = (if Config.mlDsaVerify k (b.take (n - 2420)) (b.drop (n - 2420)) then 0 else 0x82)
      ∧ t.part p = { s.part p with
          nextGolden := if Config.mlDsaVerify k (b.take (n - 2420)) (b.drop (n - 2420)) then
              some ⟨field b 8 4, slice b 24 32, at_ + 64, goldenEntries b (s.reg (0x2B38 + p) 0x0D)⟩
            else (s.part p).nextGolden }
      ∧ KeptBut State.part [p] s t ∧ t.safety.vectors = s.safety.vectors))
  ∧ (∀ (s : State) (a : Agent) (b : List Byte), Admitted s a 0x2B40 3 1 1 → s.mgmtRead (s.reg 0x2B40 1) (s.reg 0x2B40 2) = some b →
    patternHeader b (s.reg 0x2B40 2) ≠ 0 →
    Does (.install a) s [.dict, .mem, .flips, .replies] ((0x2B40, 4) :: (opRegs 7 ++ readRegs)) (fun t =>
      Replied a 0 0 t ∧ t.reg 0x2B40 4 = patternHeader b (s.reg 0x2B40 2) ∧ BytesSame s t))
  ∧ (∀ (s : State) (a : Agent), Admitted s a 0x2B40 3 1 1 → s.mgmtRead (s.reg 0x2B40 1) (s.reg 0x2B40 2) = none →
    Does (.install a) s [.dict, .replies] ((0x2B40, 4) :: opRegs 7) (fun t =>
      Replied a 0 0 t ∧ t.reg 0x2B40 4 = 0x88))
  ∧ (∀ (s : State) (q : Nat), q = s.reg 0x2E00 0x0E →
    16383 < q ∨ s.queuePart q ≠ 0 ∨ (s.queue q).consumer ≠ 0x230 ∨ (s.queue q).enabled = false ∨ (s.queue q).count = 0 →
    exec .mgmtEntry s = .next s)
  ∧ (∀ (s : State) (q : Nat) (e : List Byte), q = s.reg 0x2E00 0x0E → q ≤ 16383 → s.queuePart q = 0 → (s.queue q).consumer = 0x230 →
    (s.queue q).enabled = true → (s.queue q).count ≠ 0 → s.queuePeek q 1 = (0, [e]) → mgmtEntryOk e = false → s.reg 0x2E00 0x0F < 0xFFFFFFFF →
    Does .mgmtEntry s [.dict, .queues] ((0x2E00, 0x0F) :: countRegs) (fun t =>
      t.reg 0x2E00 0x0F = s.reg 0x2E00 0x0F + 1 ∧ (t.queue q).count = (s.queue q).count - 1 ∧ KeptBut State.queue [q] s t))
  ∧ (∀ (s : State) (q : Nat) (e : List Byte) (r : State × Nat), q = s.reg 0x2E00 0x0E → q ≤ 16383 → s.queuePart q = 0 →
    (s.queue q).consumer = 0x230 → (s.queue q).enabled = true → (s.queue q).count ≠ 0 → s.queuePeek q 1 = (0, [e]) → mgmtEntryOk e = true →
    field e 2 2 = 0 ∨ field e 2 2 = s.nodeId → r = (s.queueDrop q 1).install (field e 8 8) (field e 16 4) →
    r.1.queuePart (field e 4 2) = 0 →
    Completes .mgmtEntry s (fun t =>
      t = (r.1.outerPush (field e 4 2) [[0x61] ++ leBytes 1 r.2 ++ zeros 18 ++ slice e 20 4 ++ zeros 8]).1
      ∧ t.reg 0x2B40 4 = r.2))

/-- LINK_TRAINED of an enabled link that trains brings it up with fresh sequence numbers and the neighbour's 16 and 8
credits and stores the peer; LINK_GIVEN_UP takes it down. A data frame with a bad CRC is counted and answered by an
LNAK naming the expected SEQ, one out of sequence by the LNAK alone. An accepted frame advances SEQ, is counted and
acknowledged, its credit returned; then a WRITE reaches the window logic, a PUSH its queue (or is refused and
counted where R437 does not admit the sender), a closing frame adds 1 to RSYNC, one for another node is sent on.
LACK releases the frame it names and those before it; CREDIT adds credits up to 16 and 8 and sends a frame that
waited; LNAK and REPLAY_TIMEOUT send the frames again, or fail the link where one of them has been sent again three
times. RESP completes: the answer to a SEND crosses to its caldera. That a malformed frame is acknowledged and
counted, and credits returned at once, is the model's choice (log entry 58). Where the rules leave room the clauses
follow the model's reading (log entry 59). It says of each of these commands that it completes (exec answers a next
state with the effect told above, under conditions on the state and the operands alone): LINK_TRAINED (linkTrained),
LINK_GIVEN_UP (linkGivenUp), DATA_FRAME_RECEIVED (dataFrameReceived), LACK (lack), LNAK (lnak), CREDIT (credit),
REPLAY_TIMEOUT (replayTimeout), RESP (resp). -/
def Obligations.LinkTransport : Prop :=
  (∀ (s : State) (l : LinkId) (pn pl : Nat), s.reg (0x2E08 + l.val) 1 ≠ 0 → s.linkState l.val = 1 → s.reg 0x2E00 4 = 0 →
    Does (.linkTrained l pn pl) s [.dict, .links, .dbg]
        ([(0x2E08 + l.val, 2), (0x2E08 + l.val, 3), (0x2E08 + l.val, 4), (0x2F05, 2), (0x2F05, 4), (0x2F05, 6)] ++ traceRegs) (fun t =>
      t.linkState l.val = 2 ∧ t.reg (0x2E08 + l.val) 3 = pn % 2 ^ 16 ∧ t.reg (0x2E08 + l.val) 4 = pl % 256
      ∧ t.link l.val = { s.link l.val with txSeq := 0, rxSeq := 0, replay := [], waiting := [], credit0 := 16, credit1 := 8 }
      ∧ KeptBut State.link [l.val] s t))
  ∧ (∀ (s : State) (l : LinkId), s.linkState l.val = 1 →
    Does (.linkGivenUp l) s [.dict, .dbg] ([(0x2E08 + l.val, 2), (0x2F05, 2), (0x2F05, 4), (0x2F05, 6), (0x2E00, 4)] ++ traceRegs)
      (fun t => t.linkState l.val = 3))
  ∧ (∀ (s : State) (l : LinkId) (pn pl : Nat) (c : Instr), c ∈ [.linkTrained l pn pl, .linkGivenUp l] → s.linkState l.val ≠ 1 → exec c s = .next s)
  ∧ (∀ (s : State) (l : LinkId) (ok : Bool) (f : LinkFrame) (a b : Nat) (c : Instr), c ∈ [.dataFrameReceived l ok f, .credit l a b] →
    s.linkUp l.val = false → exec c s = .next s)
  ∧ (∀ (s : State) (l : LinkId) (f : LinkFrame), s.linkUp l.val = true → s.reg (0x2E08 + l.val) 7 < 0xFFFFFFFF →
    Does (.dataFrameReceived l false f) s [.dict, .out] [(0x2E08 + l.val, 7)] (fun t =>
      t.out = .control l.val 0x81 (s.link l.val).rxSeq 0 :: s.out ∧ t.reg (0x2E08 + l.val) 7 = s.reg (0x2E08 + l.val) 7 + 1))
  ∧ (∀ (s : State) (l : LinkId) (f : LinkFrame), s.linkUp l.val = true → f.seq ≠ (s.link l.val).rxSeq →
    Does (.dataFrameReceived l true f) s [.out] [] (fun t => t.out = .control l.val 0x81 (s.link l.val).rxSeq 0 :: s.out))
  ∧ (∀ (s : State) (l : LinkId) (f : LinkFrame), s.linkUp l.val = true → f.seq = (s.link l.val).rxSeq → frameWellFormed f = false →
    s.reg (0x2E08 + l.val) 0x0B < 0xFFFFFFFF →
    Does (.dataFrameReceived l true f) s [.dict, .links, .out] [(0x2E08 + l.val, 6), (0x2E08 + l.val, 0x0B)] (fun t =>
      t.link l.val = { s.link l.val with rxSeq := ((s.link l.val).rxSeq + 1) % 4096 } ∧ KeptBut State.link [l.val] s t
      ∧ t.reg (0x2E08 + l.val) 0x0B = s.reg (0x2E08 + l.val) 0x0B + 1
      ∧ t.out = .control l.val 0x82 0 (if onVc0 f then 1 else 256) :: .control l.val 0x80 f.seq 0 :: s.out))
  ∧ (∀ (s : State) (l : LinkId) (f : LinkFrame), s.linkUp l.val = true → f.seq = (s.link l.val).rxSeq → frameWellFormed f = true →
    f.type = 1 → f.dst = s.nodeId → f.dstSkein < 64 →
    Does (.dataFrameReceived l true f) s [.dict, .skeins, .links, .out] [(0x2E08 + l.val, 6)] (fun t =>
      t.link l.val = { s.link l.val with rxSeq := ((s.link l.val).rxSeq + 1) % 4096 } ∧ KeptBut State.link [l.val] s t
      ∧ t.reg (0x2E08 + l.val) 6 = (s.reg (0x2E08 + l.val) 6 + 1) % 256 ^ odBytes (0x2E08 + l.val) 6
      ∧ t.skein f.dstSkein = { s.skein f.dstSkein with
          arrivals := (s.skein f.dstSkein).arrivals ++ [{
            sender := .node f.src f.srcPart f.srcSkein, win := some f.win, off := if bit f.flags 3 then f.off % 2 ^ 17 else f.off,
            epoch := if bit f.flags 1 then some f.epoch else none, bytes := f.payload.map some, xid := f.xid, last := bit f.flags 2 }] }
      ∧ KeptBut State.skein [f.dstSkein] s t
      ∧ t.out = .control l.val 0x82 0 1 :: .control l.val 0x80 f.seq 0 :: s.out))
  ∧ (∀ (s : State) (l : LinkId) (f : LinkFrame) (q : Nat), s.linkUp l.val = true → f.seq = (s.link l.val).rxSeq → frameWellFormed f = true →
    f.type = 2 → bit f.flags 3 = false → f.dst = s.nodeId → f.src ≠ s.nodeId → q = f.off % 16384 →
    s.importOk (s.queuePart q) f.src f.srcPart = true → (s.queue q).enabled = true → (s.queue q).count + f.len / 32 ≤ 2 ^ (s.queue q).log2 →
    Does (.dataFrameReceived l true f) s [.dict, .mem, .flips, .hostMem, .queues, .skeins, .calderas, .scrubPending, .links, .out]
        (linkRegs ++ outerRegs) (fun t => (t.queue q).count = (s.queue q).count + f.len / 32 ∧ KeptBut State.queue [q] s t))
  ∧ (∀ (s : State) (l : LinkId) (f : LinkFrame) (p : Nat), s.linkUp l.val = true → f.seq = (s.link l.val).rxSeq → frameWellFormed f = true →
    f.type = 2 → bit f.flags 3 = false → f.dst = s.nodeId → f.src ≠ s.nodeId → p = s.queuePart (f.off % 16384) → p < 8 →
    s.importOk p f.src f.srcPart = false → s.reg (0x2E10 + p) 4 < 0xFFFFFFFF →
    Does (.dataFrameReceived l true f) s [.dict, .skeins, .calderas, .links, .out] ((0x2E10 + p, 4) :: linkRegs) (fun t =>
      t.reg (0x2E10 + p) 4 = s.reg (0x2E10 + p) 4 + 1))
  ∧ (∀ (s : State) (l : LinkId) (f : LinkFrame) (n : Nat), s.linkUp l.val = true → f.seq = (s.link l.val).rxSeq → frameWellFormed f = true →
    f.type = 2 → bit f.flags 3 = true → f.dst = s.nodeId → f.src ≠ s.nodeId → n = f.off % 2 ^ 17 →
    (s.skein f.dstSkein).openXids = [] → (s.skein f.dstSkein).refusedXids = [] → s.importOk (s.syncPart n) f.src f.srcPart = true →
    Does (.dataFrameReceived l true f) s [.dict, .syncs, .skeins, .calderas, .links, .out] linkRegs (fun t =>
      t.sync n = (s.sync n + 1) % 2 ^ 32 ∧ KeptBut State.sync [n] s t))
  ∧ (∀ (s : State) (l m : LinkId) (f : LinkFrame), s.linkUp l.val = true → f.seq = (s.link l.val).rxSeq → frameWellFormed f = true →
    f.type = 1 ∨ f.type = 2 ∨ f.type = 4 → f.dst ≠ s.nodeId → s.routeOf f.dst = some m.val → s.linkUp m.val = true → l ≠ m →
    (s.link m.val).canSend f = true → (s.link m.val).waiting = [] →
    Does (.dataFrameReceived l true f) s [.dict, .links, .out] ([(0x2E08 + l.val, 6), (0x2E08 + m.val, 5)] ++ countRegs) (fun t =>
      t.out = .frame m.val { f with seq := (s.link m.val).txSeq }
        :: .control l.val 0x82 0 (if onVc0 f then 1 else 256) :: .control l.val 0x80 f.seq 0 :: s.out
      ∧ t.link m.val = { s.link m.val with
          txSeq := ((s.link m.val).txSeq + 1) % 4096, replay := (s.link m.val).replay ++ [({ f with seq := (s.link m.val).txSeq }, 0)],
          credit0 := if onVc0 f then (s.link m.val).credit0 - 1 else (s.link m.val).credit0,
          credit1 := if onVc0 f then (s.link m.val).credit1 else (s.link m.val).credit1 - 1 }))
  ∧ (∀ (s : State) (l : LinkId) (q i : Nat), replayPlace (s.link l.val) q = some i → (s.link l.val).waiting = [] →
    Does (.lack l q) s [.links] [] (fun t =>
      t.link l.val = { s.link l.val with replay := (s.link l.val).replay.drop (i + 1) } ∧ KeptBut State.link [l.val] s t))
  ∧ (∀ (s : State) (l : LinkId) (q : Nat) (c : Instr), c ∈ [.lack l q, .lnak l q] → replayPlace (s.link l.val) q = none → exec c s = .next s)
  ∧ (∀ (s : State) (l : LinkId) (q i n : Nat) (c : Instr) (f : LinkFrame) (rest : List (LinkFrame × Nat)),
    (c, i) ∈ [(.replayTimeout l, 0), (.lnak l q, (replayPlace (s.link l.val) q).getD 0)] → (replayPlace (s.link l.val) q).isSome = true →
    (s.link l.val).replay.drop i = (f, n) :: rest → n < 3 → (∀ x ∈ rest, x.2 < 3) → s.reg (0x2E08 + l.val) 8 + rest.length + 1 < 0xFFFFFFFF →
    Does c s [.dict, .links, .out] ((0x2E08 + l.val, 8) :: countRegs) (fun t =>
      t.link l.val = { s.link l.val with
        replay := (s.link l.val).replay.take i ++ ((f, n) :: rest).map (fun x => (x.1, x.2 + 1)) }
      ∧ KeptBut State.link [l.val] s t ∧ t.reg (0x2E08 + l.val) 8 = s.reg (0x2E08 + l.val) 8 + rest.length + 1
      ∧ t.out = (((f, n) :: rest).map (fun x => Out.frame l.val x.1)).reverse ++ s.out))
  ∧ (∀ (s : State) (l : LinkId) (q i n : Nat) (c : Instr) (f : LinkFrame) (rest : List (LinkFrame × Nat)),
    (c, i) ∈ [(.replayTimeout l, 0), (.lnak l q, (replayPlace (s.link l.val) q).getD 0)] → (replayPlace (s.link l.val) q).isSome = true →
    (s.link l.val).replay.drop i = (f, n) :: rest → 3 ≤ n ∨ (∃ x ∈ rest, 3 ≤ x.2) → s.reg (0x2E08 + l.val) 1 ≠ 0 →
    s.reg (0x2E08 + l.val) 9 < 0xFFFFFFFF →
    Does c s [.dict, .calderas, .links, .discovery, .dbg, .out] linkRegs (fun t => t.linkState l.val = 1 ∧ t.reg (0x2E08 + l.val) 9 = s.reg (0x2E08 + l.val) 9 + 1 ∧ (t.link l.val).replay = []))
  ∧ (∀ (s : State) (l : LinkId) (a b : Nat), s.linkUp l.val = true → (s.link l.val).waiting = [] →
    Does (.credit l a b) s [.links] [] (fun t =>
      t.link l.val = { s.link l.val with
        credit0 := Nat.min ((s.link l.val).credit0 + a) 16, credit1 := Nat.min ((s.link l.val).credit1 + b) 8 }
      ∧ KeptBut State.link [l.val] s t))
  ∧ (∀ (s : State) (l : LinkId) (a b : Nat) (f : LinkFrame), s.linkUp l.val = true → (s.link l.val).waiting = [f] → onVc0 f = true → 0 < a →
    (s.link l.val).replay.length < 32 →
    Does (.credit l a b) s [.dict, .links, .out] ((0x2E08 + l.val, 5) :: countRegs) (fun t =>
      (t.link l.val).waiting = [] ∧ (t.link l.val).credit0 = Nat.min ((s.link l.val).credit0 + a) 16 - 1
      ∧ t.out = .frame l.val { f with seq := (s.link l.val).txSeq } :: s.out))
  ∧ (∀ (s : State) (g : SkeinId) (xid st : Nat) (f : Flight),
    f ∈ (s.skein g.val).flights → opOf f.word = 0x16 → f.started = true → f.xid = xid → 0 < f.unacked →
    Does (.resp g xid st) s [.calderas] [] (fun t =>
      t.caldera (g.val / 8) = { s.caldera (g.val / 8) with external := (s.caldera (g.val / 8)).external ++ [.ack g.val xid (st % 256)] }
      ∧ KeptBut State.caldera [g.val / 8] s t))
  ∧ (∀ (s : State) (g : SkeinId) (xid st : Nat),
    (s.skein g.val).flights.any (fun f => opOf f.word == 0x16 && f.started && f.xid == xid && decide (0 < f.unacked)) = false →
    exec (.resp g xid st) s = .next s)

/-- DISCOVER on a device with a node ID starts a run: RUN and RESTARTS rise by one, the tuple starts at the own ID,
routes, children and counts are cleared, and links that are not up train. RETRAIN makes every enabled link train. A
HELLO of the present run with a lower offer before CONVERGED is taken, and tells whether the sender is a child; one
with a higher offer only tells that; a better offer after CONVERGED, and a HELLO whose RUN is ahead, start a run.
CONVERGED takes the device on once no link trains; alone, it is the root and is done with one node. COUNT of a child
of the present run is kept. DONE from the parent link of a device that has counted stores NODES, TREE_DEPTH, RESULT
and DUP_ID and ends the run. Where the rules leave room the clauses follow the model's reading (log entry 60). It
says of each of these commands that it completes (exec answers a next state with the effect told above, under
conditions on the state and the operands alone): DISCOVER (discover), RETRAIN (retrain), HELLO (hello), CONVERGED
(converged), COUNT (count), DONE (done). -/
def Obligations.Discovery : Prop :=
  (∀ (s : State) (a : Agent), Admitted s a 0x2E00 2 1 1 → s.nodeId ≠ 0 →
    Does (.discover a) s [.dict, .links, .discovery, .dbg, .out, .replies] linkRegs (fun t =>
      Replied a 0 0 t ∧ t.reg 0x2E00 6 = (s.reg 0x2E00 6 + 1) % 2 ^ 16 ∧ t.reg 0x2E00 7 = s.nodeId ∧ t.reg 0x2E00 8 = 0 ∧ t.reg 0x2E00 9 = 0xFF
      ∧ t.reg 0x2E00 5 = 1 ∧ t.reg 0x2E00 0x0D = (s.reg 0x2E00 0x0D + 1) % 2 ^ 32 ∧ t.discovery = ⟨0, false, 0, []⟩
      ∧ (∀ l, l < 4 → (t.link l).child = false ∧ (t.link l).counted = none ∧ t.reg (0x2E08 + l) 0x0C = 0
          ∧ t.linkState l = (if s.linkState l ≠ 2 ∧ s.reg (0x2E08 + l) 1 ≠ 0 then 1 else s.linkState l))
      ∧ t.reg 0x2E00 4 = (if allLinks.any (fun l => s.linkState l == 1 || (!s.linkUp l && s.reg (0x2E08 + l) 1 != 0)) then 1 else 2)))
  ∧ (∀ (s : State) (a : Agent), Admitted s a 0x2E00 2 1 1 → s.nodeId = 0 →
    Does (.discover a) s [.dict, .links, .discovery, .dbg, .out, .replies] linkRegs (fun t => Replied a 0 0 t ∧ t.reg 0x2E00 4 = 5 ∧ t.reg 0x2E00 5 = 3))
  ∧ (∀ (s : State) (a : Agent), Admitted s a 0x2E00 2 1 2 →
    Does (.retrain a) s [.dict, .calderas, .links, .discovery, .dbg, .out, .replies] linkRegs (fun t => Replied a 0 0 t ∧ ∀ l, l < 4 → s.reg (0x2E08 + l) 1 = 1 → t.linkState l = 1))
  ∧ (∀ (s : State) (l : LinkId) (n root depth run : Nat) (par : Bool), s.linkUp l.val = false ∨ s.nodeId = 0 →
    exec (.hello l n root depth run par) s = .next s)
  ∧ (∀ (s : State) (l : LinkId) (n root depth : Nat) (par : Bool), s.linkUp l.val = true → s.nodeId ≠ 0 → s.reg 0x2E00 4 = 1 ∨ s.reg 0x2E00 4 = 2 →
    s.lowerOffer root (depth + 1) n l.val = true →
    Does (.hello l n root depth (s.reg 0x2E00 6) par) s [.dict, .links, .discovery, .out] linkRegs (fun t =>
      t.reg 0x2E00 7 = root % 2 ^ 16 ∧ t.reg 0x2E00 8 = (depth + 1) % 2 ^ 16 ∧ t.reg 0x2E00 9 = l.val ∧ t.discovery.parentNode = n
      ∧ (t.link l.val).child = par ∧ t.reg 0x2E00 4 = s.reg 0x2E00 4 ∧ t.reg 0x2E00 6 = s.reg 0x2E00 6))
  ∧ (∀ (s : State) (l : LinkId) (n root depth : Nat) (par : Bool), s.linkUp l.val = true → s.nodeId ≠ 0 → s.reg 0x2E00 4 = 1 ∨ s.reg 0x2E00 4 = 2 →
    s.lowerOffer root (depth + 1) n l.val = false →
    Does (.hello l n root depth (s.reg 0x2E00 6) par) s [.dict, .links] [(0x2E08 + l.val, 0x0C)] (fun t =>
      t.link l.val = { s.link l.val with child := par } ∧ KeptBut State.link [l.val] s t
      ∧ t.reg (0x2E08 + l.val) 0x0C = (if par then 2 else if s.reg 0x2E00 9 = l.val then 1 else 0)))
  ∧ (∀ (s : State) (l : LinkId) (n root depth : Nat) (par : Bool), s.linkUp l.val = true → s.nodeId ≠ 0 → s.reg 0x2E00 4 = 3 →
    s.lowerOffer root (depth + 1) n l.val = true ∨ (s.link l.val).child ≠ par →
    Does (.hello l n root depth (s.reg 0x2E00 6) par) s [.dict, .links, .discovery, .dbg, .out] linkRegs (fun t =>
      t.reg 0x2E00 6 = (s.reg 0x2E00 6 + 1) % 2 ^ 16 ∧ t.reg 0x2E00 7 = s.nodeId ∧ t.reg 0x2E00 9 = 0xFF))
  ∧ (∀ (s : State) (l : LinkId) (n root depth run : Nat) (par : Bool), s.linkUp l.val = true → s.nodeId ≠ 0 → runAhead run (s.reg 0x2E00 6) = true →
    Does (.hello l n root depth run par) s [.dict, .links, .discovery, .dbg, .out] linkRegs (fun t =>
      t.reg 0x2E00 6 = run % 2 ^ 16 ∧ t.reg 0x2E00 0x0D = (s.reg 0x2E00 0x0D + 1) % 2 ^ 32 ∧ (t.link l.val).child = par))
  ∧ (∀ (s : State), s.reg 0x2E00 4 = 1 ∨ s.reg 0x2E00 4 = 2 → allLinks.any (fun l => s.linkState l == 1) = false →
    allLinks.any (fun l => (s.link l).child && (s.link l).counted.isNone) = true →
    Does .converged s [.dict] [(0x2E00, 4)] (fun t => t.reg 0x2E00 4 = 3))
  ∧ (∀ (s : State), s.reg 0x2E00 4 = 1 ∨ s.reg 0x2E00 4 = 2 → allLinks.any (fun l => s.linkState l == 1) = false →
    allLinks.all (fun l => !(s.link l).child && (s.link l).counted.isNone) = true → s.discovery.countSent = false → 4 ≤ s.reg 0x2E00 9 →
    s.nodeId < 16384 →
    Does .converged s [.dict, .links, .discovery, .out] linkRegs (fun t => t.reg 0x2E00 4 = 4 ∧ t.reg 0x2E00 5 = 0 ∧ t.reg 0x2E00 0x0A = 1 ∧ t.reg 0x2E00 0x0B = 0 ∧ t.discovery.routes = []))
  ∧ (∀ (s : State), (s.reg 0x2E00 4 ≠ 1 ∧ s.reg 0x2E00 4 ≠ 2) ∨ allLinks.any (fun l => s.linkState l == 1) = true → exec .converged s = .next s)
  ∧ (∀ (s : State) (l : LinkId) (b dup d : Nat), s.discovering = true → (s.link l.val).child = true →
    Does (.count l b dup d (s.reg 0x2E00 6)) s [.dict, .links, .discovery, .out] linkRegs (fun t =>
      (t.link l.val).counted = some (b, dup, d)
      ∧ (s.reg 0x2E00 4 = 3 → allLinks.all (fun m => m == l.val || !(s.link m).child || (s.link m).counted.isSome) = true → t.discovery.countSent = true)))
  ∧ (∀ (s : State) (l : LinkId) (b dup d run : Nat), run % 2 ^ 16 ≠ s.reg 0x2E00 6 ∨ s.discovering = false ∨ (s.link l.val).child = false →
    exec (.count l b dup d run) s = .next s)
  ∧ (∀ (s : State) (l : LinkId) (n d r dup : Nat), s.reg 0x2E00 4 = 3 → s.discovery.countSent = true → s.reg 0x2E00 9 = l.val →
    Does (.done l n d r dup) s [.dict, .links, .discovery, .out] linkRegs (fun t =>
      t.reg 0x2E00 0x0A = n % 2 ^ 16 ∧ t.reg 0x2E00 0x0B = d % 2 ^ 16 ∧ t.reg 0x2E00 0x0C = dup % 2 ^ 16 ∧ t.reg 0x2E00 5 = r % 256
      ∧ t.reg 0x2E00 4 = (if r = 0 then 4 else 5)))
  ∧ (∀ (s : State) (l : LinkId) (n d r dup : Nat), s.reg 0x2E00 4 ≠ 3 ∨ s.discovery.countSent = false ∨ s.reg 0x2E00 9 ≠ l.val →
    exec (.done l n d r dup) s = .next s)

/-- EXTEST holds the pins and sets every break flag; any other instruction gives the pins back. SAMPLE/PRELOAD, IDCODE
and DBG_STATUS shift out what R447 gives; BYPASS, any other code and an instruction whose level is not held shift
out one zero bit. DBG_UNLOCK draws a nonce and shifts it out, and takes the level of a right request with a right
signature; otherwise the level stays. DBG_LOCK drops it. DBG_MEM reads or writes one unit as the host does, answers
a refusal with its status, and sets the break flags of R450. DBG_STOP stops a set of calderas, or releases the stop
in force; refused, it changes nothing. DBG_GRANT writes DICT_GRANT. DBG_RESET is a reset of the Debug class: package
memory, its translation, the break flags and the timebase stay. That DBG_MEM takes the unit that holds the address
is the model's choice (log entry 83). Where the rules leave room the clauses follow the model's reading (log entry
85). It says of each of these commands that it completes (exec answers a next state with the effect told above,
under conditions on the state and the operands alone): EXTEST (extest), SAMPLE_PRELOAD (samplePreload), DBG_STATUS
(dbgStatus), DBG_UNLOCK (dbgUnlock), DBG_LOCK (dbgLock), DBG_MEM_READ (dbgMemRead), DBG_MEM_WRITE (dbgMemWrite),
DBG_STOP (dbgStop), DBG_GRANT (dbgGrant), DBG_RESET (dbgReset), IDCODE (idcode), BYPASS (bypass). -/
def Obligations.DebugPortCommands : Prop :=
  (∀ (s : State),
    Does .extest s [.dict, .boot, .dbg, .out] [(0x2D00, 6), (0x2C00, 5), (0x2C00, 6), (0x2C00, 7)] (fun t =>
      t.reg 0x2D00 6 = 1 ∧ t.dbg = { s.dbg with deviceBreak := true, broken := List.range 8 } ∧ t.out = .scan 0 :: s.out))
  ∧ (∀ (s : State), Does .samplePreload s [.dict, .out] [(0x2D00, 6)] (fun t => t.reg 0x2D00 6 = 0 ∧ t.out = .scan 1 :: s.out))
  ∧ (∀ (s : State),
    Does .dbgStatus s [.dict, .dbg, .out] [(0x2D00, 6)] (fun t =>
      t.reg 0x2D00 6 = 0
      ∧ t.out = .tap 64 (s.dbgLevel * 2 ^ 56 + s.boot.lifecycle * 2 ^ 48 + s.reg 0x2100 1 * 2 ^ 40
          + (((List.range 8).map (fun c => b2n (s.dbg.broken.contains c) * 2 ^ c)).sum + b2n s.dbg.deviceBreak * 256) * 2 ^ 24
          + s.reg 0x2D10 3 * 2 ^ 16) :: s.out))
  ∧ (∀ (s : State),
    Does .idcode s [.dict, .dbg, .out] [(0x2D00, 6)] (fun t =>
      t.reg 0x2D00 6 = 0 ∧ t.out = .tap 32 (0x960 * 2 ^ 12 + Config.jedec % 2 ^ 11 * 2 + 1) :: s.out))
  ∧ (∀ (s : State) (code : Nat),
    Does (.bypass code) s [.dict, .dbg, .out] [(0x2D00, 6)] (fun t => t.reg 0x2D00 6 = 0 ∧ t.dbg = { s.dbg with shifted := 0 } ∧ t.out = .tap 1 0 :: s.out))
  ∧ (∀ (s : State) (ad m v need : Nat) (u : List Byte) (r : Bool) (c : Instr),
    (c, need) ∈ [(.dbgMemRead ad, 1), (.dbgMemWrite ad u, 2), (.dbgStop m r, 2), (.dbgGrant v, 2), (.dbgReset, 2)] → s.dbgLevel < need →
    Does c s [.dict, .dbg, .out] [(0x2D00, 6)] (fun t => t.reg 0x2D00 6 = 0 ∧ t.dbg = { s.dbg with shifted := 0 } ∧ t.out = .tap 1 0 :: s.out))
  ∧ (∀ (s : State) (r sig : List Byte), s.reg 0x2100 1 = 2 → sig.length = 2420 → s.dbgLevel ≤ field r 4 1 →
    Does (.dbgUnlock r sig) s [.dict, .boot, .dbg, .out]
        ([4, 5, 6].map (fun i => (0x2D00, i)) ++ [5, 6, 7].map (fun i => (0x2C00, i))) (fun t =>
      t.dbg.unlock = (if unlockOk r (Config.unlockNonce s.dbg.nonces) = true ∧ Config.mlDsaVerify (slice s.boot.image 256 1312) r sig = true
        then field r 4 1 else s.dbg.unlock)
      ∧ t.dbg.nonces = s.dbg.nonces + 1 ∧ t.dbg.broken = s.dbg.broken
      ∧ t.out = .tap 256 (leNat (slice (Config.unlockNonce s.dbg.nonces) 0 32)) :: s.out
      ∧ (unlockOk r (Config.unlockNonce s.dbg.nonces) = true → Config.mlDsaVerify (slice s.boot.image 256 1312) r sig = true →
          t.reg 0x2D00 4 = (s.reg 0x2D00 4 + 1) % 256 ^ odBytes 0x2D00 4 ∧ t.reg 0x2D00 5 = s.stamp % 2 ^ 64)))
  ∧ (∀ (s : State) (r sig : List Byte), s.reg 0x2100 1 ≠ 2 ∨ sig.length ≠ 2420 ∨ field r 4 1 < s.dbgLevel →
    Does (.dbgUnlock r sig) s [.dict, .dbg, .out] [(0x2D00, 6)] (fun t =>
      t.dbg.unlock = s.dbg.unlock ∧ t.dbg.nonces = s.dbg.nonces + 1
      ∧ t.out = .tap 256 (leNat (slice (Config.unlockNonce s.dbg.nonces) 0 32)) :: s.out))
  ∧ (∀ (s : State),
    Does .dbgLock s [.dict, .dbg] [(0x2D00, 6)] (fun t => t.dbg = { s.dbg with unlock := 0 } ∧ (s.boot.lifecycle = 2 → t.dbgLevel = 0)))
  ∧ (∀ (s : State) (ad da : Nat) (r : State × ReadResult), 1 ≤ s.dbgLevel → da = ad / 32 * 32 → s.flips = [] → r = s.outsideRead da 32 →
    r.2.status = 0 →
    Does (.dbgMemRead ad) s [.dict, .dbg, .out] [(0x2D00, 6), (0x2E30, 0x0A)] (fun t =>
      t.out = .tap 256 (leNat r.2.bytes) :: s.out
      ∧ t.dbg.broken = (if s.reg (0x2490 + s.addrPart da) 8 = 1 ∨ s.reg (0x2490 + s.addrPart da) 8 = 3 then
          s.dbg.broken ++ (s.partCalderas (s.addrPart da)).filter (fun c => !s.dbg.broken.contains c) else s.dbg.broken)
      ∧ t.dbg.deviceBreak = s.dbg.deviceBreak))
  ∧ (∀ (s : State) (ad : Nat) (st : Nat), 1 ≤ s.dbgLevel → s.flips = [] → st = (s.outsideRead (ad / 32 * 32) 32).2.status → st ≠ 0 →
    Does (.dbgMemRead ad) s [.dict, .dbg, .out] [(0x2D00, 6), (0x2290, 0x12), (0x2290, 0x13)] (fun t =>
      t.out = .tap 256 st :: s.out ∧ t.dbg.broken = s.dbg.broken))
  ∧ (∀ (s : State) (ad da : Nat) (u : List Byte) (r : State × Nat × Nat), 2 ≤ s.dbgLevel → da = ad / 32 * 32 →
    r = s.outsideWrite .debug da ((slice u 0 32).map some) → r.2.1 = 0 →
    Completes (.dbgMemWrite ad u) s (fun t =>
      Only [.dict, .dbg, .out] r.1 t ∧ t.out = .tap 256 0 :: s.out
      ∧ t.dbg.deviceBreak = (s.dbg.deviceBreak || decide (regionOf da = .buf ∨ ((pageId da).isSome = true ∧ s.addrPart da = 0)))))
  ∧ (∀ (s : State) (da k : Nat) (u : List Byte), 2 ≤ s.dbgLevel → da % 32 = 0 → regionOf da = .buf → s.outsideStatus true da = 0 → u.length = 32 →
    s.place da = .buf k →
    Does (.dbgMemWrite da u) s [.dict, .mem, .flips, .calderas, .dbg, .out] ((0x2D00, 6) :: writeRegs) (fun t =>
      t.out = .tap 256 0 :: s.out ∧ t.dbg.deviceBreak = true ∧ t.dbg.broken = List.range 8
      ∧ t.mem = wrBytes s.mem k u))
  ∧ (∀ (s : State) (m : Nat), 2 ≤ s.dbgLevel → s.stopRefused = false →
    Does (.dbgStop m false) s [.dict, .calderas, .dbg] [(0x2D00, 6), (0x2D10, 3), (0x2D10, 4), (0x2D10, 5), (0x2D10, 8)] (fun t =>
      t.reg 0x2D10 3 = 1 ∧ t.reg 0x2D10 5 = s.stamp % 2 ^ 64 ∧ t.reg 0x2D10 8 = (s.reg 0x2D10 8 + 1) % 2 ^ 32
      ∧ ∀ c, c < 8 → bit (t.reg 0x2D10 4) c = bit m c
        ∧ t.caldera c = { s.caldera c with external := (s.caldera c).external ++ (if bit m c then [.stop] else []) }))
  ∧ (∀ (s : State) (m : Nat) (r : Bool), 2 ≤ s.dbgLevel → (r = false ∧ s.stopRefused = true) ∨ (r = true ∧ s.reg 0x2D10 3 ≠ 2) →
    Does (.dbgStop m r) s [.dict] [(0x2D00, 6)] (fun t => t.reg 0x2D00 6 = 0))
  ∧ (∀ (s : State) (m : Nat), 2 ≤ s.dbgLevel → s.reg 0x2D10 3 = 2 →
    Does (.dbgStop m true) s [.dict, .calderas, .dbg] [(0x2D00, 6), (0x2D10, 3), (0x2D10, 4)] (fun t =>
      ∀ c, c < 8 → t.caldera c = { s.caldera c with
        external := (s.caldera c).external ++ (if bit (s.reg 0x2D10 4) c && !s.oos c then [.releaseStop] else []) }))
  ∧ (∀ (s : State) (v : Nat), 2 ≤ s.dbgLevel → v ≤ 1 → Does (.dbgGrant v) s [.dict] [(0x2D00, 6), (0x2D00, 3)] (fun t => t.reg 0x2D00 3 = v))
  ∧ (∀ (s : State) (v : Nat), 2 ≤ s.dbgLevel → 1 < v → Does (.dbgGrant v) s [.dict] [(0x2D00, 6)] (fun t => t.reg 0x2D00 6 = 0))
  ∧ (∀ (s : State), 2 ≤ s.dbgLevel →
    Completes .dbgReset s (fun t =>
      Only [.pending, .time, .boot, .dbg, .hostMem, .mem, .flips, .xlat, .xlatShadow, .freeUsed, .out] State.reset t
      ∧ t.pending = s.pending ∧ t.hostMem = s.hostMem ∧ t.freeUsed = s.freeUsed ∧ t.out = s.out
      ∧ t.mem = s.mem.filter (fun c => decide (c.1 < 0x200000000)) ∧ t.xlat = s.xlat
      ∧ t.time.seconds = s.time.seconds ∧ t.time.nanos = s.time.nanos ∧ t.time.frac = s.time.frac
      ∧ t.boot = { State.reset.boot with
          resetN := s.boot.resetN, perstN := s.boot.perstN, slots := s.boot.slots, fuses := s.boot.fuses,
          lifecycle := s.boot.lifecycle, aon := s.boot.aon, cause := 32, resets := (s.boot.resets + 1) % 2 ^ 32, filled := true,
          lastStamp := s.stamp, tempPeak := s.boot.tempPeak, pllRestarts := s.boot.pllRestarts }
      ∧ t.dbg = { State.reset.dbg with nonces := s.dbg.nonces, broken := s.dbg.broken, deviceBreak := s.dbg.deviceBreak }))

/-- GLOBAL_STOP sends a stop to every caldera in service, PARTITION_STOP to those of the partitions named; STATE becomes
01h with the scope, the time and the count. Each is refused with 0800_0022h under STOP_LOCK or while a stop is in
force, as is PARTITION_STOP of no partition. CUT_COMPLETE, once nothing of the scope runs, stores CUT_TIME and makes
STATE 02h, and does nothing before. RELEASE of STATE 02h sends the release to the scope, and is refused otherwise.
TRACE_SYNC puts a SYNC packet into the FIFO while the trace is on, and counts it lost where the FIFO is full.
COUNTER_ENABLE with 01h zeroes the counters and starts them; with 00h it stops them. Where the rules leave room the
clauses follow the model's reading (log entries 84, 86). It says of each of these commands that it completes (exec
answers a next state with the effect told above, under conditions on the state and the operands alone): GLOBAL_STOP
(globalStop), PARTITION_STOP (partitionStop), RELEASE (release), CUT_COMPLETE (cutComplete), TRACE_SYNC (traceSync),
COUNTER_ENABLE (counterEnable). -/
def Obligations.StopsTraceAndCounters : Prop :=
  (∀ (s : State) (a : Agent), Admitted s a 0x2D10 1 1 1 → s.stopRefused = false →
    Does (.globalStop a) s [.dict, .calderas, .dbg, .replies] [(0x2D10, 3), (0x2D10, 4), (0x2D10, 5), (0x2D10, 8)] (fun t =>
      Replied a 0 0 t ∧ t.reg 0x2D10 3 = 1 ∧ t.reg 0x2D10 5 = s.stamp % 2 ^ 64 ∧ t.reg 0x2D10 8 = (s.reg 0x2D10 8 + 1) % 2 ^ 32
      ∧ ∀ c, c < 8 → bit (t.reg 0x2D10 4) c = !s.oos c
        ∧ t.caldera c = { s.caldera c with external := (s.caldera c).external ++ (if s.oos c then [] else [.stop]) }))
  ∧ (∀ (s : State) (a : Agent), Admitted s a 0x2D10 1 1 2 → s.stopRefused = false → s.reg 0x2D10 2 ≠ 0 →
    Does (.partitionStop a) s [.dict, .calderas, .dbg, .replies] [(0x2D10, 3), (0x2D10, 4), (0x2D10, 5), (0x2D10, 8)] (fun t =>
      Replied a 0 0 t ∧ t.reg 0x2D10 3 = 1 ∧ t.reg 0x2D10 8 = (s.reg 0x2D10 8 + 1) % 2 ^ 32
      ∧ ∀ c, c < 8 → bit (t.reg 0x2D10 4) c = bit (s.reg 0x2D10 2) (s.calderaPart c)
        ∧ t.caldera c = { s.caldera c with
            external := (s.caldera c).external ++ (if bit (s.reg 0x2D10 2) (s.calderaPart c) then [.stop] else []) }))
  ∧ (∀ (s : State) (a : Agent) (x : Instr × Nat), x ∈ [(.globalStop a, 1), (.partitionStop a, 2)] → Admitted s a 0x2D10 1 1 x.2 →
    s.stopRefused = true ∨ (x.2 = 2 ∧ s.reg 0x2D10 2 = 0) → Does x.1 s [.replies] [] (Replied a 0x08000022 0))
  ∧ (∀ (s : State), s.reg 0x2D10 3 = 1 → s.cutReady = true →
    Does .cutComplete s [.dict, .dbg] ([(0x2D10, 3), (0x2D10, 6)] ++ traceRegs) (fun t => t.reg 0x2D10 3 = 2 ∧ t.reg 0x2D10 6 = s.stamp % 2 ^ 64))
  ∧ (∀ (s : State), s.reg 0x2D10 3 ≠ 1 ∨ s.cutReady = false → exec .cutComplete s = .next s)
  ∧ (∀ (s : State) (a : Agent) (cs : List Nat), Admitted s a 0x2D10 1 1 3 → s.reg 0x2D10 3 = 2 →
    cs = (List.range 8).filter (fun c => bit (s.reg 0x2D10 4) c && !s.oos c) → cs ≠ [] →
    Does (.release a) s [.dict, .calderas, .dbg, .replies] [(0x2D10, 3)] (fun t =>
      Replied a 0 0 t ∧ t.reg 0x2D10 3 = 3 ∧ t.dbg = { s.dbg with untaken := cs }
      ∧ ∀ c, t.caldera c = { s.caldera c with external := (s.caldera c).external ++ (if cs.contains c then [.releaseStop] else []) }))
  ∧ (∀ (s : State) (a : Agent), Admitted s a 0x2D10 1 1 3 → s.reg 0x2D10 3 ≠ 2 → Does (.release a) s [.replies] [] (Replied a 0x08000022 0))
  ∧ (∀ (s : State), s.reg 0x2D20 1 ≠ 0 → s.dbg.fifo.length < 4088 → s.dbg.lostSince = 0 →
    Does .traceSync s [.dict, .dbg] [(0x2D20, 0x0B)] (fun t =>
      t.dbg = { s.dbg with fifo := s.dbg.fifo ++ [leBytes 1 1 ++ [0, 0, 0] ++ leBytes 4 s.time.nanos ++ leBytes 8 s.time.seconds] }))
  ∧ (∀ (s : State), s.reg 0x2D20 1 ≠ 0 → 4088 ≤ s.dbg.fifo.length → s.dbg.fifo.length < 4096 →
    Does .traceSync s [.dict, .dbg] [(0x2D20, 0x0B)] (fun t =>
      t.dbg = { s.dbg with fifo := s.dbg.fifo ++ [leBytes 1 1 ++ [0, 0, 0] ++ leBytes 4 s.time.nanos ++ leBytes 8 s.time.seconds] }))
  ∧ (∀ (s : State), s.reg 0x2D20 1 ≠ 0 → 4096 ≤ s.dbg.fifo.length → s.reg 0x2D20 0x0A < 0xFFFFFFFF →
    Does .traceSync s [.dict, .dbg] [(0x2D20, 0x0A)] (fun t =>
      t.dbg = { s.dbg with lostSince := s.dbg.lostSince + 1 } ∧ t.reg 0x2D20 0x0A = s.reg 0x2D20 0x0A + 1))
  ∧ (∀ (s : State), s.reg 0x2D20 1 = 0 → exec .traceSync s = .next s)
  ∧ (∀ (s : State) (a : Agent), Admitted s a 0x2D60 1 1 1 →
    Does (.counterEnable a 1) s [.dict, .replies] ((0x2D60, 1) :: countRegs) (fun t =>
      Replied a 0 0 t ∧ t.reg 0x2D60 1 = 1 ∧ ∀ k, k < 8 → t.reg 0x2D60 (k + 0x0A) = 0))
  ∧ (∀ (s : State) (a : Agent), Admitted s a 0x2D60 1 1 0 →
    Does (.counterEnable a 0) s [.dict, .replies] [(0x2D60, 1)] (fun t => Replied a 0 0 t ∧ t.reg 0x2D60 1 = 0))

/-- For every state whose damage list is well formed: a codeword with one damaged symbol is read as corrected in that
symbol and its bytes read as they were written; a codeword with two damaged symbols is uncorrectable, so that a read
that touches it returns no data; one with no damage is clean and its bytes are those of the memory. -/
def Obligations.SymbolCode : Prop :=
  let damage (s : State) (cw : Nat) : List (Nat × Nat) := s.flips.filter (fun e => e.1 / 36 == cw)
  (∀ (s : State) (cw x : Nat), x / 16 = cw → damage s cw = [] → s.codeAt cw = .clean ∧ s.byteAt x = rdByte s.mem x)
  ∧ (∀ (s : State) (cw j e x : Nat), x / 16 = cw → j < 36 → 0 < e → e < 16 → damage s cw = [(36 * cw + j, e)] →
      s.codeAt cw = .corrected j ∧ s.byteAt x = rdByte s.mem x)
  ∧ (∀ (s : State) (cw j k e f a n : Nat), j < 36 → k < 36 → j ≠ k → 0 < e → e < 16 → 0 < f → f < 16 →
      damage s cw = [(36 * cw + j, e), (36 * cw + k, f)] → s.codeAt cw = .uncorrectable
      ∧ (a ≤ 16 * cw + 15 → 16 * cw < a + n → s.badRange a n = true))

end
end

