-- ==== Sys2Proof/Laws/Tables.lean ====
section
/-! SUPPORT. Laws of the tables: what a read gives after a write, and that every write keeps the canonical form. -/
namespace Sys2Proof.Machine

variable {α : Type}

@[simp] theorem tblGet_nil (d : α) (k : Nat) : tblGet d [] k = d := rfl

theorem tblGet_absent (d : α) (t : Tbl α) (k : Nat) (h : ∀ e ∈ t, e.1 ≠ k) : tblGet d t k = d := by
  induction t with
  | nil => rfl
  | cons e r ih =>
    have h1 : e.1 ≠ k := h e (by simp)
    simp [tblGet, h1, ih (fun x hx => h x (by simp [hx]))]

theorem tblGet_del_self (d : α) (t : Tbl α) (k : Nat) : tblGet d (tblDel t k) k = d :=
  tblGet_absent d _ k (fun e he => by simpa [tblDel] using (List.mem_filter.mp he).2)

theorem tblGet_del_ne (d : α) (t : Tbl α) {j k : Nat} (h : j ≠ k) : tblGet d (tblDel t k) j = tblGet d t j := by
  induction t with
  | nil => rfl
  | cons e r ih =>
    by_cases hk : e.1 = k
    · have hj : ¬ k = j := fun hj => h hj.symm
      simpa [tblDel, tblGet, hk, hj, List.filter_cons] using ih
    · by_cases hj : e.1 = j
      · simp [tblDel, tblGet, hj, h]
      · simpa [tblDel, tblGet, hk, hj, List.filter_cons] using ih

theorem tblGet_ins_self (d : α) (t : Tbl α) (k : Nat) (v : α) (h : ∀ e ∈ t, e.1 ≠ k) : tblGet d (tblIns t k v) k = v := by
  induction t with
  | nil => simp [tblIns, tblGet]
  | cons e r ih =>
    have h1 : e.1 ≠ k := h e (by simp)
    by_cases hk : k < e.1
    · simp [tblIns, tblGet, hk]
    · simp [tblIns, tblGet, hk, h1, ih (fun x hx => h x (by simp [hx]))]

theorem tblGet_ins_ne (d : α) (t : Tbl α) {j k : Nat} (v : α) (h : j ≠ k) : tblGet d (tblIns t k v) j = tblGet d t j := by
  induction t with
  | nil => simp [tblIns, tblGet, h.symm]
  | cons e r ih =>
    by_cases hk : k < e.1
    · simp [tblIns, tblGet, hk, h.symm]
    · by_cases hj : e.1 = j
      · have hlt : ¬ k < j := hj ▸ hk
        simp [tblIns, tblGet, hj, hlt]
      · simpa [tblIns, tblGet, hk, hj] using ih

variable [DecidableEq α]

/-- A read after a write to the same key gives the value written. -/
@[simp] theorem tblGet_put_self (d : α) (t : Tbl α) (k : Nat) (v : α) : tblGet d (tblPut d t k v) k = v := by
  unfold tblPut
  split
  · next h => rw [tblGet_del_self, h]
  · exact tblGet_ins_self d _ k v (fun e he => by simpa [tblDel] using (List.mem_filter.mp he).2)

/-- A write leaves every other key alone, whatever default its own key has. -/
theorem tblGet_put_ne (d d' : α) (t : Tbl α) {j k : Nat} (v : α) (h : j ≠ k) :
    tblGet d (tblPut d' t k v) j = tblGet d t j := by
  unfold tblPut
  split
  · exact tblGet_del_ne d t h
  · rw [tblGet_ins_ne d _ v h, tblGet_del_ne d t h]

theorem tblWf_filter (d : α) (t : Tbl α) (p : Nat × α → Bool) (h : tblWf d t = true) : tblWf d (t.filter p) = true := by
  induction t with
  | nil => rfl
  | cons e r ih =>
    obtain ⟨k, v⟩ := e
    simp only [tblWf, Bool.and_eq_true, decide_eq_true_eq, List.all_eq_true] at h
    by_cases hp : p (k, v) = true
    · simp only [List.filter_cons, hp, if_true, tblWf, Bool.and_eq_true, decide_eq_true_eq, List.all_eq_true]
      exact ⟨⟨h.1.1, fun x hx => h.1.2 x (List.mem_filter.mp hx).1⟩, ih h.2⟩
    · simpa [List.filter_cons, hp] using ih h.2

omit [DecidableEq α] in
theorem tblIns_mem (t : Tbl α) (k : Nat) (v : α) (e : Nat × α) (h : e ∈ tblIns t k v) : e = (k, v) ∨ e ∈ t := by
  induction t with
  | nil => exact .inl (by simpa [tblIns] using h)
  | cons x r ih =>
    obtain ⟨j, w⟩ := x
    by_cases hk : k < j
    · simpa [tblIns, hk] using h
    · simp only [tblIns, hk, if_false, List.mem_cons] at h
      rcases h with rfl | h
      · exact .inr (by simp)
      · rcases ih h with h | h
        · exact .inl h
        · exact .inr (by simp [h])

theorem tblWf_ins (d : α) (t : Tbl α) (k : Nat) (v : α) (hv : v ≠ d) (hk : ∀ e ∈ t, e.1 ≠ k) (h : tblWf d t = true) :
    tblWf d (tblIns t k v) = true := by
  induction t with
  | nil => simp [tblIns, tblWf, hv]
  | cons x r ih =>
    obtain ⟨j, w⟩ := x
    have hjk : j ≠ k := hk (j, w) (by simp)
    have h' := h
    simp only [tblWf, Bool.and_eq_true, decide_eq_true_eq, List.all_eq_true] at h'
    by_cases hlt : k < j
    · simp only [tblIns, hlt, if_true]
      rw [tblWf]
      simp only [Bool.and_eq_true, decide_eq_true_eq, List.all_eq_true, List.mem_cons]
      refine ⟨⟨hv, fun e he => ?_⟩, h⟩
      rcases he with rfl | he
      · exact hlt
      · exact Nat.lt_trans hlt (h'.1.2 e he)
    · simp only [tblIns, hlt, if_false]
      rw [tblWf]
      simp only [Bool.and_eq_true, decide_eq_true_eq, List.all_eq_true]
      refine ⟨⟨h'.1.1, fun e he => ?_⟩, ih (fun e he => hk e (by simp [he])) h'.2⟩
      rcases tblIns_mem r k v e he with rfl | he
      · exact by simpa using (show j < k by omega)
      · exact h'.1.2 e he

/-- A write keeps the canonical form. -/
theorem tblWf_put (d : α) (t : Tbl α) (k : Nat) (v : α) (h : tblWf d t = true) : tblWf d (tblPut d t k v) = true := by
  unfold tblPut
  split
  · exact tblWf_filter d t _ h
  · next hv =>
    exact tblWf_ins d _ k v hv (fun e he => by simpa [tblDel] using (List.mem_filter.mp he).2) (tblWf_filter d t _ h)

/-! ### Memory -/

theorem wrByte_wf (m : List Host.Cell) (a : Nat) (b : Byte) (h : Memory.wf m) : Memory.wf (wrByte m a b) := tblWf_put 0 m a b h

theorem wrBytes_wf (m : List Host.Cell) (a : Nat) (bs : List Byte) (h : Memory.wf m) : Memory.wf (wrBytes m a bs) := by
  induction bs generalizing m a with
  | nil => exact h
  | cons b r ih => exact ih _ _ (wrByte_wf m a b h)

theorem wrEnabled_wf (m : List Host.Cell) (a : Nat) (bs : List (Option Byte)) (h : Memory.wf m) :
    Memory.wf (wrEnabled m a bs) := by
  induction bs generalizing m a with
  | nil => exact h
  | cons b r ih =>
    cases b with
    | none => exact ih _ _ h
    | some b => exact ih _ _ (wrByte_wf m a b h)

theorem wipe_wf (m : List Host.Cell) (a n : Nat) (h : Memory.wf m) : Memory.wf (wipe m a n) := tblWf_filter 0 m _ h

@[simp] theorem rdByte_wrByte_self (m : List Host.Cell) (a : Nat) (b : Byte) : rdByte (wrByte m a b) a = b :=
  tblGet_put_self 0 m a b

theorem rdByte_wrByte_ne (m : List Host.Cell) {a x : Nat} (b : Byte) (h : x ≠ a) : rdByte (wrByte m a b) x = rdByte m x :=
  tblGet_put_ne 0 0 m b h

/-- Bytes outside the ones written read as before. -/
theorem rdByte_wrBytes_outside (m : List Host.Cell) (a x : Nat) (bs : List Byte) (h : ¬ (a ≤ x ∧ x < a + bs.length)) :
    rdByte (wrBytes m a bs) x = rdByte m x := by
  induction bs generalizing m a with
  | nil => rfl
  | cons b r ih =>
    simp only [List.length_cons] at h
    rw [wrBytes, ih _ _ (by omega), rdByte_wrByte_ne _ _ (by omega)]

/-- The bytes written read back. -/
theorem rdByte_wrBytes_inside (m : List Host.Cell) (a i : Nat) (bs : List Byte) (h : i < bs.length) :
    rdByte (wrBytes m a bs) (a + i) = bs[i] := by
  induction bs generalizing m a i with
  | nil => exact absurd h (by simp)
  | cons b r ih =>
    cases i with
    | zero => rw [wrBytes, rdByte_wrBytes_outside _ _ _ _ (by omega)]; simp
    | succ i =>
      have := ih (wrByte m a b) (a + 1) i (by simpa using h)
      simpa [wrBytes, Nat.add_assoc, Nat.add_comm 1 i] using this

/-- Reading what was just written gives it back. -/
theorem rdBytes_wrBytes (m : List Host.Cell) (a : Nat) (bs : List Byte) : rdBytes (wrBytes m a bs) a bs.length = bs := by
  apply List.ext_getElem
  · simp [rdBytes]
  · intro i h1 h2
    simp [rdBytes, rdByte_wrBytes_inside m a i bs h2]

end Sys2Proof.Machine
end

