-- ==== Sys2Proof/Laws/State.lean ====
section
/-! SUPPORT. Laws of the state's updates: for each update of one part, every other part is untouched. -/
namespace Sys2Proof.Machine

/-! `State.setReg` changes `dict` alone. -/

@[simp] theorem State.setReg_pending (s : State) (ix sub v : Nat) : (s.setReg ix sub v).pending = s.pending := rfl
@[simp] theorem State.setReg_accepted (s : State) (ix sub v : Nat) : (s.setReg ix sub v).accepted = s.accepted := rfl
@[simp] theorem State.setReg_selects (s : State) (ix sub v : Nat) : (s.setReg ix sub v).selects = s.selects := rfl
@[simp] theorem State.setReg_latches (s : State) (ix sub v : Nat) : (s.setReg ix sub v).latches = s.latches := rfl
@[simp] theorem State.setReg_replies (s : State) (ix sub v : Nat) : (s.setReg ix sub v).replies = s.replies := rfl
@[simp] theorem State.setReg_mem (s : State) (ix sub v : Nat) : (s.setReg ix sub v).mem = s.mem := rfl
@[simp] theorem State.setReg_flips (s : State) (ix sub v : Nat) : (s.setReg ix sub v).flips = s.flips := rfl
@[simp] theorem State.setReg_hostMem (s : State) (ix sub v : Nat) : (s.setReg ix sub v).hostMem = s.hostMem := rfl
@[simp] theorem State.setReg_xlat (s : State) (ix sub v : Nat) : (s.setReg ix sub v).xlat = s.xlat := rfl
@[simp] theorem State.setReg_xlatShadow (s : State) (ix sub v : Nat) : (s.setReg ix sub v).xlatShadow = s.xlatShadow := rfl
@[simp] theorem State.setReg_queues (s : State) (ix sub v : Nat) : (s.setReg ix sub v).queues = s.queues := rfl
@[simp] theorem State.setReg_syncs (s : State) (ix sub v : Nat) : (s.setReg ix sub v).syncs = s.syncs := rfl
@[simp] theorem State.setReg_time (s : State) (ix sub v : Nat) : (s.setReg ix sub v).time = s.time := rfl
@[simp] theorem State.setReg_boot (s : State) (ix sub v : Nat) : (s.setReg ix sub v).boot = s.boot := rfl
@[simp] theorem State.setReg_skeins (s : State) (ix sub v : Nat) : (s.setReg ix sub v).skeins = s.skeins := rfl
@[simp] theorem State.setReg_spindles (s : State) (ix sub v : Nat) : (s.setReg ix sub v).spindles = s.spindles := rfl
@[simp] theorem State.setReg_calderas (s : State) (ix sub v : Nat) : (s.setReg ix sub v).calderas = s.calderas := rfl
@[simp] theorem State.setReg_channels (s : State) (ix sub v : Nat) : (s.setReg ix sub v).channels = s.channels := rfl
@[simp] theorem State.setReg_scrubPending (s : State) (ix sub v : Nat) : (s.setReg ix sub v).scrubPending = s.scrubPending := rfl
@[simp] theorem State.setReg_bankTargets (s : State) (ix sub v : Nat) : (s.setReg ix sub v).bankTargets = s.bankTargets := rfl
@[simp] theorem State.setReg_plans (s : State) (ix sub v : Nat) : (s.setReg ix sub v).plans = s.plans := rfl
@[simp] theorem State.setReg_cameras (s : State) (ix sub v : Nat) : (s.setReg ix sub v).cameras = s.cameras := rfl
@[simp] theorem State.setReg_chains (s : State) (ix sub v : Nat) : (s.setReg ix sub v).chains = s.chains := rfl
@[simp] theorem State.setReg_decoders (s : State) (ix sub v : Nat) : (s.setReg ix sub v).decoders = s.decoders := rfl
@[simp] theorem State.setReg_lanes (s : State) (ix sub v : Nat) : (s.setReg ix sub v).lanes = s.lanes := rfl
@[simp] theorem State.setReg_gatherQueue (s : State) (ix sub v : Nat) : (s.setReg ix sub v).gatherQueue = s.gatherQueue := rfl
@[simp] theorem State.setReg_gatherBusy (s : State) (ix sub v : Nat) : (s.setReg ix sub v).gatherBusy = s.gatherBusy := rfl
@[simp] theorem State.setReg_blocks (s : State) (ix sub v : Nat) : (s.setReg ix sub v).blocks = s.blocks := rfl
@[simp] theorem State.setReg_engines (s : State) (ix sub v : Nat) : (s.setReg ix sub v).engines = s.engines := rfl
@[simp] theorem State.setReg_jobOrder (s : State) (ix sub v : Nat) : (s.setReg ix sub v).jobOrder = s.jobOrder := rfl
@[simp] theorem State.setReg_nextBlock (s : State) (ix sub v : Nat) : (s.setReg ix sub v).nextBlock = s.nextBlock := rfl
@[simp] theorem State.setReg_launches (s : State) (ix sub v : Nat) : (s.setReg ix sub v).launches = s.launches := rfl
@[simp] theorem State.setReg_ptpPending (s : State) (ix sub v : Nat) : (s.setReg ix sub v).ptpPending = s.ptpPending := rfl
@[simp] theorem State.setReg_speedAt (s : State) (ix sub v : Nat) : (s.setReg ix sub v).speedAt = s.speedAt := rfl
@[simp] theorem State.setReg_safety (s : State) (ix sub v : Nat) : (s.setReg ix sub v).safety = s.safety := rfl
@[simp] theorem State.setReg_mailboxes (s : State) (ix sub v : Nat) : (s.setReg ix sub v).mailboxes = s.mailboxes := rfl
@[simp] theorem State.setReg_mirrorQueue (s : State) (ix sub v : Nat) : (s.setReg ix sub v).mirrorQueue = s.mirrorQueue := rfl
@[simp] theorem State.setReg_cans (s : State) (ix sub v : Nat) : (s.setReg ix sub v).cans = s.cans := rfl
@[simp] theorem State.setReg_busMaster (s : State) (ix sub v : Nat) : (s.setReg ix sub v).busMaster = s.busMaster := rfl
@[simp] theorem State.setReg_d3hot (s : State) (ix sub v : Nat) : (s.setReg ix sub v).d3hot = s.d3hot := rfl
@[simp] theorem State.setReg_msixTable (s : State) (ix sub v : Nat) : (s.setReg ix sub v).msixTable = s.msixTable := rfl
@[simp] theorem State.setReg_links (s : State) (ix sub v : Nat) : (s.setReg ix sub v).links = s.links := rfl
@[simp] theorem State.setReg_discovery (s : State) (ix sub v : Nat) : (s.setReg ix sub v).discovery = s.discovery := rfl
@[simp] theorem State.setReg_dbg (s : State) (ix sub v : Nat) : (s.setReg ix sub v).dbg = s.dbg := rfl
@[simp] theorem State.setReg_freeUsed (s : State) (ix sub v : Nat) : (s.setReg ix sub v).freeUsed = s.freeUsed := rfl
@[simp] theorem State.setReg_out (s : State) (ix sub v : Nat) : (s.setReg ix sub v).out = s.out := rfl

/-! `State.setAcc` changes `accepted` alone. -/

@[simp] theorem State.setAcc_pending (s : State) (ix sub v : Nat) : (s.setAcc ix sub v).pending = s.pending := rfl
@[simp] theorem State.setAcc_dict (s : State) (ix sub v : Nat) : (s.setAcc ix sub v).dict = s.dict := rfl
@[simp] theorem State.setAcc_selects (s : State) (ix sub v : Nat) : (s.setAcc ix sub v).selects = s.selects := rfl
@[simp] theorem State.setAcc_latches (s : State) (ix sub v : Nat) : (s.setAcc ix sub v).latches = s.latches := rfl
@[simp] theorem State.setAcc_replies (s : State) (ix sub v : Nat) : (s.setAcc ix sub v).replies = s.replies := rfl
@[simp] theorem State.setAcc_mem (s : State) (ix sub v : Nat) : (s.setAcc ix sub v).mem = s.mem := rfl
@[simp] theorem State.setAcc_flips (s : State) (ix sub v : Nat) : (s.setAcc ix sub v).flips = s.flips := rfl
@[simp] theorem State.setAcc_hostMem (s : State) (ix sub v : Nat) : (s.setAcc ix sub v).hostMem = s.hostMem := rfl
@[simp] theorem State.setAcc_xlat (s : State) (ix sub v : Nat) : (s.setAcc ix sub v).xlat = s.xlat := rfl
@[simp] theorem State.setAcc_xlatShadow (s : State) (ix sub v : Nat) : (s.setAcc ix sub v).xlatShadow = s.xlatShadow := rfl
@[simp] theorem State.setAcc_queues (s : State) (ix sub v : Nat) : (s.setAcc ix sub v).queues = s.queues := rfl
@[simp] theorem State.setAcc_syncs (s : State) (ix sub v : Nat) : (s.setAcc ix sub v).syncs = s.syncs := rfl
@[simp] theorem State.setAcc_time (s : State) (ix sub v : Nat) : (s.setAcc ix sub v).time = s.time := rfl
@[simp] theorem State.setAcc_boot (s : State) (ix sub v : Nat) : (s.setAcc ix sub v).boot = s.boot := rfl
@[simp] theorem State.setAcc_skeins (s : State) (ix sub v : Nat) : (s.setAcc ix sub v).skeins = s.skeins := rfl
@[simp] theorem State.setAcc_spindles (s : State) (ix sub v : Nat) : (s.setAcc ix sub v).spindles = s.spindles := rfl
@[simp] theorem State.setAcc_calderas (s : State) (ix sub v : Nat) : (s.setAcc ix sub v).calderas = s.calderas := rfl
@[simp] theorem State.setAcc_channels (s : State) (ix sub v : Nat) : (s.setAcc ix sub v).channels = s.channels := rfl
@[simp] theorem State.setAcc_scrubPending (s : State) (ix sub v : Nat) : (s.setAcc ix sub v).scrubPending = s.scrubPending := rfl
@[simp] theorem State.setAcc_bankTargets (s : State) (ix sub v : Nat) : (s.setAcc ix sub v).bankTargets = s.bankTargets := rfl
@[simp] theorem State.setAcc_plans (s : State) (ix sub v : Nat) : (s.setAcc ix sub v).plans = s.plans := rfl
@[simp] theorem State.setAcc_cameras (s : State) (ix sub v : Nat) : (s.setAcc ix sub v).cameras = s.cameras := rfl
@[simp] theorem State.setAcc_chains (s : State) (ix sub v : Nat) : (s.setAcc ix sub v).chains = s.chains := rfl
@[simp] theorem State.setAcc_decoders (s : State) (ix sub v : Nat) : (s.setAcc ix sub v).decoders = s.decoders := rfl
@[simp] theorem State.setAcc_lanes (s : State) (ix sub v : Nat) : (s.setAcc ix sub v).lanes = s.lanes := rfl
@[simp] theorem State.setAcc_gatherQueue (s : State) (ix sub v : Nat) : (s.setAcc ix sub v).gatherQueue = s.gatherQueue := rfl
@[simp] theorem State.setAcc_gatherBusy (s : State) (ix sub v : Nat) : (s.setAcc ix sub v).gatherBusy = s.gatherBusy := rfl
@[simp] theorem State.setAcc_blocks (s : State) (ix sub v : Nat) : (s.setAcc ix sub v).blocks = s.blocks := rfl
@[simp] theorem State.setAcc_engines (s : State) (ix sub v : Nat) : (s.setAcc ix sub v).engines = s.engines := rfl
@[simp] theorem State.setAcc_jobOrder (s : State) (ix sub v : Nat) : (s.setAcc ix sub v).jobOrder = s.jobOrder := rfl
@[simp] theorem State.setAcc_nextBlock (s : State) (ix sub v : Nat) : (s.setAcc ix sub v).nextBlock = s.nextBlock := rfl
@[simp] theorem State.setAcc_launches (s : State) (ix sub v : Nat) : (s.setAcc ix sub v).launches = s.launches := rfl
@[simp] theorem State.setAcc_ptpPending (s : State) (ix sub v : Nat) : (s.setAcc ix sub v).ptpPending = s.ptpPending := rfl
@[simp] theorem State.setAcc_speedAt (s : State) (ix sub v : Nat) : (s.setAcc ix sub v).speedAt = s.speedAt := rfl
@[simp] theorem State.setAcc_safety (s : State) (ix sub v : Nat) : (s.setAcc ix sub v).safety = s.safety := rfl
@[simp] theorem State.setAcc_mailboxes (s : State) (ix sub v : Nat) : (s.setAcc ix sub v).mailboxes = s.mailboxes := rfl
@[simp] theorem State.setAcc_mirrorQueue (s : State) (ix sub v : Nat) : (s.setAcc ix sub v).mirrorQueue = s.mirrorQueue := rfl
@[simp] theorem State.setAcc_cans (s : State) (ix sub v : Nat) : (s.setAcc ix sub v).cans = s.cans := rfl
@[simp] theorem State.setAcc_busMaster (s : State) (ix sub v : Nat) : (s.setAcc ix sub v).busMaster = s.busMaster := rfl
@[simp] theorem State.setAcc_d3hot (s : State) (ix sub v : Nat) : (s.setAcc ix sub v).d3hot = s.d3hot := rfl
@[simp] theorem State.setAcc_msixTable (s : State) (ix sub v : Nat) : (s.setAcc ix sub v).msixTable = s.msixTable := rfl
@[simp] theorem State.setAcc_links (s : State) (ix sub v : Nat) : (s.setAcc ix sub v).links = s.links := rfl
@[simp] theorem State.setAcc_discovery (s : State) (ix sub v : Nat) : (s.setAcc ix sub v).discovery = s.discovery := rfl
@[simp] theorem State.setAcc_dbg (s : State) (ix sub v : Nat) : (s.setAcc ix sub v).dbg = s.dbg := rfl
@[simp] theorem State.setAcc_freeUsed (s : State) (ix sub v : Nat) : (s.setAcc ix sub v).freeUsed = s.freeUsed := rfl
@[simp] theorem State.setAcc_out (s : State) (ix sub v : Nat) : (s.setAcc ix sub v).out = s.out := rfl

/-! `State.wr` changes `mem` alone. -/

@[simp] theorem State.wr_pending (s : State) (a : Nat) (bs : List Byte) : (s.wr a bs).pending = s.pending := rfl
@[simp] theorem State.wr_dict (s : State) (a : Nat) (bs : List Byte) : (s.wr a bs).dict = s.dict := rfl
@[simp] theorem State.wr_accepted (s : State) (a : Nat) (bs : List Byte) : (s.wr a bs).accepted = s.accepted := rfl
@[simp] theorem State.wr_selects (s : State) (a : Nat) (bs : List Byte) : (s.wr a bs).selects = s.selects := rfl
@[simp] theorem State.wr_latches (s : State) (a : Nat) (bs : List Byte) : (s.wr a bs).latches = s.latches := rfl
@[simp] theorem State.wr_replies (s : State) (a : Nat) (bs : List Byte) : (s.wr a bs).replies = s.replies := rfl
@[simp] theorem State.wr_flips (s : State) (a : Nat) (bs : List Byte) : (s.wr a bs).flips = s.flips := rfl
@[simp] theorem State.wr_hostMem (s : State) (a : Nat) (bs : List Byte) : (s.wr a bs).hostMem = s.hostMem := rfl
@[simp] theorem State.wr_xlat (s : State) (a : Nat) (bs : List Byte) : (s.wr a bs).xlat = s.xlat := rfl
@[simp] theorem State.wr_xlatShadow (s : State) (a : Nat) (bs : List Byte) : (s.wr a bs).xlatShadow = s.xlatShadow := rfl
@[simp] theorem State.wr_queues (s : State) (a : Nat) (bs : List Byte) : (s.wr a bs).queues = s.queues := rfl
@[simp] theorem State.wr_syncs (s : State) (a : Nat) (bs : List Byte) : (s.wr a bs).syncs = s.syncs := rfl
@[simp] theorem State.wr_time (s : State) (a : Nat) (bs : List Byte) : (s.wr a bs).time = s.time := rfl
@[simp] theorem State.wr_boot (s : State) (a : Nat) (bs : List Byte) : (s.wr a bs).boot = s.boot := rfl
@[simp] theorem State.wr_skeins (s : State) (a : Nat) (bs : List Byte) : (s.wr a bs).skeins = s.skeins := rfl
@[simp] theorem State.wr_spindles (s : State) (a : Nat) (bs : List Byte) : (s.wr a bs).spindles = s.spindles := rfl
@[simp] theorem State.wr_calderas (s : State) (a : Nat) (bs : List Byte) : (s.wr a bs).calderas = s.calderas := rfl
@[simp] theorem State.wr_channels (s : State) (a : Nat) (bs : List Byte) : (s.wr a bs).channels = s.channels := rfl
@[simp] theorem State.wr_scrubPending (s : State) (a : Nat) (bs : List Byte) : (s.wr a bs).scrubPending = s.scrubPending := rfl
@[simp] theorem State.wr_bankTargets (s : State) (a : Nat) (bs : List Byte) : (s.wr a bs).bankTargets = s.bankTargets := rfl
@[simp] theorem State.wr_plans (s : State) (a : Nat) (bs : List Byte) : (s.wr a bs).plans = s.plans := rfl
@[simp] theorem State.wr_cameras (s : State) (a : Nat) (bs : List Byte) : (s.wr a bs).cameras = s.cameras := rfl
@[simp] theorem State.wr_chains (s : State) (a : Nat) (bs : List Byte) : (s.wr a bs).chains = s.chains := rfl
@[simp] theorem State.wr_decoders (s : State) (a : Nat) (bs : List Byte) : (s.wr a bs).decoders = s.decoders := rfl
@[simp] theorem State.wr_lanes (s : State) (a : Nat) (bs : List Byte) : (s.wr a bs).lanes = s.lanes := rfl
@[simp] theorem State.wr_gatherQueue (s : State) (a : Nat) (bs : List Byte) : (s.wr a bs).gatherQueue = s.gatherQueue := rfl
@[simp] theorem State.wr_gatherBusy (s : State) (a : Nat) (bs : List Byte) : (s.wr a bs).gatherBusy = s.gatherBusy := rfl
@[simp] theorem State.wr_blocks (s : State) (a : Nat) (bs : List Byte) : (s.wr a bs).blocks = s.blocks := rfl
@[simp] theorem State.wr_engines (s : State) (a : Nat) (bs : List Byte) : (s.wr a bs).engines = s.engines := rfl
@[simp] theorem State.wr_jobOrder (s : State) (a : Nat) (bs : List Byte) : (s.wr a bs).jobOrder = s.jobOrder := rfl
@[simp] theorem State.wr_nextBlock (s : State) (a : Nat) (bs : List Byte) : (s.wr a bs).nextBlock = s.nextBlock := rfl
@[simp] theorem State.wr_launches (s : State) (a : Nat) (bs : List Byte) : (s.wr a bs).launches = s.launches := rfl
@[simp] theorem State.wr_ptpPending (s : State) (a : Nat) (bs : List Byte) : (s.wr a bs).ptpPending = s.ptpPending := rfl
@[simp] theorem State.wr_speedAt (s : State) (a : Nat) (bs : List Byte) : (s.wr a bs).speedAt = s.speedAt := rfl
@[simp] theorem State.wr_safety (s : State) (a : Nat) (bs : List Byte) : (s.wr a bs).safety = s.safety := rfl
@[simp] theorem State.wr_mailboxes (s : State) (a : Nat) (bs : List Byte) : (s.wr a bs).mailboxes = s.mailboxes := rfl
@[simp] theorem State.wr_mirrorQueue (s : State) (a : Nat) (bs : List Byte) : (s.wr a bs).mirrorQueue = s.mirrorQueue := rfl
@[simp] theorem State.wr_cans (s : State) (a : Nat) (bs : List Byte) : (s.wr a bs).cans = s.cans := rfl
@[simp] theorem State.wr_busMaster (s : State) (a : Nat) (bs : List Byte) : (s.wr a bs).busMaster = s.busMaster := rfl
@[simp] theorem State.wr_d3hot (s : State) (a : Nat) (bs : List Byte) : (s.wr a bs).d3hot = s.d3hot := rfl
@[simp] theorem State.wr_msixTable (s : State) (a : Nat) (bs : List Byte) : (s.wr a bs).msixTable = s.msixTable := rfl
@[simp] theorem State.wr_links (s : State) (a : Nat) (bs : List Byte) : (s.wr a bs).links = s.links := rfl
@[simp] theorem State.wr_discovery (s : State) (a : Nat) (bs : List Byte) : (s.wr a bs).discovery = s.discovery := rfl
@[simp] theorem State.wr_dbg (s : State) (a : Nat) (bs : List Byte) : (s.wr a bs).dbg = s.dbg := rfl
@[simp] theorem State.wr_freeUsed (s : State) (a : Nat) (bs : List Byte) : (s.wr a bs).freeUsed = s.freeUsed := rfl
@[simp] theorem State.wr_out (s : State) (a : Nat) (bs : List Byte) : (s.wr a bs).out = s.out := rfl

/-! `State.setSkein` changes `skeins` alone. -/

@[simp] theorem State.setSkein_pending (s : State) (g : Nat) (k : Skein) : (s.setSkein g k).pending = s.pending := rfl
@[simp] theorem State.setSkein_dict (s : State) (g : Nat) (k : Skein) : (s.setSkein g k).dict = s.dict := rfl
@[simp] theorem State.setSkein_accepted (s : State) (g : Nat) (k : Skein) : (s.setSkein g k).accepted = s.accepted := rfl
@[simp] theorem State.setSkein_selects (s : State) (g : Nat) (k : Skein) : (s.setSkein g k).selects = s.selects := rfl
@[simp] theorem State.setSkein_latches (s : State) (g : Nat) (k : Skein) : (s.setSkein g k).latches = s.latches := rfl
@[simp] theorem State.setSkein_replies (s : State) (g : Nat) (k : Skein) : (s.setSkein g k).replies = s.replies := rfl
@[simp] theorem State.setSkein_mem (s : State) (g : Nat) (k : Skein) : (s.setSkein g k).mem = s.mem := rfl
@[simp] theorem State.setSkein_flips (s : State) (g : Nat) (k : Skein) : (s.setSkein g k).flips = s.flips := rfl
@[simp] theorem State.setSkein_hostMem (s : State) (g : Nat) (k : Skein) : (s.setSkein g k).hostMem = s.hostMem := rfl
@[simp] theorem State.setSkein_xlat (s : State) (g : Nat) (k : Skein) : (s.setSkein g k).xlat = s.xlat := rfl
@[simp] theorem State.setSkein_xlatShadow (s : State) (g : Nat) (k : Skein) : (s.setSkein g k).xlatShadow = s.xlatShadow := rfl
@[simp] theorem State.setSkein_queues (s : State) (g : Nat) (k : Skein) : (s.setSkein g k).queues = s.queues := rfl
@[simp] theorem State.setSkein_syncs (s : State) (g : Nat) (k : Skein) : (s.setSkein g k).syncs = s.syncs := rfl
@[simp] theorem State.setSkein_time (s : State) (g : Nat) (k : Skein) : (s.setSkein g k).time = s.time := rfl
@[simp] theorem State.setSkein_boot (s : State) (g : Nat) (k : Skein) : (s.setSkein g k).boot = s.boot := rfl
@[simp] theorem State.setSkein_spindles (s : State) (g : Nat) (k : Skein) : (s.setSkein g k).spindles = s.spindles := rfl
@[simp] theorem State.setSkein_calderas (s : State) (g : Nat) (k : Skein) : (s.setSkein g k).calderas = s.calderas := rfl
@[simp] theorem State.setSkein_channels (s : State) (g : Nat) (k : Skein) : (s.setSkein g k).channels = s.channels := rfl
@[simp] theorem State.setSkein_scrubPending (s : State) (g : Nat) (k : Skein) : (s.setSkein g k).scrubPending = s.scrubPending := rfl
@[simp] theorem State.setSkein_bankTargets (s : State) (g : Nat) (k : Skein) : (s.setSkein g k).bankTargets = s.bankTargets := rfl
@[simp] theorem State.setSkein_plans (s : State) (g : Nat) (k : Skein) : (s.setSkein g k).plans = s.plans := rfl
@[simp] theorem State.setSkein_cameras (s : State) (g : Nat) (k : Skein) : (s.setSkein g k).cameras = s.cameras := rfl
@[simp] theorem State.setSkein_chains (s : State) (g : Nat) (k : Skein) : (s.setSkein g k).chains = s.chains := rfl
@[simp] theorem State.setSkein_decoders (s : State) (g : Nat) (k : Skein) : (s.setSkein g k).decoders = s.decoders := rfl
@[simp] theorem State.setSkein_lanes (s : State) (g : Nat) (k : Skein) : (s.setSkein g k).lanes = s.lanes := rfl
@[simp] theorem State.setSkein_gatherQueue (s : State) (g : Nat) (k : Skein) : (s.setSkein g k).gatherQueue = s.gatherQueue := rfl
@[simp] theorem State.setSkein_gatherBusy (s : State) (g : Nat) (k : Skein) : (s.setSkein g k).gatherBusy = s.gatherBusy := rfl
@[simp] theorem State.setSkein_blocks (s : State) (g : Nat) (k : Skein) : (s.setSkein g k).blocks = s.blocks := rfl
@[simp] theorem State.setSkein_engines (s : State) (g : Nat) (k : Skein) : (s.setSkein g k).engines = s.engines := rfl
@[simp] theorem State.setSkein_jobOrder (s : State) (g : Nat) (k : Skein) : (s.setSkein g k).jobOrder = s.jobOrder := rfl
@[simp] theorem State.setSkein_nextBlock (s : State) (g : Nat) (k : Skein) : (s.setSkein g k).nextBlock = s.nextBlock := rfl
@[simp] theorem State.setSkein_launches (s : State) (g : Nat) (k : Skein) : (s.setSkein g k).launches = s.launches := rfl
@[simp] theorem State.setSkein_ptpPending (s : State) (g : Nat) (k : Skein) : (s.setSkein g k).ptpPending = s.ptpPending := rfl
@[simp] theorem State.setSkein_speedAt (s : State) (g : Nat) (k : Skein) : (s.setSkein g k).speedAt = s.speedAt := rfl
@[simp] theorem State.setSkein_safety (s : State) (g : Nat) (k : Skein) : (s.setSkein g k).safety = s.safety := rfl
@[simp] theorem State.setSkein_mailboxes (s : State) (g : Nat) (k : Skein) : (s.setSkein g k).mailboxes = s.mailboxes := rfl
@[simp] theorem State.setSkein_mirrorQueue (s : State) (g : Nat) (k : Skein) : (s.setSkein g k).mirrorQueue = s.mirrorQueue := rfl
@[simp] theorem State.setSkein_cans (s : State) (g : Nat) (k : Skein) : (s.setSkein g k).cans = s.cans := rfl
@[simp] theorem State.setSkein_busMaster (s : State) (g : Nat) (k : Skein) : (s.setSkein g k).busMaster = s.busMaster := rfl
@[simp] theorem State.setSkein_d3hot (s : State) (g : Nat) (k : Skein) : (s.setSkein g k).d3hot = s.d3hot := rfl
@[simp] theorem State.setSkein_msixTable (s : State) (g : Nat) (k : Skein) : (s.setSkein g k).msixTable = s.msixTable := rfl
@[simp] theorem State.setSkein_links (s : State) (g : Nat) (k : Skein) : (s.setSkein g k).links = s.links := rfl
@[simp] theorem State.setSkein_discovery (s : State) (g : Nat) (k : Skein) : (s.setSkein g k).discovery = s.discovery := rfl
@[simp] theorem State.setSkein_dbg (s : State) (g : Nat) (k : Skein) : (s.setSkein g k).dbg = s.dbg := rfl
@[simp] theorem State.setSkein_freeUsed (s : State) (g : Nat) (k : Skein) : (s.setSkein g k).freeUsed = s.freeUsed := rfl
@[simp] theorem State.setSkein_out (s : State) (g : Nat) (k : Skein) : (s.setSkein g k).out = s.out := rfl

/-! `State.setSpindle` changes `spindles` alone. -/

@[simp] theorem State.setSpindle_pending (s : State) (u : Nat) (k : Spindle) : (s.setSpindle u k).pending = s.pending := rfl
@[simp] theorem State.setSpindle_dict (s : State) (u : Nat) (k : Spindle) : (s.setSpindle u k).dict = s.dict := rfl
@[simp] theorem State.setSpindle_accepted (s : State) (u : Nat) (k : Spindle) : (s.setSpindle u k).accepted = s.accepted := rfl
@[simp] theorem State.setSpindle_selects (s : State) (u : Nat) (k : Spindle) : (s.setSpindle u k).selects = s.selects := rfl
@[simp] theorem State.setSpindle_latches (s : State) (u : Nat) (k : Spindle) : (s.setSpindle u k).latches = s.latches := rfl
@[simp] theorem State.setSpindle_replies (s : State) (u : Nat) (k : Spindle) : (s.setSpindle u k).replies = s.replies := rfl
@[simp] theorem State.setSpindle_mem (s : State) (u : Nat) (k : Spindle) : (s.setSpindle u k).mem = s.mem := rfl
@[simp] theorem State.setSpindle_flips (s : State) (u : Nat) (k : Spindle) : (s.setSpindle u k).flips = s.flips := rfl
@[simp] theorem State.setSpindle_hostMem (s : State) (u : Nat) (k : Spindle) : (s.setSpindle u k).hostMem = s.hostMem := rfl
@[simp] theorem State.setSpindle_xlat (s : State) (u : Nat) (k : Spindle) : (s.setSpindle u k).xlat = s.xlat := rfl
@[simp] theorem State.setSpindle_xlatShadow (s : State) (u : Nat) (k : Spindle) : (s.setSpindle u k).xlatShadow = s.xlatShadow := rfl
@[simp] theorem State.setSpindle_queues (s : State) (u : Nat) (k : Spindle) : (s.setSpindle u k).queues = s.queues := rfl
@[simp] theorem State.setSpindle_syncs (s : State) (u : Nat) (k : Spindle) : (s.setSpindle u k).syncs = s.syncs := rfl
@[simp] theorem State.setSpindle_time (s : State) (u : Nat) (k : Spindle) : (s.setSpindle u k).time = s.time := rfl
@[simp] theorem State.setSpindle_boot (s : State) (u : Nat) (k : Spindle) : (s.setSpindle u k).boot = s.boot := rfl
@[simp] theorem State.setSpindle_skeins (s : State) (u : Nat) (k : Spindle) : (s.setSpindle u k).skeins = s.skeins := rfl
@[simp] theorem State.setSpindle_calderas (s : State) (u : Nat) (k : Spindle) : (s.setSpindle u k).calderas = s.calderas := rfl
@[simp] theorem State.setSpindle_channels (s : State) (u : Nat) (k : Spindle) : (s.setSpindle u k).channels = s.channels := rfl
@[simp] theorem State.setSpindle_scrubPending (s : State) (u : Nat) (k : Spindle) : (s.setSpindle u k).scrubPending = s.scrubPending := rfl
@[simp] theorem State.setSpindle_bankTargets (s : State) (u : Nat) (k : Spindle) : (s.setSpindle u k).bankTargets = s.bankTargets := rfl
@[simp] theorem State.setSpindle_plans (s : State) (u : Nat) (k : Spindle) : (s.setSpindle u k).plans = s.plans := rfl
@[simp] theorem State.setSpindle_cameras (s : State) (u : Nat) (k : Spindle) : (s.setSpindle u k).cameras = s.cameras := rfl
@[simp] theorem State.setSpindle_chains (s : State) (u : Nat) (k : Spindle) : (s.setSpindle u k).chains = s.chains := rfl
@[simp] theorem State.setSpindle_decoders (s : State) (u : Nat) (k : Spindle) : (s.setSpindle u k).decoders = s.decoders := rfl
@[simp] theorem State.setSpindle_lanes (s : State) (u : Nat) (k : Spindle) : (s.setSpindle u k).lanes = s.lanes := rfl
@[simp] theorem State.setSpindle_gatherQueue (s : State) (u : Nat) (k : Spindle) : (s.setSpindle u k).gatherQueue = s.gatherQueue := rfl
@[simp] theorem State.setSpindle_gatherBusy (s : State) (u : Nat) (k : Spindle) : (s.setSpindle u k).gatherBusy = s.gatherBusy := rfl
@[simp] theorem State.setSpindle_blocks (s : State) (u : Nat) (k : Spindle) : (s.setSpindle u k).blocks = s.blocks := rfl
@[simp] theorem State.setSpindle_engines (s : State) (u : Nat) (k : Spindle) : (s.setSpindle u k).engines = s.engines := rfl
@[simp] theorem State.setSpindle_jobOrder (s : State) (u : Nat) (k : Spindle) : (s.setSpindle u k).jobOrder = s.jobOrder := rfl
@[simp] theorem State.setSpindle_nextBlock (s : State) (u : Nat) (k : Spindle) : (s.setSpindle u k).nextBlock = s.nextBlock := rfl
@[simp] theorem State.setSpindle_launches (s : State) (u : Nat) (k : Spindle) : (s.setSpindle u k).launches = s.launches := rfl
@[simp] theorem State.setSpindle_ptpPending (s : State) (u : Nat) (k : Spindle) : (s.setSpindle u k).ptpPending = s.ptpPending := rfl
@[simp] theorem State.setSpindle_speedAt (s : State) (u : Nat) (k : Spindle) : (s.setSpindle u k).speedAt = s.speedAt := rfl
@[simp] theorem State.setSpindle_safety (s : State) (u : Nat) (k : Spindle) : (s.setSpindle u k).safety = s.safety := rfl
@[simp] theorem State.setSpindle_mailboxes (s : State) (u : Nat) (k : Spindle) : (s.setSpindle u k).mailboxes = s.mailboxes := rfl
@[simp] theorem State.setSpindle_mirrorQueue (s : State) (u : Nat) (k : Spindle) : (s.setSpindle u k).mirrorQueue = s.mirrorQueue := rfl
@[simp] theorem State.setSpindle_cans (s : State) (u : Nat) (k : Spindle) : (s.setSpindle u k).cans = s.cans := rfl
@[simp] theorem State.setSpindle_busMaster (s : State) (u : Nat) (k : Spindle) : (s.setSpindle u k).busMaster = s.busMaster := rfl
@[simp] theorem State.setSpindle_d3hot (s : State) (u : Nat) (k : Spindle) : (s.setSpindle u k).d3hot = s.d3hot := rfl
@[simp] theorem State.setSpindle_msixTable (s : State) (u : Nat) (k : Spindle) : (s.setSpindle u k).msixTable = s.msixTable := rfl
@[simp] theorem State.setSpindle_links (s : State) (u : Nat) (k : Spindle) : (s.setSpindle u k).links = s.links := rfl
@[simp] theorem State.setSpindle_discovery (s : State) (u : Nat) (k : Spindle) : (s.setSpindle u k).discovery = s.discovery := rfl
@[simp] theorem State.setSpindle_dbg (s : State) (u : Nat) (k : Spindle) : (s.setSpindle u k).dbg = s.dbg := rfl
@[simp] theorem State.setSpindle_freeUsed (s : State) (u : Nat) (k : Spindle) : (s.setSpindle u k).freeUsed = s.freeUsed := rfl
@[simp] theorem State.setSpindle_out (s : State) (u : Nat) (k : Spindle) : (s.setSpindle u k).out = s.out := rfl

/-! `State.setCaldera` changes `calderas` alone. -/

@[simp] theorem State.setCaldera_pending (s : State) (c : Nat) (k : Caldera) : (s.setCaldera c k).pending = s.pending := rfl
@[simp] theorem State.setCaldera_dict (s : State) (c : Nat) (k : Caldera) : (s.setCaldera c k).dict = s.dict := rfl
@[simp] theorem State.setCaldera_accepted (s : State) (c : Nat) (k : Caldera) : (s.setCaldera c k).accepted = s.accepted := rfl
@[simp] theorem State.setCaldera_selects (s : State) (c : Nat) (k : Caldera) : (s.setCaldera c k).selects = s.selects := rfl
@[simp] theorem State.setCaldera_latches (s : State) (c : Nat) (k : Caldera) : (s.setCaldera c k).latches = s.latches := rfl
@[simp] theorem State.setCaldera_replies (s : State) (c : Nat) (k : Caldera) : (s.setCaldera c k).replies = s.replies := rfl
@[simp] theorem State.setCaldera_mem (s : State) (c : Nat) (k : Caldera) : (s.setCaldera c k).mem = s.mem := rfl
@[simp] theorem State.setCaldera_flips (s : State) (c : Nat) (k : Caldera) : (s.setCaldera c k).flips = s.flips := rfl
@[simp] theorem State.setCaldera_hostMem (s : State) (c : Nat) (k : Caldera) : (s.setCaldera c k).hostMem = s.hostMem := rfl
@[simp] theorem State.setCaldera_xlat (s : State) (c : Nat) (k : Caldera) : (s.setCaldera c k).xlat = s.xlat := rfl
@[simp] theorem State.setCaldera_xlatShadow (s : State) (c : Nat) (k : Caldera) : (s.setCaldera c k).xlatShadow = s.xlatShadow := rfl
@[simp] theorem State.setCaldera_queues (s : State) (c : Nat) (k : Caldera) : (s.setCaldera c k).queues = s.queues := rfl
@[simp] theorem State.setCaldera_syncs (s : State) (c : Nat) (k : Caldera) : (s.setCaldera c k).syncs = s.syncs := rfl
@[simp] theorem State.setCaldera_time (s : State) (c : Nat) (k : Caldera) : (s.setCaldera c k).time = s.time := rfl
@[simp] theorem State.setCaldera_boot (s : State) (c : Nat) (k : Caldera) : (s.setCaldera c k).boot = s.boot := rfl
@[simp] theorem State.setCaldera_skeins (s : State) (c : Nat) (k : Caldera) : (s.setCaldera c k).skeins = s.skeins := rfl
@[simp] theorem State.setCaldera_spindles (s : State) (c : Nat) (k : Caldera) : (s.setCaldera c k).spindles = s.spindles := rfl
@[simp] theorem State.setCaldera_channels (s : State) (c : Nat) (k : Caldera) : (s.setCaldera c k).channels = s.channels := rfl
@[simp] theorem State.setCaldera_scrubPending (s : State) (c : Nat) (k : Caldera) : (s.setCaldera c k).scrubPending = s.scrubPending := rfl
@[simp] theorem State.setCaldera_bankTargets (s : State) (c : Nat) (k : Caldera) : (s.setCaldera c k).bankTargets = s.bankTargets := rfl
@[simp] theorem State.setCaldera_plans (s : State) (c : Nat) (k : Caldera) : (s.setCaldera c k).plans = s.plans := rfl
@[simp] theorem State.setCaldera_cameras (s : State) (c : Nat) (k : Caldera) : (s.setCaldera c k).cameras = s.cameras := rfl
@[simp] theorem State.setCaldera_chains (s : State) (c : Nat) (k : Caldera) : (s.setCaldera c k).chains = s.chains := rfl
@[simp] theorem State.setCaldera_decoders (s : State) (c : Nat) (k : Caldera) : (s.setCaldera c k).decoders = s.decoders := rfl
@[simp] theorem State.setCaldera_lanes (s : State) (c : Nat) (k : Caldera) : (s.setCaldera c k).lanes = s.lanes := rfl
@[simp] theorem State.setCaldera_gatherQueue (s : State) (c : Nat) (k : Caldera) : (s.setCaldera c k).gatherQueue = s.gatherQueue := rfl
@[simp] theorem State.setCaldera_gatherBusy (s : State) (c : Nat) (k : Caldera) : (s.setCaldera c k).gatherBusy = s.gatherBusy := rfl
@[simp] theorem State.setCaldera_blocks (s : State) (c : Nat) (k : Caldera) : (s.setCaldera c k).blocks = s.blocks := rfl
@[simp] theorem State.setCaldera_engines (s : State) (c : Nat) (k : Caldera) : (s.setCaldera c k).engines = s.engines := rfl
@[simp] theorem State.setCaldera_jobOrder (s : State) (c : Nat) (k : Caldera) : (s.setCaldera c k).jobOrder = s.jobOrder := rfl
@[simp] theorem State.setCaldera_nextBlock (s : State) (c : Nat) (k : Caldera) : (s.setCaldera c k).nextBlock = s.nextBlock := rfl
@[simp] theorem State.setCaldera_launches (s : State) (c : Nat) (k : Caldera) : (s.setCaldera c k).launches = s.launches := rfl
@[simp] theorem State.setCaldera_ptpPending (s : State) (c : Nat) (k : Caldera) : (s.setCaldera c k).ptpPending = s.ptpPending := rfl
@[simp] theorem State.setCaldera_speedAt (s : State) (c : Nat) (k : Caldera) : (s.setCaldera c k).speedAt = s.speedAt := rfl
@[simp] theorem State.setCaldera_safety (s : State) (c : Nat) (k : Caldera) : (s.setCaldera c k).safety = s.safety := rfl
@[simp] theorem State.setCaldera_mailboxes (s : State) (c : Nat) (k : Caldera) : (s.setCaldera c k).mailboxes = s.mailboxes := rfl
@[simp] theorem State.setCaldera_mirrorQueue (s : State) (c : Nat) (k : Caldera) : (s.setCaldera c k).mirrorQueue = s.mirrorQueue := rfl
@[simp] theorem State.setCaldera_cans (s : State) (c : Nat) (k : Caldera) : (s.setCaldera c k).cans = s.cans := rfl
@[simp] theorem State.setCaldera_busMaster (s : State) (c : Nat) (k : Caldera) : (s.setCaldera c k).busMaster = s.busMaster := rfl
@[simp] theorem State.setCaldera_d3hot (s : State) (c : Nat) (k : Caldera) : (s.setCaldera c k).d3hot = s.d3hot := rfl
@[simp] theorem State.setCaldera_msixTable (s : State) (c : Nat) (k : Caldera) : (s.setCaldera c k).msixTable = s.msixTable := rfl
@[simp] theorem State.setCaldera_links (s : State) (c : Nat) (k : Caldera) : (s.setCaldera c k).links = s.links := rfl
@[simp] theorem State.setCaldera_discovery (s : State) (c : Nat) (k : Caldera) : (s.setCaldera c k).discovery = s.discovery := rfl
@[simp] theorem State.setCaldera_dbg (s : State) (c : Nat) (k : Caldera) : (s.setCaldera c k).dbg = s.dbg := rfl
@[simp] theorem State.setCaldera_freeUsed (s : State) (c : Nat) (k : Caldera) : (s.setCaldera c k).freeUsed = s.freeUsed := rfl
@[simp] theorem State.setCaldera_out (s : State) (c : Nat) (k : Caldera) : (s.setCaldera c k).out = s.out := rfl

/-! `State.setQueue` changes `queues` alone. -/

@[simp] theorem State.setQueue_pending (s : State) (q : Nat) (k : Queue) : (s.setQueue q k).pending = s.pending := rfl
@[simp] theorem State.setQueue_dict (s : State) (q : Nat) (k : Queue) : (s.setQueue q k).dict = s.dict := rfl
@[simp] theorem State.setQueue_accepted (s : State) (q : Nat) (k : Queue) : (s.setQueue q k).accepted = s.accepted := rfl
@[simp] theorem State.setQueue_selects (s : State) (q : Nat) (k : Queue) : (s.setQueue q k).selects = s.selects := rfl
@[simp] theorem State.setQueue_latches (s : State) (q : Nat) (k : Queue) : (s.setQueue q k).latches = s.latches := rfl
@[simp] theorem State.setQueue_replies (s : State) (q : Nat) (k : Queue) : (s.setQueue q k).replies = s.replies := rfl
@[simp] theorem State.setQueue_mem (s : State) (q : Nat) (k : Queue) : (s.setQueue q k).mem = s.mem := rfl
@[simp] theorem State.setQueue_flips (s : State) (q : Nat) (k : Queue) : (s.setQueue q k).flips = s.flips := rfl
@[simp] theorem State.setQueue_hostMem (s : State) (q : Nat) (k : Queue) : (s.setQueue q k).hostMem = s.hostMem := rfl
@[simp] theorem State.setQueue_xlat (s : State) (q : Nat) (k : Queue) : (s.setQueue q k).xlat = s.xlat := rfl
@[simp] theorem State.setQueue_xlatShadow (s : State) (q : Nat) (k : Queue) : (s.setQueue q k).xlatShadow = s.xlatShadow := rfl
@[simp] theorem State.setQueue_syncs (s : State) (q : Nat) (k : Queue) : (s.setQueue q k).syncs = s.syncs := rfl
@[simp] theorem State.setQueue_time (s : State) (q : Nat) (k : Queue) : (s.setQueue q k).time = s.time := rfl
@[simp] theorem State.setQueue_boot (s : State) (q : Nat) (k : Queue) : (s.setQueue q k).boot = s.boot := rfl
@[simp] theorem State.setQueue_skeins (s : State) (q : Nat) (k : Queue) : (s.setQueue q k).skeins = s.skeins := rfl
@[simp] theorem State.setQueue_spindles (s : State) (q : Nat) (k : Queue) : (s.setQueue q k).spindles = s.spindles := rfl
@[simp] theorem State.setQueue_calderas (s : State) (q : Nat) (k : Queue) : (s.setQueue q k).calderas = s.calderas := rfl
@[simp] theorem State.setQueue_channels (s : State) (q : Nat) (k : Queue) : (s.setQueue q k).channels = s.channels := rfl
@[simp] theorem State.setQueue_scrubPending (s : State) (q : Nat) (k : Queue) : (s.setQueue q k).scrubPending = s.scrubPending := rfl
@[simp] theorem State.setQueue_bankTargets (s : State) (q : Nat) (k : Queue) : (s.setQueue q k).bankTargets = s.bankTargets := rfl
@[simp] theorem State.setQueue_plans (s : State) (q : Nat) (k : Queue) : (s.setQueue q k).plans = s.plans := rfl
@[simp] theorem State.setQueue_cameras (s : State) (q : Nat) (k : Queue) : (s.setQueue q k).cameras = s.cameras := rfl
@[simp] theorem State.setQueue_chains (s : State) (q : Nat) (k : Queue) : (s.setQueue q k).chains = s.chains := rfl
@[simp] theorem State.setQueue_decoders (s : State) (q : Nat) (k : Queue) : (s.setQueue q k).decoders = s.decoders := rfl
@[simp] theorem State.setQueue_lanes (s : State) (q : Nat) (k : Queue) : (s.setQueue q k).lanes = s.lanes := rfl
@[simp] theorem State.setQueue_gatherQueue (s : State) (q : Nat) (k : Queue) : (s.setQueue q k).gatherQueue = s.gatherQueue := rfl
@[simp] theorem State.setQueue_gatherBusy (s : State) (q : Nat) (k : Queue) : (s.setQueue q k).gatherBusy = s.gatherBusy := rfl
@[simp] theorem State.setQueue_blocks (s : State) (q : Nat) (k : Queue) : (s.setQueue q k).blocks = s.blocks := rfl
@[simp] theorem State.setQueue_engines (s : State) (q : Nat) (k : Queue) : (s.setQueue q k).engines = s.engines := rfl
@[simp] theorem State.setQueue_jobOrder (s : State) (q : Nat) (k : Queue) : (s.setQueue q k).jobOrder = s.jobOrder := rfl
@[simp] theorem State.setQueue_nextBlock (s : State) (q : Nat) (k : Queue) : (s.setQueue q k).nextBlock = s.nextBlock := rfl
@[simp] theorem State.setQueue_launches (s : State) (q : Nat) (k : Queue) : (s.setQueue q k).launches = s.launches := rfl
@[simp] theorem State.setQueue_ptpPending (s : State) (q : Nat) (k : Queue) : (s.setQueue q k).ptpPending = s.ptpPending := rfl
@[simp] theorem State.setQueue_speedAt (s : State) (q : Nat) (k : Queue) : (s.setQueue q k).speedAt = s.speedAt := rfl
@[simp] theorem State.setQueue_safety (s : State) (q : Nat) (k : Queue) : (s.setQueue q k).safety = s.safety := rfl
@[simp] theorem State.setQueue_mailboxes (s : State) (q : Nat) (k : Queue) : (s.setQueue q k).mailboxes = s.mailboxes := rfl
@[simp] theorem State.setQueue_mirrorQueue (s : State) (q : Nat) (k : Queue) : (s.setQueue q k).mirrorQueue = s.mirrorQueue := rfl
@[simp] theorem State.setQueue_cans (s : State) (q : Nat) (k : Queue) : (s.setQueue q k).cans = s.cans := rfl
@[simp] theorem State.setQueue_busMaster (s : State) (q : Nat) (k : Queue) : (s.setQueue q k).busMaster = s.busMaster := rfl
@[simp] theorem State.setQueue_d3hot (s : State) (q : Nat) (k : Queue) : (s.setQueue q k).d3hot = s.d3hot := rfl
@[simp] theorem State.setQueue_msixTable (s : State) (q : Nat) (k : Queue) : (s.setQueue q k).msixTable = s.msixTable := rfl
@[simp] theorem State.setQueue_links (s : State) (q : Nat) (k : Queue) : (s.setQueue q k).links = s.links := rfl
@[simp] theorem State.setQueue_discovery (s : State) (q : Nat) (k : Queue) : (s.setQueue q k).discovery = s.discovery := rfl
@[simp] theorem State.setQueue_dbg (s : State) (q : Nat) (k : Queue) : (s.setQueue q k).dbg = s.dbg := rfl
@[simp] theorem State.setQueue_freeUsed (s : State) (q : Nat) (k : Queue) : (s.setQueue q k).freeUsed = s.freeUsed := rfl
@[simp] theorem State.setQueue_out (s : State) (q : Nat) (k : Queue) : (s.setQueue q k).out = s.out := rfl

/-! `State.setChannel` changes `channels` alone. -/

@[simp] theorem State.setChannel_pending (s : State) (q : Nat) (k : Channel) : (s.setChannel q k).pending = s.pending := rfl
@[simp] theorem State.setChannel_dict (s : State) (q : Nat) (k : Channel) : (s.setChannel q k).dict = s.dict := rfl
@[simp] theorem State.setChannel_accepted (s : State) (q : Nat) (k : Channel) : (s.setChannel q k).accepted = s.accepted := rfl
@[simp] theorem State.setChannel_selects (s : State) (q : Nat) (k : Channel) : (s.setChannel q k).selects = s.selects := rfl
@[simp] theorem State.setChannel_latches (s : State) (q : Nat) (k : Channel) : (s.setChannel q k).latches = s.latches := rfl
@[simp] theorem State.setChannel_replies (s : State) (q : Nat) (k : Channel) : (s.setChannel q k).replies = s.replies := rfl
@[simp] theorem State.setChannel_mem (s : State) (q : Nat) (k : Channel) : (s.setChannel q k).mem = s.mem := rfl
@[simp] theorem State.setChannel_flips (s : State) (q : Nat) (k : Channel) : (s.setChannel q k).flips = s.flips := rfl
@[simp] theorem State.setChannel_hostMem (s : State) (q : Nat) (k : Channel) : (s.setChannel q k).hostMem = s.hostMem := rfl
@[simp] theorem State.setChannel_xlat (s : State) (q : Nat) (k : Channel) : (s.setChannel q k).xlat = s.xlat := rfl
@[simp] theorem State.setChannel_xlatShadow (s : State) (q : Nat) (k : Channel) : (s.setChannel q k).xlatShadow = s.xlatShadow := rfl
@[simp] theorem State.setChannel_queues (s : State) (q : Nat) (k : Channel) : (s.setChannel q k).queues = s.queues := rfl
@[simp] theorem State.setChannel_syncs (s : State) (q : Nat) (k : Channel) : (s.setChannel q k).syncs = s.syncs := rfl
@[simp] theorem State.setChannel_time (s : State) (q : Nat) (k : Channel) : (s.setChannel q k).time = s.time := rfl
@[simp] theorem State.setChannel_boot (s : State) (q : Nat) (k : Channel) : (s.setChannel q k).boot = s.boot := rfl
@[simp] theorem State.setChannel_skeins (s : State) (q : Nat) (k : Channel) : (s.setChannel q k).skeins = s.skeins := rfl
@[simp] theorem State.setChannel_spindles (s : State) (q : Nat) (k : Channel) : (s.setChannel q k).spindles = s.spindles := rfl
@[simp] theorem State.setChannel_calderas (s : State) (q : Nat) (k : Channel) : (s.setChannel q k).calderas = s.calderas := rfl
@[simp] theorem State.setChannel_scrubPending (s : State) (q : Nat) (k : Channel) : (s.setChannel q k).scrubPending = s.scrubPending := rfl
@[simp] theorem State.setChannel_bankTargets (s : State) (q : Nat) (k : Channel) : (s.setChannel q k).bankTargets = s.bankTargets := rfl
@[simp] theorem State.setChannel_plans (s : State) (q : Nat) (k : Channel) : (s.setChannel q k).plans = s.plans := rfl
@[simp] theorem State.setChannel_cameras (s : State) (q : Nat) (k : Channel) : (s.setChannel q k).cameras = s.cameras := rfl
@[simp] theorem State.setChannel_chains (s : State) (q : Nat) (k : Channel) : (s.setChannel q k).chains = s.chains := rfl
@[simp] theorem State.setChannel_decoders (s : State) (q : Nat) (k : Channel) : (s.setChannel q k).decoders = s.decoders := rfl
@[simp] theorem State.setChannel_lanes (s : State) (q : Nat) (k : Channel) : (s.setChannel q k).lanes = s.lanes := rfl
@[simp] theorem State.setChannel_gatherQueue (s : State) (q : Nat) (k : Channel) : (s.setChannel q k).gatherQueue = s.gatherQueue := rfl
@[simp] theorem State.setChannel_gatherBusy (s : State) (q : Nat) (k : Channel) : (s.setChannel q k).gatherBusy = s.gatherBusy := rfl
@[simp] theorem State.setChannel_blocks (s : State) (q : Nat) (k : Channel) : (s.setChannel q k).blocks = s.blocks := rfl
@[simp] theorem State.setChannel_engines (s : State) (q : Nat) (k : Channel) : (s.setChannel q k).engines = s.engines := rfl
@[simp] theorem State.setChannel_jobOrder (s : State) (q : Nat) (k : Channel) : (s.setChannel q k).jobOrder = s.jobOrder := rfl
@[simp] theorem State.setChannel_nextBlock (s : State) (q : Nat) (k : Channel) : (s.setChannel q k).nextBlock = s.nextBlock := rfl
@[simp] theorem State.setChannel_launches (s : State) (q : Nat) (k : Channel) : (s.setChannel q k).launches = s.launches := rfl
@[simp] theorem State.setChannel_ptpPending (s : State) (q : Nat) (k : Channel) : (s.setChannel q k).ptpPending = s.ptpPending := rfl
@[simp] theorem State.setChannel_speedAt (s : State) (q : Nat) (k : Channel) : (s.setChannel q k).speedAt = s.speedAt := rfl
@[simp] theorem State.setChannel_safety (s : State) (q : Nat) (k : Channel) : (s.setChannel q k).safety = s.safety := rfl
@[simp] theorem State.setChannel_mailboxes (s : State) (q : Nat) (k : Channel) : (s.setChannel q k).mailboxes = s.mailboxes := rfl
@[simp] theorem State.setChannel_mirrorQueue (s : State) (q : Nat) (k : Channel) : (s.setChannel q k).mirrorQueue = s.mirrorQueue := rfl
@[simp] theorem State.setChannel_cans (s : State) (q : Nat) (k : Channel) : (s.setChannel q k).cans = s.cans := rfl
@[simp] theorem State.setChannel_busMaster (s : State) (q : Nat) (k : Channel) : (s.setChannel q k).busMaster = s.busMaster := rfl
@[simp] theorem State.setChannel_d3hot (s : State) (q : Nat) (k : Channel) : (s.setChannel q k).d3hot = s.d3hot := rfl
@[simp] theorem State.setChannel_msixTable (s : State) (q : Nat) (k : Channel) : (s.setChannel q k).msixTable = s.msixTable := rfl
@[simp] theorem State.setChannel_links (s : State) (q : Nat) (k : Channel) : (s.setChannel q k).links = s.links := rfl
@[simp] theorem State.setChannel_discovery (s : State) (q : Nat) (k : Channel) : (s.setChannel q k).discovery = s.discovery := rfl
@[simp] theorem State.setChannel_dbg (s : State) (q : Nat) (k : Channel) : (s.setChannel q k).dbg = s.dbg := rfl
@[simp] theorem State.setChannel_freeUsed (s : State) (q : Nat) (k : Channel) : (s.setChannel q k).freeUsed = s.freeUsed := rfl
@[simp] theorem State.setChannel_out (s : State) (q : Nat) (k : Channel) : (s.setChannel q k).out = s.out := rfl

/-! `State.setPlan` changes `plans` alone. -/

@[simp] theorem State.setPlan_pending (s : State) (p : Nat) (k : Plan) : (s.setPlan p k).pending = s.pending := rfl
@[simp] theorem State.setPlan_dict (s : State) (p : Nat) (k : Plan) : (s.setPlan p k).dict = s.dict := rfl
@[simp] theorem State.setPlan_accepted (s : State) (p : Nat) (k : Plan) : (s.setPlan p k).accepted = s.accepted := rfl
@[simp] theorem State.setPlan_selects (s : State) (p : Nat) (k : Plan) : (s.setPlan p k).selects = s.selects := rfl
@[simp] theorem State.setPlan_latches (s : State) (p : Nat) (k : Plan) : (s.setPlan p k).latches = s.latches := rfl
@[simp] theorem State.setPlan_replies (s : State) (p : Nat) (k : Plan) : (s.setPlan p k).replies = s.replies := rfl
@[simp] theorem State.setPlan_mem (s : State) (p : Nat) (k : Plan) : (s.setPlan p k).mem = s.mem := rfl
@[simp] theorem State.setPlan_flips (s : State) (p : Nat) (k : Plan) : (s.setPlan p k).flips = s.flips := rfl
@[simp] theorem State.setPlan_hostMem (s : State) (p : Nat) (k : Plan) : (s.setPlan p k).hostMem = s.hostMem := rfl
@[simp] theorem State.setPlan_xlat (s : State) (p : Nat) (k : Plan) : (s.setPlan p k).xlat = s.xlat := rfl
@[simp] theorem State.setPlan_xlatShadow (s : State) (p : Nat) (k : Plan) : (s.setPlan p k).xlatShadow = s.xlatShadow := rfl
@[simp] theorem State.setPlan_queues (s : State) (p : Nat) (k : Plan) : (s.setPlan p k).queues = s.queues := rfl
@[simp] theorem State.setPlan_syncs (s : State) (p : Nat) (k : Plan) : (s.setPlan p k).syncs = s.syncs := rfl
@[simp] theorem State.setPlan_time (s : State) (p : Nat) (k : Plan) : (s.setPlan p k).time = s.time := rfl
@[simp] theorem State.setPlan_boot (s : State) (p : Nat) (k : Plan) : (s.setPlan p k).boot = s.boot := rfl
@[simp] theorem State.setPlan_skeins (s : State) (p : Nat) (k : Plan) : (s.setPlan p k).skeins = s.skeins := rfl
@[simp] theorem State.setPlan_spindles (s : State) (p : Nat) (k : Plan) : (s.setPlan p k).spindles = s.spindles := rfl
@[simp] theorem State.setPlan_calderas (s : State) (p : Nat) (k : Plan) : (s.setPlan p k).calderas = s.calderas := rfl
@[simp] theorem State.setPlan_channels (s : State) (p : Nat) (k : Plan) : (s.setPlan p k).channels = s.channels := rfl
@[simp] theorem State.setPlan_scrubPending (s : State) (p : Nat) (k : Plan) : (s.setPlan p k).scrubPending = s.scrubPending := rfl
@[simp] theorem State.setPlan_bankTargets (s : State) (p : Nat) (k : Plan) : (s.setPlan p k).bankTargets = s.bankTargets := rfl
@[simp] theorem State.setPlan_cameras (s : State) (p : Nat) (k : Plan) : (s.setPlan p k).cameras = s.cameras := rfl
@[simp] theorem State.setPlan_chains (s : State) (p : Nat) (k : Plan) : (s.setPlan p k).chains = s.chains := rfl
@[simp] theorem State.setPlan_decoders (s : State) (p : Nat) (k : Plan) : (s.setPlan p k).decoders = s.decoders := rfl
@[simp] theorem State.setPlan_lanes (s : State) (p : Nat) (k : Plan) : (s.setPlan p k).lanes = s.lanes := rfl
@[simp] theorem State.setPlan_gatherQueue (s : State) (p : Nat) (k : Plan) : (s.setPlan p k).gatherQueue = s.gatherQueue := rfl
@[simp] theorem State.setPlan_gatherBusy (s : State) (p : Nat) (k : Plan) : (s.setPlan p k).gatherBusy = s.gatherBusy := rfl
@[simp] theorem State.setPlan_blocks (s : State) (p : Nat) (k : Plan) : (s.setPlan p k).blocks = s.blocks := rfl
@[simp] theorem State.setPlan_engines (s : State) (p : Nat) (k : Plan) : (s.setPlan p k).engines = s.engines := rfl
@[simp] theorem State.setPlan_jobOrder (s : State) (p : Nat) (k : Plan) : (s.setPlan p k).jobOrder = s.jobOrder := rfl
@[simp] theorem State.setPlan_nextBlock (s : State) (p : Nat) (k : Plan) : (s.setPlan p k).nextBlock = s.nextBlock := rfl
@[simp] theorem State.setPlan_launches (s : State) (p : Nat) (k : Plan) : (s.setPlan p k).launches = s.launches := rfl
@[simp] theorem State.setPlan_ptpPending (s : State) (p : Nat) (k : Plan) : (s.setPlan p k).ptpPending = s.ptpPending := rfl
@[simp] theorem State.setPlan_speedAt (s : State) (p : Nat) (k : Plan) : (s.setPlan p k).speedAt = s.speedAt := rfl
@[simp] theorem State.setPlan_safety (s : State) (p : Nat) (k : Plan) : (s.setPlan p k).safety = s.safety := rfl
@[simp] theorem State.setPlan_mailboxes (s : State) (p : Nat) (k : Plan) : (s.setPlan p k).mailboxes = s.mailboxes := rfl
@[simp] theorem State.setPlan_mirrorQueue (s : State) (p : Nat) (k : Plan) : (s.setPlan p k).mirrorQueue = s.mirrorQueue := rfl
@[simp] theorem State.setPlan_cans (s : State) (p : Nat) (k : Plan) : (s.setPlan p k).cans = s.cans := rfl
@[simp] theorem State.setPlan_busMaster (s : State) (p : Nat) (k : Plan) : (s.setPlan p k).busMaster = s.busMaster := rfl
@[simp] theorem State.setPlan_d3hot (s : State) (p : Nat) (k : Plan) : (s.setPlan p k).d3hot = s.d3hot := rfl
@[simp] theorem State.setPlan_msixTable (s : State) (p : Nat) (k : Plan) : (s.setPlan p k).msixTable = s.msixTable := rfl
@[simp] theorem State.setPlan_links (s : State) (p : Nat) (k : Plan) : (s.setPlan p k).links = s.links := rfl
@[simp] theorem State.setPlan_discovery (s : State) (p : Nat) (k : Plan) : (s.setPlan p k).discovery = s.discovery := rfl
@[simp] theorem State.setPlan_dbg (s : State) (p : Nat) (k : Plan) : (s.setPlan p k).dbg = s.dbg := rfl
@[simp] theorem State.setPlan_freeUsed (s : State) (p : Nat) (k : Plan) : (s.setPlan p k).freeUsed = s.freeUsed := rfl
@[simp] theorem State.setPlan_out (s : State) (p : Nat) (k : Plan) : (s.setPlan p k).out = s.out := rfl

/-! `State.setCamera` changes `cameras` alone. -/

@[simp] theorem State.setCamera_pending (s : State) (n : Nat) (k : Camera) : (s.setCamera n k).pending = s.pending := rfl
@[simp] theorem State.setCamera_dict (s : State) (n : Nat) (k : Camera) : (s.setCamera n k).dict = s.dict := rfl
@[simp] theorem State.setCamera_accepted (s : State) (n : Nat) (k : Camera) : (s.setCamera n k).accepted = s.accepted := rfl
@[simp] theorem State.setCamera_selects (s : State) (n : Nat) (k : Camera) : (s.setCamera n k).selects = s.selects := rfl
@[simp] theorem State.setCamera_latches (s : State) (n : Nat) (k : Camera) : (s.setCamera n k).latches = s.latches := rfl
@[simp] theorem State.setCamera_replies (s : State) (n : Nat) (k : Camera) : (s.setCamera n k).replies = s.replies := rfl
@[simp] theorem State.setCamera_mem (s : State) (n : Nat) (k : Camera) : (s.setCamera n k).mem = s.mem := rfl
@[simp] theorem State.setCamera_flips (s : State) (n : Nat) (k : Camera) : (s.setCamera n k).flips = s.flips := rfl
@[simp] theorem State.setCamera_hostMem (s : State) (n : Nat) (k : Camera) : (s.setCamera n k).hostMem = s.hostMem := rfl
@[simp] theorem State.setCamera_xlat (s : State) (n : Nat) (k : Camera) : (s.setCamera n k).xlat = s.xlat := rfl
@[simp] theorem State.setCamera_xlatShadow (s : State) (n : Nat) (k : Camera) : (s.setCamera n k).xlatShadow = s.xlatShadow := rfl
@[simp] theorem State.setCamera_queues (s : State) (n : Nat) (k : Camera) : (s.setCamera n k).queues = s.queues := rfl
@[simp] theorem State.setCamera_syncs (s : State) (n : Nat) (k : Camera) : (s.setCamera n k).syncs = s.syncs := rfl
@[simp] theorem State.setCamera_time (s : State) (n : Nat) (k : Camera) : (s.setCamera n k).time = s.time := rfl
@[simp] theorem State.setCamera_boot (s : State) (n : Nat) (k : Camera) : (s.setCamera n k).boot = s.boot := rfl
@[simp] theorem State.setCamera_skeins (s : State) (n : Nat) (k : Camera) : (s.setCamera n k).skeins = s.skeins := rfl
@[simp] theorem State.setCamera_spindles (s : State) (n : Nat) (k : Camera) : (s.setCamera n k).spindles = s.spindles := rfl
@[simp] theorem State.setCamera_calderas (s : State) (n : Nat) (k : Camera) : (s.setCamera n k).calderas = s.calderas := rfl
@[simp] theorem State.setCamera_channels (s : State) (n : Nat) (k : Camera) : (s.setCamera n k).channels = s.channels := rfl
@[simp] theorem State.setCamera_scrubPending (s : State) (n : Nat) (k : Camera) : (s.setCamera n k).scrubPending = s.scrubPending := rfl
@[simp] theorem State.setCamera_bankTargets (s : State) (n : Nat) (k : Camera) : (s.setCamera n k).bankTargets = s.bankTargets := rfl
@[simp] theorem State.setCamera_plans (s : State) (n : Nat) (k : Camera) : (s.setCamera n k).plans = s.plans := rfl
@[simp] theorem State.setCamera_chains (s : State) (n : Nat) (k : Camera) : (s.setCamera n k).chains = s.chains := rfl
@[simp] theorem State.setCamera_decoders (s : State) (n : Nat) (k : Camera) : (s.setCamera n k).decoders = s.decoders := rfl
@[simp] theorem State.setCamera_lanes (s : State) (n : Nat) (k : Camera) : (s.setCamera n k).lanes = s.lanes := rfl
@[simp] theorem State.setCamera_gatherQueue (s : State) (n : Nat) (k : Camera) : (s.setCamera n k).gatherQueue = s.gatherQueue := rfl
@[simp] theorem State.setCamera_gatherBusy (s : State) (n : Nat) (k : Camera) : (s.setCamera n k).gatherBusy = s.gatherBusy := rfl
@[simp] theorem State.setCamera_blocks (s : State) (n : Nat) (k : Camera) : (s.setCamera n k).blocks = s.blocks := rfl
@[simp] theorem State.setCamera_engines (s : State) (n : Nat) (k : Camera) : (s.setCamera n k).engines = s.engines := rfl
@[simp] theorem State.setCamera_jobOrder (s : State) (n : Nat) (k : Camera) : (s.setCamera n k).jobOrder = s.jobOrder := rfl
@[simp] theorem State.setCamera_nextBlock (s : State) (n : Nat) (k : Camera) : (s.setCamera n k).nextBlock = s.nextBlock := rfl
@[simp] theorem State.setCamera_launches (s : State) (n : Nat) (k : Camera) : (s.setCamera n k).launches = s.launches := rfl
@[simp] theorem State.setCamera_ptpPending (s : State) (n : Nat) (k : Camera) : (s.setCamera n k).ptpPending = s.ptpPending := rfl
@[simp] theorem State.setCamera_speedAt (s : State) (n : Nat) (k : Camera) : (s.setCamera n k).speedAt = s.speedAt := rfl
@[simp] theorem State.setCamera_safety (s : State) (n : Nat) (k : Camera) : (s.setCamera n k).safety = s.safety := rfl
@[simp] theorem State.setCamera_mailboxes (s : State) (n : Nat) (k : Camera) : (s.setCamera n k).mailboxes = s.mailboxes := rfl
@[simp] theorem State.setCamera_mirrorQueue (s : State) (n : Nat) (k : Camera) : (s.setCamera n k).mirrorQueue = s.mirrorQueue := rfl
@[simp] theorem State.setCamera_cans (s : State) (n : Nat) (k : Camera) : (s.setCamera n k).cans = s.cans := rfl
@[simp] theorem State.setCamera_busMaster (s : State) (n : Nat) (k : Camera) : (s.setCamera n k).busMaster = s.busMaster := rfl
@[simp] theorem State.setCamera_d3hot (s : State) (n : Nat) (k : Camera) : (s.setCamera n k).d3hot = s.d3hot := rfl
@[simp] theorem State.setCamera_msixTable (s : State) (n : Nat) (k : Camera) : (s.setCamera n k).msixTable = s.msixTable := rfl
@[simp] theorem State.setCamera_links (s : State) (n : Nat) (k : Camera) : (s.setCamera n k).links = s.links := rfl
@[simp] theorem State.setCamera_discovery (s : State) (n : Nat) (k : Camera) : (s.setCamera n k).discovery = s.discovery := rfl
@[simp] theorem State.setCamera_dbg (s : State) (n : Nat) (k : Camera) : (s.setCamera n k).dbg = s.dbg := rfl
@[simp] theorem State.setCamera_freeUsed (s : State) (n : Nat) (k : Camera) : (s.setCamera n k).freeUsed = s.freeUsed := rfl
@[simp] theorem State.setCamera_out (s : State) (n : Nat) (k : Camera) : (s.setCamera n k).out = s.out := rfl

/-! `State.setDecoder` changes `decoders` alone. -/

@[simp] theorem State.setDecoder_pending (s : State) (d : Nat) (k : Decoder) : (s.setDecoder d k).pending = s.pending := rfl
@[simp] theorem State.setDecoder_dict (s : State) (d : Nat) (k : Decoder) : (s.setDecoder d k).dict = s.dict := rfl
@[simp] theorem State.setDecoder_accepted (s : State) (d : Nat) (k : Decoder) : (s.setDecoder d k).accepted = s.accepted := rfl
@[simp] theorem State.setDecoder_selects (s : State) (d : Nat) (k : Decoder) : (s.setDecoder d k).selects = s.selects := rfl
@[simp] theorem State.setDecoder_latches (s : State) (d : Nat) (k : Decoder) : (s.setDecoder d k).latches = s.latches := rfl
@[simp] theorem State.setDecoder_replies (s : State) (d : Nat) (k : Decoder) : (s.setDecoder d k).replies = s.replies := rfl
@[simp] theorem State.setDecoder_mem (s : State) (d : Nat) (k : Decoder) : (s.setDecoder d k).mem = s.mem := rfl
@[simp] theorem State.setDecoder_flips (s : State) (d : Nat) (k : Decoder) : (s.setDecoder d k).flips = s.flips := rfl
@[simp] theorem State.setDecoder_hostMem (s : State) (d : Nat) (k : Decoder) : (s.setDecoder d k).hostMem = s.hostMem := rfl
@[simp] theorem State.setDecoder_xlat (s : State) (d : Nat) (k : Decoder) : (s.setDecoder d k).xlat = s.xlat := rfl
@[simp] theorem State.setDecoder_xlatShadow (s : State) (d : Nat) (k : Decoder) : (s.setDecoder d k).xlatShadow = s.xlatShadow := rfl
@[simp] theorem State.setDecoder_queues (s : State) (d : Nat) (k : Decoder) : (s.setDecoder d k).queues = s.queues := rfl
@[simp] theorem State.setDecoder_syncs (s : State) (d : Nat) (k : Decoder) : (s.setDecoder d k).syncs = s.syncs := rfl
@[simp] theorem State.setDecoder_time (s : State) (d : Nat) (k : Decoder) : (s.setDecoder d k).time = s.time := rfl
@[simp] theorem State.setDecoder_boot (s : State) (d : Nat) (k : Decoder) : (s.setDecoder d k).boot = s.boot := rfl
@[simp] theorem State.setDecoder_skeins (s : State) (d : Nat) (k : Decoder) : (s.setDecoder d k).skeins = s.skeins := rfl
@[simp] theorem State.setDecoder_spindles (s : State) (d : Nat) (k : Decoder) : (s.setDecoder d k).spindles = s.spindles := rfl
@[simp] theorem State.setDecoder_calderas (s : State) (d : Nat) (k : Decoder) : (s.setDecoder d k).calderas = s.calderas := rfl
@[simp] theorem State.setDecoder_channels (s : State) (d : Nat) (k : Decoder) : (s.setDecoder d k).channels = s.channels := rfl
@[simp] theorem State.setDecoder_scrubPending (s : State) (d : Nat) (k : Decoder) : (s.setDecoder d k).scrubPending = s.scrubPending := rfl
@[simp] theorem State.setDecoder_bankTargets (s : State) (d : Nat) (k : Decoder) : (s.setDecoder d k).bankTargets = s.bankTargets := rfl
@[simp] theorem State.setDecoder_plans (s : State) (d : Nat) (k : Decoder) : (s.setDecoder d k).plans = s.plans := rfl
@[simp] theorem State.setDecoder_cameras (s : State) (d : Nat) (k : Decoder) : (s.setDecoder d k).cameras = s.cameras := rfl
@[simp] theorem State.setDecoder_chains (s : State) (d : Nat) (k : Decoder) : (s.setDecoder d k).chains = s.chains := rfl
@[simp] theorem State.setDecoder_lanes (s : State) (d : Nat) (k : Decoder) : (s.setDecoder d k).lanes = s.lanes := rfl
@[simp] theorem State.setDecoder_gatherQueue (s : State) (d : Nat) (k : Decoder) : (s.setDecoder d k).gatherQueue = s.gatherQueue := rfl
@[simp] theorem State.setDecoder_gatherBusy (s : State) (d : Nat) (k : Decoder) : (s.setDecoder d k).gatherBusy = s.gatherBusy := rfl
@[simp] theorem State.setDecoder_blocks (s : State) (d : Nat) (k : Decoder) : (s.setDecoder d k).blocks = s.blocks := rfl
@[simp] theorem State.setDecoder_engines (s : State) (d : Nat) (k : Decoder) : (s.setDecoder d k).engines = s.engines := rfl
@[simp] theorem State.setDecoder_jobOrder (s : State) (d : Nat) (k : Decoder) : (s.setDecoder d k).jobOrder = s.jobOrder := rfl
@[simp] theorem State.setDecoder_nextBlock (s : State) (d : Nat) (k : Decoder) : (s.setDecoder d k).nextBlock = s.nextBlock := rfl
@[simp] theorem State.setDecoder_launches (s : State) (d : Nat) (k : Decoder) : (s.setDecoder d k).launches = s.launches := rfl
@[simp] theorem State.setDecoder_ptpPending (s : State) (d : Nat) (k : Decoder) : (s.setDecoder d k).ptpPending = s.ptpPending := rfl
@[simp] theorem State.setDecoder_speedAt (s : State) (d : Nat) (k : Decoder) : (s.setDecoder d k).speedAt = s.speedAt := rfl
@[simp] theorem State.setDecoder_safety (s : State) (d : Nat) (k : Decoder) : (s.setDecoder d k).safety = s.safety := rfl
@[simp] theorem State.setDecoder_mailboxes (s : State) (d : Nat) (k : Decoder) : (s.setDecoder d k).mailboxes = s.mailboxes := rfl
@[simp] theorem State.setDecoder_mirrorQueue (s : State) (d : Nat) (k : Decoder) : (s.setDecoder d k).mirrorQueue = s.mirrorQueue := rfl
@[simp] theorem State.setDecoder_cans (s : State) (d : Nat) (k : Decoder) : (s.setDecoder d k).cans = s.cans := rfl
@[simp] theorem State.setDecoder_busMaster (s : State) (d : Nat) (k : Decoder) : (s.setDecoder d k).busMaster = s.busMaster := rfl
@[simp] theorem State.setDecoder_d3hot (s : State) (d : Nat) (k : Decoder) : (s.setDecoder d k).d3hot = s.d3hot := rfl
@[simp] theorem State.setDecoder_msixTable (s : State) (d : Nat) (k : Decoder) : (s.setDecoder d k).msixTable = s.msixTable := rfl
@[simp] theorem State.setDecoder_links (s : State) (d : Nat) (k : Decoder) : (s.setDecoder d k).links = s.links := rfl
@[simp] theorem State.setDecoder_discovery (s : State) (d : Nat) (k : Decoder) : (s.setDecoder d k).discovery = s.discovery := rfl
@[simp] theorem State.setDecoder_dbg (s : State) (d : Nat) (k : Decoder) : (s.setDecoder d k).dbg = s.dbg := rfl
@[simp] theorem State.setDecoder_freeUsed (s : State) (d : Nat) (k : Decoder) : (s.setDecoder d k).freeUsed = s.freeUsed := rfl
@[simp] theorem State.setDecoder_out (s : State) (d : Nat) (k : Decoder) : (s.setDecoder d k).out = s.out := rfl

/-! `State.setLaunch` changes `launches` alone. -/

@[simp] theorem State.setLaunch_pending (s : State) (l : Nat) (k : LaunchQ) : (s.setLaunch l k).pending = s.pending := rfl
@[simp] theorem State.setLaunch_dict (s : State) (l : Nat) (k : LaunchQ) : (s.setLaunch l k).dict = s.dict := rfl
@[simp] theorem State.setLaunch_accepted (s : State) (l : Nat) (k : LaunchQ) : (s.setLaunch l k).accepted = s.accepted := rfl
@[simp] theorem State.setLaunch_selects (s : State) (l : Nat) (k : LaunchQ) : (s.setLaunch l k).selects = s.selects := rfl
@[simp] theorem State.setLaunch_latches (s : State) (l : Nat) (k : LaunchQ) : (s.setLaunch l k).latches = s.latches := rfl
@[simp] theorem State.setLaunch_replies (s : State) (l : Nat) (k : LaunchQ) : (s.setLaunch l k).replies = s.replies := rfl
@[simp] theorem State.setLaunch_mem (s : State) (l : Nat) (k : LaunchQ) : (s.setLaunch l k).mem = s.mem := rfl
@[simp] theorem State.setLaunch_flips (s : State) (l : Nat) (k : LaunchQ) : (s.setLaunch l k).flips = s.flips := rfl
@[simp] theorem State.setLaunch_hostMem (s : State) (l : Nat) (k : LaunchQ) : (s.setLaunch l k).hostMem = s.hostMem := rfl
@[simp] theorem State.setLaunch_xlat (s : State) (l : Nat) (k : LaunchQ) : (s.setLaunch l k).xlat = s.xlat := rfl
@[simp] theorem State.setLaunch_xlatShadow (s : State) (l : Nat) (k : LaunchQ) : (s.setLaunch l k).xlatShadow = s.xlatShadow := rfl
@[simp] theorem State.setLaunch_queues (s : State) (l : Nat) (k : LaunchQ) : (s.setLaunch l k).queues = s.queues := rfl
@[simp] theorem State.setLaunch_syncs (s : State) (l : Nat) (k : LaunchQ) : (s.setLaunch l k).syncs = s.syncs := rfl
@[simp] theorem State.setLaunch_time (s : State) (l : Nat) (k : LaunchQ) : (s.setLaunch l k).time = s.time := rfl
@[simp] theorem State.setLaunch_boot (s : State) (l : Nat) (k : LaunchQ) : (s.setLaunch l k).boot = s.boot := rfl
@[simp] theorem State.setLaunch_skeins (s : State) (l : Nat) (k : LaunchQ) : (s.setLaunch l k).skeins = s.skeins := rfl
@[simp] theorem State.setLaunch_spindles (s : State) (l : Nat) (k : LaunchQ) : (s.setLaunch l k).spindles = s.spindles := rfl
@[simp] theorem State.setLaunch_calderas (s : State) (l : Nat) (k : LaunchQ) : (s.setLaunch l k).calderas = s.calderas := rfl
@[simp] theorem State.setLaunch_channels (s : State) (l : Nat) (k : LaunchQ) : (s.setLaunch l k).channels = s.channels := rfl
@[simp] theorem State.setLaunch_scrubPending (s : State) (l : Nat) (k : LaunchQ) : (s.setLaunch l k).scrubPending = s.scrubPending := rfl
@[simp] theorem State.setLaunch_bankTargets (s : State) (l : Nat) (k : LaunchQ) : (s.setLaunch l k).bankTargets = s.bankTargets := rfl
@[simp] theorem State.setLaunch_plans (s : State) (l : Nat) (k : LaunchQ) : (s.setLaunch l k).plans = s.plans := rfl
@[simp] theorem State.setLaunch_cameras (s : State) (l : Nat) (k : LaunchQ) : (s.setLaunch l k).cameras = s.cameras := rfl
@[simp] theorem State.setLaunch_chains (s : State) (l : Nat) (k : LaunchQ) : (s.setLaunch l k).chains = s.chains := rfl
@[simp] theorem State.setLaunch_decoders (s : State) (l : Nat) (k : LaunchQ) : (s.setLaunch l k).decoders = s.decoders := rfl
@[simp] theorem State.setLaunch_lanes (s : State) (l : Nat) (k : LaunchQ) : (s.setLaunch l k).lanes = s.lanes := rfl
@[simp] theorem State.setLaunch_gatherQueue (s : State) (l : Nat) (k : LaunchQ) : (s.setLaunch l k).gatherQueue = s.gatherQueue := rfl
@[simp] theorem State.setLaunch_gatherBusy (s : State) (l : Nat) (k : LaunchQ) : (s.setLaunch l k).gatherBusy = s.gatherBusy := rfl
@[simp] theorem State.setLaunch_blocks (s : State) (l : Nat) (k : LaunchQ) : (s.setLaunch l k).blocks = s.blocks := rfl
@[simp] theorem State.setLaunch_engines (s : State) (l : Nat) (k : LaunchQ) : (s.setLaunch l k).engines = s.engines := rfl
@[simp] theorem State.setLaunch_jobOrder (s : State) (l : Nat) (k : LaunchQ) : (s.setLaunch l k).jobOrder = s.jobOrder := rfl
@[simp] theorem State.setLaunch_nextBlock (s : State) (l : Nat) (k : LaunchQ) : (s.setLaunch l k).nextBlock = s.nextBlock := rfl
@[simp] theorem State.setLaunch_ptpPending (s : State) (l : Nat) (k : LaunchQ) : (s.setLaunch l k).ptpPending = s.ptpPending := rfl
@[simp] theorem State.setLaunch_speedAt (s : State) (l : Nat) (k : LaunchQ) : (s.setLaunch l k).speedAt = s.speedAt := rfl
@[simp] theorem State.setLaunch_safety (s : State) (l : Nat) (k : LaunchQ) : (s.setLaunch l k).safety = s.safety := rfl
@[simp] theorem State.setLaunch_mailboxes (s : State) (l : Nat) (k : LaunchQ) : (s.setLaunch l k).mailboxes = s.mailboxes := rfl
@[simp] theorem State.setLaunch_mirrorQueue (s : State) (l : Nat) (k : LaunchQ) : (s.setLaunch l k).mirrorQueue = s.mirrorQueue := rfl
@[simp] theorem State.setLaunch_cans (s : State) (l : Nat) (k : LaunchQ) : (s.setLaunch l k).cans = s.cans := rfl
@[simp] theorem State.setLaunch_busMaster (s : State) (l : Nat) (k : LaunchQ) : (s.setLaunch l k).busMaster = s.busMaster := rfl
@[simp] theorem State.setLaunch_d3hot (s : State) (l : Nat) (k : LaunchQ) : (s.setLaunch l k).d3hot = s.d3hot := rfl
@[simp] theorem State.setLaunch_msixTable (s : State) (l : Nat) (k : LaunchQ) : (s.setLaunch l k).msixTable = s.msixTable := rfl
@[simp] theorem State.setLaunch_links (s : State) (l : Nat) (k : LaunchQ) : (s.setLaunch l k).links = s.links := rfl
@[simp] theorem State.setLaunch_discovery (s : State) (l : Nat) (k : LaunchQ) : (s.setLaunch l k).discovery = s.discovery := rfl
@[simp] theorem State.setLaunch_dbg (s : State) (l : Nat) (k : LaunchQ) : (s.setLaunch l k).dbg = s.dbg := rfl
@[simp] theorem State.setLaunch_freeUsed (s : State) (l : Nat) (k : LaunchQ) : (s.setLaunch l k).freeUsed = s.freeUsed := rfl
@[simp] theorem State.setLaunch_out (s : State) (l : Nat) (k : LaunchQ) : (s.setLaunch l k).out = s.out := rfl

/-! `State.setMailbox` changes `mailboxes` alone. -/

@[simp] theorem State.setMailbox_pending (s : State) (i : Nat) (k : Mailbox) : (s.setMailbox i k).pending = s.pending := rfl
@[simp] theorem State.setMailbox_dict (s : State) (i : Nat) (k : Mailbox) : (s.setMailbox i k).dict = s.dict := rfl
@[simp] theorem State.setMailbox_accepted (s : State) (i : Nat) (k : Mailbox) : (s.setMailbox i k).accepted = s.accepted := rfl
@[simp] theorem State.setMailbox_selects (s : State) (i : Nat) (k : Mailbox) : (s.setMailbox i k).selects = s.selects := rfl
@[simp] theorem State.setMailbox_latches (s : State) (i : Nat) (k : Mailbox) : (s.setMailbox i k).latches = s.latches := rfl
@[simp] theorem State.setMailbox_replies (s : State) (i : Nat) (k : Mailbox) : (s.setMailbox i k).replies = s.replies := rfl
@[simp] theorem State.setMailbox_mem (s : State) (i : Nat) (k : Mailbox) : (s.setMailbox i k).mem = s.mem := rfl
@[simp] theorem State.setMailbox_flips (s : State) (i : Nat) (k : Mailbox) : (s.setMailbox i k).flips = s.flips := rfl
@[simp] theorem State.setMailbox_hostMem (s : State) (i : Nat) (k : Mailbox) : (s.setMailbox i k).hostMem = s.hostMem := rfl
@[simp] theorem State.setMailbox_xlat (s : State) (i : Nat) (k : Mailbox) : (s.setMailbox i k).xlat = s.xlat := rfl
@[simp] theorem State.setMailbox_xlatShadow (s : State) (i : Nat) (k : Mailbox) : (s.setMailbox i k).xlatShadow = s.xlatShadow := rfl
@[simp] theorem State.setMailbox_queues (s : State) (i : Nat) (k : Mailbox) : (s.setMailbox i k).queues = s.queues := rfl
@[simp] theorem State.setMailbox_syncs (s : State) (i : Nat) (k : Mailbox) : (s.setMailbox i k).syncs = s.syncs := rfl
@[simp] theorem State.setMailbox_time (s : State) (i : Nat) (k : Mailbox) : (s.setMailbox i k).time = s.time := rfl
@[simp] theorem State.setMailbox_boot (s : State) (i : Nat) (k : Mailbox) : (s.setMailbox i k).boot = s.boot := rfl
@[simp] theorem State.setMailbox_skeins (s : State) (i : Nat) (k : Mailbox) : (s.setMailbox i k).skeins = s.skeins := rfl
@[simp] theorem State.setMailbox_spindles (s : State) (i : Nat) (k : Mailbox) : (s.setMailbox i k).spindles = s.spindles := rfl
@[simp] theorem State.setMailbox_calderas (s : State) (i : Nat) (k : Mailbox) : (s.setMailbox i k).calderas = s.calderas := rfl
@[simp] theorem State.setMailbox_channels (s : State) (i : Nat) (k : Mailbox) : (s.setMailbox i k).channels = s.channels := rfl
@[simp] theorem State.setMailbox_scrubPending (s : State) (i : Nat) (k : Mailbox) : (s.setMailbox i k).scrubPending = s.scrubPending := rfl
@[simp] theorem State.setMailbox_bankTargets (s : State) (i : Nat) (k : Mailbox) : (s.setMailbox i k).bankTargets = s.bankTargets := rfl
@[simp] theorem State.setMailbox_plans (s : State) (i : Nat) (k : Mailbox) : (s.setMailbox i k).plans = s.plans := rfl
@[simp] theorem State.setMailbox_cameras (s : State) (i : Nat) (k : Mailbox) : (s.setMailbox i k).cameras = s.cameras := rfl
@[simp] theorem State.setMailbox_chains (s : State) (i : Nat) (k : Mailbox) : (s.setMailbox i k).chains = s.chains := rfl
@[simp] theorem State.setMailbox_decoders (s : State) (i : Nat) (k : Mailbox) : (s.setMailbox i k).decoders = s.decoders := rfl
@[simp] theorem State.setMailbox_lanes (s : State) (i : Nat) (k : Mailbox) : (s.setMailbox i k).lanes = s.lanes := rfl
@[simp] theorem State.setMailbox_gatherQueue (s : State) (i : Nat) (k : Mailbox) : (s.setMailbox i k).gatherQueue = s.gatherQueue := rfl
@[simp] theorem State.setMailbox_gatherBusy (s : State) (i : Nat) (k : Mailbox) : (s.setMailbox i k).gatherBusy = s.gatherBusy := rfl
@[simp] theorem State.setMailbox_blocks (s : State) (i : Nat) (k : Mailbox) : (s.setMailbox i k).blocks = s.blocks := rfl
@[simp] theorem State.setMailbox_engines (s : State) (i : Nat) (k : Mailbox) : (s.setMailbox i k).engines = s.engines := rfl
@[simp] theorem State.setMailbox_jobOrder (s : State) (i : Nat) (k : Mailbox) : (s.setMailbox i k).jobOrder = s.jobOrder := rfl
@[simp] theorem State.setMailbox_nextBlock (s : State) (i : Nat) (k : Mailbox) : (s.setMailbox i k).nextBlock = s.nextBlock := rfl
@[simp] theorem State.setMailbox_launches (s : State) (i : Nat) (k : Mailbox) : (s.setMailbox i k).launches = s.launches := rfl
@[simp] theorem State.setMailbox_ptpPending (s : State) (i : Nat) (k : Mailbox) : (s.setMailbox i k).ptpPending = s.ptpPending := rfl
@[simp] theorem State.setMailbox_speedAt (s : State) (i : Nat) (k : Mailbox) : (s.setMailbox i k).speedAt = s.speedAt := rfl
@[simp] theorem State.setMailbox_safety (s : State) (i : Nat) (k : Mailbox) : (s.setMailbox i k).safety = s.safety := rfl
@[simp] theorem State.setMailbox_mirrorQueue (s : State) (i : Nat) (k : Mailbox) : (s.setMailbox i k).mirrorQueue = s.mirrorQueue := rfl
@[simp] theorem State.setMailbox_cans (s : State) (i : Nat) (k : Mailbox) : (s.setMailbox i k).cans = s.cans := rfl
@[simp] theorem State.setMailbox_busMaster (s : State) (i : Nat) (k : Mailbox) : (s.setMailbox i k).busMaster = s.busMaster := rfl
@[simp] theorem State.setMailbox_d3hot (s : State) (i : Nat) (k : Mailbox) : (s.setMailbox i k).d3hot = s.d3hot := rfl
@[simp] theorem State.setMailbox_msixTable (s : State) (i : Nat) (k : Mailbox) : (s.setMailbox i k).msixTable = s.msixTable := rfl
@[simp] theorem State.setMailbox_links (s : State) (i : Nat) (k : Mailbox) : (s.setMailbox i k).links = s.links := rfl
@[simp] theorem State.setMailbox_discovery (s : State) (i : Nat) (k : Mailbox) : (s.setMailbox i k).discovery = s.discovery := rfl
@[simp] theorem State.setMailbox_dbg (s : State) (i : Nat) (k : Mailbox) : (s.setMailbox i k).dbg = s.dbg := rfl
@[simp] theorem State.setMailbox_freeUsed (s : State) (i : Nat) (k : Mailbox) : (s.setMailbox i k).freeUsed = s.freeUsed := rfl
@[simp] theorem State.setMailbox_out (s : State) (i : Nat) (k : Mailbox) : (s.setMailbox i k).out = s.out := rfl

/-! `State.setCan` changes `cans` alone. -/

@[simp] theorem State.setCan_pending (s : State) (c : Nat) (k : Can) : (s.setCan c k).pending = s.pending := rfl
@[simp] theorem State.setCan_dict (s : State) (c : Nat) (k : Can) : (s.setCan c k).dict = s.dict := rfl
@[simp] theorem State.setCan_accepted (s : State) (c : Nat) (k : Can) : (s.setCan c k).accepted = s.accepted := rfl
@[simp] theorem State.setCan_selects (s : State) (c : Nat) (k : Can) : (s.setCan c k).selects = s.selects := rfl
@[simp] theorem State.setCan_latches (s : State) (c : Nat) (k : Can) : (s.setCan c k).latches = s.latches := rfl
@[simp] theorem State.setCan_replies (s : State) (c : Nat) (k : Can) : (s.setCan c k).replies = s.replies := rfl
@[simp] theorem State.setCan_mem (s : State) (c : Nat) (k : Can) : (s.setCan c k).mem = s.mem := rfl
@[simp] theorem State.setCan_flips (s : State) (c : Nat) (k : Can) : (s.setCan c k).flips = s.flips := rfl
@[simp] theorem State.setCan_hostMem (s : State) (c : Nat) (k : Can) : (s.setCan c k).hostMem = s.hostMem := rfl
@[simp] theorem State.setCan_xlat (s : State) (c : Nat) (k : Can) : (s.setCan c k).xlat = s.xlat := rfl
@[simp] theorem State.setCan_xlatShadow (s : State) (c : Nat) (k : Can) : (s.setCan c k).xlatShadow = s.xlatShadow := rfl
@[simp] theorem State.setCan_queues (s : State) (c : Nat) (k : Can) : (s.setCan c k).queues = s.queues := rfl
@[simp] theorem State.setCan_syncs (s : State) (c : Nat) (k : Can) : (s.setCan c k).syncs = s.syncs := rfl
@[simp] theorem State.setCan_time (s : State) (c : Nat) (k : Can) : (s.setCan c k).time = s.time := rfl
@[simp] theorem State.setCan_boot (s : State) (c : Nat) (k : Can) : (s.setCan c k).boot = s.boot := rfl
@[simp] theorem State.setCan_skeins (s : State) (c : Nat) (k : Can) : (s.setCan c k).skeins = s.skeins := rfl
@[simp] theorem State.setCan_spindles (s : State) (c : Nat) (k : Can) : (s.setCan c k).spindles = s.spindles := rfl
@[simp] theorem State.setCan_calderas (s : State) (c : Nat) (k : Can) : (s.setCan c k).calderas = s.calderas := rfl
@[simp] theorem State.setCan_channels (s : State) (c : Nat) (k : Can) : (s.setCan c k).channels = s.channels := rfl
@[simp] theorem State.setCan_scrubPending (s : State) (c : Nat) (k : Can) : (s.setCan c k).scrubPending = s.scrubPending := rfl
@[simp] theorem State.setCan_bankTargets (s : State) (c : Nat) (k : Can) : (s.setCan c k).bankTargets = s.bankTargets := rfl
@[simp] theorem State.setCan_plans (s : State) (c : Nat) (k : Can) : (s.setCan c k).plans = s.plans := rfl
@[simp] theorem State.setCan_cameras (s : State) (c : Nat) (k : Can) : (s.setCan c k).cameras = s.cameras := rfl
@[simp] theorem State.setCan_chains (s : State) (c : Nat) (k : Can) : (s.setCan c k).chains = s.chains := rfl
@[simp] theorem State.setCan_decoders (s : State) (c : Nat) (k : Can) : (s.setCan c k).decoders = s.decoders := rfl
@[simp] theorem State.setCan_lanes (s : State) (c : Nat) (k : Can) : (s.setCan c k).lanes = s.lanes := rfl
@[simp] theorem State.setCan_gatherQueue (s : State) (c : Nat) (k : Can) : (s.setCan c k).gatherQueue = s.gatherQueue := rfl
@[simp] theorem State.setCan_gatherBusy (s : State) (c : Nat) (k : Can) : (s.setCan c k).gatherBusy = s.gatherBusy := rfl
@[simp] theorem State.setCan_blocks (s : State) (c : Nat) (k : Can) : (s.setCan c k).blocks = s.blocks := rfl
@[simp] theorem State.setCan_engines (s : State) (c : Nat) (k : Can) : (s.setCan c k).engines = s.engines := rfl
@[simp] theorem State.setCan_jobOrder (s : State) (c : Nat) (k : Can) : (s.setCan c k).jobOrder = s.jobOrder := rfl
@[simp] theorem State.setCan_nextBlock (s : State) (c : Nat) (k : Can) : (s.setCan c k).nextBlock = s.nextBlock := rfl
@[simp] theorem State.setCan_launches (s : State) (c : Nat) (k : Can) : (s.setCan c k).launches = s.launches := rfl
@[simp] theorem State.setCan_ptpPending (s : State) (c : Nat) (k : Can) : (s.setCan c k).ptpPending = s.ptpPending := rfl
@[simp] theorem State.setCan_speedAt (s : State) (c : Nat) (k : Can) : (s.setCan c k).speedAt = s.speedAt := rfl
@[simp] theorem State.setCan_safety (s : State) (c : Nat) (k : Can) : (s.setCan c k).safety = s.safety := rfl
@[simp] theorem State.setCan_mailboxes (s : State) (c : Nat) (k : Can) : (s.setCan c k).mailboxes = s.mailboxes := rfl
@[simp] theorem State.setCan_mirrorQueue (s : State) (c : Nat) (k : Can) : (s.setCan c k).mirrorQueue = s.mirrorQueue := rfl
@[simp] theorem State.setCan_busMaster (s : State) (c : Nat) (k : Can) : (s.setCan c k).busMaster = s.busMaster := rfl
@[simp] theorem State.setCan_d3hot (s : State) (c : Nat) (k : Can) : (s.setCan c k).d3hot = s.d3hot := rfl
@[simp] theorem State.setCan_msixTable (s : State) (c : Nat) (k : Can) : (s.setCan c k).msixTable = s.msixTable := rfl
@[simp] theorem State.setCan_links (s : State) (c : Nat) (k : Can) : (s.setCan c k).links = s.links := rfl
@[simp] theorem State.setCan_discovery (s : State) (c : Nat) (k : Can) : (s.setCan c k).discovery = s.discovery := rfl
@[simp] theorem State.setCan_dbg (s : State) (c : Nat) (k : Can) : (s.setCan c k).dbg = s.dbg := rfl
@[simp] theorem State.setCan_freeUsed (s : State) (c : Nat) (k : Can) : (s.setCan c k).freeUsed = s.freeUsed := rfl
@[simp] theorem State.setCan_out (s : State) (c : Nat) (k : Can) : (s.setCan c k).out = s.out := rfl

/-! `State.setLink` changes `links` alone. -/

@[simp] theorem State.setLink_pending (s : State) (l : Nat) (k : Link) : (s.setLink l k).pending = s.pending := rfl
@[simp] theorem State.setLink_dict (s : State) (l : Nat) (k : Link) : (s.setLink l k).dict = s.dict := rfl
@[simp] theorem State.setLink_accepted (s : State) (l : Nat) (k : Link) : (s.setLink l k).accepted = s.accepted := rfl
@[simp] theorem State.setLink_selects (s : State) (l : Nat) (k : Link) : (s.setLink l k).selects = s.selects := rfl
@[simp] theorem State.setLink_latches (s : State) (l : Nat) (k : Link) : (s.setLink l k).latches = s.latches := rfl
@[simp] theorem State.setLink_replies (s : State) (l : Nat) (k : Link) : (s.setLink l k).replies = s.replies := rfl
@[simp] theorem State.setLink_mem (s : State) (l : Nat) (k : Link) : (s.setLink l k).mem = s.mem := rfl
@[simp] theorem State.setLink_flips (s : State) (l : Nat) (k : Link) : (s.setLink l k).flips = s.flips := rfl
@[simp] theorem State.setLink_hostMem (s : State) (l : Nat) (k : Link) : (s.setLink l k).hostMem = s.hostMem := rfl
@[simp] theorem State.setLink_xlat (s : State) (l : Nat) (k : Link) : (s.setLink l k).xlat = s.xlat := rfl
@[simp] theorem State.setLink_xlatShadow (s : State) (l : Nat) (k : Link) : (s.setLink l k).xlatShadow = s.xlatShadow := rfl
@[simp] theorem State.setLink_queues (s : State) (l : Nat) (k : Link) : (s.setLink l k).queues = s.queues := rfl
@[simp] theorem State.setLink_syncs (s : State) (l : Nat) (k : Link) : (s.setLink l k).syncs = s.syncs := rfl
@[simp] theorem State.setLink_time (s : State) (l : Nat) (k : Link) : (s.setLink l k).time = s.time := rfl
@[simp] theorem State.setLink_boot (s : State) (l : Nat) (k : Link) : (s.setLink l k).boot = s.boot := rfl
@[simp] theorem State.setLink_skeins (s : State) (l : Nat) (k : Link) : (s.setLink l k).skeins = s.skeins := rfl
@[simp] theorem State.setLink_spindles (s : State) (l : Nat) (k : Link) : (s.setLink l k).spindles = s.spindles := rfl
@[simp] theorem State.setLink_calderas (s : State) (l : Nat) (k : Link) : (s.setLink l k).calderas = s.calderas := rfl
@[simp] theorem State.setLink_channels (s : State) (l : Nat) (k : Link) : (s.setLink l k).channels = s.channels := rfl
@[simp] theorem State.setLink_scrubPending (s : State) (l : Nat) (k : Link) : (s.setLink l k).scrubPending = s.scrubPending := rfl
@[simp] theorem State.setLink_bankTargets (s : State) (l : Nat) (k : Link) : (s.setLink l k).bankTargets = s.bankTargets := rfl
@[simp] theorem State.setLink_plans (s : State) (l : Nat) (k : Link) : (s.setLink l k).plans = s.plans := rfl
@[simp] theorem State.setLink_cameras (s : State) (l : Nat) (k : Link) : (s.setLink l k).cameras = s.cameras := rfl
@[simp] theorem State.setLink_chains (s : State) (l : Nat) (k : Link) : (s.setLink l k).chains = s.chains := rfl
@[simp] theorem State.setLink_decoders (s : State) (l : Nat) (k : Link) : (s.setLink l k).decoders = s.decoders := rfl
@[simp] theorem State.setLink_lanes (s : State) (l : Nat) (k : Link) : (s.setLink l k).lanes = s.lanes := rfl
@[simp] theorem State.setLink_gatherQueue (s : State) (l : Nat) (k : Link) : (s.setLink l k).gatherQueue = s.gatherQueue := rfl
@[simp] theorem State.setLink_gatherBusy (s : State) (l : Nat) (k : Link) : (s.setLink l k).gatherBusy = s.gatherBusy := rfl
@[simp] theorem State.setLink_blocks (s : State) (l : Nat) (k : Link) : (s.setLink l k).blocks = s.blocks := rfl
@[simp] theorem State.setLink_engines (s : State) (l : Nat) (k : Link) : (s.setLink l k).engines = s.engines := rfl
@[simp] theorem State.setLink_jobOrder (s : State) (l : Nat) (k : Link) : (s.setLink l k).jobOrder = s.jobOrder := rfl
@[simp] theorem State.setLink_nextBlock (s : State) (l : Nat) (k : Link) : (s.setLink l k).nextBlock = s.nextBlock := rfl
@[simp] theorem State.setLink_launches (s : State) (l : Nat) (k : Link) : (s.setLink l k).launches = s.launches := rfl
@[simp] theorem State.setLink_ptpPending (s : State) (l : Nat) (k : Link) : (s.setLink l k).ptpPending = s.ptpPending := rfl
@[simp] theorem State.setLink_speedAt (s : State) (l : Nat) (k : Link) : (s.setLink l k).speedAt = s.speedAt := rfl
@[simp] theorem State.setLink_safety (s : State) (l : Nat) (k : Link) : (s.setLink l k).safety = s.safety := rfl
@[simp] theorem State.setLink_mailboxes (s : State) (l : Nat) (k : Link) : (s.setLink l k).mailboxes = s.mailboxes := rfl
@[simp] theorem State.setLink_mirrorQueue (s : State) (l : Nat) (k : Link) : (s.setLink l k).mirrorQueue = s.mirrorQueue := rfl
@[simp] theorem State.setLink_cans (s : State) (l : Nat) (k : Link) : (s.setLink l k).cans = s.cans := rfl
@[simp] theorem State.setLink_busMaster (s : State) (l : Nat) (k : Link) : (s.setLink l k).busMaster = s.busMaster := rfl
@[simp] theorem State.setLink_d3hot (s : State) (l : Nat) (k : Link) : (s.setLink l k).d3hot = s.d3hot := rfl
@[simp] theorem State.setLink_msixTable (s : State) (l : Nat) (k : Link) : (s.setLink l k).msixTable = s.msixTable := rfl
@[simp] theorem State.setLink_discovery (s : State) (l : Nat) (k : Link) : (s.setLink l k).discovery = s.discovery := rfl
@[simp] theorem State.setLink_dbg (s : State) (l : Nat) (k : Link) : (s.setLink l k).dbg = s.dbg := rfl
@[simp] theorem State.setLink_freeUsed (s : State) (l : Nat) (k : Link) : (s.setLink l k).freeUsed = s.freeUsed := rfl
@[simp] theorem State.setLink_out (s : State) (l : Nat) (k : Link) : (s.setLink l k).out = s.out := rfl

/-! `State.setSync` changes `syncs` alone. -/

@[simp] theorem State.setSync_pending (s : State) (n v : Nat) : (s.setSync n v).pending = s.pending := rfl
@[simp] theorem State.setSync_dict (s : State) (n v : Nat) : (s.setSync n v).dict = s.dict := rfl
@[simp] theorem State.setSync_accepted (s : State) (n v : Nat) : (s.setSync n v).accepted = s.accepted := rfl
@[simp] theorem State.setSync_selects (s : State) (n v : Nat) : (s.setSync n v).selects = s.selects := rfl
@[simp] theorem State.setSync_latches (s : State) (n v : Nat) : (s.setSync n v).latches = s.latches := rfl
@[simp] theorem State.setSync_replies (s : State) (n v : Nat) : (s.setSync n v).replies = s.replies := rfl
@[simp] theorem State.setSync_mem (s : State) (n v : Nat) : (s.setSync n v).mem = s.mem := rfl
@[simp] theorem State.setSync_flips (s : State) (n v : Nat) : (s.setSync n v).flips = s.flips := rfl
@[simp] theorem State.setSync_hostMem (s : State) (n v : Nat) : (s.setSync n v).hostMem = s.hostMem := rfl
@[simp] theorem State.setSync_xlat (s : State) (n v : Nat) : (s.setSync n v).xlat = s.xlat := rfl
@[simp] theorem State.setSync_xlatShadow (s : State) (n v : Nat) : (s.setSync n v).xlatShadow = s.xlatShadow := rfl
@[simp] theorem State.setSync_queues (s : State) (n v : Nat) : (s.setSync n v).queues = s.queues := rfl
@[simp] theorem State.setSync_time (s : State) (n v : Nat) : (s.setSync n v).time = s.time := rfl
@[simp] theorem State.setSync_boot (s : State) (n v : Nat) : (s.setSync n v).boot = s.boot := rfl
@[simp] theorem State.setSync_skeins (s : State) (n v : Nat) : (s.setSync n v).skeins = s.skeins := rfl
@[simp] theorem State.setSync_spindles (s : State) (n v : Nat) : (s.setSync n v).spindles = s.spindles := rfl
@[simp] theorem State.setSync_calderas (s : State) (n v : Nat) : (s.setSync n v).calderas = s.calderas := rfl
@[simp] theorem State.setSync_channels (s : State) (n v : Nat) : (s.setSync n v).channels = s.channels := rfl
@[simp] theorem State.setSync_scrubPending (s : State) (n v : Nat) : (s.setSync n v).scrubPending = s.scrubPending := rfl
@[simp] theorem State.setSync_bankTargets (s : State) (n v : Nat) : (s.setSync n v).bankTargets = s.bankTargets := rfl
@[simp] theorem State.setSync_plans (s : State) (n v : Nat) : (s.setSync n v).plans = s.plans := rfl
@[simp] theorem State.setSync_cameras (s : State) (n v : Nat) : (s.setSync n v).cameras = s.cameras := rfl
@[simp] theorem State.setSync_chains (s : State) (n v : Nat) : (s.setSync n v).chains = s.chains := rfl
@[simp] theorem State.setSync_decoders (s : State) (n v : Nat) : (s.setSync n v).decoders = s.decoders := rfl
@[simp] theorem State.setSync_lanes (s : State) (n v : Nat) : (s.setSync n v).lanes = s.lanes := rfl
@[simp] theorem State.setSync_gatherQueue (s : State) (n v : Nat) : (s.setSync n v).gatherQueue = s.gatherQueue := rfl
@[simp] theorem State.setSync_gatherBusy (s : State) (n v : Nat) : (s.setSync n v).gatherBusy = s.gatherBusy := rfl
@[simp] theorem State.setSync_blocks (s : State) (n v : Nat) : (s.setSync n v).blocks = s.blocks := rfl
@[simp] theorem State.setSync_engines (s : State) (n v : Nat) : (s.setSync n v).engines = s.engines := rfl
@[simp] theorem State.setSync_jobOrder (s : State) (n v : Nat) : (s.setSync n v).jobOrder = s.jobOrder := rfl
@[simp] theorem State.setSync_nextBlock (s : State) (n v : Nat) : (s.setSync n v).nextBlock = s.nextBlock := rfl
@[simp] theorem State.setSync_launches (s : State) (n v : Nat) : (s.setSync n v).launches = s.launches := rfl
@[simp] theorem State.setSync_ptpPending (s : State) (n v : Nat) : (s.setSync n v).ptpPending = s.ptpPending := rfl
@[simp] theorem State.setSync_speedAt (s : State) (n v : Nat) : (s.setSync n v).speedAt = s.speedAt := rfl
@[simp] theorem State.setSync_safety (s : State) (n v : Nat) : (s.setSync n v).safety = s.safety := rfl
@[simp] theorem State.setSync_mailboxes (s : State) (n v : Nat) : (s.setSync n v).mailboxes = s.mailboxes := rfl
@[simp] theorem State.setSync_mirrorQueue (s : State) (n v : Nat) : (s.setSync n v).mirrorQueue = s.mirrorQueue := rfl
@[simp] theorem State.setSync_cans (s : State) (n v : Nat) : (s.setSync n v).cans = s.cans := rfl
@[simp] theorem State.setSync_busMaster (s : State) (n v : Nat) : (s.setSync n v).busMaster = s.busMaster := rfl
@[simp] theorem State.setSync_d3hot (s : State) (n v : Nat) : (s.setSync n v).d3hot = s.d3hot := rfl
@[simp] theorem State.setSync_msixTable (s : State) (n v : Nat) : (s.setSync n v).msixTable = s.msixTable := rfl
@[simp] theorem State.setSync_links (s : State) (n v : Nat) : (s.setSync n v).links = s.links := rfl
@[simp] theorem State.setSync_discovery (s : State) (n v : Nat) : (s.setSync n v).discovery = s.discovery := rfl
@[simp] theorem State.setSync_dbg (s : State) (n v : Nat) : (s.setSync n v).dbg = s.dbg := rfl
@[simp] theorem State.setSync_freeUsed (s : State) (n v : Nat) : (s.setSync n v).freeUsed = s.freeUsed := rfl
@[simp] theorem State.setSync_out (s : State) (n v : Nat) : (s.setSync n v).out = s.out := rfl

/-! `State.modDebug` changes `dbg` alone. -/

@[simp] theorem State.modDebug_pending (s : State) (f : Debug → Debug) : (s.modDebug f).pending = s.pending := rfl
@[simp] theorem State.modDebug_dict (s : State) (f : Debug → Debug) : (s.modDebug f).dict = s.dict := rfl
@[simp] theorem State.modDebug_accepted (s : State) (f : Debug → Debug) : (s.modDebug f).accepted = s.accepted := rfl
@[simp] theorem State.modDebug_selects (s : State) (f : Debug → Debug) : (s.modDebug f).selects = s.selects := rfl
@[simp] theorem State.modDebug_latches (s : State) (f : Debug → Debug) : (s.modDebug f).latches = s.latches := rfl
@[simp] theorem State.modDebug_replies (s : State) (f : Debug → Debug) : (s.modDebug f).replies = s.replies := rfl
@[simp] theorem State.modDebug_mem (s : State) (f : Debug → Debug) : (s.modDebug f).mem = s.mem := rfl
@[simp] theorem State.modDebug_flips (s : State) (f : Debug → Debug) : (s.modDebug f).flips = s.flips := rfl
@[simp] theorem State.modDebug_hostMem (s : State) (f : Debug → Debug) : (s.modDebug f).hostMem = s.hostMem := rfl
@[simp] theorem State.modDebug_xlat (s : State) (f : Debug → Debug) : (s.modDebug f).xlat = s.xlat := rfl
@[simp] theorem State.modDebug_xlatShadow (s : State) (f : Debug → Debug) : (s.modDebug f).xlatShadow = s.xlatShadow := rfl
@[simp] theorem State.modDebug_queues (s : State) (f : Debug → Debug) : (s.modDebug f).queues = s.queues := rfl
@[simp] theorem State.modDebug_syncs (s : State) (f : Debug → Debug) : (s.modDebug f).syncs = s.syncs := rfl
@[simp] theorem State.modDebug_time (s : State) (f : Debug → Debug) : (s.modDebug f).time = s.time := rfl
@[simp] theorem State.modDebug_boot (s : State) (f : Debug → Debug) : (s.modDebug f).boot = s.boot := rfl
@[simp] theorem State.modDebug_skeins (s : State) (f : Debug → Debug) : (s.modDebug f).skeins = s.skeins := rfl
@[simp] theorem State.modDebug_spindles (s : State) (f : Debug → Debug) : (s.modDebug f).spindles = s.spindles := rfl
@[simp] theorem State.modDebug_calderas (s : State) (f : Debug → Debug) : (s.modDebug f).calderas = s.calderas := rfl
@[simp] theorem State.modDebug_channels (s : State) (f : Debug → Debug) : (s.modDebug f).channels = s.channels := rfl
@[simp] theorem State.modDebug_scrubPending (s : State) (f : Debug → Debug) : (s.modDebug f).scrubPending = s.scrubPending := rfl
@[simp] theorem State.modDebug_bankTargets (s : State) (f : Debug → Debug) : (s.modDebug f).bankTargets = s.bankTargets := rfl
@[simp] theorem State.modDebug_plans (s : State) (f : Debug → Debug) : (s.modDebug f).plans = s.plans := rfl
@[simp] theorem State.modDebug_cameras (s : State) (f : Debug → Debug) : (s.modDebug f).cameras = s.cameras := rfl
@[simp] theorem State.modDebug_chains (s : State) (f : Debug → Debug) : (s.modDebug f).chains = s.chains := rfl
@[simp] theorem State.modDebug_decoders (s : State) (f : Debug → Debug) : (s.modDebug f).decoders = s.decoders := rfl
@[simp] theorem State.modDebug_lanes (s : State) (f : Debug → Debug) : (s.modDebug f).lanes = s.lanes := rfl
@[simp] theorem State.modDebug_gatherQueue (s : State) (f : Debug → Debug) : (s.modDebug f).gatherQueue = s.gatherQueue := rfl
@[simp] theorem State.modDebug_gatherBusy (s : State) (f : Debug → Debug) : (s.modDebug f).gatherBusy = s.gatherBusy := rfl
@[simp] theorem State.modDebug_blocks (s : State) (f : Debug → Debug) : (s.modDebug f).blocks = s.blocks := rfl
@[simp] theorem State.modDebug_engines (s : State) (f : Debug → Debug) : (s.modDebug f).engines = s.engines := rfl
@[simp] theorem State.modDebug_jobOrder (s : State) (f : Debug → Debug) : (s.modDebug f).jobOrder = s.jobOrder := rfl
@[simp] theorem State.modDebug_nextBlock (s : State) (f : Debug → Debug) : (s.modDebug f).nextBlock = s.nextBlock := rfl
@[simp] theorem State.modDebug_launches (s : State) (f : Debug → Debug) : (s.modDebug f).launches = s.launches := rfl
@[simp] theorem State.modDebug_ptpPending (s : State) (f : Debug → Debug) : (s.modDebug f).ptpPending = s.ptpPending := rfl
@[simp] theorem State.modDebug_speedAt (s : State) (f : Debug → Debug) : (s.modDebug f).speedAt = s.speedAt := rfl
@[simp] theorem State.modDebug_safety (s : State) (f : Debug → Debug) : (s.modDebug f).safety = s.safety := rfl
@[simp] theorem State.modDebug_mailboxes (s : State) (f : Debug → Debug) : (s.modDebug f).mailboxes = s.mailboxes := rfl
@[simp] theorem State.modDebug_mirrorQueue (s : State) (f : Debug → Debug) : (s.modDebug f).mirrorQueue = s.mirrorQueue := rfl
@[simp] theorem State.modDebug_cans (s : State) (f : Debug → Debug) : (s.modDebug f).cans = s.cans := rfl
@[simp] theorem State.modDebug_busMaster (s : State) (f : Debug → Debug) : (s.modDebug f).busMaster = s.busMaster := rfl
@[simp] theorem State.modDebug_d3hot (s : State) (f : Debug → Debug) : (s.modDebug f).d3hot = s.d3hot := rfl
@[simp] theorem State.modDebug_msixTable (s : State) (f : Debug → Debug) : (s.modDebug f).msixTable = s.msixTable := rfl
@[simp] theorem State.modDebug_links (s : State) (f : Debug → Debug) : (s.modDebug f).links = s.links := rfl
@[simp] theorem State.modDebug_discovery (s : State) (f : Debug → Debug) : (s.modDebug f).discovery = s.discovery := rfl
@[simp] theorem State.modDebug_freeUsed (s : State) (f : Debug → Debug) : (s.modDebug f).freeUsed = s.freeUsed := rfl
@[simp] theorem State.modDebug_out (s : State) (f : Debug → Debug) : (s.modDebug f).out = s.out := rfl

/-! `State.modSafety` changes `safety` alone. -/

@[simp] theorem State.modSafety_pending (s : State) (f : Safety → Safety) : (s.modSafety f).pending = s.pending := rfl
@[simp] theorem State.modSafety_dict (s : State) (f : Safety → Safety) : (s.modSafety f).dict = s.dict := rfl
@[simp] theorem State.modSafety_accepted (s : State) (f : Safety → Safety) : (s.modSafety f).accepted = s.accepted := rfl
@[simp] theorem State.modSafety_selects (s : State) (f : Safety → Safety) : (s.modSafety f).selects = s.selects := rfl
@[simp] theorem State.modSafety_latches (s : State) (f : Safety → Safety) : (s.modSafety f).latches = s.latches := rfl
@[simp] theorem State.modSafety_replies (s : State) (f : Safety → Safety) : (s.modSafety f).replies = s.replies := rfl
@[simp] theorem State.modSafety_mem (s : State) (f : Safety → Safety) : (s.modSafety f).mem = s.mem := rfl
@[simp] theorem State.modSafety_flips (s : State) (f : Safety → Safety) : (s.modSafety f).flips = s.flips := rfl
@[simp] theorem State.modSafety_hostMem (s : State) (f : Safety → Safety) : (s.modSafety f).hostMem = s.hostMem := rfl
@[simp] theorem State.modSafety_xlat (s : State) (f : Safety → Safety) : (s.modSafety f).xlat = s.xlat := rfl
@[simp] theorem State.modSafety_xlatShadow (s : State) (f : Safety → Safety) : (s.modSafety f).xlatShadow = s.xlatShadow := rfl
@[simp] theorem State.modSafety_queues (s : State) (f : Safety → Safety) : (s.modSafety f).queues = s.queues := rfl
@[simp] theorem State.modSafety_syncs (s : State) (f : Safety → Safety) : (s.modSafety f).syncs = s.syncs := rfl
@[simp] theorem State.modSafety_time (s : State) (f : Safety → Safety) : (s.modSafety f).time = s.time := rfl
@[simp] theorem State.modSafety_boot (s : State) (f : Safety → Safety) : (s.modSafety f).boot = s.boot := rfl
@[simp] theorem State.modSafety_skeins (s : State) (f : Safety → Safety) : (s.modSafety f).skeins = s.skeins := rfl
@[simp] theorem State.modSafety_spindles (s : State) (f : Safety → Safety) : (s.modSafety f).spindles = s.spindles := rfl
@[simp] theorem State.modSafety_calderas (s : State) (f : Safety → Safety) : (s.modSafety f).calderas = s.calderas := rfl
@[simp] theorem State.modSafety_channels (s : State) (f : Safety → Safety) : (s.modSafety f).channels = s.channels := rfl
@[simp] theorem State.modSafety_scrubPending (s : State) (f : Safety → Safety) : (s.modSafety f).scrubPending = s.scrubPending := rfl
@[simp] theorem State.modSafety_bankTargets (s : State) (f : Safety → Safety) : (s.modSafety f).bankTargets = s.bankTargets := rfl
@[simp] theorem State.modSafety_plans (s : State) (f : Safety → Safety) : (s.modSafety f).plans = s.plans := rfl
@[simp] theorem State.modSafety_cameras (s : State) (f : Safety → Safety) : (s.modSafety f).cameras = s.cameras := rfl
@[simp] theorem State.modSafety_chains (s : State) (f : Safety → Safety) : (s.modSafety f).chains = s.chains := rfl
@[simp] theorem State.modSafety_decoders (s : State) (f : Safety → Safety) : (s.modSafety f).decoders = s.decoders := rfl
@[simp] theorem State.modSafety_lanes (s : State) (f : Safety → Safety) : (s.modSafety f).lanes = s.lanes := rfl
@[simp] theorem State.modSafety_gatherQueue (s : State) (f : Safety → Safety) : (s.modSafety f).gatherQueue = s.gatherQueue := rfl
@[simp] theorem State.modSafety_gatherBusy (s : State) (f : Safety → Safety) : (s.modSafety f).gatherBusy = s.gatherBusy := rfl
@[simp] theorem State.modSafety_blocks (s : State) (f : Safety → Safety) : (s.modSafety f).blocks = s.blocks := rfl
@[simp] theorem State.modSafety_engines (s : State) (f : Safety → Safety) : (s.modSafety f).engines = s.engines := rfl
@[simp] theorem State.modSafety_jobOrder (s : State) (f : Safety → Safety) : (s.modSafety f).jobOrder = s.jobOrder := rfl
@[simp] theorem State.modSafety_nextBlock (s : State) (f : Safety → Safety) : (s.modSafety f).nextBlock = s.nextBlock := rfl
@[simp] theorem State.modSafety_launches (s : State) (f : Safety → Safety) : (s.modSafety f).launches = s.launches := rfl
@[simp] theorem State.modSafety_ptpPending (s : State) (f : Safety → Safety) : (s.modSafety f).ptpPending = s.ptpPending := rfl
@[simp] theorem State.modSafety_speedAt (s : State) (f : Safety → Safety) : (s.modSafety f).speedAt = s.speedAt := rfl
@[simp] theorem State.modSafety_mailboxes (s : State) (f : Safety → Safety) : (s.modSafety f).mailboxes = s.mailboxes := rfl
@[simp] theorem State.modSafety_mirrorQueue (s : State) (f : Safety → Safety) : (s.modSafety f).mirrorQueue = s.mirrorQueue := rfl
@[simp] theorem State.modSafety_cans (s : State) (f : Safety → Safety) : (s.modSafety f).cans = s.cans := rfl
@[simp] theorem State.modSafety_busMaster (s : State) (f : Safety → Safety) : (s.modSafety f).busMaster = s.busMaster := rfl
@[simp] theorem State.modSafety_d3hot (s : State) (f : Safety → Safety) : (s.modSafety f).d3hot = s.d3hot := rfl
@[simp] theorem State.modSafety_msixTable (s : State) (f : Safety → Safety) : (s.modSafety f).msixTable = s.msixTable := rfl
@[simp] theorem State.modSafety_links (s : State) (f : Safety → Safety) : (s.modSafety f).links = s.links := rfl
@[simp] theorem State.modSafety_discovery (s : State) (f : Safety → Safety) : (s.modSafety f).discovery = s.discovery := rfl
@[simp] theorem State.modSafety_dbg (s : State) (f : Safety → Safety) : (s.modSafety f).dbg = s.dbg := rfl
@[simp] theorem State.modSafety_freeUsed (s : State) (f : Safety → Safety) : (s.modSafety f).freeUsed = s.freeUsed := rfl
@[simp] theorem State.modSafety_out (s : State) (f : Safety → Safety) : (s.modSafety f).out = s.out := rfl

/-! `State.modBoot` changes `boot` alone. -/

@[simp] theorem State.modBoot_pending (s : State) (f : Boot → Boot) : (s.modBoot f).pending = s.pending := rfl
@[simp] theorem State.modBoot_dict (s : State) (f : Boot → Boot) : (s.modBoot f).dict = s.dict := rfl
@[simp] theorem State.modBoot_accepted (s : State) (f : Boot → Boot) : (s.modBoot f).accepted = s.accepted := rfl
@[simp] theorem State.modBoot_selects (s : State) (f : Boot → Boot) : (s.modBoot f).selects = s.selects := rfl
@[simp] theorem State.modBoot_latches (s : State) (f : Boot → Boot) : (s.modBoot f).latches = s.latches := rfl
@[simp] theorem State.modBoot_replies (s : State) (f : Boot → Boot) : (s.modBoot f).replies = s.replies := rfl
@[simp] theorem State.modBoot_mem (s : State) (f : Boot → Boot) : (s.modBoot f).mem = s.mem := rfl
@[simp] theorem State.modBoot_flips (s : State) (f : Boot → Boot) : (s.modBoot f).flips = s.flips := rfl
@[simp] theorem State.modBoot_hostMem (s : State) (f : Boot → Boot) : (s.modBoot f).hostMem = s.hostMem := rfl
@[simp] theorem State.modBoot_xlat (s : State) (f : Boot → Boot) : (s.modBoot f).xlat = s.xlat := rfl
@[simp] theorem State.modBoot_xlatShadow (s : State) (f : Boot → Boot) : (s.modBoot f).xlatShadow = s.xlatShadow := rfl
@[simp] theorem State.modBoot_queues (s : State) (f : Boot → Boot) : (s.modBoot f).queues = s.queues := rfl
@[simp] theorem State.modBoot_syncs (s : State) (f : Boot → Boot) : (s.modBoot f).syncs = s.syncs := rfl
@[simp] theorem State.modBoot_time (s : State) (f : Boot → Boot) : (s.modBoot f).time = s.time := rfl
@[simp] theorem State.modBoot_skeins (s : State) (f : Boot → Boot) : (s.modBoot f).skeins = s.skeins := rfl
@[simp] theorem State.modBoot_spindles (s : State) (f : Boot → Boot) : (s.modBoot f).spindles = s.spindles := rfl
@[simp] theorem State.modBoot_calderas (s : State) (f : Boot → Boot) : (s.modBoot f).calderas = s.calderas := rfl
@[simp] theorem State.modBoot_channels (s : State) (f : Boot → Boot) : (s.modBoot f).channels = s.channels := rfl
@[simp] theorem State.modBoot_scrubPending (s : State) (f : Boot → Boot) : (s.modBoot f).scrubPending = s.scrubPending := rfl
@[simp] theorem State.modBoot_bankTargets (s : State) (f : Boot → Boot) : (s.modBoot f).bankTargets = s.bankTargets := rfl
@[simp] theorem State.modBoot_plans (s : State) (f : Boot → Boot) : (s.modBoot f).plans = s.plans := rfl
@[simp] theorem State.modBoot_cameras (s : State) (f : Boot → Boot) : (s.modBoot f).cameras = s.cameras := rfl
@[simp] theorem State.modBoot_chains (s : State) (f : Boot → Boot) : (s.modBoot f).chains = s.chains := rfl
@[simp] theorem State.modBoot_decoders (s : State) (f : Boot → Boot) : (s.modBoot f).decoders = s.decoders := rfl
@[simp] theorem State.modBoot_lanes (s : State) (f : Boot → Boot) : (s.modBoot f).lanes = s.lanes := rfl
@[simp] theorem State.modBoot_gatherQueue (s : State) (f : Boot → Boot) : (s.modBoot f).gatherQueue = s.gatherQueue := rfl
@[simp] theorem State.modBoot_gatherBusy (s : State) (f : Boot → Boot) : (s.modBoot f).gatherBusy = s.gatherBusy := rfl
@[simp] theorem State.modBoot_blocks (s : State) (f : Boot → Boot) : (s.modBoot f).blocks = s.blocks := rfl
@[simp] theorem State.modBoot_engines (s : State) (f : Boot → Boot) : (s.modBoot f).engines = s.engines := rfl
@[simp] theorem State.modBoot_jobOrder (s : State) (f : Boot → Boot) : (s.modBoot f).jobOrder = s.jobOrder := rfl
@[simp] theorem State.modBoot_nextBlock (s : State) (f : Boot → Boot) : (s.modBoot f).nextBlock = s.nextBlock := rfl
@[simp] theorem State.modBoot_launches (s : State) (f : Boot → Boot) : (s.modBoot f).launches = s.launches := rfl
@[simp] theorem State.modBoot_ptpPending (s : State) (f : Boot → Boot) : (s.modBoot f).ptpPending = s.ptpPending := rfl
@[simp] theorem State.modBoot_speedAt (s : State) (f : Boot → Boot) : (s.modBoot f).speedAt = s.speedAt := rfl
@[simp] theorem State.modBoot_safety (s : State) (f : Boot → Boot) : (s.modBoot f).safety = s.safety := rfl
@[simp] theorem State.modBoot_mailboxes (s : State) (f : Boot → Boot) : (s.modBoot f).mailboxes = s.mailboxes := rfl
@[simp] theorem State.modBoot_mirrorQueue (s : State) (f : Boot → Boot) : (s.modBoot f).mirrorQueue = s.mirrorQueue := rfl
@[simp] theorem State.modBoot_cans (s : State) (f : Boot → Boot) : (s.modBoot f).cans = s.cans := rfl
@[simp] theorem State.modBoot_busMaster (s : State) (f : Boot → Boot) : (s.modBoot f).busMaster = s.busMaster := rfl
@[simp] theorem State.modBoot_d3hot (s : State) (f : Boot → Boot) : (s.modBoot f).d3hot = s.d3hot := rfl
@[simp] theorem State.modBoot_msixTable (s : State) (f : Boot → Boot) : (s.modBoot f).msixTable = s.msixTable := rfl
@[simp] theorem State.modBoot_links (s : State) (f : Boot → Boot) : (s.modBoot f).links = s.links := rfl
@[simp] theorem State.modBoot_discovery (s : State) (f : Boot → Boot) : (s.modBoot f).discovery = s.discovery := rfl
@[simp] theorem State.modBoot_dbg (s : State) (f : Boot → Boot) : (s.modBoot f).dbg = s.dbg := rfl
@[simp] theorem State.modBoot_freeUsed (s : State) (f : Boot → Boot) : (s.modBoot f).freeUsed = s.freeUsed := rfl
@[simp] theorem State.modBoot_out (s : State) (f : Boot → Boot) : (s.modBoot f).out = s.out := rfl

/-! `State.modTime` changes `time` alone. -/

@[simp] theorem State.modTime_pending (s : State) (f : Timebase → Timebase) : (s.modTime f).pending = s.pending := rfl
@[simp] theorem State.modTime_dict (s : State) (f : Timebase → Timebase) : (s.modTime f).dict = s.dict := rfl
@[simp] theorem State.modTime_accepted (s : State) (f : Timebase → Timebase) : (s.modTime f).accepted = s.accepted := rfl
@[simp] theorem State.modTime_selects (s : State) (f : Timebase → Timebase) : (s.modTime f).selects = s.selects := rfl
@[simp] theorem State.modTime_latches (s : State) (f : Timebase → Timebase) : (s.modTime f).latches = s.latches := rfl
@[simp] theorem State.modTime_replies (s : State) (f : Timebase → Timebase) : (s.modTime f).replies = s.replies := rfl
@[simp] theorem State.modTime_mem (s : State) (f : Timebase → Timebase) : (s.modTime f).mem = s.mem := rfl
@[simp] theorem State.modTime_flips (s : State) (f : Timebase → Timebase) : (s.modTime f).flips = s.flips := rfl
@[simp] theorem State.modTime_hostMem (s : State) (f : Timebase → Timebase) : (s.modTime f).hostMem = s.hostMem := rfl
@[simp] theorem State.modTime_xlat (s : State) (f : Timebase → Timebase) : (s.modTime f).xlat = s.xlat := rfl
@[simp] theorem State.modTime_xlatShadow (s : State) (f : Timebase → Timebase) : (s.modTime f).xlatShadow = s.xlatShadow := rfl
@[simp] theorem State.modTime_queues (s : State) (f : Timebase → Timebase) : (s.modTime f).queues = s.queues := rfl
@[simp] theorem State.modTime_syncs (s : State) (f : Timebase → Timebase) : (s.modTime f).syncs = s.syncs := rfl
@[simp] theorem State.modTime_boot (s : State) (f : Timebase → Timebase) : (s.modTime f).boot = s.boot := rfl
@[simp] theorem State.modTime_skeins (s : State) (f : Timebase → Timebase) : (s.modTime f).skeins = s.skeins := rfl
@[simp] theorem State.modTime_spindles (s : State) (f : Timebase → Timebase) : (s.modTime f).spindles = s.spindles := rfl
@[simp] theorem State.modTime_calderas (s : State) (f : Timebase → Timebase) : (s.modTime f).calderas = s.calderas := rfl
@[simp] theorem State.modTime_channels (s : State) (f : Timebase → Timebase) : (s.modTime f).channels = s.channels := rfl
@[simp] theorem State.modTime_scrubPending (s : State) (f : Timebase → Timebase) : (s.modTime f).scrubPending = s.scrubPending := rfl
@[simp] theorem State.modTime_bankTargets (s : State) (f : Timebase → Timebase) : (s.modTime f).bankTargets = s.bankTargets := rfl
@[simp] theorem State.modTime_plans (s : State) (f : Timebase → Timebase) : (s.modTime f).plans = s.plans := rfl
@[simp] theorem State.modTime_cameras (s : State) (f : Timebase → Timebase) : (s.modTime f).cameras = s.cameras := rfl
@[simp] theorem State.modTime_chains (s : State) (f : Timebase → Timebase) : (s.modTime f).chains = s.chains := rfl
@[simp] theorem State.modTime_decoders (s : State) (f : Timebase → Timebase) : (s.modTime f).decoders = s.decoders := rfl
@[simp] theorem State.modTime_lanes (s : State) (f : Timebase → Timebase) : (s.modTime f).lanes = s.lanes := rfl
@[simp] theorem State.modTime_gatherQueue (s : State) (f : Timebase → Timebase) : (s.modTime f).gatherQueue = s.gatherQueue := rfl
@[simp] theorem State.modTime_gatherBusy (s : State) (f : Timebase → Timebase) : (s.modTime f).gatherBusy = s.gatherBusy := rfl
@[simp] theorem State.modTime_blocks (s : State) (f : Timebase → Timebase) : (s.modTime f).blocks = s.blocks := rfl
@[simp] theorem State.modTime_engines (s : State) (f : Timebase → Timebase) : (s.modTime f).engines = s.engines := rfl
@[simp] theorem State.modTime_jobOrder (s : State) (f : Timebase → Timebase) : (s.modTime f).jobOrder = s.jobOrder := rfl
@[simp] theorem State.modTime_nextBlock (s : State) (f : Timebase → Timebase) : (s.modTime f).nextBlock = s.nextBlock := rfl
@[simp] theorem State.modTime_launches (s : State) (f : Timebase → Timebase) : (s.modTime f).launches = s.launches := rfl
@[simp] theorem State.modTime_ptpPending (s : State) (f : Timebase → Timebase) : (s.modTime f).ptpPending = s.ptpPending := rfl
@[simp] theorem State.modTime_speedAt (s : State) (f : Timebase → Timebase) : (s.modTime f).speedAt = s.speedAt := rfl
@[simp] theorem State.modTime_safety (s : State) (f : Timebase → Timebase) : (s.modTime f).safety = s.safety := rfl
@[simp] theorem State.modTime_mailboxes (s : State) (f : Timebase → Timebase) : (s.modTime f).mailboxes = s.mailboxes := rfl
@[simp] theorem State.modTime_mirrorQueue (s : State) (f : Timebase → Timebase) : (s.modTime f).mirrorQueue = s.mirrorQueue := rfl
@[simp] theorem State.modTime_cans (s : State) (f : Timebase → Timebase) : (s.modTime f).cans = s.cans := rfl
@[simp] theorem State.modTime_busMaster (s : State) (f : Timebase → Timebase) : (s.modTime f).busMaster = s.busMaster := rfl
@[simp] theorem State.modTime_d3hot (s : State) (f : Timebase → Timebase) : (s.modTime f).d3hot = s.d3hot := rfl
@[simp] theorem State.modTime_msixTable (s : State) (f : Timebase → Timebase) : (s.modTime f).msixTable = s.msixTable := rfl
@[simp] theorem State.modTime_links (s : State) (f : Timebase → Timebase) : (s.modTime f).links = s.links := rfl
@[simp] theorem State.modTime_discovery (s : State) (f : Timebase → Timebase) : (s.modTime f).discovery = s.discovery := rfl
@[simp] theorem State.modTime_dbg (s : State) (f : Timebase → Timebase) : (s.modTime f).dbg = s.dbg := rfl
@[simp] theorem State.modTime_freeUsed (s : State) (f : Timebase → Timebase) : (s.modTime f).freeUsed = s.freeUsed := rfl
@[simp] theorem State.modTime_out (s : State) (f : Timebase → Timebase) : (s.modTime f).out = s.out := rfl

/-! `State.emit` changes `out` alone. -/

@[simp] theorem State.emit_pending (s : State) (o : Out) : (s.emit o).pending = s.pending := rfl
@[simp] theorem State.emit_dict (s : State) (o : Out) : (s.emit o).dict = s.dict := rfl
@[simp] theorem State.emit_accepted (s : State) (o : Out) : (s.emit o).accepted = s.accepted := rfl
@[simp] theorem State.emit_selects (s : State) (o : Out) : (s.emit o).selects = s.selects := rfl
@[simp] theorem State.emit_latches (s : State) (o : Out) : (s.emit o).latches = s.latches := rfl
@[simp] theorem State.emit_replies (s : State) (o : Out) : (s.emit o).replies = s.replies := rfl
@[simp] theorem State.emit_mem (s : State) (o : Out) : (s.emit o).mem = s.mem := rfl
@[simp] theorem State.emit_flips (s : State) (o : Out) : (s.emit o).flips = s.flips := rfl
@[simp] theorem State.emit_hostMem (s : State) (o : Out) : (s.emit o).hostMem = s.hostMem := rfl
@[simp] theorem State.emit_xlat (s : State) (o : Out) : (s.emit o).xlat = s.xlat := rfl
@[simp] theorem State.emit_xlatShadow (s : State) (o : Out) : (s.emit o).xlatShadow = s.xlatShadow := rfl
@[simp] theorem State.emit_queues (s : State) (o : Out) : (s.emit o).queues = s.queues := rfl
@[simp] theorem State.emit_syncs (s : State) (o : Out) : (s.emit o).syncs = s.syncs := rfl
@[simp] theorem State.emit_time (s : State) (o : Out) : (s.emit o).time = s.time := rfl
@[simp] theorem State.emit_boot (s : State) (o : Out) : (s.emit o).boot = s.boot := rfl
@[simp] theorem State.emit_skeins (s : State) (o : Out) : (s.emit o).skeins = s.skeins := rfl
@[simp] theorem State.emit_spindles (s : State) (o : Out) : (s.emit o).spindles = s.spindles := rfl
@[simp] theorem State.emit_calderas (s : State) (o : Out) : (s.emit o).calderas = s.calderas := rfl
@[simp] theorem State.emit_channels (s : State) (o : Out) : (s.emit o).channels = s.channels := rfl
@[simp] theorem State.emit_scrubPending (s : State) (o : Out) : (s.emit o).scrubPending = s.scrubPending := rfl
@[simp] theorem State.emit_bankTargets (s : State) (o : Out) : (s.emit o).bankTargets = s.bankTargets := rfl
@[simp] theorem State.emit_plans (s : State) (o : Out) : (s.emit o).plans = s.plans := rfl
@[simp] theorem State.emit_cameras (s : State) (o : Out) : (s.emit o).cameras = s.cameras := rfl
@[simp] theorem State.emit_chains (s : State) (o : Out) : (s.emit o).chains = s.chains := rfl
@[simp] theorem State.emit_decoders (s : State) (o : Out) : (s.emit o).decoders = s.decoders := rfl
@[simp] theorem State.emit_lanes (s : State) (o : Out) : (s.emit o).lanes = s.lanes := rfl
@[simp] theorem State.emit_gatherQueue (s : State) (o : Out) : (s.emit o).gatherQueue = s.gatherQueue := rfl
@[simp] theorem State.emit_gatherBusy (s : State) (o : Out) : (s.emit o).gatherBusy = s.gatherBusy := rfl
@[simp] theorem State.emit_blocks (s : State) (o : Out) : (s.emit o).blocks = s.blocks := rfl
@[simp] theorem State.emit_engines (s : State) (o : Out) : (s.emit o).engines = s.engines := rfl
@[simp] theorem State.emit_jobOrder (s : State) (o : Out) : (s.emit o).jobOrder = s.jobOrder := rfl
@[simp] theorem State.emit_nextBlock (s : State) (o : Out) : (s.emit o).nextBlock = s.nextBlock := rfl
@[simp] theorem State.emit_launches (s : State) (o : Out) : (s.emit o).launches = s.launches := rfl
@[simp] theorem State.emit_ptpPending (s : State) (o : Out) : (s.emit o).ptpPending = s.ptpPending := rfl
@[simp] theorem State.emit_speedAt (s : State) (o : Out) : (s.emit o).speedAt = s.speedAt := rfl
@[simp] theorem State.emit_safety (s : State) (o : Out) : (s.emit o).safety = s.safety := rfl
@[simp] theorem State.emit_mailboxes (s : State) (o : Out) : (s.emit o).mailboxes = s.mailboxes := rfl
@[simp] theorem State.emit_mirrorQueue (s : State) (o : Out) : (s.emit o).mirrorQueue = s.mirrorQueue := rfl
@[simp] theorem State.emit_cans (s : State) (o : Out) : (s.emit o).cans = s.cans := rfl
@[simp] theorem State.emit_busMaster (s : State) (o : Out) : (s.emit o).busMaster = s.busMaster := rfl
@[simp] theorem State.emit_d3hot (s : State) (o : Out) : (s.emit o).d3hot = s.d3hot := rfl
@[simp] theorem State.emit_msixTable (s : State) (o : Out) : (s.emit o).msixTable = s.msixTable := rfl
@[simp] theorem State.emit_links (s : State) (o : Out) : (s.emit o).links = s.links := rfl
@[simp] theorem State.emit_discovery (s : State) (o : Out) : (s.emit o).discovery = s.discovery := rfl
@[simp] theorem State.emit_dbg (s : State) (o : Out) : (s.emit o).dbg = s.dbg := rfl
@[simp] theorem State.emit_freeUsed (s : State) (o : Out) : (s.emit o).freeUsed = s.freeUsed := rfl

/-! `State.setPart` changes `safety` alone. -/

@[simp] theorem State.setPart_pending (s : State) (p : Nat) (k : PartSafety) : (s.setPart p k).pending = s.pending := rfl
@[simp] theorem State.setPart_dict (s : State) (p : Nat) (k : PartSafety) : (s.setPart p k).dict = s.dict := rfl
@[simp] theorem State.setPart_accepted (s : State) (p : Nat) (k : PartSafety) : (s.setPart p k).accepted = s.accepted := rfl
@[simp] theorem State.setPart_selects (s : State) (p : Nat) (k : PartSafety) : (s.setPart p k).selects = s.selects := rfl
@[simp] theorem State.setPart_latches (s : State) (p : Nat) (k : PartSafety) : (s.setPart p k).latches = s.latches := rfl
@[simp] theorem State.setPart_replies (s : State) (p : Nat) (k : PartSafety) : (s.setPart p k).replies = s.replies := rfl
@[simp] theorem State.setPart_mem (s : State) (p : Nat) (k : PartSafety) : (s.setPart p k).mem = s.mem := rfl
@[simp] theorem State.setPart_flips (s : State) (p : Nat) (k : PartSafety) : (s.setPart p k).flips = s.flips := rfl
@[simp] theorem State.setPart_hostMem (s : State) (p : Nat) (k : PartSafety) : (s.setPart p k).hostMem = s.hostMem := rfl
@[simp] theorem State.setPart_xlat (s : State) (p : Nat) (k : PartSafety) : (s.setPart p k).xlat = s.xlat := rfl
@[simp] theorem State.setPart_xlatShadow (s : State) (p : Nat) (k : PartSafety) : (s.setPart p k).xlatShadow = s.xlatShadow := rfl
@[simp] theorem State.setPart_queues (s : State) (p : Nat) (k : PartSafety) : (s.setPart p k).queues = s.queues := rfl
@[simp] theorem State.setPart_syncs (s : State) (p : Nat) (k : PartSafety) : (s.setPart p k).syncs = s.syncs := rfl
@[simp] theorem State.setPart_time (s : State) (p : Nat) (k : PartSafety) : (s.setPart p k).time = s.time := rfl
@[simp] theorem State.setPart_boot (s : State) (p : Nat) (k : PartSafety) : (s.setPart p k).boot = s.boot := rfl
@[simp] theorem State.setPart_skeins (s : State) (p : Nat) (k : PartSafety) : (s.setPart p k).skeins = s.skeins := rfl
@[simp] theorem State.setPart_spindles (s : State) (p : Nat) (k : PartSafety) : (s.setPart p k).spindles = s.spindles := rfl
@[simp] theorem State.setPart_calderas (s : State) (p : Nat) (k : PartSafety) : (s.setPart p k).calderas = s.calderas := rfl
@[simp] theorem State.setPart_channels (s : State) (p : Nat) (k : PartSafety) : (s.setPart p k).channels = s.channels := rfl
@[simp] theorem State.setPart_scrubPending (s : State) (p : Nat) (k : PartSafety) : (s.setPart p k).scrubPending = s.scrubPending := rfl
@[simp] theorem State.setPart_bankTargets (s : State) (p : Nat) (k : PartSafety) : (s.setPart p k).bankTargets = s.bankTargets := rfl
@[simp] theorem State.setPart_plans (s : State) (p : Nat) (k : PartSafety) : (s.setPart p k).plans = s.plans := rfl
@[simp] theorem State.setPart_cameras (s : State) (p : Nat) (k : PartSafety) : (s.setPart p k).cameras = s.cameras := rfl
@[simp] theorem State.setPart_chains (s : State) (p : Nat) (k : PartSafety) : (s.setPart p k).chains = s.chains := rfl
@[simp] theorem State.setPart_decoders (s : State) (p : Nat) (k : PartSafety) : (s.setPart p k).decoders = s.decoders := rfl
@[simp] theorem State.setPart_lanes (s : State) (p : Nat) (k : PartSafety) : (s.setPart p k).lanes = s.lanes := rfl
@[simp] theorem State.setPart_gatherQueue (s : State) (p : Nat) (k : PartSafety) : (s.setPart p k).gatherQueue = s.gatherQueue := rfl
@[simp] theorem State.setPart_gatherBusy (s : State) (p : Nat) (k : PartSafety) : (s.setPart p k).gatherBusy = s.gatherBusy := rfl
@[simp] theorem State.setPart_blocks (s : State) (p : Nat) (k : PartSafety) : (s.setPart p k).blocks = s.blocks := rfl
@[simp] theorem State.setPart_engines (s : State) (p : Nat) (k : PartSafety) : (s.setPart p k).engines = s.engines := rfl
@[simp] theorem State.setPart_jobOrder (s : State) (p : Nat) (k : PartSafety) : (s.setPart p k).jobOrder = s.jobOrder := rfl
@[simp] theorem State.setPart_nextBlock (s : State) (p : Nat) (k : PartSafety) : (s.setPart p k).nextBlock = s.nextBlock := rfl
@[simp] theorem State.setPart_launches (s : State) (p : Nat) (k : PartSafety) : (s.setPart p k).launches = s.launches := rfl
@[simp] theorem State.setPart_ptpPending (s : State) (p : Nat) (k : PartSafety) : (s.setPart p k).ptpPending = s.ptpPending := rfl
@[simp] theorem State.setPart_speedAt (s : State) (p : Nat) (k : PartSafety) : (s.setPart p k).speedAt = s.speedAt := rfl
@[simp] theorem State.setPart_mailboxes (s : State) (p : Nat) (k : PartSafety) : (s.setPart p k).mailboxes = s.mailboxes := rfl
@[simp] theorem State.setPart_mirrorQueue (s : State) (p : Nat) (k : PartSafety) : (s.setPart p k).mirrorQueue = s.mirrorQueue := rfl
@[simp] theorem State.setPart_cans (s : State) (p : Nat) (k : PartSafety) : (s.setPart p k).cans = s.cans := rfl
@[simp] theorem State.setPart_busMaster (s : State) (p : Nat) (k : PartSafety) : (s.setPart p k).busMaster = s.busMaster := rfl
@[simp] theorem State.setPart_d3hot (s : State) (p : Nat) (k : PartSafety) : (s.setPart p k).d3hot = s.d3hot := rfl
@[simp] theorem State.setPart_msixTable (s : State) (p : Nat) (k : PartSafety) : (s.setPart p k).msixTable = s.msixTable := rfl
@[simp] theorem State.setPart_links (s : State) (p : Nat) (k : PartSafety) : (s.setPart p k).links = s.links := rfl
@[simp] theorem State.setPart_discovery (s : State) (p : Nat) (k : PartSafety) : (s.setPart p k).discovery = s.discovery := rfl
@[simp] theorem State.setPart_dbg (s : State) (p : Nat) (k : PartSafety) : (s.setPart p k).dbg = s.dbg := rfl
@[simp] theorem State.setPart_freeUsed (s : State) (p : Nat) (k : PartSafety) : (s.setPart p k).freeUsed = s.freeUsed := rfl
@[simp] theorem State.setPart_out (s : State) (p : Nat) (k : PartSafety) : (s.setPart p k).out = s.out := rfl

/-! `State.setPair` changes `safety` alone. -/

@[simp] theorem State.setPair_pending (s : State) (p : Nat) (k : Pair) : (s.setPair p k).pending = s.pending := rfl
@[simp] theorem State.setPair_dict (s : State) (p : Nat) (k : Pair) : (s.setPair p k).dict = s.dict := rfl
@[simp] theorem State.setPair_accepted (s : State) (p : Nat) (k : Pair) : (s.setPair p k).accepted = s.accepted := rfl
@[simp] theorem State.setPair_selects (s : State) (p : Nat) (k : Pair) : (s.setPair p k).selects = s.selects := rfl
@[simp] theorem State.setPair_latches (s : State) (p : Nat) (k : Pair) : (s.setPair p k).latches = s.latches := rfl
@[simp] theorem State.setPair_replies (s : State) (p : Nat) (k : Pair) : (s.setPair p k).replies = s.replies := rfl
@[simp] theorem State.setPair_mem (s : State) (p : Nat) (k : Pair) : (s.setPair p k).mem = s.mem := rfl
@[simp] theorem State.setPair_flips (s : State) (p : Nat) (k : Pair) : (s.setPair p k).flips = s.flips := rfl
@[simp] theorem State.setPair_hostMem (s : State) (p : Nat) (k : Pair) : (s.setPair p k).hostMem = s.hostMem := rfl
@[simp] theorem State.setPair_xlat (s : State) (p : Nat) (k : Pair) : (s.setPair p k).xlat = s.xlat := rfl
@[simp] theorem State.setPair_xlatShadow (s : State) (p : Nat) (k : Pair) : (s.setPair p k).xlatShadow = s.xlatShadow := rfl
@[simp] theorem State.setPair_queues (s : State) (p : Nat) (k : Pair) : (s.setPair p k).queues = s.queues := rfl
@[simp] theorem State.setPair_syncs (s : State) (p : Nat) (k : Pair) : (s.setPair p k).syncs = s.syncs := rfl
@[simp] theorem State.setPair_time (s : State) (p : Nat) (k : Pair) : (s.setPair p k).time = s.time := rfl
@[simp] theorem State.setPair_boot (s : State) (p : Nat) (k : Pair) : (s.setPair p k).boot = s.boot := rfl
@[simp] theorem State.setPair_skeins (s : State) (p : Nat) (k : Pair) : (s.setPair p k).skeins = s.skeins := rfl
@[simp] theorem State.setPair_spindles (s : State) (p : Nat) (k : Pair) : (s.setPair p k).spindles = s.spindles := rfl
@[simp] theorem State.setPair_calderas (s : State) (p : Nat) (k : Pair) : (s.setPair p k).calderas = s.calderas := rfl
@[simp] theorem State.setPair_channels (s : State) (p : Nat) (k : Pair) : (s.setPair p k).channels = s.channels := rfl
@[simp] theorem State.setPair_scrubPending (s : State) (p : Nat) (k : Pair) : (s.setPair p k).scrubPending = s.scrubPending := rfl
@[simp] theorem State.setPair_bankTargets (s : State) (p : Nat) (k : Pair) : (s.setPair p k).bankTargets = s.bankTargets := rfl
@[simp] theorem State.setPair_plans (s : State) (p : Nat) (k : Pair) : (s.setPair p k).plans = s.plans := rfl
@[simp] theorem State.setPair_cameras (s : State) (p : Nat) (k : Pair) : (s.setPair p k).cameras = s.cameras := rfl
@[simp] theorem State.setPair_chains (s : State) (p : Nat) (k : Pair) : (s.setPair p k).chains = s.chains := rfl
@[simp] theorem State.setPair_decoders (s : State) (p : Nat) (k : Pair) : (s.setPair p k).decoders = s.decoders := rfl
@[simp] theorem State.setPair_lanes (s : State) (p : Nat) (k : Pair) : (s.setPair p k).lanes = s.lanes := rfl
@[simp] theorem State.setPair_gatherQueue (s : State) (p : Nat) (k : Pair) : (s.setPair p k).gatherQueue = s.gatherQueue := rfl
@[simp] theorem State.setPair_gatherBusy (s : State) (p : Nat) (k : Pair) : (s.setPair p k).gatherBusy = s.gatherBusy := rfl
@[simp] theorem State.setPair_blocks (s : State) (p : Nat) (k : Pair) : (s.setPair p k).blocks = s.blocks := rfl
@[simp] theorem State.setPair_engines (s : State) (p : Nat) (k : Pair) : (s.setPair p k).engines = s.engines := rfl
@[simp] theorem State.setPair_jobOrder (s : State) (p : Nat) (k : Pair) : (s.setPair p k).jobOrder = s.jobOrder := rfl
@[simp] theorem State.setPair_nextBlock (s : State) (p : Nat) (k : Pair) : (s.setPair p k).nextBlock = s.nextBlock := rfl
@[simp] theorem State.setPair_launches (s : State) (p : Nat) (k : Pair) : (s.setPair p k).launches = s.launches := rfl
@[simp] theorem State.setPair_ptpPending (s : State) (p : Nat) (k : Pair) : (s.setPair p k).ptpPending = s.ptpPending := rfl
@[simp] theorem State.setPair_speedAt (s : State) (p : Nat) (k : Pair) : (s.setPair p k).speedAt = s.speedAt := rfl
@[simp] theorem State.setPair_mailboxes (s : State) (p : Nat) (k : Pair) : (s.setPair p k).mailboxes = s.mailboxes := rfl
@[simp] theorem State.setPair_mirrorQueue (s : State) (p : Nat) (k : Pair) : (s.setPair p k).mirrorQueue = s.mirrorQueue := rfl
@[simp] theorem State.setPair_cans (s : State) (p : Nat) (k : Pair) : (s.setPair p k).cans = s.cans := rfl
@[simp] theorem State.setPair_busMaster (s : State) (p : Nat) (k : Pair) : (s.setPair p k).busMaster = s.busMaster := rfl
@[simp] theorem State.setPair_d3hot (s : State) (p : Nat) (k : Pair) : (s.setPair p k).d3hot = s.d3hot := rfl
@[simp] theorem State.setPair_msixTable (s : State) (p : Nat) (k : Pair) : (s.setPair p k).msixTable = s.msixTable := rfl
@[simp] theorem State.setPair_links (s : State) (p : Nat) (k : Pair) : (s.setPair p k).links = s.links := rfl
@[simp] theorem State.setPair_discovery (s : State) (p : Nat) (k : Pair) : (s.setPair p k).discovery = s.discovery := rfl
@[simp] theorem State.setPair_dbg (s : State) (p : Nat) (k : Pair) : (s.setPair p k).dbg = s.dbg := rfl
@[simp] theorem State.setPair_freeUsed (s : State) (p : Nat) (k : Pair) : (s.setPair p k).freeUsed = s.freeUsed := rfl
@[simp] theorem State.setPair_out (s : State) (p : Nat) (k : Pair) : (s.setPair p k).out = s.out := rfl

/-! A unit read back after it was written, and another unit. -/

@[simp] theorem State.skein_setSkein (s : State) (i : Nat) (k : Skein) : (s.setSkein i k).skein i = k := by simp [State.skein, State.setSkein]
theorem State.skein_setSkein_ne (s : State) {i j : Nat} (k : Skein) (h : j ≠ i) : (s.setSkein i k).skein j = s.skein j :=
  tblGet_put_ne _ _ _ _ h
@[simp] theorem State.spindle_setSpindle (s : State) (i : Nat) (k : Spindle) : (s.setSpindle i k).spindle i = k := by simp [State.spindle, State.setSpindle]
theorem State.spindle_setSpindle_ne (s : State) {i j : Nat} (k : Spindle) (h : j ≠ i) : (s.setSpindle i k).spindle j = s.spindle j :=
  tblGet_put_ne _ _ _ _ h
@[simp] theorem State.caldera_setCaldera (s : State) (i : Nat) (k : Caldera) : (s.setCaldera i k).caldera i = k := by simp [State.caldera, State.setCaldera]
theorem State.caldera_setCaldera_ne (s : State) {i j : Nat} (k : Caldera) (h : j ≠ i) : (s.setCaldera i k).caldera j = s.caldera j :=
  tblGet_put_ne _ _ _ _ h
@[simp] theorem State.queue_setQueue (s : State) (i : Nat) (k : Queue) : (s.setQueue i k).queue i = k := by simp [State.queue, State.setQueue]
theorem State.queue_setQueue_ne (s : State) {i j : Nat} (k : Queue) (h : j ≠ i) : (s.setQueue i k).queue j = s.queue j :=
  tblGet_put_ne _ _ _ _ h
@[simp] theorem State.channel_setChannel (s : State) (i : Nat) (k : Channel) : (s.setChannel i k).channel i = k := by simp [State.channel, State.setChannel]
theorem State.channel_setChannel_ne (s : State) {i j : Nat} (k : Channel) (h : j ≠ i) : (s.setChannel i k).channel j = s.channel j :=
  tblGet_put_ne _ _ _ _ h
@[simp] theorem State.plan_setPlan (s : State) (i : Nat) (k : Plan) : (s.setPlan i k).plan i = k := by simp [State.plan, State.setPlan]
theorem State.plan_setPlan_ne (s : State) {i j : Nat} (k : Plan) (h : j ≠ i) : (s.setPlan i k).plan j = s.plan j :=
  tblGet_put_ne _ _ _ _ h
@[simp] theorem State.camera_setCamera (s : State) (i : Nat) (k : Camera) : (s.setCamera i k).camera i = k := by simp [State.camera, State.setCamera]
theorem State.camera_setCamera_ne (s : State) {i j : Nat} (k : Camera) (h : j ≠ i) : (s.setCamera i k).camera j = s.camera j :=
  tblGet_put_ne _ _ _ _ h
@[simp] theorem State.decoder_setDecoder (s : State) (i : Nat) (k : Decoder) : (s.setDecoder i k).decoder i = k := by simp [State.decoder, State.setDecoder]
theorem State.decoder_setDecoder_ne (s : State) {i j : Nat} (k : Decoder) (h : j ≠ i) : (s.setDecoder i k).decoder j = s.decoder j :=
  tblGet_put_ne _ _ _ _ h
@[simp] theorem State.launch_setLaunch (s : State) (i : Nat) (k : LaunchQ) : (s.setLaunch i k).launch i = k := by simp [State.launch, State.setLaunch]
theorem State.launch_setLaunch_ne (s : State) {i j : Nat} (k : LaunchQ) (h : j ≠ i) : (s.setLaunch i k).launch j = s.launch j :=
  tblGet_put_ne _ _ _ _ h
@[simp] theorem State.mailbox_setMailbox (s : State) (i : Nat) (k : Mailbox) : (s.setMailbox i k).mailbox i = k := by simp [State.mailbox, State.setMailbox]
theorem State.mailbox_setMailbox_ne (s : State) {i j : Nat} (k : Mailbox) (h : j ≠ i) : (s.setMailbox i k).mailbox j = s.mailbox j :=
  tblGet_put_ne _ _ _ _ h
@[simp] theorem State.can_setCan (s : State) (i : Nat) (k : Can) : (s.setCan i k).can i = k := by simp [State.can, State.setCan]
theorem State.can_setCan_ne (s : State) {i j : Nat} (k : Can) (h : j ≠ i) : (s.setCan i k).can j = s.can j :=
  tblGet_put_ne _ _ _ _ h
@[simp] theorem State.link_setLink (s : State) (i : Nat) (k : Link) : (s.setLink i k).link i = k := by simp [State.link, State.setLink]
theorem State.link_setLink_ne (s : State) {i j : Nat} (k : Link) (h : j ≠ i) : (s.setLink i k).link j = s.link j :=
  tblGet_put_ne _ _ _ _ h
@[simp] theorem State.part_setPart (s : State) (i : Nat) (k : PartSafety) : (s.setPart i k).part i = k := by simp [State.part, State.setPart]
theorem State.part_setPart_ne (s : State) {i j : Nat} (k : PartSafety) (h : j ≠ i) : (s.setPart i k).part j = s.part j :=
  tblGet_put_ne _ _ _ _ h
@[simp] theorem State.pair_setPair (s : State) (i : Nat) (k : Pair) : (s.setPair i k).pair i = k := by simp [State.pair, State.setPair]
theorem State.pair_setPair_ne (s : State) {i j : Nat} (k : Pair) (h : j ≠ i) : (s.setPair i k).pair j = s.pair j :=
  tblGet_put_ne _ _ _ _ h

@[simp] theorem State.sync_setSync (s : State) (n v : Nat) : (s.setSync n v).sync n = v % 2 ^ 32 := by
  simp [State.sync, State.setSync]
theorem State.sync_setSync_ne (s : State) {n m : Nat} (v : Nat) (h : m ≠ n) : (s.setSync n v).sync m = s.sync m :=
  tblGet_put_ne _ _ _ _ h

/-! Units and registers seen through an update of another part. -/

@[simp] theorem State.skein_setReg (s : State) (ix sub v : Nat) (j : Nat) : (s.setReg ix sub v).skein j = s.skein j := rfl
@[simp] theorem State.spindle_setReg (s : State) (ix sub v : Nat) (j : Nat) : (s.setReg ix sub v).spindle j = s.spindle j := rfl
@[simp] theorem State.caldera_setReg (s : State) (ix sub v : Nat) (j : Nat) : (s.setReg ix sub v).caldera j = s.caldera j := rfl
@[simp] theorem State.queue_setReg (s : State) (ix sub v : Nat) (j : Nat) : (s.setReg ix sub v).queue j = s.queue j := rfl
@[simp] theorem State.channel_setReg (s : State) (ix sub v : Nat) (j : Nat) : (s.setReg ix sub v).channel j = s.channel j := rfl
@[simp] theorem State.plan_setReg (s : State) (ix sub v : Nat) (j : Nat) : (s.setReg ix sub v).plan j = s.plan j := rfl
@[simp] theorem State.camera_setReg (s : State) (ix sub v : Nat) (j : Nat) : (s.setReg ix sub v).camera j = s.camera j := rfl
@[simp] theorem State.decoder_setReg (s : State) (ix sub v : Nat) (j : Nat) : (s.setReg ix sub v).decoder j = s.decoder j := rfl
@[simp] theorem State.launch_setReg (s : State) (ix sub v : Nat) (j : Nat) : (s.setReg ix sub v).launch j = s.launch j := rfl
@[simp] theorem State.mailbox_setReg (s : State) (ix sub v : Nat) (j : Nat) : (s.setReg ix sub v).mailbox j = s.mailbox j := rfl
@[simp] theorem State.can_setReg (s : State) (ix sub v : Nat) (j : Nat) : (s.setReg ix sub v).can j = s.can j := rfl
@[simp] theorem State.link_setReg (s : State) (ix sub v : Nat) (j : Nat) : (s.setReg ix sub v).link j = s.link j := rfl
@[simp] theorem State.sync_setReg (s : State) (ix sub v : Nat) (j : Nat) : (s.setReg ix sub v).sync j = s.sync j := rfl
@[simp] theorem State.part_setReg (s : State) (ix sub v : Nat) (j : Nat) : (s.setReg ix sub v).part j = s.part j := rfl
@[simp] theorem State.pair_setReg (s : State) (ix sub v : Nat) (j : Nat) : (s.setReg ix sub v).pair j = s.pair j := rfl
@[simp] theorem State.byteAt_setReg (s : State) (ix sub v : Nat) (x : Nat) : (s.setReg ix sub v).byteAt x = s.byteAt x := rfl
@[simp] theorem State.now_setReg (s : State) (ix sub v : Nat) : (s.setReg ix sub v).now = s.now := rfl
@[simp] theorem State.skein_setAcc (s : State) (ix sub v : Nat) (j : Nat) : (s.setAcc ix sub v).skein j = s.skein j := rfl
@[simp] theorem State.spindle_setAcc (s : State) (ix sub v : Nat) (j : Nat) : (s.setAcc ix sub v).spindle j = s.spindle j := rfl
@[simp] theorem State.caldera_setAcc (s : State) (ix sub v : Nat) (j : Nat) : (s.setAcc ix sub v).caldera j = s.caldera j := rfl
@[simp] theorem State.queue_setAcc (s : State) (ix sub v : Nat) (j : Nat) : (s.setAcc ix sub v).queue j = s.queue j := rfl
@[simp] theorem State.channel_setAcc (s : State) (ix sub v : Nat) (j : Nat) : (s.setAcc ix sub v).channel j = s.channel j := rfl
@[simp] theorem State.plan_setAcc (s : State) (ix sub v : Nat) (j : Nat) : (s.setAcc ix sub v).plan j = s.plan j := rfl
@[simp] theorem State.camera_setAcc (s : State) (ix sub v : Nat) (j : Nat) : (s.setAcc ix sub v).camera j = s.camera j := rfl
@[simp] theorem State.decoder_setAcc (s : State) (ix sub v : Nat) (j : Nat) : (s.setAcc ix sub v).decoder j = s.decoder j := rfl
@[simp] theorem State.launch_setAcc (s : State) (ix sub v : Nat) (j : Nat) : (s.setAcc ix sub v).launch j = s.launch j := rfl
@[simp] theorem State.mailbox_setAcc (s : State) (ix sub v : Nat) (j : Nat) : (s.setAcc ix sub v).mailbox j = s.mailbox j := rfl
@[simp] theorem State.can_setAcc (s : State) (ix sub v : Nat) (j : Nat) : (s.setAcc ix sub v).can j = s.can j := rfl
@[simp] theorem State.link_setAcc (s : State) (ix sub v : Nat) (j : Nat) : (s.setAcc ix sub v).link j = s.link j := rfl
@[simp] theorem State.sync_setAcc (s : State) (ix sub v : Nat) (j : Nat) : (s.setAcc ix sub v).sync j = s.sync j := rfl
@[simp] theorem State.part_setAcc (s : State) (ix sub v : Nat) (j : Nat) : (s.setAcc ix sub v).part j = s.part j := rfl
@[simp] theorem State.pair_setAcc (s : State) (ix sub v : Nat) (j : Nat) : (s.setAcc ix sub v).pair j = s.pair j := rfl
@[simp] theorem State.reg_setAcc (s : State) (ix sub v : Nat) (x y : Nat) : (s.setAcc ix sub v).reg x y = s.reg x y := rfl
@[simp] theorem State.byteAt_setAcc (s : State) (ix sub v : Nat) (x : Nat) : (s.setAcc ix sub v).byteAt x = s.byteAt x := rfl
@[simp] theorem State.now_setAcc (s : State) (ix sub v : Nat) : (s.setAcc ix sub v).now = s.now := rfl
@[simp] theorem State.skein_wr (s : State) (a : Nat) (bs : List Byte) (j : Nat) : (s.wr a bs).skein j = s.skein j := rfl
@[simp] theorem State.spindle_wr (s : State) (a : Nat) (bs : List Byte) (j : Nat) : (s.wr a bs).spindle j = s.spindle j := rfl
@[simp] theorem State.caldera_wr (s : State) (a : Nat) (bs : List Byte) (j : Nat) : (s.wr a bs).caldera j = s.caldera j := rfl
@[simp] theorem State.queue_wr (s : State) (a : Nat) (bs : List Byte) (j : Nat) : (s.wr a bs).queue j = s.queue j := rfl
@[simp] theorem State.channel_wr (s : State) (a : Nat) (bs : List Byte) (j : Nat) : (s.wr a bs).channel j = s.channel j := rfl
@[simp] theorem State.plan_wr (s : State) (a : Nat) (bs : List Byte) (j : Nat) : (s.wr a bs).plan j = s.plan j := rfl
@[simp] theorem State.camera_wr (s : State) (a : Nat) (bs : List Byte) (j : Nat) : (s.wr a bs).camera j = s.camera j := rfl
@[simp] theorem State.decoder_wr (s : State) (a : Nat) (bs : List Byte) (j : Nat) : (s.wr a bs).decoder j = s.decoder j := rfl
@[simp] theorem State.launch_wr (s : State) (a : Nat) (bs : List Byte) (j : Nat) : (s.wr a bs).launch j = s.launch j := rfl
@[simp] theorem State.mailbox_wr (s : State) (a : Nat) (bs : List Byte) (j : Nat) : (s.wr a bs).mailbox j = s.mailbox j := rfl
@[simp] theorem State.can_wr (s : State) (a : Nat) (bs : List Byte) (j : Nat) : (s.wr a bs).can j = s.can j := rfl
@[simp] theorem State.link_wr (s : State) (a : Nat) (bs : List Byte) (j : Nat) : (s.wr a bs).link j = s.link j := rfl
@[simp] theorem State.sync_wr (s : State) (a : Nat) (bs : List Byte) (j : Nat) : (s.wr a bs).sync j = s.sync j := rfl
@[simp] theorem State.part_wr (s : State) (a : Nat) (bs : List Byte) (j : Nat) : (s.wr a bs).part j = s.part j := rfl
@[simp] theorem State.pair_wr (s : State) (a : Nat) (bs : List Byte) (j : Nat) : (s.wr a bs).pair j = s.pair j := rfl
@[simp] theorem State.reg_wr (s : State) (a : Nat) (bs : List Byte) (x y : Nat) : (s.wr a bs).reg x y = s.reg x y := rfl
@[simp] theorem State.now_wr (s : State) (a : Nat) (bs : List Byte) : (s.wr a bs).now = s.now := rfl
@[simp] theorem State.spindle_setSkein (s : State) (g : Nat) (k : Skein) (j : Nat) : (s.setSkein g k).spindle j = s.spindle j := rfl
@[simp] theorem State.caldera_setSkein (s : State) (g : Nat) (k : Skein) (j : Nat) : (s.setSkein g k).caldera j = s.caldera j := rfl
@[simp] theorem State.queue_setSkein (s : State) (g : Nat) (k : Skein) (j : Nat) : (s.setSkein g k).queue j = s.queue j := rfl
@[simp] theorem State.channel_setSkein (s : State) (g : Nat) (k : Skein) (j : Nat) : (s.setSkein g k).channel j = s.channel j := rfl
@[simp] theorem State.plan_setSkein (s : State) (g : Nat) (k : Skein) (j : Nat) : (s.setSkein g k).plan j = s.plan j := rfl
@[simp] theorem State.camera_setSkein (s : State) (g : Nat) (k : Skein) (j : Nat) : (s.setSkein g k).camera j = s.camera j := rfl
@[simp] theorem State.decoder_setSkein (s : State) (g : Nat) (k : Skein) (j : Nat) : (s.setSkein g k).decoder j = s.decoder j := rfl
@[simp] theorem State.launch_setSkein (s : State) (g : Nat) (k : Skein) (j : Nat) : (s.setSkein g k).launch j = s.launch j := rfl
@[simp] theorem State.mailbox_setSkein (s : State) (g : Nat) (k : Skein) (j : Nat) : (s.setSkein g k).mailbox j = s.mailbox j := rfl
@[simp] theorem State.can_setSkein (s : State) (g : Nat) (k : Skein) (j : Nat) : (s.setSkein g k).can j = s.can j := rfl
@[simp] theorem State.link_setSkein (s : State) (g : Nat) (k : Skein) (j : Nat) : (s.setSkein g k).link j = s.link j := rfl
@[simp] theorem State.sync_setSkein (s : State) (g : Nat) (k : Skein) (j : Nat) : (s.setSkein g k).sync j = s.sync j := rfl
@[simp] theorem State.part_setSkein (s : State) (g : Nat) (k : Skein) (j : Nat) : (s.setSkein g k).part j = s.part j := rfl
@[simp] theorem State.pair_setSkein (s : State) (g : Nat) (k : Skein) (j : Nat) : (s.setSkein g k).pair j = s.pair j := rfl
@[simp] theorem State.reg_setSkein (s : State) (g : Nat) (k : Skein) (x y : Nat) : (s.setSkein g k).reg x y = s.reg x y := rfl
@[simp] theorem State.byteAt_setSkein (s : State) (g : Nat) (k : Skein) (x : Nat) : (s.setSkein g k).byteAt x = s.byteAt x := rfl
@[simp] theorem State.now_setSkein (s : State) (g : Nat) (k : Skein) : (s.setSkein g k).now = s.now := rfl
@[simp] theorem State.skein_setSpindle (s : State) (u : Nat) (k : Spindle) (j : Nat) : (s.setSpindle u k).skein j = s.skein j := rfl
@[simp] theorem State.caldera_setSpindle (s : State) (u : Nat) (k : Spindle) (j : Nat) : (s.setSpindle u k).caldera j = s.caldera j := rfl
@[simp] theorem State.queue_setSpindle (s : State) (u : Nat) (k : Spindle) (j : Nat) : (s.setSpindle u k).queue j = s.queue j := rfl
@[simp] theorem State.channel_setSpindle (s : State) (u : Nat) (k : Spindle) (j : Nat) : (s.setSpindle u k).channel j = s.channel j := rfl
@[simp] theorem State.plan_setSpindle (s : State) (u : Nat) (k : Spindle) (j : Nat) : (s.setSpindle u k).plan j = s.plan j := rfl
@[simp] theorem State.camera_setSpindle (s : State) (u : Nat) (k : Spindle) (j : Nat) : (s.setSpindle u k).camera j = s.camera j := rfl
@[simp] theorem State.decoder_setSpindle (s : State) (u : Nat) (k : Spindle) (j : Nat) : (s.setSpindle u k).decoder j = s.decoder j := rfl
@[simp] theorem State.launch_setSpindle (s : State) (u : Nat) (k : Spindle) (j : Nat) : (s.setSpindle u k).launch j = s.launch j := rfl
@[simp] theorem State.mailbox_setSpindle (s : State) (u : Nat) (k : Spindle) (j : Nat) : (s.setSpindle u k).mailbox j = s.mailbox j := rfl
@[simp] theorem State.can_setSpindle (s : State) (u : Nat) (k : Spindle) (j : Nat) : (s.setSpindle u k).can j = s.can j := rfl
@[simp] theorem State.link_setSpindle (s : State) (u : Nat) (k : Spindle) (j : Nat) : (s.setSpindle u k).link j = s.link j := rfl
@[simp] theorem State.sync_setSpindle (s : State) (u : Nat) (k : Spindle) (j : Nat) : (s.setSpindle u k).sync j = s.sync j := rfl
@[simp] theorem State.part_setSpindle (s : State) (u : Nat) (k : Spindle) (j : Nat) : (s.setSpindle u k).part j = s.part j := rfl
@[simp] theorem State.pair_setSpindle (s : State) (u : Nat) (k : Spindle) (j : Nat) : (s.setSpindle u k).pair j = s.pair j := rfl
@[simp] theorem State.reg_setSpindle (s : State) (u : Nat) (k : Spindle) (x y : Nat) : (s.setSpindle u k).reg x y = s.reg x y := rfl
@[simp] theorem State.byteAt_setSpindle (s : State) (u : Nat) (k : Spindle) (x : Nat) : (s.setSpindle u k).byteAt x = s.byteAt x := rfl
@[simp] theorem State.now_setSpindle (s : State) (u : Nat) (k : Spindle) : (s.setSpindle u k).now = s.now := rfl
@[simp] theorem State.skein_setCaldera (s : State) (c : Nat) (k : Caldera) (j : Nat) : (s.setCaldera c k).skein j = s.skein j := rfl
@[simp] theorem State.spindle_setCaldera (s : State) (c : Nat) (k : Caldera) (j : Nat) : (s.setCaldera c k).spindle j = s.spindle j := rfl
@[simp] theorem State.queue_setCaldera (s : State) (c : Nat) (k : Caldera) (j : Nat) : (s.setCaldera c k).queue j = s.queue j := rfl
@[simp] theorem State.channel_setCaldera (s : State) (c : Nat) (k : Caldera) (j : Nat) : (s.setCaldera c k).channel j = s.channel j := rfl
@[simp] theorem State.plan_setCaldera (s : State) (c : Nat) (k : Caldera) (j : Nat) : (s.setCaldera c k).plan j = s.plan j := rfl
@[simp] theorem State.camera_setCaldera (s : State) (c : Nat) (k : Caldera) (j : Nat) : (s.setCaldera c k).camera j = s.camera j := rfl
@[simp] theorem State.decoder_setCaldera (s : State) (c : Nat) (k : Caldera) (j : Nat) : (s.setCaldera c k).decoder j = s.decoder j := rfl
@[simp] theorem State.launch_setCaldera (s : State) (c : Nat) (k : Caldera) (j : Nat) : (s.setCaldera c k).launch j = s.launch j := rfl
@[simp] theorem State.mailbox_setCaldera (s : State) (c : Nat) (k : Caldera) (j : Nat) : (s.setCaldera c k).mailbox j = s.mailbox j := rfl
@[simp] theorem State.can_setCaldera (s : State) (c : Nat) (k : Caldera) (j : Nat) : (s.setCaldera c k).can j = s.can j := rfl
@[simp] theorem State.link_setCaldera (s : State) (c : Nat) (k : Caldera) (j : Nat) : (s.setCaldera c k).link j = s.link j := rfl
@[simp] theorem State.sync_setCaldera (s : State) (c : Nat) (k : Caldera) (j : Nat) : (s.setCaldera c k).sync j = s.sync j := rfl
@[simp] theorem State.part_setCaldera (s : State) (c : Nat) (k : Caldera) (j : Nat) : (s.setCaldera c k).part j = s.part j := rfl
@[simp] theorem State.pair_setCaldera (s : State) (c : Nat) (k : Caldera) (j : Nat) : (s.setCaldera c k).pair j = s.pair j := rfl
@[simp] theorem State.reg_setCaldera (s : State) (c : Nat) (k : Caldera) (x y : Nat) : (s.setCaldera c k).reg x y = s.reg x y := rfl
@[simp] theorem State.byteAt_setCaldera (s : State) (c : Nat) (k : Caldera) (x : Nat) : (s.setCaldera c k).byteAt x = s.byteAt x := rfl
@[simp] theorem State.now_setCaldera (s : State) (c : Nat) (k : Caldera) : (s.setCaldera c k).now = s.now := rfl
@[simp] theorem State.skein_setQueue (s : State) (q : Nat) (k : Queue) (j : Nat) : (s.setQueue q k).skein j = s.skein j := rfl
@[simp] theorem State.spindle_setQueue (s : State) (q : Nat) (k : Queue) (j : Nat) : (s.setQueue q k).spindle j = s.spindle j := rfl
@[simp] theorem State.caldera_setQueue (s : State) (q : Nat) (k : Queue) (j : Nat) : (s.setQueue q k).caldera j = s.caldera j := rfl
@[simp] theorem State.channel_setQueue (s : State) (q : Nat) (k : Queue) (j : Nat) : (s.setQueue q k).channel j = s.channel j := rfl
@[simp] theorem State.plan_setQueue (s : State) (q : Nat) (k : Queue) (j : Nat) : (s.setQueue q k).plan j = s.plan j := rfl
@[simp] theorem State.camera_setQueue (s : State) (q : Nat) (k : Queue) (j : Nat) : (s.setQueue q k).camera j = s.camera j := rfl
@[simp] theorem State.decoder_setQueue (s : State) (q : Nat) (k : Queue) (j : Nat) : (s.setQueue q k).decoder j = s.decoder j := rfl
@[simp] theorem State.launch_setQueue (s : State) (q : Nat) (k : Queue) (j : Nat) : (s.setQueue q k).launch j = s.launch j := rfl
@[simp] theorem State.mailbox_setQueue (s : State) (q : Nat) (k : Queue) (j : Nat) : (s.setQueue q k).mailbox j = s.mailbox j := rfl
@[simp] theorem State.can_setQueue (s : State) (q : Nat) (k : Queue) (j : Nat) : (s.setQueue q k).can j = s.can j := rfl
@[simp] theorem State.link_setQueue (s : State) (q : Nat) (k : Queue) (j : Nat) : (s.setQueue q k).link j = s.link j := rfl
@[simp] theorem State.sync_setQueue (s : State) (q : Nat) (k : Queue) (j : Nat) : (s.setQueue q k).sync j = s.sync j := rfl
@[simp] theorem State.part_setQueue (s : State) (q : Nat) (k : Queue) (j : Nat) : (s.setQueue q k).part j = s.part j := rfl
@[simp] theorem State.pair_setQueue (s : State) (q : Nat) (k : Queue) (j : Nat) : (s.setQueue q k).pair j = s.pair j := rfl
@[simp] theorem State.reg_setQueue (s : State) (q : Nat) (k : Queue) (x y : Nat) : (s.setQueue q k).reg x y = s.reg x y := rfl
@[simp] theorem State.byteAt_setQueue (s : State) (q : Nat) (k : Queue) (x : Nat) : (s.setQueue q k).byteAt x = s.byteAt x := rfl
@[simp] theorem State.now_setQueue (s : State) (q : Nat) (k : Queue) : (s.setQueue q k).now = s.now := rfl
@[simp] theorem State.skein_setChannel (s : State) (q : Nat) (k : Channel) (j : Nat) : (s.setChannel q k).skein j = s.skein j := rfl
@[simp] theorem State.spindle_setChannel (s : State) (q : Nat) (k : Channel) (j : Nat) : (s.setChannel q k).spindle j = s.spindle j := rfl
@[simp] theorem State.caldera_setChannel (s : State) (q : Nat) (k : Channel) (j : Nat) : (s.setChannel q k).caldera j = s.caldera j := rfl
@[simp] theorem State.queue_setChannel (s : State) (q : Nat) (k : Channel) (j : Nat) : (s.setChannel q k).queue j = s.queue j := rfl
@[simp] theorem State.plan_setChannel (s : State) (q : Nat) (k : Channel) (j : Nat) : (s.setChannel q k).plan j = s.plan j := rfl
@[simp] theorem State.camera_setChannel (s : State) (q : Nat) (k : Channel) (j : Nat) : (s.setChannel q k).camera j = s.camera j := rfl
@[simp] theorem State.decoder_setChannel (s : State) (q : Nat) (k : Channel) (j : Nat) : (s.setChannel q k).decoder j = s.decoder j := rfl
@[simp] theorem State.launch_setChannel (s : State) (q : Nat) (k : Channel) (j : Nat) : (s.setChannel q k).launch j = s.launch j := rfl
@[simp] theorem State.mailbox_setChannel (s : State) (q : Nat) (k : Channel) (j : Nat) : (s.setChannel q k).mailbox j = s.mailbox j := rfl
@[simp] theorem State.can_setChannel (s : State) (q : Nat) (k : Channel) (j : Nat) : (s.setChannel q k).can j = s.can j := rfl
@[simp] theorem State.link_setChannel (s : State) (q : Nat) (k : Channel) (j : Nat) : (s.setChannel q k).link j = s.link j := rfl
@[simp] theorem State.sync_setChannel (s : State) (q : Nat) (k : Channel) (j : Nat) : (s.setChannel q k).sync j = s.sync j := rfl
@[simp] theorem State.part_setChannel (s : State) (q : Nat) (k : Channel) (j : Nat) : (s.setChannel q k).part j = s.part j := rfl
@[simp] theorem State.pair_setChannel (s : State) (q : Nat) (k : Channel) (j : Nat) : (s.setChannel q k).pair j = s.pair j := rfl
@[simp] theorem State.reg_setChannel (s : State) (q : Nat) (k : Channel) (x y : Nat) : (s.setChannel q k).reg x y = s.reg x y := rfl
@[simp] theorem State.byteAt_setChannel (s : State) (q : Nat) (k : Channel) (x : Nat) : (s.setChannel q k).byteAt x = s.byteAt x := rfl
@[simp] theorem State.now_setChannel (s : State) (q : Nat) (k : Channel) : (s.setChannel q k).now = s.now := rfl
@[simp] theorem State.skein_setPlan (s : State) (p : Nat) (k : Plan) (j : Nat) : (s.setPlan p k).skein j = s.skein j := rfl
@[simp] theorem State.spindle_setPlan (s : State) (p : Nat) (k : Plan) (j : Nat) : (s.setPlan p k).spindle j = s.spindle j := rfl
@[simp] theorem State.caldera_setPlan (s : State) (p : Nat) (k : Plan) (j : Nat) : (s.setPlan p k).caldera j = s.caldera j := rfl
@[simp] theorem State.queue_setPlan (s : State) (p : Nat) (k : Plan) (j : Nat) : (s.setPlan p k).queue j = s.queue j := rfl
@[simp] theorem State.channel_setPlan (s : State) (p : Nat) (k : Plan) (j : Nat) : (s.setPlan p k).channel j = s.channel j := rfl
@[simp] theorem State.camera_setPlan (s : State) (p : Nat) (k : Plan) (j : Nat) : (s.setPlan p k).camera j = s.camera j := rfl
@[simp] theorem State.decoder_setPlan (s : State) (p : Nat) (k : Plan) (j : Nat) : (s.setPlan p k).decoder j = s.decoder j := rfl
@[simp] theorem State.launch_setPlan (s : State) (p : Nat) (k : Plan) (j : Nat) : (s.setPlan p k).launch j = s.launch j := rfl
@[simp] theorem State.mailbox_setPlan (s : State) (p : Nat) (k : Plan) (j : Nat) : (s.setPlan p k).mailbox j = s.mailbox j := rfl
@[simp] theorem State.can_setPlan (s : State) (p : Nat) (k : Plan) (j : Nat) : (s.setPlan p k).can j = s.can j := rfl
@[simp] theorem State.link_setPlan (s : State) (p : Nat) (k : Plan) (j : Nat) : (s.setPlan p k).link j = s.link j := rfl
@[simp] theorem State.sync_setPlan (s : State) (p : Nat) (k : Plan) (j : Nat) : (s.setPlan p k).sync j = s.sync j := rfl
@[simp] theorem State.part_setPlan (s : State) (p : Nat) (k : Plan) (j : Nat) : (s.setPlan p k).part j = s.part j := rfl
@[simp] theorem State.pair_setPlan (s : State) (p : Nat) (k : Plan) (j : Nat) : (s.setPlan p k).pair j = s.pair j := rfl
@[simp] theorem State.reg_setPlan (s : State) (p : Nat) (k : Plan) (x y : Nat) : (s.setPlan p k).reg x y = s.reg x y := rfl
@[simp] theorem State.byteAt_setPlan (s : State) (p : Nat) (k : Plan) (x : Nat) : (s.setPlan p k).byteAt x = s.byteAt x := rfl
@[simp] theorem State.now_setPlan (s : State) (p : Nat) (k : Plan) : (s.setPlan p k).now = s.now := rfl
@[simp] theorem State.skein_setCamera (s : State) (n : Nat) (k : Camera) (j : Nat) : (s.setCamera n k).skein j = s.skein j := rfl
@[simp] theorem State.spindle_setCamera (s : State) (n : Nat) (k : Camera) (j : Nat) : (s.setCamera n k).spindle j = s.spindle j := rfl
@[simp] theorem State.caldera_setCamera (s : State) (n : Nat) (k : Camera) (j : Nat) : (s.setCamera n k).caldera j = s.caldera j := rfl
@[simp] theorem State.queue_setCamera (s : State) (n : Nat) (k : Camera) (j : Nat) : (s.setCamera n k).queue j = s.queue j := rfl
@[simp] theorem State.channel_setCamera (s : State) (n : Nat) (k : Camera) (j : Nat) : (s.setCamera n k).channel j = s.channel j := rfl
@[simp] theorem State.plan_setCamera (s : State) (n : Nat) (k : Camera) (j : Nat) : (s.setCamera n k).plan j = s.plan j := rfl
@[simp] theorem State.decoder_setCamera (s : State) (n : Nat) (k : Camera) (j : Nat) : (s.setCamera n k).decoder j = s.decoder j := rfl
@[simp] theorem State.launch_setCamera (s : State) (n : Nat) (k : Camera) (j : Nat) : (s.setCamera n k).launch j = s.launch j := rfl
@[simp] theorem State.mailbox_setCamera (s : State) (n : Nat) (k : Camera) (j : Nat) : (s.setCamera n k).mailbox j = s.mailbox j := rfl
@[simp] theorem State.can_setCamera (s : State) (n : Nat) (k : Camera) (j : Nat) : (s.setCamera n k).can j = s.can j := rfl
@[simp] theorem State.link_setCamera (s : State) (n : Nat) (k : Camera) (j : Nat) : (s.setCamera n k).link j = s.link j := rfl
@[simp] theorem State.sync_setCamera (s : State) (n : Nat) (k : Camera) (j : Nat) : (s.setCamera n k).sync j = s.sync j := rfl
@[simp] theorem State.part_setCamera (s : State) (n : Nat) (k : Camera) (j : Nat) : (s.setCamera n k).part j = s.part j := rfl
@[simp] theorem State.pair_setCamera (s : State) (n : Nat) (k : Camera) (j : Nat) : (s.setCamera n k).pair j = s.pair j := rfl
@[simp] theorem State.reg_setCamera (s : State) (n : Nat) (k : Camera) (x y : Nat) : (s.setCamera n k).reg x y = s.reg x y := rfl
@[simp] theorem State.byteAt_setCamera (s : State) (n : Nat) (k : Camera) (x : Nat) : (s.setCamera n k).byteAt x = s.byteAt x := rfl
@[simp] theorem State.now_setCamera (s : State) (n : Nat) (k : Camera) : (s.setCamera n k).now = s.now := rfl
@[simp] theorem State.skein_setDecoder (s : State) (d : Nat) (k : Decoder) (j : Nat) : (s.setDecoder d k).skein j = s.skein j := rfl
@[simp] theorem State.spindle_setDecoder (s : State) (d : Nat) (k : Decoder) (j : Nat) : (s.setDecoder d k).spindle j = s.spindle j := rfl
@[simp] theorem State.caldera_setDecoder (s : State) (d : Nat) (k : Decoder) (j : Nat) : (s.setDecoder d k).caldera j = s.caldera j := rfl
@[simp] theorem State.queue_setDecoder (s : State) (d : Nat) (k : Decoder) (j : Nat) : (s.setDecoder d k).queue j = s.queue j := rfl
@[simp] theorem State.channel_setDecoder (s : State) (d : Nat) (k : Decoder) (j : Nat) : (s.setDecoder d k).channel j = s.channel j := rfl
@[simp] theorem State.plan_setDecoder (s : State) (d : Nat) (k : Decoder) (j : Nat) : (s.setDecoder d k).plan j = s.plan j := rfl
@[simp] theorem State.camera_setDecoder (s : State) (d : Nat) (k : Decoder) (j : Nat) : (s.setDecoder d k).camera j = s.camera j := rfl
@[simp] theorem State.launch_setDecoder (s : State) (d : Nat) (k : Decoder) (j : Nat) : (s.setDecoder d k).launch j = s.launch j := rfl
@[simp] theorem State.mailbox_setDecoder (s : State) (d : Nat) (k : Decoder) (j : Nat) : (s.setDecoder d k).mailbox j = s.mailbox j := rfl
@[simp] theorem State.can_setDecoder (s : State) (d : Nat) (k : Decoder) (j : Nat) : (s.setDecoder d k).can j = s.can j := rfl
@[simp] theorem State.link_setDecoder (s : State) (d : Nat) (k : Decoder) (j : Nat) : (s.setDecoder d k).link j = s.link j := rfl
@[simp] theorem State.sync_setDecoder (s : State) (d : Nat) (k : Decoder) (j : Nat) : (s.setDecoder d k).sync j = s.sync j := rfl
@[simp] theorem State.part_setDecoder (s : State) (d : Nat) (k : Decoder) (j : Nat) : (s.setDecoder d k).part j = s.part j := rfl
@[simp] theorem State.pair_setDecoder (s : State) (d : Nat) (k : Decoder) (j : Nat) : (s.setDecoder d k).pair j = s.pair j := rfl
@[simp] theorem State.reg_setDecoder (s : State) (d : Nat) (k : Decoder) (x y : Nat) : (s.setDecoder d k).reg x y = s.reg x y := rfl
@[simp] theorem State.byteAt_setDecoder (s : State) (d : Nat) (k : Decoder) (x : Nat) : (s.setDecoder d k).byteAt x = s.byteAt x := rfl
@[simp] theorem State.now_setDecoder (s : State) (d : Nat) (k : Decoder) : (s.setDecoder d k).now = s.now := rfl
@[simp] theorem State.skein_setLaunch (s : State) (l : Nat) (k : LaunchQ) (j : Nat) : (s.setLaunch l k).skein j = s.skein j := rfl
@[simp] theorem State.spindle_setLaunch (s : State) (l : Nat) (k : LaunchQ) (j : Nat) : (s.setLaunch l k).spindle j = s.spindle j := rfl
@[simp] theorem State.caldera_setLaunch (s : State) (l : Nat) (k : LaunchQ) (j : Nat) : (s.setLaunch l k).caldera j = s.caldera j := rfl
@[simp] theorem State.queue_setLaunch (s : State) (l : Nat) (k : LaunchQ) (j : Nat) : (s.setLaunch l k).queue j = s.queue j := rfl
@[simp] theorem State.channel_setLaunch (s : State) (l : Nat) (k : LaunchQ) (j : Nat) : (s.setLaunch l k).channel j = s.channel j := rfl
@[simp] theorem State.plan_setLaunch (s : State) (l : Nat) (k : LaunchQ) (j : Nat) : (s.setLaunch l k).plan j = s.plan j := rfl
@[simp] theorem State.camera_setLaunch (s : State) (l : Nat) (k : LaunchQ) (j : Nat) : (s.setLaunch l k).camera j = s.camera j := rfl
@[simp] theorem State.decoder_setLaunch (s : State) (l : Nat) (k : LaunchQ) (j : Nat) : (s.setLaunch l k).decoder j = s.decoder j := rfl
@[simp] theorem State.mailbox_setLaunch (s : State) (l : Nat) (k : LaunchQ) (j : Nat) : (s.setLaunch l k).mailbox j = s.mailbox j := rfl
@[simp] theorem State.can_setLaunch (s : State) (l : Nat) (k : LaunchQ) (j : Nat) : (s.setLaunch l k).can j = s.can j := rfl
@[simp] theorem State.link_setLaunch (s : State) (l : Nat) (k : LaunchQ) (j : Nat) : (s.setLaunch l k).link j = s.link j := rfl
@[simp] theorem State.sync_setLaunch (s : State) (l : Nat) (k : LaunchQ) (j : Nat) : (s.setLaunch l k).sync j = s.sync j := rfl
@[simp] theorem State.part_setLaunch (s : State) (l : Nat) (k : LaunchQ) (j : Nat) : (s.setLaunch l k).part j = s.part j := rfl
@[simp] theorem State.pair_setLaunch (s : State) (l : Nat) (k : LaunchQ) (j : Nat) : (s.setLaunch l k).pair j = s.pair j := rfl
@[simp] theorem State.reg_setLaunch (s : State) (l : Nat) (k : LaunchQ) (x y : Nat) : (s.setLaunch l k).reg x y = s.reg x y := rfl
@[simp] theorem State.byteAt_setLaunch (s : State) (l : Nat) (k : LaunchQ) (x : Nat) : (s.setLaunch l k).byteAt x = s.byteAt x := rfl
@[simp] theorem State.now_setLaunch (s : State) (l : Nat) (k : LaunchQ) : (s.setLaunch l k).now = s.now := rfl
@[simp] theorem State.skein_setMailbox (s : State) (i : Nat) (k : Mailbox) (j : Nat) : (s.setMailbox i k).skein j = s.skein j := rfl
@[simp] theorem State.spindle_setMailbox (s : State) (i : Nat) (k : Mailbox) (j : Nat) : (s.setMailbox i k).spindle j = s.spindle j := rfl
@[simp] theorem State.caldera_setMailbox (s : State) (i : Nat) (k : Mailbox) (j : Nat) : (s.setMailbox i k).caldera j = s.caldera j := rfl
@[simp] theorem State.queue_setMailbox (s : State) (i : Nat) (k : Mailbox) (j : Nat) : (s.setMailbox i k).queue j = s.queue j := rfl
@[simp] theorem State.channel_setMailbox (s : State) (i : Nat) (k : Mailbox) (j : Nat) : (s.setMailbox i k).channel j = s.channel j := rfl
@[simp] theorem State.plan_setMailbox (s : State) (i : Nat) (k : Mailbox) (j : Nat) : (s.setMailbox i k).plan j = s.plan j := rfl
@[simp] theorem State.camera_setMailbox (s : State) (i : Nat) (k : Mailbox) (j : Nat) : (s.setMailbox i k).camera j = s.camera j := rfl
@[simp] theorem State.decoder_setMailbox (s : State) (i : Nat) (k : Mailbox) (j : Nat) : (s.setMailbox i k).decoder j = s.decoder j := rfl
@[simp] theorem State.launch_setMailbox (s : State) (i : Nat) (k : Mailbox) (j : Nat) : (s.setMailbox i k).launch j = s.launch j := rfl
@[simp] theorem State.can_setMailbox (s : State) (i : Nat) (k : Mailbox) (j : Nat) : (s.setMailbox i k).can j = s.can j := rfl
@[simp] theorem State.link_setMailbox (s : State) (i : Nat) (k : Mailbox) (j : Nat) : (s.setMailbox i k).link j = s.link j := rfl
@[simp] theorem State.sync_setMailbox (s : State) (i : Nat) (k : Mailbox) (j : Nat) : (s.setMailbox i k).sync j = s.sync j := rfl
@[simp] theorem State.part_setMailbox (s : State) (i : Nat) (k : Mailbox) (j : Nat) : (s.setMailbox i k).part j = s.part j := rfl
@[simp] theorem State.pair_setMailbox (s : State) (i : Nat) (k : Mailbox) (j : Nat) : (s.setMailbox i k).pair j = s.pair j := rfl
@[simp] theorem State.reg_setMailbox (s : State) (i : Nat) (k : Mailbox) (x y : Nat) : (s.setMailbox i k).reg x y = s.reg x y := rfl
@[simp] theorem State.byteAt_setMailbox (s : State) (i : Nat) (k : Mailbox) (x : Nat) : (s.setMailbox i k).byteAt x = s.byteAt x := rfl
@[simp] theorem State.now_setMailbox (s : State) (i : Nat) (k : Mailbox) : (s.setMailbox i k).now = s.now := rfl
@[simp] theorem State.skein_setCan (s : State) (c : Nat) (k : Can) (j : Nat) : (s.setCan c k).skein j = s.skein j := rfl
@[simp] theorem State.spindle_setCan (s : State) (c : Nat) (k : Can) (j : Nat) : (s.setCan c k).spindle j = s.spindle j := rfl
@[simp] theorem State.caldera_setCan (s : State) (c : Nat) (k : Can) (j : Nat) : (s.setCan c k).caldera j = s.caldera j := rfl
@[simp] theorem State.queue_setCan (s : State) (c : Nat) (k : Can) (j : Nat) : (s.setCan c k).queue j = s.queue j := rfl
@[simp] theorem State.channel_setCan (s : State) (c : Nat) (k : Can) (j : Nat) : (s.setCan c k).channel j = s.channel j := rfl
@[simp] theorem State.plan_setCan (s : State) (c : Nat) (k : Can) (j : Nat) : (s.setCan c k).plan j = s.plan j := rfl
@[simp] theorem State.camera_setCan (s : State) (c : Nat) (k : Can) (j : Nat) : (s.setCan c k).camera j = s.camera j := rfl
@[simp] theorem State.decoder_setCan (s : State) (c : Nat) (k : Can) (j : Nat) : (s.setCan c k).decoder j = s.decoder j := rfl
@[simp] theorem State.launch_setCan (s : State) (c : Nat) (k : Can) (j : Nat) : (s.setCan c k).launch j = s.launch j := rfl
@[simp] theorem State.mailbox_setCan (s : State) (c : Nat) (k : Can) (j : Nat) : (s.setCan c k).mailbox j = s.mailbox j := rfl
@[simp] theorem State.link_setCan (s : State) (c : Nat) (k : Can) (j : Nat) : (s.setCan c k).link j = s.link j := rfl
@[simp] theorem State.sync_setCan (s : State) (c : Nat) (k : Can) (j : Nat) : (s.setCan c k).sync j = s.sync j := rfl
@[simp] theorem State.part_setCan (s : State) (c : Nat) (k : Can) (j : Nat) : (s.setCan c k).part j = s.part j := rfl
@[simp] theorem State.pair_setCan (s : State) (c : Nat) (k : Can) (j : Nat) : (s.setCan c k).pair j = s.pair j := rfl
@[simp] theorem State.reg_setCan (s : State) (c : Nat) (k : Can) (x y : Nat) : (s.setCan c k).reg x y = s.reg x y := rfl
@[simp] theorem State.byteAt_setCan (s : State) (c : Nat) (k : Can) (x : Nat) : (s.setCan c k).byteAt x = s.byteAt x := rfl
@[simp] theorem State.now_setCan (s : State) (c : Nat) (k : Can) : (s.setCan c k).now = s.now := rfl
@[simp] theorem State.skein_setLink (s : State) (l : Nat) (k : Link) (j : Nat) : (s.setLink l k).skein j = s.skein j := rfl
@[simp] theorem State.spindle_setLink (s : State) (l : Nat) (k : Link) (j : Nat) : (s.setLink l k).spindle j = s.spindle j := rfl
@[simp] theorem State.caldera_setLink (s : State) (l : Nat) (k : Link) (j : Nat) : (s.setLink l k).caldera j = s.caldera j := rfl
@[simp] theorem State.queue_setLink (s : State) (l : Nat) (k : Link) (j : Nat) : (s.setLink l k).queue j = s.queue j := rfl
@[simp] theorem State.channel_setLink (s : State) (l : Nat) (k : Link) (j : Nat) : (s.setLink l k).channel j = s.channel j := rfl
@[simp] theorem State.plan_setLink (s : State) (l : Nat) (k : Link) (j : Nat) : (s.setLink l k).plan j = s.plan j := rfl
@[simp] theorem State.camera_setLink (s : State) (l : Nat) (k : Link) (j : Nat) : (s.setLink l k).camera j = s.camera j := rfl
@[simp] theorem State.decoder_setLink (s : State) (l : Nat) (k : Link) (j : Nat) : (s.setLink l k).decoder j = s.decoder j := rfl
@[simp] theorem State.launch_setLink (s : State) (l : Nat) (k : Link) (j : Nat) : (s.setLink l k).launch j = s.launch j := rfl
@[simp] theorem State.mailbox_setLink (s : State) (l : Nat) (k : Link) (j : Nat) : (s.setLink l k).mailbox j = s.mailbox j := rfl
@[simp] theorem State.can_setLink (s : State) (l : Nat) (k : Link) (j : Nat) : (s.setLink l k).can j = s.can j := rfl
@[simp] theorem State.sync_setLink (s : State) (l : Nat) (k : Link) (j : Nat) : (s.setLink l k).sync j = s.sync j := rfl
@[simp] theorem State.part_setLink (s : State) (l : Nat) (k : Link) (j : Nat) : (s.setLink l k).part j = s.part j := rfl
@[simp] theorem State.pair_setLink (s : State) (l : Nat) (k : Link) (j : Nat) : (s.setLink l k).pair j = s.pair j := rfl
@[simp] theorem State.reg_setLink (s : State) (l : Nat) (k : Link) (x y : Nat) : (s.setLink l k).reg x y = s.reg x y := rfl
@[simp] theorem State.byteAt_setLink (s : State) (l : Nat) (k : Link) (x : Nat) : (s.setLink l k).byteAt x = s.byteAt x := rfl
@[simp] theorem State.now_setLink (s : State) (l : Nat) (k : Link) : (s.setLink l k).now = s.now := rfl
@[simp] theorem State.skein_setSync (s : State) (n v : Nat) (j : Nat) : (s.setSync n v).skein j = s.skein j := rfl
@[simp] theorem State.spindle_setSync (s : State) (n v : Nat) (j : Nat) : (s.setSync n v).spindle j = s.spindle j := rfl
@[simp] theorem State.caldera_setSync (s : State) (n v : Nat) (j : Nat) : (s.setSync n v).caldera j = s.caldera j := rfl
@[simp] theorem State.queue_setSync (s : State) (n v : Nat) (j : Nat) : (s.setSync n v).queue j = s.queue j := rfl
@[simp] theorem State.channel_setSync (s : State) (n v : Nat) (j : Nat) : (s.setSync n v).channel j = s.channel j := rfl
@[simp] theorem State.plan_setSync (s : State) (n v : Nat) (j : Nat) : (s.setSync n v).plan j = s.plan j := rfl
@[simp] theorem State.camera_setSync (s : State) (n v : Nat) (j : Nat) : (s.setSync n v).camera j = s.camera j := rfl
@[simp] theorem State.decoder_setSync (s : State) (n v : Nat) (j : Nat) : (s.setSync n v).decoder j = s.decoder j := rfl
@[simp] theorem State.launch_setSync (s : State) (n v : Nat) (j : Nat) : (s.setSync n v).launch j = s.launch j := rfl
@[simp] theorem State.mailbox_setSync (s : State) (n v : Nat) (j : Nat) : (s.setSync n v).mailbox j = s.mailbox j := rfl
@[simp] theorem State.can_setSync (s : State) (n v : Nat) (j : Nat) : (s.setSync n v).can j = s.can j := rfl
@[simp] theorem State.link_setSync (s : State) (n v : Nat) (j : Nat) : (s.setSync n v).link j = s.link j := rfl
@[simp] theorem State.part_setSync (s : State) (n v : Nat) (j : Nat) : (s.setSync n v).part j = s.part j := rfl
@[simp] theorem State.pair_setSync (s : State) (n v : Nat) (j : Nat) : (s.setSync n v).pair j = s.pair j := rfl
@[simp] theorem State.reg_setSync (s : State) (n v : Nat) (x y : Nat) : (s.setSync n v).reg x y = s.reg x y := rfl
@[simp] theorem State.byteAt_setSync (s : State) (n v : Nat) (x : Nat) : (s.setSync n v).byteAt x = s.byteAt x := rfl
@[simp] theorem State.now_setSync (s : State) (n v : Nat) : (s.setSync n v).now = s.now := rfl
@[simp] theorem State.skein_modDebug (s : State) (f : Debug → Debug) (j : Nat) : (s.modDebug f).skein j = s.skein j := rfl
@[simp] theorem State.spindle_modDebug (s : State) (f : Debug → Debug) (j : Nat) : (s.modDebug f).spindle j = s.spindle j := rfl
@[simp] theorem State.caldera_modDebug (s : State) (f : Debug → Debug) (j : Nat) : (s.modDebug f).caldera j = s.caldera j := rfl
@[simp] theorem State.queue_modDebug (s : State) (f : Debug → Debug) (j : Nat) : (s.modDebug f).queue j = s.queue j := rfl
@[simp] theorem State.channel_modDebug (s : State) (f : Debug → Debug) (j : Nat) : (s.modDebug f).channel j = s.channel j := rfl
@[simp] theorem State.plan_modDebug (s : State) (f : Debug → Debug) (j : Nat) : (s.modDebug f).plan j = s.plan j := rfl
@[simp] theorem State.camera_modDebug (s : State) (f : Debug → Debug) (j : Nat) : (s.modDebug f).camera j = s.camera j := rfl
@[simp] theorem State.decoder_modDebug (s : State) (f : Debug → Debug) (j : Nat) : (s.modDebug f).decoder j = s.decoder j := rfl
@[simp] theorem State.launch_modDebug (s : State) (f : Debug → Debug) (j : Nat) : (s.modDebug f).launch j = s.launch j := rfl
@[simp] theorem State.mailbox_modDebug (s : State) (f : Debug → Debug) (j : Nat) : (s.modDebug f).mailbox j = s.mailbox j := rfl
@[simp] theorem State.can_modDebug (s : State) (f : Debug → Debug) (j : Nat) : (s.modDebug f).can j = s.can j := rfl
@[simp] theorem State.link_modDebug (s : State) (f : Debug → Debug) (j : Nat) : (s.modDebug f).link j = s.link j := rfl
@[simp] theorem State.sync_modDebug (s : State) (f : Debug → Debug) (j : Nat) : (s.modDebug f).sync j = s.sync j := rfl
@[simp] theorem State.part_modDebug (s : State) (f : Debug → Debug) (j : Nat) : (s.modDebug f).part j = s.part j := rfl
@[simp] theorem State.pair_modDebug (s : State) (f : Debug → Debug) (j : Nat) : (s.modDebug f).pair j = s.pair j := rfl
@[simp] theorem State.reg_modDebug (s : State) (f : Debug → Debug) (x y : Nat) : (s.modDebug f).reg x y = s.reg x y := rfl
@[simp] theorem State.byteAt_modDebug (s : State) (f : Debug → Debug) (x : Nat) : (s.modDebug f).byteAt x = s.byteAt x := rfl
@[simp] theorem State.now_modDebug (s : State) (f : Debug → Debug) : (s.modDebug f).now = s.now := rfl
@[simp] theorem State.skein_modSafety (s : State) (f : Safety → Safety) (j : Nat) : (s.modSafety f).skein j = s.skein j := rfl
@[simp] theorem State.spindle_modSafety (s : State) (f : Safety → Safety) (j : Nat) : (s.modSafety f).spindle j = s.spindle j := rfl
@[simp] theorem State.caldera_modSafety (s : State) (f : Safety → Safety) (j : Nat) : (s.modSafety f).caldera j = s.caldera j := rfl
@[simp] theorem State.queue_modSafety (s : State) (f : Safety → Safety) (j : Nat) : (s.modSafety f).queue j = s.queue j := rfl
@[simp] theorem State.channel_modSafety (s : State) (f : Safety → Safety) (j : Nat) : (s.modSafety f).channel j = s.channel j := rfl
@[simp] theorem State.plan_modSafety (s : State) (f : Safety → Safety) (j : Nat) : (s.modSafety f).plan j = s.plan j := rfl
@[simp] theorem State.camera_modSafety (s : State) (f : Safety → Safety) (j : Nat) : (s.modSafety f).camera j = s.camera j := rfl
@[simp] theorem State.decoder_modSafety (s : State) (f : Safety → Safety) (j : Nat) : (s.modSafety f).decoder j = s.decoder j := rfl
@[simp] theorem State.launch_modSafety (s : State) (f : Safety → Safety) (j : Nat) : (s.modSafety f).launch j = s.launch j := rfl
@[simp] theorem State.mailbox_modSafety (s : State) (f : Safety → Safety) (j : Nat) : (s.modSafety f).mailbox j = s.mailbox j := rfl
@[simp] theorem State.can_modSafety (s : State) (f : Safety → Safety) (j : Nat) : (s.modSafety f).can j = s.can j := rfl
@[simp] theorem State.link_modSafety (s : State) (f : Safety → Safety) (j : Nat) : (s.modSafety f).link j = s.link j := rfl
@[simp] theorem State.sync_modSafety (s : State) (f : Safety → Safety) (j : Nat) : (s.modSafety f).sync j = s.sync j := rfl
@[simp] theorem State.reg_modSafety (s : State) (f : Safety → Safety) (x y : Nat) : (s.modSafety f).reg x y = s.reg x y := rfl
@[simp] theorem State.byteAt_modSafety (s : State) (f : Safety → Safety) (x : Nat) : (s.modSafety f).byteAt x = s.byteAt x := rfl
@[simp] theorem State.now_modSafety (s : State) (f : Safety → Safety) : (s.modSafety f).now = s.now := rfl
@[simp] theorem State.skein_modBoot (s : State) (f : Boot → Boot) (j : Nat) : (s.modBoot f).skein j = s.skein j := rfl
@[simp] theorem State.spindle_modBoot (s : State) (f : Boot → Boot) (j : Nat) : (s.modBoot f).spindle j = s.spindle j := rfl
@[simp] theorem State.caldera_modBoot (s : State) (f : Boot → Boot) (j : Nat) : (s.modBoot f).caldera j = s.caldera j := rfl
@[simp] theorem State.queue_modBoot (s : State) (f : Boot → Boot) (j : Nat) : (s.modBoot f).queue j = s.queue j := rfl
@[simp] theorem State.channel_modBoot (s : State) (f : Boot → Boot) (j : Nat) : (s.modBoot f).channel j = s.channel j := rfl
@[simp] theorem State.plan_modBoot (s : State) (f : Boot → Boot) (j : Nat) : (s.modBoot f).plan j = s.plan j := rfl
@[simp] theorem State.camera_modBoot (s : State) (f : Boot → Boot) (j : Nat) : (s.modBoot f).camera j = s.camera j := rfl
@[simp] theorem State.decoder_modBoot (s : State) (f : Boot → Boot) (j : Nat) : (s.modBoot f).decoder j = s.decoder j := rfl
@[simp] theorem State.launch_modBoot (s : State) (f : Boot → Boot) (j : Nat) : (s.modBoot f).launch j = s.launch j := rfl
@[simp] theorem State.mailbox_modBoot (s : State) (f : Boot → Boot) (j : Nat) : (s.modBoot f).mailbox j = s.mailbox j := rfl
@[simp] theorem State.can_modBoot (s : State) (f : Boot → Boot) (j : Nat) : (s.modBoot f).can j = s.can j := rfl
@[simp] theorem State.link_modBoot (s : State) (f : Boot → Boot) (j : Nat) : (s.modBoot f).link j = s.link j := rfl
@[simp] theorem State.sync_modBoot (s : State) (f : Boot → Boot) (j : Nat) : (s.modBoot f).sync j = s.sync j := rfl
@[simp] theorem State.part_modBoot (s : State) (f : Boot → Boot) (j : Nat) : (s.modBoot f).part j = s.part j := rfl
@[simp] theorem State.pair_modBoot (s : State) (f : Boot → Boot) (j : Nat) : (s.modBoot f).pair j = s.pair j := rfl
@[simp] theorem State.reg_modBoot (s : State) (f : Boot → Boot) (x y : Nat) : (s.modBoot f).reg x y = s.reg x y := rfl
@[simp] theorem State.byteAt_modBoot (s : State) (f : Boot → Boot) (x : Nat) : (s.modBoot f).byteAt x = s.byteAt x := rfl
@[simp] theorem State.now_modBoot (s : State) (f : Boot → Boot) : (s.modBoot f).now = s.now := rfl
@[simp] theorem State.skein_modTime (s : State) (f : Timebase → Timebase) (j : Nat) : (s.modTime f).skein j = s.skein j := rfl
@[simp] theorem State.spindle_modTime (s : State) (f : Timebase → Timebase) (j : Nat) : (s.modTime f).spindle j = s.spindle j := rfl
@[simp] theorem State.caldera_modTime (s : State) (f : Timebase → Timebase) (j : Nat) : (s.modTime f).caldera j = s.caldera j := rfl
@[simp] theorem State.queue_modTime (s : State) (f : Timebase → Timebase) (j : Nat) : (s.modTime f).queue j = s.queue j := rfl
@[simp] theorem State.channel_modTime (s : State) (f : Timebase → Timebase) (j : Nat) : (s.modTime f).channel j = s.channel j := rfl
@[simp] theorem State.plan_modTime (s : State) (f : Timebase → Timebase) (j : Nat) : (s.modTime f).plan j = s.plan j := rfl
@[simp] theorem State.camera_modTime (s : State) (f : Timebase → Timebase) (j : Nat) : (s.modTime f).camera j = s.camera j := rfl
@[simp] theorem State.decoder_modTime (s : State) (f : Timebase → Timebase) (j : Nat) : (s.modTime f).decoder j = s.decoder j := rfl
@[simp] theorem State.launch_modTime (s : State) (f : Timebase → Timebase) (j : Nat) : (s.modTime f).launch j = s.launch j := rfl
@[simp] theorem State.mailbox_modTime (s : State) (f : Timebase → Timebase) (j : Nat) : (s.modTime f).mailbox j = s.mailbox j := rfl
@[simp] theorem State.can_modTime (s : State) (f : Timebase → Timebase) (j : Nat) : (s.modTime f).can j = s.can j := rfl
@[simp] theorem State.link_modTime (s : State) (f : Timebase → Timebase) (j : Nat) : (s.modTime f).link j = s.link j := rfl
@[simp] theorem State.sync_modTime (s : State) (f : Timebase → Timebase) (j : Nat) : (s.modTime f).sync j = s.sync j := rfl
@[simp] theorem State.part_modTime (s : State) (f : Timebase → Timebase) (j : Nat) : (s.modTime f).part j = s.part j := rfl
@[simp] theorem State.pair_modTime (s : State) (f : Timebase → Timebase) (j : Nat) : (s.modTime f).pair j = s.pair j := rfl
@[simp] theorem State.reg_modTime (s : State) (f : Timebase → Timebase) (x y : Nat) : (s.modTime f).reg x y = s.reg x y := rfl
@[simp] theorem State.byteAt_modTime (s : State) (f : Timebase → Timebase) (x : Nat) : (s.modTime f).byteAt x = s.byteAt x := rfl
@[simp] theorem State.skein_emit (s : State) (o : Out) (j : Nat) : (s.emit o).skein j = s.skein j := rfl
@[simp] theorem State.spindle_emit (s : State) (o : Out) (j : Nat) : (s.emit o).spindle j = s.spindle j := rfl
@[simp] theorem State.caldera_emit (s : State) (o : Out) (j : Nat) : (s.emit o).caldera j = s.caldera j := rfl
@[simp] theorem State.queue_emit (s : State) (o : Out) (j : Nat) : (s.emit o).queue j = s.queue j := rfl
@[simp] theorem State.channel_emit (s : State) (o : Out) (j : Nat) : (s.emit o).channel j = s.channel j := rfl
@[simp] theorem State.plan_emit (s : State) (o : Out) (j : Nat) : (s.emit o).plan j = s.plan j := rfl
@[simp] theorem State.camera_emit (s : State) (o : Out) (j : Nat) : (s.emit o).camera j = s.camera j := rfl
@[simp] theorem State.decoder_emit (s : State) (o : Out) (j : Nat) : (s.emit o).decoder j = s.decoder j := rfl
@[simp] theorem State.launch_emit (s : State) (o : Out) (j : Nat) : (s.emit o).launch j = s.launch j := rfl
@[simp] theorem State.mailbox_emit (s : State) (o : Out) (j : Nat) : (s.emit o).mailbox j = s.mailbox j := rfl
@[simp] theorem State.can_emit (s : State) (o : Out) (j : Nat) : (s.emit o).can j = s.can j := rfl
@[simp] theorem State.link_emit (s : State) (o : Out) (j : Nat) : (s.emit o).link j = s.link j := rfl
@[simp] theorem State.sync_emit (s : State) (o : Out) (j : Nat) : (s.emit o).sync j = s.sync j := rfl
@[simp] theorem State.part_emit (s : State) (o : Out) (j : Nat) : (s.emit o).part j = s.part j := rfl
@[simp] theorem State.pair_emit (s : State) (o : Out) (j : Nat) : (s.emit o).pair j = s.pair j := rfl
@[simp] theorem State.reg_emit (s : State) (o : Out) (x y : Nat) : (s.emit o).reg x y = s.reg x y := rfl
@[simp] theorem State.byteAt_emit (s : State) (o : Out) (x : Nat) : (s.emit o).byteAt x = s.byteAt x := rfl
@[simp] theorem State.now_emit (s : State) (o : Out) : (s.emit o).now = s.now := rfl
@[simp] theorem State.skein_setPart (s : State) (p : Nat) (k : PartSafety) (j : Nat) : (s.setPart p k).skein j = s.skein j := rfl
@[simp] theorem State.spindle_setPart (s : State) (p : Nat) (k : PartSafety) (j : Nat) : (s.setPart p k).spindle j = s.spindle j := rfl
@[simp] theorem State.caldera_setPart (s : State) (p : Nat) (k : PartSafety) (j : Nat) : (s.setPart p k).caldera j = s.caldera j := rfl
@[simp] theorem State.queue_setPart (s : State) (p : Nat) (k : PartSafety) (j : Nat) : (s.setPart p k).queue j = s.queue j := rfl
@[simp] theorem State.channel_setPart (s : State) (p : Nat) (k : PartSafety) (j : Nat) : (s.setPart p k).channel j = s.channel j := rfl
@[simp] theorem State.plan_setPart (s : State) (p : Nat) (k : PartSafety) (j : Nat) : (s.setPart p k).plan j = s.plan j := rfl
@[simp] theorem State.camera_setPart (s : State) (p : Nat) (k : PartSafety) (j : Nat) : (s.setPart p k).camera j = s.camera j := rfl
@[simp] theorem State.decoder_setPart (s : State) (p : Nat) (k : PartSafety) (j : Nat) : (s.setPart p k).decoder j = s.decoder j := rfl
@[simp] theorem State.launch_setPart (s : State) (p : Nat) (k : PartSafety) (j : Nat) : (s.setPart p k).launch j = s.launch j := rfl
@[simp] theorem State.mailbox_setPart (s : State) (p : Nat) (k : PartSafety) (j : Nat) : (s.setPart p k).mailbox j = s.mailbox j := rfl
@[simp] theorem State.can_setPart (s : State) (p : Nat) (k : PartSafety) (j : Nat) : (s.setPart p k).can j = s.can j := rfl
@[simp] theorem State.link_setPart (s : State) (p : Nat) (k : PartSafety) (j : Nat) : (s.setPart p k).link j = s.link j := rfl
@[simp] theorem State.sync_setPart (s : State) (p : Nat) (k : PartSafety) (j : Nat) : (s.setPart p k).sync j = s.sync j := rfl
@[simp] theorem State.pair_setPart (s : State) (p : Nat) (k : PartSafety) (j : Nat) : (s.setPart p k).pair j = s.pair j := rfl
@[simp] theorem State.reg_setPart (s : State) (p : Nat) (k : PartSafety) (x y : Nat) : (s.setPart p k).reg x y = s.reg x y := rfl
@[simp] theorem State.byteAt_setPart (s : State) (p : Nat) (k : PartSafety) (x : Nat) : (s.setPart p k).byteAt x = s.byteAt x := rfl
@[simp] theorem State.now_setPart (s : State) (p : Nat) (k : PartSafety) : (s.setPart p k).now = s.now := rfl
@[simp] theorem State.skein_setPair (s : State) (p : Nat) (k : Pair) (j : Nat) : (s.setPair p k).skein j = s.skein j := rfl
@[simp] theorem State.spindle_setPair (s : State) (p : Nat) (k : Pair) (j : Nat) : (s.setPair p k).spindle j = s.spindle j := rfl
@[simp] theorem State.caldera_setPair (s : State) (p : Nat) (k : Pair) (j : Nat) : (s.setPair p k).caldera j = s.caldera j := rfl
@[simp] theorem State.queue_setPair (s : State) (p : Nat) (k : Pair) (j : Nat) : (s.setPair p k).queue j = s.queue j := rfl
@[simp] theorem State.channel_setPair (s : State) (p : Nat) (k : Pair) (j : Nat) : (s.setPair p k).channel j = s.channel j := rfl
@[simp] theorem State.plan_setPair (s : State) (p : Nat) (k : Pair) (j : Nat) : (s.setPair p k).plan j = s.plan j := rfl
@[simp] theorem State.camera_setPair (s : State) (p : Nat) (k : Pair) (j : Nat) : (s.setPair p k).camera j = s.camera j := rfl
@[simp] theorem State.decoder_setPair (s : State) (p : Nat) (k : Pair) (j : Nat) : (s.setPair p k).decoder j = s.decoder j := rfl
@[simp] theorem State.launch_setPair (s : State) (p : Nat) (k : Pair) (j : Nat) : (s.setPair p k).launch j = s.launch j := rfl
@[simp] theorem State.mailbox_setPair (s : State) (p : Nat) (k : Pair) (j : Nat) : (s.setPair p k).mailbox j = s.mailbox j := rfl
@[simp] theorem State.can_setPair (s : State) (p : Nat) (k : Pair) (j : Nat) : (s.setPair p k).can j = s.can j := rfl
@[simp] theorem State.link_setPair (s : State) (p : Nat) (k : Pair) (j : Nat) : (s.setPair p k).link j = s.link j := rfl
@[simp] theorem State.sync_setPair (s : State) (p : Nat) (k : Pair) (j : Nat) : (s.setPair p k).sync j = s.sync j := rfl
@[simp] theorem State.part_setPair (s : State) (p : Nat) (k : Pair) (j : Nat) : (s.setPair p k).part j = s.part j := rfl
@[simp] theorem State.reg_setPair (s : State) (p : Nat) (k : Pair) (x y : Nat) : (s.setPair p k).reg x y = s.reg x y := rfl
@[simp] theorem State.byteAt_setPair (s : State) (p : Nat) (k : Pair) (x : Nat) : (s.setPair p k).byteAt x = s.byteAt x := rfl
@[simp] theorem State.now_setPair (s : State) (p : Nat) (k : Pair) : (s.setPair p k).now = s.now := rfl

/-! ### Registers -/

set_option maxRecDepth 20000 in
/-- Every type has a byte. -/
theorem mapOf_bytes_pos (ix : Nat) (e : Entry) (h : e ∈ mapOf ix) : 1 ≤ e.bytes := by
  have h1 : ∀ x ∈ map1000, 1 ≤ x.bytes := by decide
  have h2 : ∀ m ∈ ([map2000, map2100, map2200, map2300, map2400, map2500, map2600, map2700, map2800, map2900, map2A00,
      map2B00, map2C00, map2D00, map2E00, map2F00] : List (List Entry)), ∀ x ∈ m, 1 ≤ x.bytes := by decide
  unfold mapOf at h
  split at h
  · exact h1 e h
  · rw [List.getD_eq_getElem?_getD] at h
    cases hg : ([map2000, map2100, map2200, map2300, map2400, map2500, map2600, map2700, map2800, map2900, map2A00, map2B00,
      map2C00, map2D00, map2E00, map2F00] : List (List Entry))[ix / 256 - 0x20]? with
    | none => rw [hg] at h; cases h
    | some m => rw [hg] at h; exact h2 m (List.mem_of_getElem? hg) e h

theorem odBytes_pos (ix sub : Nat) : 1 ≤ odBytes ix sub := by
  unfold odBytes
  cases h : odFind ix sub with
  | none => simp
  | some e =>
    exact mapOf_bytes_pos ix e (List.mem_of_find?_eq_some h)

/-- A register holds the value stored, cut to its type. -/
@[simp] theorem State.reg_setReg (s : State) (ix sub v : Nat) : (s.setReg ix sub v).reg ix sub = v % 256 ^ odBytes ix sub := by
  simp [State.reg, State.setReg]

/-- A value of one byte fits every register. -/
theorem State.reg_setReg_byte (s : State) (ix sub v : Nat) (h : v < 256) : (s.setReg ix sub v).reg ix sub = v := by
  rw [State.reg_setReg]
  exact Nat.mod_eq_of_lt (Nat.lt_of_lt_of_le h (Nat.le_self_pow (by have := odBytes_pos ix sub; omega) 256))

/-- Every other register is untouched. -/
theorem State.reg_setReg_ne (s : State) {ix sub x y : Nat} (v : Nat) (h : odKey x y ≠ odKey ix sub) :
    (s.setReg ix sub v).reg x y = s.reg x y := tblGet_put_ne _ _ _ _ h

theorem odKey_ne {ix sub x y : Nat} (hs : sub < 256) (hy : y < 256) (h : (x, y) ≠ (ix, sub)) : odKey x y ≠ odKey ix sub := by
  intro hk
  unfold odKey at hk
  have hx : x = ix := by omega
  have hsub : y = sub := by omega
  exact h (by simp [hx, hsub])

end Sys2Proof.Machine
end

