-- ==== Sys2Proof/Laws/Moves.lean ====
section
/-! SUPPORT. Laws: `Moves ps s t`, the one thing said of every operation: going from `s` to `t` changes at most the parts
`ps`, and keeps the invariant of every state. The laws of the operations build on these rules. -/
namespace Sys2Proof.Safety

open Machine

/-- Going from `s` to `t` changes at most `ps` and keeps the invariant. -/
structure Moves (ps : List Part) (s t : State) : Prop where
  only : Only ps s t
  inv : Invariant s → Invariant t

/-- An operation that answers a value beside the state. -/
abbrev MovesFst {α : Type} (ps : List Part) (s : State) (r : State × α) : Prop := Moves ps s r.1

theorem Part.same_refl (p : Part) (s : State) : p.Same s s := by cases p <;> rfl

theorem Part.same_trans {p : Part} {s t u : State} (h : p.Same s t) (k : p.Same t u) : p.Same s u := by
  cases p <;> exact Eq.trans k h

theorem Moves.refl {ps : List Part} {s : State} : Moves ps s s := ⟨fun p _ => p.same_refl s, id⟩

theorem Moves.mono {ps qs : List Part} {s t : State} (hq : qs.all ps.contains = true) (h : Moves qs s t) : Moves ps s t := by
  refine ⟨fun p hp => h.only p (fun hm => hp ?_), h.inv⟩
  simpa using List.all_eq_true.mp hq p hm

/-- After what leads from `s` to `t`, an operation from `t` to `u` that changes no other parts. -/
theorem Moves.after {ps qs : List Part} {s t u : State} (k : Moves qs t u) (hq : qs.all ps.contains = true)
    (h : Moves ps s t) : Moves ps s u :=
  ⟨fun p hp => Part.same_trans (h.only p hp) ((k.mono hq).only p hp), fun hi => k.inv (h.inv hi)⟩

theorem Moves.ite {ps : List Part} {c : Prop} [Decidable c] {s t u : State} (h : Moves ps s t) (k : Moves ps s u) :
    Moves ps s (if c then t else u) := by
  by_cases hc : c
  · rwa [if_pos hc]
  · rwa [if_neg hc]

theorem Moves.foldl {α : Type} {ps : List Part} {s t : State} {l : List α} {f : State → α → State}
    (hf : ∀ u a, Moves ps u (f u a)) (h : Moves ps s t) : Moves ps s (l.foldl f t) := by
  induction l generalizing t with
  | nil => exact h
  | cons a r ih => exact ih ((hf t a).after (by simp) h)

theorem Moves.forEach {ps : List Part} {s t : State} {l : List Nat} {f : State → Nat → State}
    (hf : ∀ u a, Moves ps u (f u a)) (h : Moves ps s t) : Moves ps s (forEach l t f) := Moves.foldl hf h

theorem MovesFst.foldl {α β : Type} {ps : List Part} {s : State} {r : State × β} {l : List α}
    {f : State × β → α → State × β} (hf : ∀ u a, MovesFst ps u.1 (f u a)) (h : Moves ps s r.1) :
    MovesFst ps s (l.foldl f r) := by
  induction l generalizing r with
  | nil => exact h
  | cons a rs ih => exact ih ((hf r a).after (by simp) h)

/-- A state whose invariant parts are those of another one, and that differs from it in listed parts at most. -/
theorem Moves.of_same {ps : List Part} {s t : State} (h : ∀ p, p ∉ ps → p.Same s t) (hm : t.mem = s.mem)
    (hs : t.syncs = s.syncs) (ht : t.time = s.time) : Moves ps s t := by
  refine ⟨h, fun hi => ⟨?_, ?_, fun n => ?_⟩⟩
  · rw [hm]; exact hi.memory
  · rw [ht]; exact hi.nanos
  · have := hi.syncs n
    rwa [State.sync, ← hs] at this

/-- A record update that leaves the queue, the memory, the synchronisation objects and the time alone. -/
theorem Moves.update {ps : List Part} {s u : State}
    {x_dict : Tbl Nat} {x_accepted : Tbl Nat} {x_selects : Tbl Nat} {x_latches : Tbl Nat} {x_replies : Tbl (Nat
    × Nat)} {x_flips : Tbl Nat} {x_hostMem : List Host.Cell} {x_xlat : Tbl Nat} {x_xlatShadow : Tbl Nat}
    {x_queues : Tbl Queue} {x_boot : Boot} {x_skeins : Tbl Skein} {x_spindles : Tbl Spindle} {x_calderas : Tbl
    Caldera} {x_channels : Tbl Channel} {x_scrubPending : Option Nat} {x_bankTargets : Tbl Nat} {x_plans : Tbl
    Plan} {x_cameras : Tbl Camera} {x_chains : Tbl (List Byte)} {x_decoders : Tbl Decoder} {x_lanes : List Nat}
    {x_gatherQueue : List GatherSlot} {x_gatherBusy : Tbl GatherSlot} {x_blocks : Tbl (List Byte)} {x_engines :
    Tbl Job} {x_jobOrder : Nat} {x_nextBlock : Nat} {x_launches : Tbl LaunchQ} {x_ptpPending : List PtpPending}
    {x_speedAt : Option Nat} {x_safety : Safety} {x_mailboxes : Tbl Mailbox} {x_mirrorQueue : List Nat} {x_cans
    : Tbl Can} {x_busMaster : Bool} {x_d3hot : Bool} {x_msixTable : Tbl Nat} {x_links : Tbl Link} {x_discovery : Discovery} {x_dbg :
    Debug} {x_freeUsed : Nat} {x_out : List Out}
    (h : Moves ps s u) (e : ∀ p, p ∉ ps → p.Same u
      ⟨u.pending, x_dict, x_accepted, x_selects, x_latches, x_replies, u.mem, x_flips, x_hostMem, x_xlat,
      x_xlatShadow, x_queues, u.syncs, u.time, x_boot, x_skeins, x_spindles, x_calderas, x_channels,
      x_scrubPending, x_bankTargets, x_plans, x_cameras, x_chains, x_decoders, x_lanes, x_gatherQueue,
      x_gatherBusy, x_blocks, x_engines, x_jobOrder, x_nextBlock, x_launches, x_ptpPending, x_speedAt,
      x_safety, x_mailboxes, x_mirrorQueue, x_cans, x_busMaster, x_d3hot, x_msixTable, x_links, x_discovery, x_dbg,
      x_freeUsed, x_out⟩) :
    Moves ps s
      ⟨u.pending, x_dict, x_accepted, x_selects, x_latches, x_replies, u.mem, x_flips, x_hostMem, x_xlat,
      x_xlatShadow, x_queues, u.syncs, u.time, x_boot, x_skeins, x_spindles, x_calderas, x_channels,
      x_scrubPending, x_bankTargets, x_plans, x_cameras, x_chains, x_decoders, x_lanes, x_gatherQueue,
      x_gatherBusy, x_blocks, x_engines, x_jobOrder, x_nextBlock, x_launches, x_ptpPending, x_speedAt,
      x_safety, x_mailboxes, x_mirrorQueue, x_cans, x_busMaster, x_d3hot, x_msixTable, x_links, x_discovery, x_dbg,
      x_freeUsed, x_out⟩ :=
  (Moves.of_same e rfl rfl rfl).after (by simp) h

end Sys2Proof.Safety
end

