-- ==== Sys2Proof/Laws/OpsMoves.lean ====
section
/-! SUPPORT. Laws: what each operation of Machine/Ops.lean changes at most, and that it keeps the invariant. -/
open Sys2Proof.Safety

namespace Sys2Proof.Machine

theorem State.withDict_moves {s : State} {x : Tbl Nat} : Moves [.dict] s (State.withDict s x) := by
  unfold State.withDict
  repeat' first
    | dsimp only
    | ((with_reducible refine Moves.update ?h ?e); case e => exact fun p hp => by cases p <;> first | exact absurd (by decide) hp | rfl)
    | (with_reducible exact Moves.refl)

theorem State.withAccepted_moves {s : State} {x : Tbl Nat} : Moves [.accepted] s (State.withAccepted s x) := by
  unfold State.withAccepted
  repeat' first
    | dsimp only
    | ((with_reducible refine Moves.update ?h ?e); case e => exact fun p hp => by cases p <;> first | exact absurd (by decide) hp | rfl)
    | (with_reducible exact Moves.refl)

theorem State.withSelects_moves {s : State} {x : Tbl Nat} : Moves [.selects] s (State.withSelects s x) := by
  unfold State.withSelects
  repeat' first
    | dsimp only
    | ((with_reducible refine Moves.update ?h ?e); case e => exact fun p hp => by cases p <;> first | exact absurd (by decide) hp | rfl)
    | (with_reducible exact Moves.refl)

theorem State.withLatches_moves {s : State} {x : Tbl Nat} : Moves [.latches] s (State.withLatches s x) := by
  unfold State.withLatches
  repeat' first
    | dsimp only
    | ((with_reducible refine Moves.update ?h ?e); case e => exact fun p hp => by cases p <;> first | exact absurd (by decide) hp | rfl)
    | (with_reducible exact Moves.refl)

theorem State.withReplies_moves {s : State} {x : Tbl (Nat × Nat)} : Moves [.replies] s (State.withReplies s x) := by
  unfold State.withReplies
  repeat' first
    | dsimp only
    | ((with_reducible refine Moves.update ?h ?e); case e => exact fun p hp => by cases p <;> first | exact absurd (by decide) hp | rfl)
    | (with_reducible exact Moves.refl)

theorem State.withMem_moves {s : State} {x : List Host.Cell} (hx : Memory.wf s.mem → Memory.wf x) : Moves [.mem] s (s.withMem x) :=
  ⟨fun p hp => by cases p <;> first | exact absurd (by decide) hp | rfl, fun hi => ⟨hx hi.memory, hi.nanos, hi.syncs⟩⟩

theorem State.withFlips_moves {s : State} {x : Tbl Nat} : Moves [.flips] s (State.withFlips s x) := by
  unfold State.withFlips
  repeat' first
    | dsimp only
    | ((with_reducible refine Moves.update ?h ?e); case e => exact fun p hp => by cases p <;> first | exact absurd (by decide) hp | rfl)
    | (with_reducible exact Moves.refl)

theorem State.withHostMem_moves {s : State} {x : List Host.Cell} : Moves [.hostMem] s (State.withHostMem s x) := by
  unfold State.withHostMem
  repeat' first
    | dsimp only
    | ((with_reducible refine Moves.update ?h ?e); case e => exact fun p hp => by cases p <;> first | exact absurd (by decide) hp | rfl)
    | (with_reducible exact Moves.refl)

theorem State.withXlat_moves {s : State} {x : Tbl Nat} : Moves [.xlat] s (State.withXlat s x) := by
  unfold State.withXlat
  repeat' first
    | dsimp only
    | ((with_reducible refine Moves.update ?h ?e); case e => exact fun p hp => by cases p <;> first | exact absurd (by decide) hp | rfl)
    | (with_reducible exact Moves.refl)

theorem State.withXlatShadow_moves {s : State} {x : Tbl Nat} : Moves [.xlatShadow] s (State.withXlatShadow s x) := by
  unfold State.withXlatShadow
  repeat' first
    | dsimp only
    | ((with_reducible refine Moves.update ?h ?e); case e => exact fun p hp => by cases p <;> first | exact absurd (by decide) hp | rfl)
    | (with_reducible exact Moves.refl)

theorem State.withScrubPending_moves {s : State} {x : Option Nat} : Moves [.scrubPending] s (State.withScrubPending s x) := by
  unfold State.withScrubPending
  repeat' first
    | dsimp only
    | ((with_reducible refine Moves.update ?h ?e); case e => exact fun p hp => by cases p <;> first | exact absurd (by decide) hp | rfl)
    | (with_reducible exact Moves.refl)

theorem State.withBankTargets_moves {s : State} {x : Tbl Nat} : Moves [.bankTargets] s (State.withBankTargets s x) := by
  unfold State.withBankTargets
  repeat' first
    | dsimp only
    | ((with_reducible refine Moves.update ?h ?e); case e => exact fun p hp => by cases p <;> first | exact absurd (by decide) hp | rfl)
    | (with_reducible exact Moves.refl)

theorem State.withChains_moves {s : State} {x : Tbl (List Byte)} : Moves [.chains] s (State.withChains s x) := by
  unfold State.withChains
  repeat' first
    | dsimp only
    | ((with_reducible refine Moves.update ?h ?e); case e => exact fun p hp => by cases p <;> first | exact absurd (by decide) hp | rfl)
    | (with_reducible exact Moves.refl)

theorem State.withLanes_moves {s : State} {x : List Nat} : Moves [.lanes] s (State.withLanes s x) := by
  unfold State.withLanes
  repeat' first
    | dsimp only
    | ((with_reducible refine Moves.update ?h ?e); case e => exact fun p hp => by cases p <;> first | exact absurd (by decide) hp | rfl)
    | (with_reducible exact Moves.refl)

theorem State.withGatherQueue_moves {s : State} {x : List GatherSlot} : Moves [.gatherQueue] s (State.withGatherQueue s x) := by
  unfold State.withGatherQueue
  repeat' first
    | dsimp only
    | ((with_reducible refine Moves.update ?h ?e); case e => exact fun p hp => by cases p <;> first | exact absurd (by decide) hp | rfl)
    | (with_reducible exact Moves.refl)

theorem State.withGatherBusy_moves {s : State} {x : Tbl GatherSlot} : Moves [.gatherBusy] s (State.withGatherBusy s x) := by
  unfold State.withGatherBusy
  repeat' first
    | dsimp only
    | ((with_reducible refine Moves.update ?h ?e); case e => exact fun p hp => by cases p <;> first | exact absurd (by decide) hp | rfl)
    | (with_reducible exact Moves.refl)

theorem State.withBlocks_moves {s : State} {x : Tbl (List Byte)} : Moves [.blocks] s (State.withBlocks s x) := by
  unfold State.withBlocks
  repeat' first
    | dsimp only
    | ((with_reducible refine Moves.update ?h ?e); case e => exact fun p hp => by cases p <;> first | exact absurd (by decide) hp | rfl)
    | (with_reducible exact Moves.refl)

theorem State.withEngines_moves {s : State} {x : Tbl Job} : Moves [.engines] s (State.withEngines s x) := by
  unfold State.withEngines
  repeat' first
    | dsimp only
    | ((with_reducible refine Moves.update ?h ?e); case e => exact fun p hp => by cases p <;> first | exact absurd (by decide) hp | rfl)
    | (with_reducible exact Moves.refl)

theorem State.withJobOrder_moves {s : State} {x : Nat} : Moves [.jobOrder] s (State.withJobOrder s x) := by
  unfold State.withJobOrder
  repeat' first
    | dsimp only
    | ((with_reducible refine Moves.update ?h ?e); case e => exact fun p hp => by cases p <;> first | exact absurd (by decide) hp | rfl)
    | (with_reducible exact Moves.refl)

theorem State.withNextBlock_moves {s : State} {x : Nat} : Moves [.nextBlock] s (State.withNextBlock s x) := by
  unfold State.withNextBlock
  repeat' first
    | dsimp only
    | ((with_reducible refine Moves.update ?h ?e); case e => exact fun p hp => by cases p <;> first | exact absurd (by decide) hp | rfl)
    | (with_reducible exact Moves.refl)

theorem State.withPtpPending_moves {s : State} {x : List PtpPending} : Moves [.ptpPending] s (State.withPtpPending s x) := by
  unfold State.withPtpPending
  repeat' first
    | dsimp only
    | ((with_reducible refine Moves.update ?h ?e); case e => exact fun p hp => by cases p <;> first | exact absurd (by decide) hp | rfl)
    | (with_reducible exact Moves.refl)

theorem State.withSpeedAt_moves {s : State} {x : Option Nat} : Moves [.speedAt] s (State.withSpeedAt s x) := by
  unfold State.withSpeedAt
  repeat' first
    | dsimp only
    | ((with_reducible refine Moves.update ?h ?e); case e => exact fun p hp => by cases p <;> first | exact absurd (by decide) hp | rfl)
    | (with_reducible exact Moves.refl)

theorem State.withSafety_moves {s : State} {x : Safety} : Moves [.safety] s (State.withSafety s x) := by
  unfold State.withSafety
  repeat' first
    | dsimp only
    | ((with_reducible refine Moves.update ?h ?e); case e => exact fun p hp => by cases p <;> first | exact absurd (by decide) hp | rfl)
    | (with_reducible exact Moves.refl)

theorem State.withMailboxes_moves {s : State} {x : Tbl Mailbox} : Moves [.mailboxes] s (State.withMailboxes s x) := by
  unfold State.withMailboxes
  repeat' first
    | dsimp only
    | ((with_reducible refine Moves.update ?h ?e); case e => exact fun p hp => by cases p <;> first | exact absurd (by decide) hp | rfl)
    | (with_reducible exact Moves.refl)

theorem State.withMirrorQueue_moves {s : State} {x : List Nat} : Moves [.mirrorQueue] s (State.withMirrorQueue s x) := by
  unfold State.withMirrorQueue
  repeat' first
    | dsimp only
    | ((with_reducible refine Moves.update ?h ?e); case e => exact fun p hp => by cases p <;> first | exact absurd (by decide) hp | rfl)
    | (with_reducible exact Moves.refl)

theorem State.withBusMaster_moves {s : State} {x : Bool} : Moves [.busMaster] s (State.withBusMaster s x) := by
  unfold State.withBusMaster
  repeat' first
    | dsimp only
    | ((with_reducible refine Moves.update ?h ?e); case e => exact fun p hp => by cases p <;> first | exact absurd (by decide) hp | rfl)
    | (with_reducible exact Moves.refl)

theorem State.withD3hot_moves {s : State} {x : Bool} : Moves [.d3hot] s (State.withD3hot s x) := by
  unfold State.withD3hot
  repeat' first
    | dsimp only
    | ((with_reducible refine Moves.update ?h ?e); case e => exact fun p hp => by cases p <;> first | exact absurd (by decide) hp | rfl)
    | (with_reducible exact Moves.refl)

theorem State.withMsixTable_moves {s : State} {x : Tbl Nat} : Moves [.msixTable] s (State.withMsixTable s x) := by
  unfold State.withMsixTable
  repeat' first
    | dsimp only
    | ((with_reducible refine Moves.update ?h ?e); case e => exact fun p hp => by cases p <;> first | exact absurd (by decide) hp | rfl)
    | (with_reducible exact Moves.refl)

theorem State.withDiscovery_moves {s : State} {x : Discovery} : Moves [.discovery] s (State.withDiscovery s x) := by
  unfold State.withDiscovery
  repeat' first
    | dsimp only
    | ((with_reducible refine Moves.update ?h ?e); case e => exact fun p hp => by cases p <;> first | exact absurd (by decide) hp | rfl)
    | (with_reducible exact Moves.refl)

theorem State.withDbg_moves {s : State} {x : Debug} : Moves [.dbg] s (State.withDbg s x) := by
  unfold State.withDbg
  repeat' first
    | dsimp only
    | ((with_reducible refine Moves.update ?h ?e); case e => exact fun p hp => by cases p <;> first | exact absurd (by decide) hp | rfl)
    | (with_reducible exact Moves.refl)

theorem State.withFreeUsed_moves {s : State} {x : Nat} : Moves [.freeUsed] s (State.withFreeUsed s x) := by
  unfold State.withFreeUsed
  repeat' first
    | dsimp only
    | ((with_reducible refine Moves.update ?h ?e); case e => exact fun p hp => by cases p <;> first | exact absurd (by decide) hp | rfl)
    | (with_reducible exact Moves.refl)

theorem State.wr_moves {s : State} {a : Nat} {bs : List Byte} : Moves [.mem] s (s.wr a bs) := by
  refine ⟨fun p hp => by cases p <;> first | rfl | exact absurd (by decide) hp, fun hi => ⟨?_, hi.nanos, hi.syncs⟩⟩
  exact wrBytes_wf _ _ _ hi.memory

theorem State.recode_moves {s : State} {cws : List Nat} : Moves [.mem, .flips] s (s.recode cws) := by
  refine ⟨fun p hp => by cases p <;> first | rfl | exact absurd (by decide) hp, fun hi => ⟨?_, hi.nanos, hi.syncs⟩⟩
  have : ∀ (l : List Nat) (m : List Host.Cell), Memory.wf m →
      Memory.wf (l.foldl (fun m cw => wrBytes m (16 * cw) (s.rd (16 * cw) 16)) m) := by
    intro l
    induction l with
    | nil => exact fun _ h => h
    | cons c r ih => exact fun m h => ih _ (wrBytes_wf _ _ _ h)
  exact this cws s.mem hi.memory

theorem State.heal_moves {s : State} {a n : Nat} : Moves [.mem, .flips] s (State.heal s a n) := by
  unfold State.heal
  repeat' first
    | dsimp only | intro _ _ | ((with_reducible apply Moves.after State.recode_moves ?_ ?_); rfl) | split
    | (with_reducible exact Moves.refl)

theorem State.put_moves {s : State} {a : Nat} {bs : List Byte} : Moves [.mem, .flips] s (State.put s a bs) := by
  unfold State.put
  repeat' first
    | dsimp only | intro _ _ | ((with_reducible apply Moves.after State.recode_moves ?_ ?_); rfl)
    | ((with_reducible apply Moves.after State.wr_moves ?_ ?_); rfl) | split | (with_reducible exact Moves.refl)

theorem State.setSkein_moves {s : State} {g : Nat} {k : Skein} : Moves [.skeins] s (State.setSkein s g k) := by
  unfold State.setSkein
  repeat' first
    | dsimp only
    | ((with_reducible refine Moves.update ?h ?e); case e => exact fun p hp => by cases p <;> first | exact absurd (by decide) hp | rfl)
    | (with_reducible exact Moves.refl)

theorem State.modSkein_moves {s : State} {g : Nat} {f : Skein → Skein} : Moves [.skeins] s (State.modSkein s g f) := by
  unfold State.modSkein
  repeat' first
    | dsimp only | ((with_reducible apply Moves.after State.setSkein_moves ?_ ?_); rfl)
    | (with_reducible exact Moves.refl)

theorem State.setSpindle_moves {s : State} {u : Nat} {k : Spindle} : Moves [.spindles] s (State.setSpindle s u k) := by
  unfold State.setSpindle
  repeat' first
    | dsimp only
    | ((with_reducible refine Moves.update ?h ?e); case e => exact fun p hp => by cases p <;> first | exact absurd (by decide) hp | rfl)
    | (with_reducible exact Moves.refl)

theorem State.modSpindle_moves {s : State} {u : Nat} {f : Spindle → Spindle} : Moves [.spindles] s (State.modSpindle s u f) := by
  unfold State.modSpindle
  repeat' first
    | dsimp only | ((with_reducible apply Moves.after State.setSpindle_moves ?_ ?_); rfl)
    | (with_reducible exact Moves.refl)

theorem State.setCaldera_moves {s : State} {c : Nat} {k : Caldera} : Moves [.calderas] s (State.setCaldera s c k) := by
  unfold State.setCaldera
  repeat' first
    | dsimp only
    | ((with_reducible refine Moves.update ?h ?e); case e => exact fun p hp => by cases p <;> first | exact absurd (by decide) hp | rfl)
    | (with_reducible exact Moves.refl)

theorem State.modCaldera_moves {s : State} {c : Nat} {f : Caldera → Caldera} : Moves [.calderas] s (State.modCaldera s c f) := by
  unfold State.modCaldera
  repeat' first
    | dsimp only | ((with_reducible apply Moves.after State.setCaldera_moves ?_ ?_); rfl)
    | (with_reducible exact Moves.refl)

theorem State.setQueue_moves {s : State} {q : Nat} {k : Queue} : Moves [.queues] s (State.setQueue s q k) := by
  unfold State.setQueue
  repeat' first
    | dsimp only
    | ((with_reducible refine Moves.update ?h ?e); case e => exact fun p hp => by cases p <;> first | exact absurd (by decide) hp | rfl)
    | (with_reducible exact Moves.refl)

theorem State.modQueue_moves {s : State} {q : Nat} {f : Queue → Queue} : Moves [.queues] s (State.modQueue s q f) := by
  unfold State.modQueue
  repeat' first
    | dsimp only | ((with_reducible apply Moves.after State.setQueue_moves ?_ ?_); rfl)
    | (with_reducible exact Moves.refl)

theorem State.setChannel_moves {s : State} {q : Nat} {k : Channel} : Moves [.channels] s (State.setChannel s q k) := by
  unfold State.setChannel
  repeat' first
    | dsimp only
    | ((with_reducible refine Moves.update ?h ?e); case e => exact fun p hp => by cases p <;> first | exact absurd (by decide) hp | rfl)
    | (with_reducible exact Moves.refl)

theorem State.modChannel_moves {s : State} {q : Nat} {f : Channel → Channel} : Moves [.channels] s (State.modChannel s q f) := by
  unfold State.modChannel
  repeat' first
    | dsimp only | ((with_reducible apply Moves.after State.setChannel_moves ?_ ?_); rfl)
    | (with_reducible exact Moves.refl)

theorem State.setPlan_moves {s : State} {p : Nat} {k : Plan} : Moves [.plans] s (State.setPlan s p k) := by
  unfold State.setPlan
  repeat' first
    | dsimp only
    | ((with_reducible refine Moves.update ?h ?e); case e => exact fun p hp => by cases p <;> first | exact absurd (by decide) hp | rfl)
    | (with_reducible exact Moves.refl)

theorem State.modPlan_moves {s : State} {p : Nat} {f : Plan → Plan} : Moves [.plans] s (State.modPlan s p f) := by
  unfold State.modPlan
  repeat' first
    | dsimp only | ((with_reducible apply Moves.after State.setPlan_moves ?_ ?_); rfl)
    | (with_reducible exact Moves.refl)

theorem State.setCamera_moves {s : State} {n : Nat} {k : Camera} : Moves [.cameras] s (State.setCamera s n k) := by
  unfold State.setCamera
  repeat' first
    | dsimp only
    | ((with_reducible refine Moves.update ?h ?e); case e => exact fun p hp => by cases p <;> first | exact absurd (by decide) hp | rfl)
    | (with_reducible exact Moves.refl)

theorem State.modCamera_moves {s : State} {n : Nat} {f : Camera → Camera} : Moves [.cameras] s (State.modCamera s n f) := by
  unfold State.modCamera
  repeat' first
    | dsimp only | ((with_reducible apply Moves.after State.setCamera_moves ?_ ?_); rfl)
    | (with_reducible exact Moves.refl)

theorem State.setDecoder_moves {s : State} {d : Nat} {k : Decoder} : Moves [.decoders] s (State.setDecoder s d k) := by
  unfold State.setDecoder
  repeat' first
    | dsimp only
    | ((with_reducible refine Moves.update ?h ?e); case e => exact fun p hp => by cases p <;> first | exact absurd (by decide) hp | rfl)
    | (with_reducible exact Moves.refl)

theorem State.modDecoder_moves {s : State} {d : Nat} {f : Decoder → Decoder} : Moves [.decoders] s (State.modDecoder s d f) := by
  unfold State.modDecoder
  repeat' first
    | dsimp only | ((with_reducible apply Moves.after State.setDecoder_moves ?_ ?_); rfl)
    | (with_reducible exact Moves.refl)

theorem State.setLaunch_moves {s : State} {l : Nat} {k : LaunchQ} : Moves [.launches] s (State.setLaunch s l k) := by
  unfold State.setLaunch
  repeat' first
    | dsimp only
    | ((with_reducible refine Moves.update ?h ?e); case e => exact fun p hp => by cases p <;> first | exact absurd (by decide) hp | rfl)
    | (with_reducible exact Moves.refl)

theorem State.modLaunch_moves {s : State} {l : Nat} {f : LaunchQ → LaunchQ} : Moves [.launches] s (State.modLaunch s l f) := by
  unfold State.modLaunch
  repeat' first
    | dsimp only | ((with_reducible apply Moves.after State.setLaunch_moves ?_ ?_); rfl)
    | (with_reducible exact Moves.refl)

theorem State.setMailbox_moves {s : State} {i : Nat} {k : Mailbox} : Moves [.mailboxes] s (State.setMailbox s i k) := by
  unfold State.setMailbox
  repeat' first
    | dsimp only
    | ((with_reducible refine Moves.update ?h ?e); case e => exact fun p hp => by cases p <;> first | exact absurd (by decide) hp | rfl)
    | (with_reducible exact Moves.refl)

theorem State.setCan_moves {s : State} {c : Nat} {k : Can} : Moves [.cans] s (State.setCan s c k) := by
  unfold State.setCan
  repeat' first
    | dsimp only
    | ((with_reducible refine Moves.update ?h ?e); case e => exact fun p hp => by cases p <;> first | exact absurd (by decide) hp | rfl)
    | (with_reducible exact Moves.refl)

theorem State.modCan_moves {s : State} {c : Nat} {f : Can → Can} : Moves [.cans] s (State.modCan s c f) := by
  unfold State.modCan
  repeat' first
    | dsimp only | ((with_reducible apply Moves.after State.setCan_moves ?_ ?_); rfl)
    | (with_reducible exact Moves.refl)

theorem State.setLink_moves {s : State} {l : Nat} {k : Link} : Moves [.links] s (State.setLink s l k) := by
  unfold State.setLink
  repeat' first
    | dsimp only
    | ((with_reducible refine Moves.update ?h ?e); case e => exact fun p hp => by cases p <;> first | exact absurd (by decide) hp | rfl)
    | (with_reducible exact Moves.refl)

theorem State.modLink_moves {s : State} {l : Nat} {f : Link → Link} : Moves [.links] s (State.modLink s l f) := by
  unfold State.modLink
  repeat' first
    | dsimp only | ((with_reducible apply Moves.after State.setLink_moves ?_ ?_); rfl)
    | (with_reducible exact Moves.refl)

theorem State.setSync_moves {s : State} {n v : Nat} : Moves [.syncs] s (s.setSync n v) := by
  refine ⟨fun p hp => by cases p <;> first | rfl | exact absurd (by decide) hp, fun hi => ⟨hi.memory, hi.nanos, fun m => ?_⟩⟩
  by_cases h : m = n
  · rw [h, State.sync_setSync]; exact Nat.mod_lt _ (by decide)
  · rw [State.sync_setSync_ne s v h]; exact hi.syncs m

theorem State.setPart_moves {s : State} {p : Nat} {k : PartSafety} : Moves [.safety] s (State.setPart s p k) := by
  unfold State.setPart
  repeat' first
    | dsimp only
    | ((with_reducible refine Moves.update ?h ?e); case e => exact fun p hp => by cases p <;> first | exact absurd (by decide) hp | rfl)
    | (with_reducible exact Moves.refl)

theorem State.modPart_moves {s : State} {p : Nat} {f : PartSafety → PartSafety} : Moves [.safety] s (State.modPart s p f) := by
  unfold State.modPart
  repeat' first
    | dsimp only | ((with_reducible apply Moves.after State.setPart_moves ?_ ?_); rfl)
    | (with_reducible exact Moves.refl)

theorem State.setPair_moves {s : State} {k : Nat} {x : Pair} : Moves [.safety] s (State.setPair s k x) := by
  unfold State.setPair
  repeat' first
    | dsimp only
    | ((with_reducible refine Moves.update ?h ?e); case e => exact fun p hp => by cases p <;> first | exact absurd (by decide) hp | rfl)
    | (with_reducible exact Moves.refl)

theorem State.modDebug_moves {s : State} {f : Debug → Debug} : Moves [.dbg] s (State.modDebug s f) := by
  unfold State.modDebug
  repeat' first
    | dsimp only
    | ((with_reducible refine Moves.update ?h ?e); case e => exact fun p hp => by cases p <;> first | exact absurd (by decide) hp | rfl)
    | (with_reducible exact Moves.refl)

theorem State.modSafety_moves {s : State} {f : Safety → Safety} : Moves [.safety] s (State.modSafety s f) := by
  unfold State.modSafety
  repeat' first
    | dsimp only
    | ((with_reducible refine Moves.update ?h ?e); case e => exact fun p hp => by cases p <;> first | exact absurd (by decide) hp | rfl)
    | (with_reducible exact Moves.refl)

theorem State.modBoot_moves {s : State} {f : Boot → Boot} : Moves [.boot] s (State.modBoot s f) := by
  unfold State.modBoot
  repeat' first
    | dsimp only
    | ((with_reducible refine Moves.update ?h ?e); case e => exact fun p hp => by cases p <;> first | exact absurd (by decide) hp | rfl)
    | (with_reducible exact Moves.refl)

/-- An update of the timebase that keeps NANOSECONDS in range. -/
theorem State.modTime_moves {s : State} {f : Timebase → Timebase} (hf : s.time.nanos < 1000000000 → (f s.time).nanos < 1000000000) :
    Moves [.time] s (s.modTime f) :=
  ⟨fun p hp => by cases p <;> first | rfl | exact absurd (by decide) hp, fun hi => ⟨hi.memory, hf hi.nanos, hi.syncs⟩⟩

theorem State.emit_moves {s : State} {o : Out} : Moves [.out] s (State.emit s o) := by
  unfold State.emit
  repeat' first
    | dsimp only
    | ((with_reducible refine Moves.update ?h ?e); case e => exact fun p hp => by cases p <;> first | exact absurd (by decide) hp | rfl)
    | (with_reducible exact Moves.refl)

theorem State.free_moves {s : State} : Moves [.freeUsed] s s.free.2 :=
  Moves.of_same (fun p hp => by cases p <;> first | rfl | exact absurd (by decide) hp) rfl rfl rfl

end Sys2Proof.Machine
end

