-- ==== Sys2Proof/Laws/DictionaryMoves.lean ====
section
/-! SUPPORT. Laws: what each operation of Machine/Dictionary.lean changes at most, and that it keeps the invariant. -/
open Sys2Proof.Safety

namespace Sys2Proof.Machine

theorem State.setReg_moves {s : State} {ix sub v : Nat} : Moves [.dict] s (State.setReg s ix sub v) := by
  unfold State.setReg
  repeat' first
   
    | ((with_reducible refine Moves.update ?h ?e); case e => exact fun p hp => by cases p <;> first | exact absurd (by decide) hp | rfl)
    | dsimp only | (with_reducible exact Moves.refl)

theorem State.bumpBy_moves {s : State} {ix sub n : Nat} : Moves [.dict] s (State.bumpBy s ix sub n) := by
  unfold State.bumpBy
  repeat' first
    | ((with_reducible refine Moves.after State.setReg_moves ?_ ?_); rfl) | dsimp only
    | (with_reducible exact Moves.refl)

theorem State.bump_moves {s : State} {ix sub : Nat} : Moves [.dict] s (State.bump s ix sub) := by
  unfold State.bump
  repeat' first
    | ((with_reducible refine Moves.after State.bumpBy_moves ?_ ?_); rfl) | dsimp only
    | (with_reducible exact Moves.refl)

theorem State.bumpSatBy_moves {s : State} {ix sub n : Nat} : Moves [.dict] s (State.bumpSatBy s ix sub n) := by
  unfold State.bumpSatBy
  repeat' first
    | ((with_reducible refine Moves.after State.setReg_moves ?_ ?_); rfl) | dsimp only
    | (with_reducible exact Moves.refl)

theorem State.bumpSat_moves {s : State} {ix sub : Nat} : Moves [.dict] s (State.bumpSat s ix sub) := by
  unfold State.bumpSat
  repeat' first
    | ((with_reducible refine Moves.after State.bumpSatBy_moves ?_ ?_); rfl) | dsimp only
    | (with_reducible exact Moves.refl)

theorem State.maxReg_moves {s : State} {ix sub v : Nat} : Moves [.dict] s (State.maxReg s ix sub v) := by
  unfold State.maxReg
  repeat' first
    | ((with_reducible refine Moves.after State.setReg_moves ?_ ?_); rfl) | split | dsimp only
    | (with_reducible exact Moves.refl)

theorem State.setAcc_moves {s : State} {ix sub v : Nat} : Moves [.accepted] s (State.setAcc s ix sub v) := by
  unfold State.setAcc
  repeat' first
   
    | ((with_reducible refine Moves.update ?h ?e); case e => exact fun p hp => by cases p <;> first | exact absurd (by decide) hp | rfl)
    | dsimp only | (with_reducible exact Moves.refl)

end Sys2Proof.Machine
end

