-- ==== Sys2Proof/Laws/MemoryMoves.lean ====
section
/-! SUPPORT. Laws: what each operation of Machine/Memory.lean changes at most, and that it keeps the invariant. -/
open Sys2Proof.Safety

namespace Sys2Proof.Machine

theorem State.lateRefusal_moves {s : State} {pa : Nat} : Moves [.dict] s (State.lateRefusal s pa) := by
  unfold State.lateRefusal
  repeat' first
    | dsimp only | ((with_reducible apply Moves.after State.bumpSat_moves ?_ ?_); rfl)
    | ((with_reducible apply Moves.after State.setReg_moves ?_ ?_); rfl) | split | (with_reducible exact Moves.refl)

theorem State.invalidate_moves {s : State} {pa n : Nat} : Moves [.dict, .calderas] s (State.invalidate s pa n) := by
  unfold State.invalidate
  repeat' first
    | dsimp only | intro _ _ | with_reducible refine Moves.forEach ?_ ?_
    | ((with_reducible apply Moves.after State.bumpSatBy_moves ?_ ?_); rfl)
    | ((with_reducible apply Moves.after State.setCaldera_moves ?_ ?_); rfl) | split
    | (with_reducible exact Moves.refl)

theorem State.writePkg_moves {s : State} {pa : Nat} {bs : List Byte} : Moves [.dict, .mem, .flips, .calderas, .scrubPending] s (State.writePkg s pa bs) := by
  unfold State.writePkg
  repeat' first
    | dsimp only | ((with_reducible apply Moves.after State.invalidate_moves ?_ ?_); rfl)
    | ((with_reducible apply Moves.after State.put_moves ?_ ?_); rfl)
    | ((with_reducible apply Moves.after State.withScrubPending_moves ?_ ?_); rfl) | split
    | (with_reducible exact Moves.refl)

theorem State.writeUnit_moves {s : State} {pa : Nat} {bs : List (Option Byte)} : Moves [.dict, .mem, .flips, .calderas, .scrubPending] s (State.writeUnit s pa bs) := by
  unfold State.writeUnit
  repeat' first
    | dsimp only | intro _ _ | ((with_reducible apply Moves.after State.writePkg_moves ?_ ?_); rfl)
    | (with_reducible exact Moves.refl)

theorem State.queueWrite_moves {s : State} {part pa : Nat} {bs : List (Option Byte)} {owner : Option (Nat × Nat)} {page : Nat × Nat} {fromHost : Bool} : Moves [.channels] s (State.queueWrite s part pa bs owner page fromHost) := by
  unfold State.queueWrite
  repeat' first
    | dsimp only | intro _ _ | ((with_reducible apply Moves.after State.modChannel_moves ?_ ?_); rfl) | split
    | (with_reducible exact Moves.refl)

theorem State.codeEvent_moves {s : State} {pa : Nat} {symbol : Option Nat} {scrub : Bool} : Moves [.dict] s (State.codeEvent s pa symbol scrub) := by
  unfold State.codeEvent
  repeat' first
    | dsimp only | ((with_reducible apply Moves.after State.bumpSat_moves ?_ ?_); rfl)
    | ((with_reducible apply Moves.after State.setReg_moves ?_ ?_); rfl) | split | (with_reducible exact Moves.refl)

theorem State.noteRead_moves {s : State} {pa n : Nat} {scrub : Bool} : Moves [.dict] s (State.noteRead s pa n scrub) := by
  unfold State.noteRead
  repeat' first
    | dsimp only | intro _ _ | with_reducible refine Moves.foldl ?_ ?_ | with_reducible refine MovesFst.foldl ?_ ?_
    | ((with_reducible apply Moves.after State.codeEvent_moves ?_ ?_); rfl) | split
    | (with_reducible exact Moves.refl)

theorem State.hostWrite_moves {s : State} {bus : Nat} {bs : List Byte} : Moves [.dict, .hostMem] s (State.hostWrite s bus bs) := by
  unfold State.hostWrite
  repeat' first
    | dsimp only | ((with_reducible apply Moves.after State.bumpBy_moves ?_ ?_); rfl)
    | ((with_reducible apply Moves.after State.withHostMem_moves ?_ ?_); rfl) | (with_reducible exact Moves.refl)

theorem State.readEvents_moves {s : State} {held : List (Nat × Nat)} {da n : Nat} : Moves [.dict, .mem, .flips] s (State.readEvents s held da n) := by
  unfold State.readEvents
  repeat' first
    | dsimp only | intro _ _ | with_reducible refine Moves.foldl ?_ ?_ | with_reducible refine MovesFst.foldl ?_ ?_
    | ((with_reducible apply Moves.after State.bumpBy_moves ?_ ?_); rfl)
    | ((with_reducible apply Moves.after State.bumpSatBy_moves ?_ ?_); rfl)
    | ((with_reducible apply Moves.after State.heal_moves ?_ ?_); rfl)
    | ((with_reducible apply Moves.after State.lateRefusal_moves ?_ ?_); rfl)
    | ((with_reducible apply Moves.after State.noteRead_moves ?_ ?_); rfl) | split | (with_reducible exact Moves.refl)

theorem State.writePiece_moves {s : State} {p : Place} {bs : List Byte} : MovesFst [.dict, .mem, .flips, .hostMem, .calderas, .scrubPending] s (State.writePiece s p bs) := by
  unfold State.writePiece
  repeat' first
    | dsimp only | ((with_reducible apply Moves.after State.hostWrite_moves ?_ ?_); rfl)
    | ((with_reducible apply Moves.after State.lateRefusal_moves ?_ ?_); rfl)
    | ((with_reducible apply Moves.after State.put_moves ?_ ?_); rfl)
    | ((with_reducible apply Moves.after State.writePkg_moves ?_ ?_); rfl) | split
    | (with_reducible exact Moves.refl)

theorem State.writeDev_moves {s : State} {held : List (Nat × Nat)} {da : Nat} {bs : List Byte} : MovesFst [.dict, .mem, .flips, .hostMem, .calderas, .scrubPending] s (State.writeDev s held da bs) := by
  unfold State.writeDev
  repeat' first
    | dsimp only | intro _ _ | with_reducible refine Moves.foldl ?_ ?_ | with_reducible refine MovesFst.foldl ?_ ?_
    | ((with_reducible apply Moves.after State.writePiece_moves ?_ ?_); rfl) | split
    | (with_reducible exact Moves.refl)

end Sys2Proof.Machine
end

