-- ==== Sys2Proof/Laws/AlarmMoves.lean ====
section
/-! SUPPORT. Laws: what each operation of Machine/Alarm.lean changes at most, and that it keeps the invariant. -/
open Sys2Proof.Safety

namespace Sys2Proof.Machine

theorem State.count_moves {s : State} {ev unit n : Nat} : Moves [.dict] s (State.count s ev unit n) := by
  unfold State.count
  repeat' first
    | dsimp only | intro _ _ | with_reducible refine Moves.forEach ?_ ?_
    | ((with_reducible apply Moves.after State.bumpBy_moves ?_ ?_); rfl) | split | (with_reducible exact Moves.refl)

theorem State.opStart_moves {s : State} {k total : Nat} : Moves [.dict] s (State.opStart s k total) := by
  unfold State.opStart
  repeat' first
    | dsimp only | ((with_reducible apply Moves.after State.bump_moves ?_ ?_); rfl)
    | ((with_reducible apply Moves.after State.setReg_moves ?_ ?_); rfl) | (with_reducible exact Moves.refl)

theorem State.opEnd_moves {s : State} {k result : Nat} : Moves [.dict] s (State.opEnd s k result) := by
  unfold State.opEnd
  repeat' first
    | dsimp only | ((with_reducible apply Moves.after State.setReg_moves ?_ ?_); rfl) | split
    | (with_reducible exact Moves.refl)

theorem State.traceRaw_moves {s : State} {reserved : Bool} {pkt : List Byte} : Moves [.dict, .dbg] s (State.traceRaw s reserved pkt) := by
  unfold State.traceRaw
  repeat' first
    | dsimp only | ((with_reducible apply Moves.after State.bumpSat_moves ?_ ?_); rfl)
    | ((with_reducible apply Moves.after State.maxReg_moves ?_ ?_); rfl)
    | ((with_reducible apply Moves.after State.withDbg_moves ?_ ?_); rfl) | split
    | (with_reducible exact Moves.refl)

theorem State.trace_moves {s : State} {b type src data16 data64 : Nat} : Moves [.dict, .dbg] s (State.trace s b type src data16 data64) := by
  unfold State.trace
  repeat' first
    | dsimp only | ((with_reducible apply Moves.after State.traceRaw_moves ?_ ?_); rfl) | split
    | (with_reducible exact Moves.refl)

theorem State.traceSkein_moves {s : State} {b type g data16 data64 : Nat} : Moves [.dict, .dbg] s (State.traceSkein s b type g data16 data64) := by
  unfold State.traceSkein
  repeat' first
    | dsimp only | ((with_reducible apply Moves.after State.traceRaw_moves ?_ ?_); rfl) | split
    | (with_reducible exact Moves.refl)

theorem State.traceStop_moves {s : State} {c data16 : Nat} : Moves [.dict, .dbg] s (State.traceStop s c data16) := by
  unfold State.traceStop
  repeat' first
    | dsimp only | ((with_reducible apply Moves.after State.traceRaw_moves ?_ ?_); rfl) | split
    | (with_reducible exact Moves.refl)

theorem State.msix_moves {s : State} {v : Nat} : Moves [.dict, .out] s (State.msix s v) := by
  unfold State.msix
  repeat' first
    | dsimp only | ((with_reducible apply Moves.after State.bumpBy_moves ?_ ?_); rfl)
    | ((with_reducible apply Moves.after State.emit_moves ?_ ?_); rfl) | split | (with_reducible exact Moves.refl)

theorem State.setStreamState_moves {s : State} {g st : Nat} : Moves [.dict, .dbg] s (State.setStreamState s g st) := by
  unfold State.setStreamState
  repeat' first
    | dsimp only | ((with_reducible apply Moves.after State.setReg_moves ?_ ?_); rfl)
    | ((with_reducible apply Moves.after State.traceSkein_moves ?_ ?_); rfl) | (with_reducible exact Moves.refl)

theorem State.syncTag_moves {s : State} {g : Nat} : Moves [.dict] s (State.syncTag s g) := by
  unfold State.syncTag
  repeat' first
    | dsimp only | ((with_reducible apply Moves.after State.setReg_moves ?_ ?_); rfl) | split
    | (with_reducible exact Moves.refl)

theorem State.wakeSkein_moves {s : State} {g : Nat} : Moves [.dict, .skeins, .dbg] s (State.wakeSkein s g) := by
  unfold State.wakeSkein
  repeat' first
    | dsimp only | intro _ _ | ((with_reducible apply Moves.after State.modSkein_moves ?_ ?_); rfl)
    | ((with_reducible apply Moves.after State.setReg_moves ?_ ?_); rfl)
    | ((with_reducible apply Moves.after State.setStreamState_moves ?_ ?_); rfl)
    | ((with_reducible apply Moves.after State.syncTag_moves ?_ ?_); rfl) | split | (with_reducible exact Moves.refl)

theorem State.wakeAll_moves {s : State} : Moves [.dict, .skeins, .dbg] s (State.wakeAll s) := by
  unfold State.wakeAll
  repeat' first
    | dsimp only | intro _ _ | with_reducible refine Moves.forEach ?_ ?_
    | ((with_reducible apply Moves.after State.wakeSkein_moves ?_ ?_); rfl) | (with_reducible exact Moves.refl)

theorem State.crossWake_moves {s : State} {g : Nat} : Moves [.calderas] s (State.crossWake s g) := by
  unfold State.crossWake
  repeat' first
    | dsimp only | intro _ _ | ((with_reducible apply Moves.after State.modCaldera_moves ?_ ?_); rfl) | split
    | (with_reducible exact Moves.refl)

theorem State.crossAll_moves {s : State} : Moves [.calderas] s (State.crossAll s) := by
  unfold State.crossAll
  repeat' first
    | dsimp only | intro _ _ | with_reducible refine Moves.forEach ?_ ?_
    | ((with_reducible apply Moves.after State.crossWake_moves ?_ ?_); rfl) | split
    | (with_reducible exact Moves.refl)

theorem State.syncAdd_moves {s : State} {n v : Nat} : Moves [.dict, .syncs, .skeins, .dbg] s (State.syncAdd s n v) := by
  unfold State.syncAdd
  repeat' first
    | dsimp only | ((with_reducible apply Moves.after State.count_moves ?_ ?_); rfl)
    | ((with_reducible apply Moves.after State.setSync_moves ?_ ?_); rfl)
    | ((with_reducible apply Moves.after State.wakeAll_moves ?_ ?_); rfl) | (with_reducible exact Moves.refl)

theorem State.syncSet_moves {s : State} {n v : Nat} : Moves [.dict, .syncs, .skeins, .dbg] s (State.syncSet s n v) := by
  unfold State.syncSet
  repeat' first
    | dsimp only | ((with_reducible apply Moves.after State.count_moves ?_ ?_); rfl)
    | ((with_reducible apply Moves.after State.setSync_moves ?_ ?_); rfl)
    | ((with_reducible apply Moves.after State.wakeAll_moves ?_ ?_); rfl) | (with_reducible exact Moves.refl)

theorem State.outerAdd_moves {s : State} {n v : Nat} : Moves [.dict, .syncs, .calderas] s (State.outerAdd s n v) := by
  unfold State.outerAdd
  repeat' first
    | dsimp only | ((with_reducible apply Moves.after State.count_moves ?_ ?_); rfl)
    | ((with_reducible apply Moves.after State.crossAll_moves ?_ ?_); rfl)
    | ((with_reducible apply Moves.after State.setSync_moves ?_ ?_); rfl) | split | (with_reducible exact Moves.refl)

theorem State.outerSet_moves {s : State} {n v : Nat} : Moves [.dict, .syncs, .calderas] s (State.outerSet s n v) := by
  unfold State.outerSet
  repeat' first
    | dsimp only | ((with_reducible apply Moves.after State.count_moves ?_ ?_); rfl)
    | ((with_reducible apply Moves.after State.crossAll_moves ?_ ?_); rfl)
    | ((with_reducible apply Moves.after State.setSync_moves ?_ ?_); rfl) | split | (with_reducible exact Moves.refl)

theorem State.ringWrite_moves {s : State} {k : Queue} {t : Nat} {l0 : List (List Byte)} : Moves [.dict, .mem, .flips, .hostMem, .calderas, .scrubPending] s (State.ringWrite s k t l0) := by
  induction l0 generalizing s t
  case nil => exact Moves.refl
  case cons _ _ ih =>
    unfold State.ringWrite
    repeat' first
      | ((with_reducible refine Moves.after ih ?_ ?_); rfl) | dsimp only
      | ((with_reducible apply Moves.after State.writePiece_moves ?_ ?_); rfl) | split
      | (with_reducible exact Moves.refl)

theorem State.sendArmed_moves {s : State} {q : Nat} : Moves [.dict, .queues, .out] s (State.sendArmed s q) := by
  unfold State.sendArmed
  repeat' first
    | dsimp only | ((with_reducible apply Moves.after State.msix_moves ?_ ?_); rfl)
    | ((with_reducible apply Moves.after State.setQueue_moves ?_ ?_); rfl) | split
    | (with_reducible exact Moves.refl)

theorem State.queuePut_moves {s : State} {who : Option Nat} {q : Nat} {entries : List (List Byte)} : MovesFst [.dict, .mem, .flips, .hostMem, .queues, .calderas, .scrubPending, .out] s (State.queuePut s who q entries) := by
  unfold State.queuePut
  repeat' first
    | dsimp only | ((with_reducible apply Moves.after State.count_moves ?_ ?_); rfl)
    | ((with_reducible apply Moves.after State.ringWrite_moves ?_ ?_); rfl)
    | ((with_reducible apply Moves.after State.sendArmed_moves ?_ ?_); rfl)
    | ((with_reducible apply Moves.after State.setQueue_moves ?_ ?_); rfl) | split | (with_reducible exact Moves.refl)

theorem State.queuePush_moves {s : State} {p q : Nat} {entries : List (List Byte)} : MovesFst [.dict, .mem, .flips, .hostMem, .queues, .skeins, .calderas, .scrubPending, .dbg, .out] s (State.queuePush s p q entries) := by
  unfold State.queuePush
  repeat' first
    | dsimp only | ((with_reducible apply Moves.after State.queuePut_moves ?_ ?_); rfl)
    | ((with_reducible apply Moves.after State.wakeAll_moves ?_ ?_); rfl) | split | (with_reducible exact Moves.refl)

theorem State.outerPush_moves {s : State} {q : Nat} {entries : List (List Byte)} : MovesFst [.dict, .mem, .flips, .hostMem, .queues, .calderas, .scrubPending, .out] s (State.outerPush s q entries) := by
  unfold State.outerPush
  repeat' first
    | dsimp only | ((with_reducible apply Moves.after State.crossAll_moves ?_ ?_); rfl)
    | ((with_reducible apply Moves.after State.queuePut_moves ?_ ?_); rfl) | split | (with_reducible exact Moves.refl)

theorem State.queueDrop_moves {s : State} {q n : Nat} : Moves [.dict, .queues] s (State.queueDrop s q n) := by
  unfold State.queueDrop
  repeat' first
    | dsimp only | ((with_reducible apply Moves.after State.count_moves ?_ ?_); rfl)
    | ((with_reducible apply Moves.after State.setQueue_moves ?_ ?_); rfl) | (with_reducible exact Moves.refl)

theorem State.pushNamed_moves {s : State} {q : Nat} {consumer part : Option Nat} {e : List Byte} {dropIx dropSub : Nat} : Moves [.dict, .mem, .flips, .hostMem, .queues, .calderas, .scrubPending, .out] s (State.pushNamed s q consumer part e dropIx dropSub) := by
  unfold State.pushNamed
  repeat' first
    | dsimp only | ((with_reducible apply Moves.after State.bumpSat_moves ?_ ?_); rfl)
    | ((with_reducible apply Moves.after State.outerPush_moves ?_ ?_); rfl) | split
    | (with_reducible exact Moves.refl)

theorem State.errorList_moves {s : State} {v : Nat} : Moves [.dict] s (State.errorList s v) := by
  unfold State.errorList
  repeat' first
    | dsimp only | intro _ _ | with_reducible refine Moves.foldl ?_ ?_ | with_reducible refine MovesFst.foldl ?_ ?_
    | ((with_reducible apply Moves.after State.setReg_moves ?_ ?_); rfl) | (with_reducible exact Moves.refl)

theorem State.emcy_moves {s : State} {err code cls part source : Nat} : Moves [.dict, .out] s (State.emcy s err code cls part source) := by
  unfold State.emcy
  repeat' first
    | dsimp only | intro _ _ | with_reducible refine Moves.forEach ?_ ?_
    | ((with_reducible apply Moves.after State.emit_moves ?_ ?_); rfl)
    | ((with_reducible apply Moves.after State.errorList_moves ?_ ?_); rfl) | split
    | (with_reducible exact Moves.refl)

theorem State.logPush_moves {s : State} {code result part source detail stamp : Nat} : Moves [.dict, .mem, .flips, .hostMem, .queues, .calderas, .scrubPending, .safety, .out] s (State.logPush s code result part source detail stamp) := by
  unfold State.logPush
  repeat' first
    | dsimp only | ((with_reducible apply Moves.after State.bumpSat_moves ?_ ?_); rfl)
    | ((with_reducible apply Moves.after State.outerPush_moves ?_ ?_); rfl)
    | ((with_reducible apply Moves.after State.withSafety_moves ?_ ?_); rfl) | split
    | (with_reducible exact Moves.refl)

theorem State.latch_moves {s : State} {code p source detail key : Nat} {everyPart : Bool} : Moves [.dict, .safety] s (State.latch s code p source detail key everyPart) := by
  unfold State.latch
  repeat' first
    | dsimp only | intro _ _ | ((with_reducible apply Moves.after State.bumpSat_moves ?_ ?_); rfl)
    | ((with_reducible apply Moves.after State.modPart_moves ?_ ?_); rfl)
    | ((with_reducible apply Moves.after State.setReg_moves ?_ ?_); rfl) | split | (with_reducible exact Moves.refl)

theorem State.raiseKey_moves {s : State} {code : Nat} {scope : Option Nat} {source detail key : Nat} : Moves [.dict, .mem, .flips, .hostMem, .queues, .calderas, .scrubPending, .safety, .dbg, .out] s (State.raiseKey s code scope source detail key) := by
  unfold State.raiseKey
  repeat' first
    | dsimp only | intro _ _ | with_reducible refine Moves.forEach ?_ ?_
    | ((with_reducible apply Moves.after State.bumpSat_moves ?_ ?_); rfl)
    | ((with_reducible apply Moves.after State.emcy_moves ?_ ?_); rfl)
    | ((with_reducible apply Moves.after State.latch_moves ?_ ?_); rfl)
    | ((with_reducible apply Moves.after State.logPush_moves ?_ ?_); rfl)
    | ((with_reducible apply Moves.after State.trace_moves ?_ ?_); rfl) | split | (with_reducible exact Moves.refl)

theorem State.raise_moves {s : State} {code : Nat} {scope : Option Nat} {source detail : Nat} : Moves [.dict, .mem, .flips, .hostMem, .queues, .calderas, .scrubPending, .safety, .dbg, .out] s (State.raise s code scope source detail) := by
  unfold State.raise
  repeat' first
    | dsimp only | ((with_reducible apply Moves.after State.raiseKey_moves ?_ ?_); rfl) | split
    | (with_reducible exact Moves.refl)

theorem State.verdict_moves {s : State} {code source key : Nat} {ok : Bool} : Moves [.safety] s (State.verdict s code source key ok) := by
  unfold State.verdict
  repeat' first
    | dsimp only | intro _ _ | with_reducible refine Moves.forEach ?_ ?_
    | ((with_reducible apply Moves.after State.modPart_moves ?_ ?_); rfl) | split | (with_reducible exact Moves.refl)

theorem State.ageFault_moves {s : State} {code source : Nat} {done ok : Bool} : Moves [.safety] s (State.ageFault s code source done ok) := by
  unfold State.ageFault
  repeat' first
    | dsimp only | intro _ _ | with_reducible refine Moves.forEach ?_ ?_
    | ((with_reducible apply Moves.after State.modPart_moves ?_ ?_); rfl) | split | (with_reducible exact Moves.refl)

theorem State.unpend_moves {s : State} {f : PendingFault} {lasting : Bool} : Moves [.safety] s (State.unpend s f lasting) := by
  unfold State.unpend
  repeat' first
    | dsimp only | intro _ _ | with_reducible refine Moves.forEach ?_ ?_
    | ((with_reducible apply Moves.after State.modPart_moves ?_ ?_); rfl) | split
    | (with_reducible exact Moves.refl)

theorem State.settlePart_moves {s : State} {p : Nat} : Moves [.dict, .safety] s (State.settlePart s p) := by
  unfold State.settlePart
  repeat' first
    | dsimp only | ((with_reducible apply Moves.after State.setPart_moves ?_ ?_); rfl)
    | ((with_reducible apply Moves.after State.setReg_moves ?_ ?_); rfl) | split | (with_reducible exact Moves.refl)

theorem State.conditionEnd_moves {s : State} {ended : PendingFault → Bool} : Moves [.dict, .safety] s (State.conditionEnd s ended) := by
  unfold State.conditionEnd
  repeat' first
    | dsimp only | intro _ _ | with_reducible refine Moves.forEach ?_ ?_ | with_reducible refine Moves.foldl ?_ ?_
    | with_reducible refine MovesFst.foldl ?_ ?_
    | ((with_reducible apply Moves.after State.settlePart_moves ?_ ?_); rfl)
    | ((with_reducible apply Moves.after State.unpend_moves ?_ ?_); rfl) | split | (with_reducible exact Moves.refl)

theorem State.warn_moves {s : State} {code : Nat} {scope : Option Nat} {source detail : Nat} : Moves [.dict, .mem, .flips, .hostMem, .queues, .calderas, .scrubPending, .safety, .dbg, .out] s (State.warn s code scope source detail) := by
  unfold State.warn
  repeat' first
    | dsimp only | intro _ _ | with_reducible refine Moves.forEach ?_ ?_
    | ((with_reducible apply Moves.after State.bumpSat_moves ?_ ?_); rfl)
    | ((with_reducible apply Moves.after State.emcy_moves ?_ ?_); rfl)
    | ((with_reducible apply Moves.after State.logPush_moves ?_ ?_); rfl)
    | ((with_reducible apply Moves.after State.setReg_moves ?_ ?_); rfl)
    | ((with_reducible apply Moves.after State.trace_moves ?_ ?_); rfl)
    | ((with_reducible apply Moves.after State.withSafety_moves ?_ ?_); rfl) | split
    | (with_reducible exact Moves.refl)

theorem State.warnEnd_moves {s : State} {code source : Nat} : Moves [.dict, .safety, .out] s (State.warnEnd s code source) := by
  unfold State.warnEnd
  repeat' first
    | dsimp only | intro _ _ | ((with_reducible apply Moves.after State.emcy_moves ?_ ?_); rfl)
    | ((with_reducible apply Moves.after State.withSafety_moves ?_ ?_); rfl) | split
    | (with_reducible exact Moves.refl)

end Sys2Proof.Machine
end

