-- ==== Sys2Proof/Laws/StreamMoves.lean ====
section
/-! SUPPORT. Laws: what each operation of Machine/Stream.lean changes at most, and that it keeps the invariant. -/
open Sys2Proof.Safety

namespace Sys2Proof.Machine

theorem State.spadRead_moves {s : State} {g off n : Nat} : MovesFst [.dict, .mem, .flips] s (State.spadRead s g off n) := by
  unfold State.spadRead
  repeat' first
    | dsimp only | ((with_reducible apply Moves.after State.bumpSatBy_moves ?_ ?_); rfl)
    | ((with_reducible apply Moves.after State.heal_moves ?_ ?_); rfl) | split | (with_reducible exact Moves.refl)

theorem State.ramUncorr_moves {s : State} {g addr : Nat} : Moves [.dict, .mem, .flips, .hostMem, .queues, .calderas, .scrubPending, .safety, .dbg, .out] s (State.ramUncorr s g addr) := by
  unfold State.ramUncorr
  repeat' first
    | dsimp only | ((with_reducible apply Moves.after State.raise_moves ?_ ?_); rfl) | split
    | (with_reducible exact Moves.refl)

theorem State.memUncorr_moves {s : State} {p : Nat} {held : List (Nat × Nat)} {da : Nat} : Moves [.dict, .mem, .flips, .hostMem, .queues, .calderas, .scrubPending, .safety, .dbg, .out] s (State.memUncorr s p held da) := by
  unfold State.memUncorr
  repeat' first
    | dsimp only | ((with_reducible apply Moves.after State.raise_moves ?_ ?_); rfl) | split
    | (with_reducible exact Moves.refl)

theorem State.bridge_moves {s : State} {g n : Nat} : Moves [.dict] s (State.bridge s g n) := by
  unfold State.bridge
  repeat' first
    | dsimp only | ((with_reducible apply Moves.after State.count_moves ?_ ?_); rfl)
    | (with_reducible exact Moves.refl)

theorem State.addFlags_moves {s : State} {g n fl : Nat} : Moves [.dict, .skeins] s (State.addFlags s g n fl) := by
  unfold State.addFlags
  repeat' first
    | dsimp only | intro _ _ | ((with_reducible apply Moves.after State.modSkein_moves ?_ ?_); rfl)
    | ((with_reducible apply Moves.after State.setReg_moves ?_ ?_); rfl) | split | (with_reducible exact Moves.refl)

theorem State.endStream_moves {s : State} {g status addr tag : Nat} : Moves [.dict, .mem, .flips, .hostMem, .queues, .skeins, .calderas, .scrubPending, .safety, .dbg, .out] s (State.endStream s g status addr tag) := by
  unfold State.endStream
  repeat' first
    | dsimp only | intro _ _ | ((with_reducible apply Moves.after State.ageFault_moves ?_ ?_); rfl)
    | ((with_reducible apply Moves.after State.modSkein_moves ?_ ?_); rfl)
    | ((with_reducible apply Moves.after State.pushNamed_moves ?_ ?_); rfl)
    | ((with_reducible apply Moves.after State.raise_moves ?_ ?_); rfl)
    | ((with_reducible apply Moves.after State.raiseKey_moves ?_ ?_); rfl)
    | ((with_reducible apply Moves.after State.setReg_moves ?_ ?_); rfl)
    | ((with_reducible apply Moves.after State.setStreamState_moves ?_ ?_); rfl) | split
    | (with_reducible exact Moves.refl)

theorem State.setFlight_moves {s : State} {g : Nat} {f : Flight} : Moves [.skeins] s (State.setFlight s g f) := by
  unfold State.setFlight
  repeat' first
    | dsimp only | intro _ _ | ((with_reducible apply Moves.after State.modSkein_moves ?_ ?_); rfl) | split
    | (with_reducible exact Moves.refl)

theorem State.dropFlight_moves {s : State} {g serial : Nat} : Moves [.skeins] s (State.dropFlight s g serial) := by
  unfold State.dropFlight
  repeat' first
    | dsimp only | intro _ _ | ((with_reducible apply Moves.after State.modSkein_moves ?_ ?_); rfl)
    | (with_reducible exact Moves.refl)

theorem State.setCtx_moves {s : State} {g c : Nat} {x : DigestCtx} : Moves [.skeins] s (State.setCtx s g c x) := by
  unfold State.setCtx
  repeat' first
    | dsimp only | intro _ _ | ((with_reducible apply Moves.after State.modSkein_moves ?_ ?_); rfl)
    | (with_reducible exact Moves.refl)

theorem State.settleAbandon_moves {s : State} {g : Nat} : Moves [.dict, .mem, .flips, .hostMem, .queues, .skeins, .calderas, .scrubPending, .safety, .dbg, .out] s (State.settleAbandon s g) := by
  unfold State.settleAbandon
  repeat' first
    | dsimp only | intro _ _ | ((with_reducible apply Moves.after State.endStream_moves ?_ ?_); rfl) | split
    | (with_reducible exact Moves.refl)

theorem State.fail_moves {s : State} {g : Nat} {f : Flight} {status : Nat} : Moves [.dict, .mem, .flips, .hostMem, .queues, .skeins, .calderas, .scrubPending, .safety, .dbg, .out] s (State.fail s g f status) := by
  unfold State.fail
  repeat' first
    | dsimp only | ((with_reducible apply Moves.after State.dropFlight_moves ?_ ?_); rfl)
    | ((with_reducible apply Moves.after State.endStream_moves ?_ ?_); rfl) | split
    | (with_reducible exact Moves.refl)

theorem State.failAt_moves {s : State} {g : Nat} {f : Flight} {status addr : Nat} : Moves [.dict, .mem, .flips, .hostMem, .queues, .skeins, .calderas, .scrubPending, .safety, .dbg, .out] s (State.failAt s g f status addr) := by
  unfold State.failAt
  repeat' first
    | dsimp only | ((with_reducible apply Moves.after State.fail_moves ?_ ?_); rfl)
    | ((with_reducible apply Moves.after State.memUncorr_moves ?_ ?_); rfl)
    | ((with_reducible apply Moves.after State.ramUncorr_moves ?_ ?_); rfl)
    | ((with_reducible apply Moves.after State.setReg_moves ?_ ?_); rfl) | split | (with_reducible exact Moves.refl)

theorem State.absorbDg_moves {s : State} {g c : Nat} {f : Flight} : Moves [.dict, .mem, .flips, .hostMem, .queues, .skeins, .calderas, .scrubPending, .safety, .dbg, .out] s (State.absorbDg s g c f) := by
  unfold State.absorbDg
  repeat' first
    | dsimp only | intro _ _ | with_reducible refine Moves.foldl ?_ ?_ | with_reducible refine MovesFst.foldl ?_ ?_
    | ((with_reducible apply Moves.after State.dropFlight_moves ?_ ?_); rfl)
    | ((with_reducible apply Moves.after State.failAt_moves ?_ ?_); rfl)
    | ((with_reducible apply Moves.after State.readEvents_moves ?_ ?_); rfl)
    | ((with_reducible apply Moves.after State.setCtx_moves ?_ ?_); rfl) | split | (with_reducible exact Moves.refl)

theorem State.settleFlight_moves {s : State} {g : Nat} {f : Flight} : Moves [.dict, .mem, .flips, .hostMem, .queues, .skeins, .calderas, .scrubPending, .safety, .dbg, .out] s (State.settleFlight s g f) := by
  unfold State.settleFlight
  repeat' first
    | dsimp only | intro _ _ | ((with_reducible apply Moves.after State.absorbDg_moves ?_ ?_); rfl)
    | ((with_reducible apply Moves.after State.dropFlight_moves ?_ ?_); rfl)
    | ((with_reducible apply Moves.after State.fail_moves ?_ ?_); rfl) | split | (with_reducible exact Moves.refl)

theorem State.settle_moves {s : State} {g : Nat} : Moves [.dict, .mem, .flips, .hostMem, .queues, .skeins, .calderas, .scrubPending, .safety, .dbg, .out] s (State.settle s g) := by
  unfold State.settle
  repeat' first
    | dsimp only | intro _ _ | with_reducible refine Moves.foldl ?_ ?_ | with_reducible refine MovesFst.foldl ?_ ?_
    | ((with_reducible apply Moves.after State.settleAbandon_moves ?_ ?_); rfl)
    | ((with_reducible apply Moves.after State.settleFlight_moves ?_ ?_); rfl) | (with_reducible exact Moves.refl)

theorem State.complete_moves {s : State} {g serial : Nat} : Moves [.dict, .mem, .flips, .hostMem, .queues, .skeins, .calderas, .scrubPending, .safety, .dbg, .out] s (State.complete s g serial) := by
  unfold State.complete
  repeat' first
    | dsimp only | ((with_reducible apply Moves.after State.dropFlight_moves ?_ ?_); rfl)
    | ((with_reducible apply Moves.after State.settle_moves ?_ ?_); rfl) | (with_reducible exact Moves.refl)

theorem State.seedChain_moves {s : State} {g : Nat} : Moves [.skeins] s (State.seedChain s g) := by
  unfold State.seedChain
  repeat' first
    | dsimp only | intro _ _ | ((with_reducible apply Moves.after State.modSkein_moves ?_ ?_); rfl)
    | (with_reducible exact Moves.refl)

theorem State.startStream_moves {s : State} {g : Nat} : Moves [.dict, .skeins, .safety, .dbg] s (State.startStream s g) := by
  unfold State.startStream
  repeat' first
    | dsimp only | intro _ _ | ((with_reducible apply Moves.after State.conditionEnd_moves ?_ ?_); rfl)
    | ((with_reducible apply Moves.after State.modSkein_moves ?_ ?_); rfl)
    | ((with_reducible apply Moves.after State.seedChain_moves ?_ ?_); rfl)
    | ((with_reducible apply Moves.after State.setReg_moves ?_ ?_); rfl)
    | ((with_reducible apply Moves.after State.setStreamState_moves ?_ ?_); rfl) | (with_reducible exact Moves.refl)

theorem State.abandonStream_moves {s : State} {g : Nat} : Moves [.dict, .mem, .flips, .hostMem, .queues, .skeins, .calderas, .scrubPending, .safety, .dbg, .out] s (State.abandonStream s g) := by
  unfold State.abandonStream
  repeat' first
    | dsimp only | intro _ _ | ((with_reducible apply Moves.after State.modSkein_moves ?_ ?_); rfl)
    | ((with_reducible apply Moves.after State.settleAbandon_moves ?_ ?_); rfl) | (with_reducible exact Moves.refl)

theorem State.writeControl_moves {s : State} {g v : Nat} : MovesFst [.dict, .mem, .flips, .hostMem, .queues, .skeins, .calderas, .scrubPending, .safety, .dbg, .out] s (State.writeControl s g v) := by
  unfold State.writeControl
  repeat' first
    | dsimp only | ((with_reducible apply Moves.after State.abandonStream_moves ?_ ?_); rfl)
    | ((with_reducible apply Moves.after State.setReg_moves ?_ ?_); rfl)
    | ((with_reducible apply Moves.after State.startStream_moves ?_ ?_); rfl) | split
    | (with_reducible exact Moves.refl)

theorem State.pageFault_moves {s : State} {g kind : Nat} : Moves [.dict, .mem, .flips, .hostMem, .queues, .calderas, .scrubPending, .out] s (State.pageFault s g kind) := by
  unfold State.pageFault
  repeat' first
    | dsimp only | ((with_reducible apply Moves.after State.bump_moves ?_ ?_); rfl)
    | ((with_reducible apply Moves.after State.pushNamed_moves ?_ ?_); rfl) | split
    | (with_reducible exact Moves.refl)

theorem State.haltStream_moves {s : State} {g addr fault kind : Nat} : Moves [.dict, .mem, .flips, .hostMem, .queues, .skeins, .calderas, .scrubPending, .dbg, .out] s (State.haltStream s g addr fault kind) := by
  unfold State.haltStream
  repeat' first
    | dsimp only | intro _ _ | ((with_reducible apply Moves.after State.modSkein_moves ?_ ?_); rfl)
    | ((with_reducible apply Moves.after State.pageFault_moves ?_ ?_); rfl)
    | ((with_reducible apply Moves.after State.setReg_moves ?_ ?_); rfl)
    | ((with_reducible apply Moves.after State.setStreamState_moves ?_ ?_); rfl)
    | ((with_reducible apply Moves.after State.syncTag_moves ?_ ?_); rfl) | (with_reducible exact Moves.refl)

theorem State.resumeHalted_moves {s : State} : Moves [.dict, .skeins, .dbg] s (State.resumeHalted s) := by
  unfold State.resumeHalted
  repeat' first
    | dsimp only | intro _ _ | with_reducible refine Moves.forEach ?_ ?_
    | ((with_reducible apply Moves.after State.modSkein_moves ?_ ?_); rfl)
    | ((with_reducible apply Moves.after State.setReg_moves ?_ ?_); rfl)
    | ((with_reducible apply Moves.after State.setStreamState_moves ?_ ?_); rfl) | split
    | (with_reducible exact Moves.refl)

theorem State.fetchFails_moves {s : State} {g a status : Nat} : Moves [.dict, .mem, .flips, .hostMem, .queues, .skeins, .calderas, .scrubPending, .safety, .dbg, .out] s (State.fetchFails s g a status) := by
  unfold State.fetchFails
  repeat' first
    | dsimp only | ((with_reducible apply Moves.after State.endStream_moves ?_ ?_); rfl)
    | ((with_reducible apply Moves.after State.haltStream_moves ?_ ?_); rfl)
    | ((with_reducible apply Moves.after State.memUncorr_moves ?_ ?_); rfl)
    | ((with_reducible apply Moves.after State.setReg_moves ?_ ?_); rfl) | split | (with_reducible exact Moves.refl)

theorem State.compareRecord_moves {s : State} {p g kind tag iter : Nat} {digest : List Byte} : Moves [.dict, .mem, .flips, .hostMem, .queues, .calderas, .scrubPending, .safety, .dbg, .out] s (State.compareRecord s p g kind tag iter digest) := by
  unfold State.compareRecord
  repeat' first
    | dsimp only | intro _ _ | ((with_reducible apply Moves.after State.bumpSat_moves ?_ ?_); rfl)
    | ((with_reducible apply Moves.after State.modPart_moves ?_ ?_); rfl)
    | ((with_reducible apply Moves.after State.raiseKey_moves ?_ ?_); rfl)
    | ((with_reducible apply Moves.after State.setReg_moves ?_ ?_); rfl)
    | ((with_reducible apply Moves.after State.verdict_moves ?_ ?_); rfl) | split | (with_reducible exact Moves.refl)

theorem State.formRecord_moves {s : State} {g serial kind ctx tag nbytes : Nat} {digest : List Byte} : Moves [.dict, .mem, .flips, .hostMem, .queues, .skeins, .calderas, .scrubPending, .safety, .dbg, .out] s (State.formRecord s g serial kind ctx tag nbytes digest) := by
  unfold State.formRecord
  repeat' first
    | dsimp only | ((with_reducible apply Moves.after State.bump_moves ?_ ?_); rfl)
    | ((with_reducible apply Moves.after State.bumpSat_moves ?_ ?_); rfl)
    | ((with_reducible apply Moves.after State.compareRecord_moves ?_ ?_); rfl)
    | ((with_reducible apply Moves.after State.queuePush_moves ?_ ?_); rfl)
    | ((with_reducible apply Moves.after State.setPair_moves ?_ ?_); rfl)
    | ((with_reducible apply Moves.after State.setSkein_moves ?_ ?_); rfl)
    | ((with_reducible apply Moves.after State.traceSkein_moves ?_ ?_); rfl) | split
    | (with_reducible exact Moves.refl)

theorem doDigestInit_moves {g i : Nat} {s : State} : Moves [.dict, .mem, .flips, .hostMem, .queues, .skeins, .calderas, .scrubPending, .safety, .dbg, .out] s (doDigestInit g i s) := by
  unfold doDigestInit
  repeat' first
    | dsimp only | ((with_reducible apply Moves.after State.complete_moves ?_ ?_); rfl)
    | ((with_reducible apply Moves.after State.setCtx_moves ?_ ?_); rfl) | split | (with_reducible exact Moves.refl)

theorem doDigestAbsorb_moves {g i : Nat} {s : State} : Moves [.dict, .mem, .flips, .hostMem, .queues, .skeins, .calderas, .scrubPending, .safety, .dbg, .out] s (doDigestAbsorb g i s) := by
  unfold doDigestAbsorb
  repeat' first
    | dsimp only | ((with_reducible apply Moves.after State.bridge_moves ?_ ?_); rfl)
    | ((with_reducible apply Moves.after State.complete_moves ?_ ?_); rfl)
    | ((with_reducible apply Moves.after State.fail_moves ?_ ?_); rfl)
    | ((with_reducible apply Moves.after State.failAt_moves ?_ ?_); rfl)
    | ((with_reducible apply Moves.after State.readEvents_moves ?_ ?_); rfl)
    | ((with_reducible apply Moves.after State.setCtx_moves ?_ ?_); rfl) | split | (with_reducible exact Moves.refl)

theorem doDigestFinal_moves {g i : Nat} {s : State} : Moves [.dict, .mem, .flips, .hostMem, .queues, .skeins, .calderas, .scrubPending, .safety, .dbg, .out] s (doDigestFinal g i s) := by
  unfold doDigestFinal
  repeat' first
    | dsimp only | ((with_reducible apply Moves.after State.complete_moves ?_ ?_); rfl)
    | ((with_reducible apply Moves.after State.fail_moves ?_ ?_); rfl)
    | ((with_reducible apply Moves.after State.formRecord_moves ?_ ?_); rfl)
    | ((with_reducible apply Moves.after State.put_moves ?_ ?_); rfl)
    | ((with_reducible apply Moves.after State.setCtx_moves ?_ ?_); rfl) | split | (with_reducible exact Moves.refl)

theorem doWait_moves {g i : Nat} {s : State} : Moves [.dict, .mem, .flips, .hostMem, .queues, .skeins, .calderas, .scrubPending, .safety, .dbg, .out] s (doWait g i s) := by
  unfold doWait
  repeat' first
    | dsimp only | intro _ _ | ((with_reducible apply Moves.after State.complete_moves ?_ ?_); rfl)
    | ((with_reducible apply Moves.after State.fail_moves ?_ ?_); rfl)
    | ((with_reducible apply Moves.after State.modSkein_moves ?_ ?_); rfl)
    | ((with_reducible apply Moves.after State.setFlight_moves ?_ ?_); rfl)
    | ((with_reducible apply Moves.after State.setReg_moves ?_ ?_); rfl)
    | ((with_reducible apply Moves.after State.setStreamState_moves ?_ ?_); rfl)
    | ((with_reducible apply Moves.after State.wakeSkein_moves ?_ ?_); rfl) | split
    | (with_reducible exact Moves.refl)

theorem doWaitTimeout_moves {g : Nat} {s : State} : Moves [.calderas] s (doWaitTimeout g s) := by
  unfold doWaitTimeout
  repeat' first
    | dsimp only | intro _ _ | ((with_reducible apply Moves.after State.modCaldera_moves ?_ ?_); rfl) | split
    | (with_reducible exact Moves.refl)

theorem State.timeoutEffect_moves {s : State} {g n : Nat} : Moves [.dict, .mem, .flips, .hostMem, .queues, .skeins, .calderas, .scrubPending, .safety, .dbg, .out] s (State.timeoutEffect s g n) := by
  unfold State.timeoutEffect
  repeat' first
    | dsimp only | intro _ _ | ((with_reducible apply Moves.after State.fail_moves ?_ ?_); rfl)
    | ((with_reducible apply Moves.after State.wakeSkein_moves ?_ ?_); rfl) | split
    | (with_reducible exact Moves.refl)

theorem State.signalApply_moves {s : State} {g : Nat} {f : Flight} : Moves [.dict, .mem, .flips, .hostMem, .queues, .syncs, .skeins, .calderas, .scrubPending, .safety, .dbg, .out] s (State.signalApply s g f) := by
  unfold State.signalApply
  repeat' first
    | dsimp only | ((with_reducible apply Moves.after State.complete_moves ?_ ?_); rfl)
    | ((with_reducible apply Moves.after State.fail_moves ?_ ?_); rfl)
    | ((with_reducible apply Moves.after State.syncAdd_moves ?_ ?_); rfl)
    | ((with_reducible apply Moves.after State.syncSet_moves ?_ ?_); rfl) | split
    | (with_reducible exact Moves.refl)

theorem doSignalAdd_moves {g i : Nat} {s : State} : Moves [.dict, .mem, .flips, .hostMem, .queues, .syncs, .skeins, .calderas, .scrubPending, .safety, .dbg, .out] s (doSignalAdd g i s) := by
  unfold doSignalAdd
  repeat' first
    | dsimp only | ((with_reducible apply Moves.after State.signalApply_moves ?_ ?_); rfl) | split
    | (with_reducible exact Moves.refl)

theorem doSignalSet_moves {g i : Nat} {s : State} : Moves [.dict, .mem, .flips, .hostMem, .queues, .syncs, .skeins, .calderas, .scrubPending, .safety, .dbg, .out] s (doSignalSet g i s) := by
  unfold doSignalSet
  repeat' first
    | dsimp only | ((with_reducible apply Moves.after State.signalApply_moves ?_ ?_); rfl) | split
    | (with_reducible exact Moves.refl)

theorem doSignalReleaseApply_moves {g i : Nat} {s : State} : Moves [.dict, .mem, .flips, .hostMem, .queues, .syncs, .skeins, .calderas, .scrubPending, .safety, .dbg, .out] s (doSignalReleaseApply g i s) := by
  unfold doSignalReleaseApply
  repeat' first
    | dsimp only | ((with_reducible apply Moves.after State.signalApply_moves ?_ ?_); rfl) | split
    | (with_reducible exact Moves.refl)

theorem doFence_moves {g i : Nat} {s : State} : Moves [.dict, .mem, .flips, .hostMem, .queues, .skeins, .calderas, .scrubPending, .safety, .dbg, .out] s (doFence g i s) := by
  unfold doFence
  repeat' first
    | dsimp only | ((with_reducible apply Moves.after State.complete_moves ?_ ?_); rfl) | split
    | (with_reducible exact Moves.refl)

theorem State.endApply_moves {s : State} {g : Nat} {f : Flight} {loop : Bool} : Moves [.dict, .mem, .flips, .hostMem, .queues, .skeins, .calderas, .scrubPending, .safety, .dbg, .out] s (State.endApply s g f loop) := by
  unfold State.endApply
  repeat' first
    | dsimp only | intro _ _ | ((with_reducible apply Moves.after State.ageFault_moves ?_ ?_); rfl)
    | ((with_reducible apply Moves.after State.bump_moves ?_ ?_); rfl)
    | ((with_reducible apply Moves.after State.dropFlight_moves ?_ ?_); rfl)
    | ((with_reducible apply Moves.after State.endStream_moves ?_ ?_); rfl)
    | ((with_reducible apply Moves.after State.formRecord_moves ?_ ?_); rfl)
    | ((with_reducible apply Moves.after State.modSkein_moves ?_ ?_); rfl)
    | ((with_reducible apply Moves.after State.seedChain_moves ?_ ?_); rfl)
    | ((with_reducible apply Moves.after State.setReg_moves ?_ ?_); rfl)
    | ((with_reducible apply Moves.after State.settleAbandon_moves ?_ ?_); rfl) | split
    | (with_reducible exact Moves.refl)

theorem doEnd_moves {loop : Bool} {g i : Nat} {s : State} : Moves [.dict, .mem, .flips, .hostMem, .queues, .skeins, .calderas, .scrubPending, .safety, .dbg, .out] s (doEnd loop g i s) := by
  unfold doEnd
  repeat' first
    | dsimp only | ((with_reducible apply Moves.after State.endApply_moves ?_ ?_); rfl) | split
    | (with_reducible exact Moves.refl)

end Sys2Proof.Machine
end

