-- ==== Sys2Proof/Laws/QueuesMoves.lean ====
section
/-! SUPPORT. Laws: what each operation of Machine/Queues.lean changes at most, and that it keeps the invariant. -/
open Sys2Proof.Safety

namespace Sys2Proof.Machine

theorem State.queueEnable_moves {s : State} {q : Nat} : MovesFst [.queues] s (State.queueEnable s q) := by
  unfold State.queueEnable
  repeat' first
    | dsimp only | ((with_reducible apply Moves.after State.setQueue_moves ?_ ?_); rfl) | split
    | (with_reducible exact Moves.refl)

theorem State.queueDisable_moves {s : State} {q : Nat} : Moves [.queues] s (State.queueDisable s q) := by
  unfold State.queueDisable
  repeat' first
    | dsimp only | intro _ _ | ((with_reducible apply Moves.after State.modQueue_moves ?_ ?_); rfl)
    | (with_reducible exact Moves.refl)

theorem doQueuePush_moves {src : Producer} {q : Nat} {entries : List (List Byte)} {s : State} : Moves [.dict, .mem, .flips, .hostMem, .queues, .skeins, .calderas, .scrubPending, .dbg, .out] s (doQueuePush src q entries s) := by
  unfold doQueuePush
  repeat' first
    | dsimp only | ((with_reducible apply Moves.after State.outerPush_moves ?_ ?_); rfl)
    | ((with_reducible apply Moves.after State.queuePush_moves ?_ ?_); rfl) | split
    | (with_reducible exact Moves.refl)

theorem doQueuePop_moves {q n : Nat} {s : State} : Moves [.dict, .queues] s (doQueuePop q n s) := by
  unfold doQueuePop
  repeat' first
    | dsimp only | ((with_reducible apply Moves.after State.queueDrop_moves ?_ ?_); rfl) | split
    | (with_reducible exact Moves.refl)

end Sys2Proof.Machine
end

