-- ==== Sys2Proof/Laws/MoveMoves.lean ====
section
/-! SUPPORT. Laws: what each operation of Machine/Move.lean changes at most, and that it keeps the invariant. -/
open Sys2Proof.Safety

namespace Sys2Proof.Machine

theorem State.startFetch_moves {s : State} {c part l : Nat} {page : Nat × Nat} {refetch : Bool} {waiters : List (Nat × Nat)} : Moves [.dict, .calderas, .channels] s (State.startFetch s c part l page refetch waiters) := by
  unfold State.startFetch
  repeat' first
    | dsimp only | intro _ _ | with_reducible refine Moves.forEach ?_ ?_
    | ((with_reducible apply Moves.after State.bump_moves ?_ ?_); rfl)
    | ((with_reducible apply Moves.after State.lateRefusal_moves ?_ ?_); rfl)
    | ((with_reducible apply Moves.after State.modCaldera_moves ?_ ?_); rfl)
    | ((with_reducible apply Moves.after State.modChannel_moves ?_ ?_); rfl) | split
    | (with_reducible exact Moves.refl)

theorem State.requestLine_moves {s : State} {c part l : Nat} {page : Nat × Nat} {waiters : List (Nat × Nat)} : Moves [.dict, .calderas, .channels] s (State.requestLine s c part l page waiters) := by
  unfold State.requestLine
  repeat' first
    | dsimp only | intro _ _ | ((with_reducible apply Moves.after State.modCaldera_moves ?_ ?_); rfl)
    | ((with_reducible apply Moves.after State.startFetch_moves ?_ ?_); rfl) | split
    | (with_reducible exact Moves.refl)

theorem State.fillLine_moves {s : State} {c l : Nat} {bs : List Byte} : Moves [.calderas] s (State.fillLine s c l bs) := by
  unfold State.fillLine
  repeat' first
    | dsimp only | intro _ _ | with_reducible refine Moves.foldl ?_ ?_ | with_reducible refine MovesFst.foldl ?_ ?_
    | ((with_reducible apply Moves.after State.setCaldera_moves ?_ ?_); rfl) | split
    | (with_reducible exact Moves.refl)

theorem State.askLine_moves {s : State} {g serial l : Nat} {page : Nat × Nat} : Moves [.dict, .mem, .flips, .hostMem, .queues, .calderas, .channels, .scrubPending, .safety, .dbg, .out] s (State.askLine s g serial l page) := by
  unfold State.askLine
  repeat' first
    | dsimp only | ((with_reducible apply Moves.after State.bump_moves ?_ ?_); rfl)
    | ((with_reducible apply Moves.after State.bumpSat_moves ?_ ?_); rfl)
    | ((with_reducible apply Moves.after State.raiseKey_moves ?_ ?_); rfl)
    | ((with_reducible apply Moves.after State.requestLine_moves ?_ ?_); rfl)
    | ((with_reducible apply Moves.after State.setCaldera_moves ?_ ?_); rfl)
    | ((with_reducible apply Moves.after State.startFetch_moves ?_ ?_); rfl)
    | ((with_reducible apply Moves.after State.verdict_moves ?_ ?_); rfl) | split | (with_reducible exact Moves.refl)

theorem State.fetchDone_moves {s : State} {c : Nat} {f : WcFetch} : Moves [.dict, .calderas] s (State.fetchDone s c f) := by
  unfold State.fetchDone
  repeat' first
    | dsimp only | intro _ _ | ((with_reducible apply Moves.after State.count_moves ?_ ?_); rfl)
    | ((with_reducible apply Moves.after State.fillLine_moves ?_ ?_); rfl)
    | ((with_reducible apply Moves.after State.modCaldera_moves ?_ ?_); rfl) | split
    | (with_reducible exact Moves.refl)

theorem doWcLineFetchComplete_moves {c : Nat} {s : State} : Moves [.dict, .mem, .flips, .hostMem, .queues, .calderas, .scrubPending, .safety, .dbg, .out] s (doWcLineFetchComplete c s) := by
  unfold doWcLineFetchComplete
  repeat' first
    | dsimp only | intro _ _ | ((with_reducible apply Moves.after State.fetchDone_moves ?_ ?_); rfl)
    | ((with_reducible apply Moves.after State.raise_moves ?_ ?_); rfl)
    | ((with_reducible apply Moves.after State.verdict_moves ?_ ?_); rfl) | split | (with_reducible exact Moves.refl)

theorem State.wcFlush_moves {s : State} {c : Nat} : Moves [.dict, .calderas] s (State.wcFlush s c) := by
  unfold State.wcFlush
  repeat' first
    | dsimp only | intro _ _ | ((with_reducible apply Moves.after State.bumpSatBy_moves ?_ ?_); rfl)
    | ((with_reducible apply Moves.after State.setCaldera_moves ?_ ?_); rfl) | (with_reducible exact Moves.refl)

theorem State.loadEvents_moves {s : State} {f : Flight} : Moves [.dict, .mem, .flips] s (State.loadEvents s f) := by
  unfold State.loadEvents
  repeat' first
    | dsimp only | intro _ _ | with_reducible refine Moves.foldl ?_ ?_ | with_reducible refine MovesFst.foldl ?_ ?_
    | ((with_reducible apply Moves.after State.readEvents_moves ?_ ?_); rfl) | split
    | (with_reducible exact Moves.refl)

theorem State.loadLines_moves {s : State} {g : Nat} {f : Flight} : Moves [.dict, .mem, .flips, .hostMem, .queues, .calderas, .channels, .scrubPending, .safety, .dbg, .out] s (State.loadLines s g f) := by
  unfold State.loadLines
  repeat' first
    | dsimp only | intro _ _ | with_reducible refine Moves.foldl ?_ ?_ | with_reducible refine MovesFst.foldl ?_ ?_
    | ((with_reducible apply Moves.after State.askLine_moves ?_ ?_); rfl) | split | (with_reducible exact Moves.refl)

theorem State.loadRelease_moves {s : State} {g : Nat} {f : Flight} : Moves [.calderas] s (State.loadRelease s g f) := by
  unfold State.loadRelease
  repeat' first
    | dsimp only | intro _ _ | ((with_reducible apply Moves.after State.modCaldera_moves ?_ ?_); rfl) | split
    | (with_reducible exact Moves.refl)

theorem State.putRows_moves {s : State} {g dst pitch row : Nat} {l0 : Nat} {l1 : List Byte} : Moves [.mem, .flips] s (State.putRows s g dst pitch row l0 l1) := by
  induction l0 generalizing s l1 dst
  case zero => exact Moves.refl
  case succ _ ih =>
    unfold State.putRows
    repeat' first
      | ((with_reducible refine Moves.after ih ?_ ?_); rfl) | dsimp only
      | ((with_reducible apply Moves.after State.put_moves ?_ ?_); rfl) | split | (with_reducible exact Moves.refl)

theorem State.slotPresent_moves {s : State} {u slot : Nat} : Moves [.spindles] s (State.slotPresent s u slot) := by
  unfold State.slotPresent
  repeat' first
    | dsimp only | intro _ _ | ((with_reducible apply Moves.after State.modSpindle_moves ?_ ?_); rfl) | split
    | (with_reducible exact Moves.refl)

theorem State.fillOpen_moves {s : State} {g : Nat} {f : Flight} {first : Nat} : Moves [.dict, .mem, .flips, .hostMem, .queues, .skeins, .spindles, .calderas, .scrubPending, .safety, .dbg, .out] s (State.fillOpen s g f first) := by
  unfold State.fillOpen
  repeat' first
    | dsimp only | intro _ _ | with_reducible refine Moves.forEach ?_ ?_
    | ((with_reducible apply Moves.after State.complete_moves ?_ ?_); rfl)
    | ((with_reducible apply Moves.after State.put_moves ?_ ?_); rfl)
    | ((with_reducible apply Moves.after State.setFlight_moves ?_ ?_); rfl)
    | ((with_reducible apply Moves.after State.slotPresent_moves ?_ ?_); rfl) | split
    | (with_reducible exact Moves.refl)

theorem doLoad_moves {g i : Nat} {s : State} : Moves [.dict, .mem, .flips, .hostMem, .queues, .skeins, .spindles, .calderas, .channels, .scrubPending, .safety, .dbg, .out] s (doLoad g i s) := by
  unfold doLoad
  repeat' first
    | dsimp only | ((with_reducible apply Moves.after State.bridge_moves ?_ ?_); rfl)
    | ((with_reducible apply Moves.after State.complete_moves ?_ ?_); rfl)
    | ((with_reducible apply Moves.after State.fail_moves ?_ ?_); rfl)
    | ((with_reducible apply Moves.after State.failAt_moves ?_ ?_); rfl)
    | ((with_reducible apply Moves.after State.fillOpen_moves ?_ ?_); rfl)
    | ((with_reducible apply Moves.after State.loadEvents_moves ?_ ?_); rfl)
    | ((with_reducible apply Moves.after State.loadLines_moves ?_ ?_); rfl)
    | ((with_reducible apply Moves.after State.loadRelease_moves ?_ ?_); rfl)
    | ((with_reducible apply Moves.after State.putRows_moves ?_ ?_); rfl)
    | ((with_reducible apply Moves.after State.setFlight_moves ?_ ?_); rfl)
    | ((with_reducible apply Moves.after State.setReg_moves ?_ ?_); rfl) | split | (with_reducible exact Moves.refl)

theorem State.tookBatch_moves {s : State} {g : Nat} {es : List (List Byte)} : Moves [.skeins] s (State.tookBatch s g es) := by
  unfold State.tookBatch
  repeat' first
    | dsimp only | intro _ _ | ((with_reducible apply Moves.after State.modSkein_moves ?_ ?_); rfl) | split
    | (with_reducible exact Moves.refl)

theorem doLoadQpop_moves {g i : Nat} {s : State} : Moves [.dict, .mem, .flips, .hostMem, .queues, .skeins, .calderas, .scrubPending, .safety, .dbg, .out] s (doLoadQpop g i s) := by
  unfold doLoadQpop
  repeat' first
    | dsimp only | intro _ _ | with_reducible refine Moves.foldl ?_ ?_ | with_reducible refine MovesFst.foldl ?_ ?_
    | ((with_reducible apply Moves.after State.bridge_moves ?_ ?_); rfl)
    | ((with_reducible apply Moves.after State.complete_moves ?_ ?_); rfl)
    | ((with_reducible apply Moves.after State.fail_moves ?_ ?_); rfl)
    | ((with_reducible apply Moves.after State.failAt_moves ?_ ?_); rfl)
    | ((with_reducible apply Moves.after State.putRows_moves ?_ ?_); rfl)
    | ((with_reducible apply Moves.after State.queueDrop_moves ?_ ?_); rfl)
    | ((with_reducible apply Moves.after State.readEvents_moves ?_ ?_); rfl)
    | ((with_reducible apply Moves.after State.tookBatch_moves ?_ ?_); rfl) | split
    | (with_reducible exact Moves.refl)

theorem State.storeRow_moves {s : State} {g : Nat} {f : Flight} {da : Nat} {bs : List Byte} : MovesFst [.dict, .mem, .flips, .hostMem, .calderas, .channels, .scrubPending] s (State.storeRow s g f da bs) := by
  unfold State.storeRow
  repeat' first
    | dsimp only | intro _ _ | with_reducible refine Moves.foldl ?_ ?_ | with_reducible refine MovesFst.foldl ?_ ?_
    | ((with_reducible apply Moves.after State.lateRefusal_moves ?_ ?_); rfl)
    | ((with_reducible apply Moves.after State.queueWrite_moves ?_ ?_); rfl)
    | ((with_reducible apply Moves.after State.writePiece_moves ?_ ?_); rfl) | split
    | (with_reducible exact Moves.refl)

theorem doStore_moves {g i : Nat} {s : State} : Moves [.dict, .mem, .flips, .hostMem, .queues, .skeins, .calderas, .channels, .scrubPending, .safety, .dbg, .out] s (doStore g i s) := by
  unfold doStore
  repeat' first
    | dsimp only | intro _ _ | with_reducible refine Moves.foldl ?_ ?_ | with_reducible refine MovesFst.foldl ?_ ?_
    | ((with_reducible apply Moves.after State.bridge_moves ?_ ?_); rfl)
    | ((with_reducible apply Moves.after State.fail_moves ?_ ?_); rfl)
    | ((with_reducible apply Moves.after State.failAt_moves ?_ ?_); rfl)
    | ((with_reducible apply Moves.after State.setFlight_moves ?_ ?_); rfl)
    | ((with_reducible apply Moves.after State.settle_moves ?_ ?_); rfl)
    | ((with_reducible apply Moves.after State.spadRead_moves ?_ ?_); rfl)
    | ((with_reducible apply Moves.after State.storeRow_moves ?_ ?_); rfl) | split | (with_reducible exact Moves.refl)

theorem State.storeAck_moves {s : State} {owner : Option (Nat × Nat)} : Moves [.dict, .mem, .flips, .hostMem, .queues, .skeins, .calderas, .scrubPending, .safety, .dbg, .out] s (State.storeAck s owner) := by
  unfold State.storeAck
  repeat' first
    | dsimp only | intro _ _ | ((with_reducible apply Moves.after State.modSkein_moves ?_ ?_); rfl)
    | ((with_reducible apply Moves.after State.settle_moves ?_ ?_); rfl) | split | (with_reducible exact Moves.refl)

theorem State.earlyFill_moves {s : State} {g : Nat} : Moves [.dict, .calderas, .channels] s (State.earlyFill s g) := by
  unfold State.earlyFill
  repeat' first
    | dsimp only | intro _ _ | with_reducible refine Moves.forEach ?_ ?_ | with_reducible refine Moves.foldl ?_ ?_
    | with_reducible refine MovesFst.foldl ?_ ?_
    | ((with_reducible apply Moves.after State.requestLine_moves ?_ ?_); rfl) | split
    | (with_reducible exact Moves.refl)

theorem doPrefetchRead_moves {g : Nat} {s : State} : Moves [.dict, .mem, .flips, .hostMem, .queues, .skeins, .calderas, .channels, .scrubPending, .safety, .dbg, .out] s (doPrefetchRead g s) := by
  unfold doPrefetchRead
  repeat' first
    | dsimp only | intro _ _ | ((with_reducible apply Moves.after State.bridge_moves ?_ ?_); rfl)
    | ((with_reducible apply Moves.after State.earlyFill_moves ?_ ?_); rfl)
    | ((with_reducible apply Moves.after State.fetchFails_moves ?_ ?_); rfl)
    | ((with_reducible apply Moves.after State.modSkein_moves ?_ ?_); rfl)
    | ((with_reducible apply Moves.after State.readEvents_moves ?_ ?_); rfl)
    | ((with_reducible apply Moves.after State.syncTag_moves ?_ ?_); rfl) | split
    | (with_reducible exact Moves.refl)

theorem State.issueStop_moves {s : State} {cs : List Nat} : Moves [.dict, .calderas, .dbg] s (State.issueStop s cs) := by
  unfold State.issueStop
  repeat' first
    | dsimp only | intro _ _ | with_reducible refine Moves.forEach ?_ ?_ | with_reducible refine Moves.foldl ?_ ?_
    | with_reducible refine MovesFst.foldl ?_ ?_ | ((with_reducible apply Moves.after State.bump_moves ?_ ?_); rfl)
    | ((with_reducible apply Moves.after State.modCaldera_moves ?_ ?_); rfl)
    | ((with_reducible apply Moves.after State.setReg_moves ?_ ?_); rfl)
    | ((with_reducible apply Moves.after State.withDbg_moves ?_ ?_); rfl) | (with_reducible exact Moves.refl)

theorem State.geomRead_moves {s : State} {g w : Nat} : MovesFst [.dict, .mem, .flips] s (State.geomRead s g w) := by
  unfold State.geomRead
  repeat' first
    | dsimp only | ((with_reducible apply Moves.after State.spadRead_moves ?_ ?_); rfl) | split
    | (with_reducible exact Moves.refl)

theorem State.enterFlight_moves {s : State} {g a w : Nat} {rest : List (Nat × Nat)} : Moves [.dict, .mem, .flips, .skeins, .dbg] s (State.enterFlight s g a w rest) := by
  unfold State.enterFlight
  repeat' first
    | dsimp only | intro _ _ | ((with_reducible apply Moves.after State.geomRead_moves ?_ ?_); rfl)
    | ((with_reducible apply Moves.after State.setReg_moves ?_ ?_); rfl)
    | ((with_reducible apply Moves.after State.setSkein_moves ?_ ?_); rfl)
    | ((with_reducible apply Moves.after State.syncTag_moves ?_ ?_); rfl)
    | ((with_reducible apply Moves.after State.traceSkein_moves ?_ ?_); rfl) | split
    | (with_reducible exact Moves.refl)

theorem State.dispatchDesc_moves {s : State} {g a w : Nat} {rest : List (Nat × Nat)} : Moves [.dict, .mem, .flips, .hostMem, .queues, .skeins, .calderas, .scrubPending, .safety, .dbg, .out] s (State.dispatchDesc s g a w rest) := by
  unfold State.dispatchDesc
  repeat' first
    | dsimp only | ((with_reducible apply Moves.after State.endStream_moves ?_ ?_); rfl)
    | ((with_reducible apply Moves.after State.enterFlight_moves ?_ ?_); rfl)
    | ((with_reducible apply Moves.after State.haltStream_moves ?_ ?_); rfl)
    | ((with_reducible apply Moves.after State.ramUncorr_moves ?_ ?_); rfl)
    | ((with_reducible apply Moves.after State.setReg_moves ?_ ?_); rfl) | split | (with_reducible exact Moves.refl)

theorem doDescriptorDispatch_moves {g : Nat} {s : State} : Moves [.dict, .mem, .flips, .hostMem, .queues, .skeins, .calderas, .scrubPending, .safety, .dbg, .out] s (doDescriptorDispatch g s) := by
  unfold doDescriptorDispatch
  repeat' first
    | dsimp only | intro _ _ | ((with_reducible apply Moves.after State.dispatchDesc_moves ?_ ?_); rfl)
    | ((with_reducible apply Moves.after State.endStream_moves ?_ ?_); rfl)
    | ((with_reducible apply Moves.after State.issueStop_moves ?_ ?_); rfl)
    | ((with_reducible apply Moves.after State.setReg_moves ?_ ?_); rfl) | split | (with_reducible exact Moves.refl)

end Sys2Proof.Machine
end

