-- ==== Sys2Proof/Laws/SpindleMoves.lean ====
section
/-! SUPPORT. Laws: what each operation of Machine/Spindle.lean changes at most, and that it keeps the invariant. -/
open Sys2Proof.Safety

namespace Sys2Proof.Machine

theorem State.storeRead_moves {s : State} {u a n : Nat} : MovesFst [.dict, .mem, .flips] s (State.storeRead s u a n) := by
  unfold State.storeRead
  repeat' first
    | dsimp only | ((with_reducible apply Moves.after State.bumpSatBy_moves ?_ ?_); rfl)
    | ((with_reducible apply Moves.after State.heal_moves ?_ ?_); rfl) | split | (with_reducible exact Moves.refl)

theorem State.accRead_moves {s : State} {u q i : Nat} {int48 : Bool} : Moves [.dict, .mem, .flips] s (State.accRead s u q i int48) := by
  unfold State.accRead
  repeat' first
    | dsimp only | ((with_reducible apply Moves.after State.storeRead_moves ?_ ?_); rfl) | split
    | (with_reducible exact Moves.refl)

theorem State.accWrite_moves {s : State} {u q i : Nat} {int48 : Bool} {vs : List Int} : Moves [.mem, .flips] s (State.accWrite s u q i int48 vs) := by
  unfold State.accWrite
  repeat' first
    | dsimp only | intro _ _ | ((with_reducible apply Moves.after State.put_moves ?_ ?_); rfl) | split
    | (with_reducible exact Moves.refl)

theorem State.poisonSet_moves {s : State} {u q addr : Nat} : Moves [.dict, .mem, .flips, .hostMem, .queues, .spindles, .calderas, .scrubPending, .safety, .dbg, .out] s (State.poisonSet s u q addr) := by
  unfold State.poisonSet
  repeat' first
    | dsimp only | intro _ _ | ((with_reducible apply Moves.after State.modSpindle_moves ?_ ?_); rfl)
    | ((with_reducible apply Moves.after State.raise_moves ?_ ?_); rfl) | split | (with_reducible exact Moves.refl)

theorem State.queueInstr_moves {s : State} {g : Nat} {f : Flight} {p : Nat} : MovesFst [.spindles] s (State.queueInstr s g f p) := by
  unfold State.queueInstr
  repeat' first
    | dsimp only | intro _ _ | ((with_reducible apply Moves.after State.modSpindle_moves ?_ ?_); rfl) | split
    | (with_reducible exact Moves.refl)

theorem State.matmulDone_moves {s : State} {g : Nat} {f : Flight} : Moves [.dict, .mem, .flips, .hostMem, .queues, .skeins, .calderas, .scrubPending, .safety, .dbg, .out] s (State.matmulDone s g f) := by
  unfold State.matmulDone
  repeat' first
    | dsimp only | ((with_reducible apply Moves.after State.complete_moves ?_ ?_); rfl)
    | ((with_reducible apply Moves.after State.setReg_moves ?_ ?_); rfl)
    | ((with_reducible apply Moves.after State.syncTag_moves ?_ ?_); rfl) | split | (with_reducible exact Moves.refl)

theorem doMatmul_moves {g i : Nat} {s : State} : Moves [.dict, .mem, .flips, .hostMem, .queues, .skeins, .spindles, .calderas, .scrubPending, .safety, .dbg, .out] s (doMatmul g i s) := by
  unfold doMatmul
  repeat' first
    | dsimp only | intro _ _ | with_reducible refine Moves.foldl ?_ ?_ | with_reducible refine MovesFst.foldl ?_ ?_
    | ((with_reducible apply Moves.after State.fail_moves ?_ ?_); rfl)
    | ((with_reducible apply Moves.after State.matmulDone_moves ?_ ?_); rfl)
    | ((with_reducible apply Moves.after State.queueInstr_moves ?_ ?_); rfl)
    | ((with_reducible apply Moves.after State.setFlight_moves ?_ ?_); rfl) | split
    | (with_reducible exact Moves.refl)

theorem doShadowLoadStart_moves {u : Nat} {s : State} : Moves [.dict, .mem, .flips, .hostMem, .queues, .spindles, .calderas, .scrubPending, .safety, .dbg, .out] s (doShadowLoadStart u s) := by
  unfold doShadowLoadStart
  repeat' first
    | dsimp only | ((with_reducible apply Moves.after State.raise_moves ?_ ?_); rfl)
    | ((with_reducible apply Moves.after State.setSpindle_moves ?_ ?_); rfl)
    | ((with_reducible apply Moves.after State.storeRead_moves ?_ ?_); rfl) | split
    | (with_reducible exact Moves.refl)

theorem doShadowLoadComplete_moves {u : Nat} {s : State} : Moves [.spindles] s (doShadowLoadComplete u s) := by
  unfold doShadowLoadComplete
  repeat' first
    | dsimp only | intro _ _ | ((with_reducible apply Moves.after State.modSpindle_moves ?_ ?_); rfl) | split
    | (with_reducible exact Moves.refl)

theorem doInstructionIssue_moves {u : Nat} {s : State} : Moves [.dict, .mem, .flips, .hostMem, .queues, .skeins, .spindles, .calderas, .scrubPending, .safety, .dbg, .out] s (doInstructionIssue u s) := by
  unfold doInstructionIssue
  repeat' first
    | dsimp only | ((with_reducible apply Moves.after State.endStream_moves ?_ ?_); rfl)
    | ((with_reducible apply Moves.after State.setSpindle_moves ?_ ?_); rfl)
    | ((with_reducible apply Moves.after State.settleAbandon_moves ?_ ?_); rfl) | split
    | (with_reducible exact Moves.refl)

theorem State.rowDone_moves {s : State} {u : Nat} {i : SpInstr} {r : Nat} : Moves [.dict, .mem, .flips, .hostMem, .queues, .skeins, .spindles, .calderas, .scrubPending, .safety, .dbg, .freeUsed, .out] s (State.rowDone s u i r) := by
  unfold State.rowDone
  repeat' first
    | dsimp only | intro _ _ | with_reducible refine Moves.foldl ?_ ?_ | with_reducible refine MovesFst.foldl ?_ ?_
    | ((with_reducible apply Moves.after State.addFlags_moves ?_ ?_); rfl)
    | ((with_reducible apply Moves.after State.modSpindle_moves ?_ ?_); rfl)
    | ((with_reducible apply Moves.after State.poisonSet_moves ?_ ?_); rfl)
    | ((with_reducible apply Moves.after State.storeRead_moves ?_ ?_); rfl)
    | ((with_reducible apply Moves.after State.withFreeUsed_moves ?_ ?_); rfl) | split
    | (with_reducible exact Moves.refl)

theorem State.arrayStep_moves {s : State} {u : Nat} : MovesFst [.dict, .mem, .flips, .hostMem, .queues, .skeins, .spindles, .calderas, .scrubPending, .safety, .dbg, .freeUsed, .out] s (State.arrayStep s u) := by
  unfold State.arrayStep
  repeat' first
    | dsimp only | intro _ _ | ((with_reducible apply Moves.after State.modSpindle_moves ?_ ?_); rfl)
    | ((with_reducible apply Moves.after State.rowDone_moves ?_ ?_); rfl) | split
    | (with_reducible exact Moves.refl)

theorem doResultLand_moves {u : Nat} {s : State} : Moves [.dict, .mem, .flips, .hostMem, .queues, .skeins, .spindles, .calderas, .scrubPending, .safety, .dbg, .freeUsed, .out] s (doResultLand u s) := by
  unfold doResultLand
  repeat' first
    | dsimp only | intro _ _ | with_reducible refine Moves.foldl ?_ ?_ | with_reducible refine MovesFst.foldl ?_ ?_
    | ((with_reducible apply Moves.after State.accRead_moves ?_ ?_); rfl)
    | ((with_reducible apply Moves.after State.accWrite_moves ?_ ?_); rfl)
    | ((with_reducible apply Moves.after State.addFlags_moves ?_ ?_); rfl)
    | ((with_reducible apply Moves.after State.modSpindle_moves ?_ ?_); rfl)
    | ((with_reducible apply Moves.after State.poisonSet_moves ?_ ?_); rfl)
    | ((with_reducible apply Moves.after State.settleAbandon_moves ?_ ?_); rfl)
    | ((with_reducible apply Moves.after State.withFreeUsed_moves ?_ ?_); rfl) | split
    | (with_reducible exact Moves.refl)

theorem doDrain_moves {g i : Nat} {s : State} : Moves [.dict, .mem, .flips, .hostMem, .queues, .skeins, .spindles, .calderas, .scrubPending, .safety, .dbg, .out] s (doDrain g i s) := by
  unfold doDrain
  repeat' first
    | dsimp only | intro _ _ | with_reducible refine Moves.forEach ?_ ?_
    | ((with_reducible apply Moves.after State.fail_moves ?_ ?_); rfl)
    | ((with_reducible apply Moves.after State.failAt_moves ?_ ?_); rfl)
    | ((with_reducible apply Moves.after State.modSpindle_moves ?_ ?_); rfl)
    | ((with_reducible apply Moves.after State.setFlight_moves ?_ ?_); rfl)
    | ((with_reducible apply Moves.after State.spadRead_moves ?_ ?_); rfl) | split | (with_reducible exact Moves.refl)

theorem State.drainOver_moves {s : State} {u : Nat} {j : DrainJob} {status : Nat} : Moves [.dict, .mem, .flips, .hostMem, .queues, .skeins, .spindles, .calderas, .scrubPending, .safety, .dbg, .out] s (State.drainOver s u j status) := by
  unfold State.drainOver
  repeat' first
    | dsimp only | intro _ _ | ((with_reducible apply Moves.after State.modSkein_moves ?_ ?_); rfl)
    | ((with_reducible apply Moves.after State.modSpindle_moves ?_ ?_); rfl)
    | ((with_reducible apply Moves.after State.settle_moves ?_ ?_); rfl) | split | (with_reducible exact Moves.refl)

theorem State.drainRefused_moves {s : State} {u : Nat} {j : DrainJob} : Moves [.dict, .mem, .flips, .hostMem, .queues, .skeins, .spindles, .calderas, .scrubPending, .safety, .dbg, .out] s (State.drainRefused s u j) := by
  unfold State.drainRefused
  repeat' first
    | dsimp only | intro _ _ | with_reducible refine Moves.forEach ?_ ?_
    | ((with_reducible apply Moves.after State.fail_moves ?_ ?_); rfl)
    | ((with_reducible apply Moves.after State.modSpindle_moves ?_ ?_); rfl) | split
    | (with_reducible exact Moves.refl)

theorem State.drainChecked_moves {s : State} {u : Nat} {j : DrainJob} : Moves [.skeins] s (State.drainChecked s u j) := by
  unfold State.drainChecked
  repeat' first
    | dsimp only | intro _ _ | ((with_reducible apply Moves.after State.modSkein_moves ?_ ?_); rfl) | split
    | (with_reducible exact Moves.refl)

theorem doDrainBegin_moves {u : Nat} {s : State} : Moves [.dict, .mem, .flips, .hostMem, .queues, .skeins, .spindles, .calderas, .scrubPending, .safety, .dbg, .out] s (doDrainBegin u s) := by
  unfold doDrainBegin
  repeat' first
    | dsimp only | intro _ _ | ((with_reducible apply Moves.after State.drainChecked_moves ?_ ?_); rfl)
    | ((with_reducible apply Moves.after State.drainOver_moves ?_ ?_); rfl)
    | ((with_reducible apply Moves.after State.drainRefused_moves ?_ ?_); rfl)
    | ((with_reducible apply Moves.after State.setSpindle_moves ?_ ?_); rfl) | split
    | (with_reducible exact Moves.refl)

theorem State.drainStep_moves {s : State} {u : Nat} : Moves [.dict, .mem, .flips, .hostMem, .queues, .skeins, .spindles, .calderas, .scrubPending, .safety, .dbg, .out] s (State.drainStep s u) := by
  unfold State.drainStep
  repeat' first
    | dsimp only | intro _ _ | ((with_reducible apply Moves.after State.accRead_moves ?_ ?_); rfl)
    | ((with_reducible apply Moves.after State.addFlags_moves ?_ ?_); rfl)
    | ((with_reducible apply Moves.after State.drainOver_moves ?_ ?_); rfl)
    | ((with_reducible apply Moves.after State.modSpindle_moves ?_ ?_); rfl)
    | ((with_reducible apply Moves.after State.poisonSet_moves ?_ ?_); rfl)
    | ((with_reducible apply Moves.after State.put_moves ?_ ?_); rfl) | split | (with_reducible exact Moves.refl)

theorem State.landStep_moves {s : State} {u : Nat} : Moves [.spindles] s (State.landStep s u) := by
  unfold State.landStep
  repeat' first
    | dsimp only | intro _ _ | ((with_reducible apply Moves.after State.modSpindle_moves ?_ ?_); rfl) | split
    | (with_reducible exact Moves.refl)

theorem State.calderaStep_moves {s : State} {c : Nat} : Moves [.dict, .mem, .flips, .hostMem, .queues, .skeins, .spindles, .calderas, .scrubPending, .safety, .dbg, .freeUsed, .out] s (State.calderaStep s c) := by
  unfold State.calderaStep
  repeat' first
    | dsimp only | intro _ _ | with_reducible refine Moves.foldl ?_ ?_ | with_reducible refine MovesFst.foldl ?_ ?_
    | with_reducible refine Moves.forEach ?_ ?_
    | ((with_reducible apply Moves.after State.arrayStep_moves ?_ ?_); rfl)
    | ((with_reducible apply Moves.after State.bump_moves ?_ ?_); rfl)
    | ((with_reducible apply Moves.after State.bumpBy_moves ?_ ?_); rfl)
    | ((with_reducible apply Moves.after State.drainStep_moves ?_ ?_); rfl)
    | ((with_reducible apply Moves.after State.landStep_moves ?_ ?_); rfl)
    | ((with_reducible apply Moves.after State.settle_moves ?_ ?_); rfl) | split | (with_reducible exact Moves.refl)

end Sys2Proof.Machine
end

