-- ==== Sys2Proof/Laws/VectorMoves.lean ====
section
/-! SUPPORT. Laws: what each operation of Machine/Vector.lean changes at most, and that it keeps the invariant. -/
open Sys2Proof.Safety

namespace Sys2Proof.Machine

theorem State.eltVector_moves {s : State} {g w serial lo n : Nat} : Moves [.dict, .mem, .flips, .skeins] s (State.eltVector s g w serial lo n) := by
  unfold State.eltVector
  repeat' first
    | dsimp only | intro _ _ | with_reducible refine Moves.foldl ?_ ?_ | with_reducible refine MovesFst.foldl ?_ ?_
    | ((with_reducible apply Moves.after State.addFlags_moves ?_ ?_); rfl)
    | ((with_reducible apply Moves.after State.put_moves ?_ ?_); rfl) | split | (with_reducible exact Moves.refl)

theorem State.checkSources_moves {s : State} {g : Nat} {rs : List (Nat × Nat)} : MovesFst [.dict, .mem, .flips] s (State.checkSources s g rs) := by
  unfold State.checkSources
  repeat' first
    | dsimp only | intro _ _ | with_reducible refine Moves.foldl ?_ ?_ | with_reducible refine MovesFst.foldl ?_ ?_
    | ((with_reducible apply Moves.after State.spadRead_moves ?_ ?_); rfl) | split
    | (with_reducible exact Moves.refl)

theorem doEltwise_moves {op g i : Nat} {s : State} : Moves [.dict, .mem, .flips, .hostMem, .queues, .skeins, .calderas, .scrubPending, .safety, .dbg, .out] s (doEltwise op g i s) := by
  unfold doEltwise
  repeat' first
    | dsimp only | intro _ _ | with_reducible refine Moves.forEach ?_ ?_
    | ((with_reducible apply Moves.after State.checkSources_moves ?_ ?_); rfl)
    | ((with_reducible apply Moves.after State.complete_moves ?_ ?_); rfl)
    | ((with_reducible apply Moves.after State.eltVector_moves ?_ ?_); rfl)
    | ((with_reducible apply Moves.after State.fail_moves ?_ ?_); rfl)
    | ((with_reducible apply Moves.after State.failAt_moves ?_ ?_); rfl) | split | (with_reducible exact Moves.refl)

theorem doReduce_moves {rop g i : Nat} {s : State} : Moves [.dict, .mem, .flips, .hostMem, .queues, .skeins, .calderas, .scrubPending, .safety, .dbg, .out] s (doReduce rop g i s) := by
  unfold doReduce
  repeat' first
    | dsimp only | intro _ _ | with_reducible refine Moves.foldl ?_ ?_ | with_reducible refine MovesFst.foldl ?_ ?_
    | ((with_reducible apply Moves.after State.addFlags_moves ?_ ?_); rfl)
    | ((with_reducible apply Moves.after State.checkSources_moves ?_ ?_); rfl)
    | ((with_reducible apply Moves.after State.complete_moves ?_ ?_); rfl)
    | ((with_reducible apply Moves.after State.fail_moves ?_ ?_); rfl)
    | ((with_reducible apply Moves.after State.failAt_moves ?_ ?_); rfl)
    | ((with_reducible apply Moves.after State.put_moves ?_ ?_); rfl) | split | (with_reducible exact Moves.refl)

theorem doTable_moves {g i : Nat} {s : State} : Moves [.dict, .mem, .flips, .hostMem, .queues, .skeins, .calderas, .scrubPending, .safety, .dbg, .out] s (doTable g i s) := by
  unfold doTable
  repeat' first
    | dsimp only | intro _ _ | ((with_reducible apply Moves.after State.complete_moves ?_ ?_); rfl)
    | ((with_reducible apply Moves.after State.fail_moves ?_ ?_); rfl)
    | ((with_reducible apply Moves.after State.failAt_moves ?_ ?_); rfl)
    | ((with_reducible apply Moves.after State.modSkein_moves ?_ ?_); rfl)
    | ((with_reducible apply Moves.after State.spadRead_moves ?_ ?_); rfl) | split | (with_reducible exact Moves.refl)

theorem State.convFill_moves {s : State} {g : Nat} {q : Geom} {w u r : Nat} : Moves [.dict, .mem, .flips] s (State.convFill s g q w u r) := by
  unfold State.convFill
  repeat' first
    | dsimp only | intro _ _ | with_reducible refine Moves.forEach ?_ ?_ | with_reducible refine Moves.foldl ?_ ?_
    | with_reducible refine MovesFst.foldl ?_ ?_ | ((with_reducible apply Moves.after State.put_moves ?_ ?_); rfl)
    | ((with_reducible apply Moves.after State.spadRead_moves ?_ ?_); rfl) | split
    | (with_reducible exact Moves.refl)

theorem State.convParts_moves {s : State} {g : Nat} {f : Flight} {q : Geom} {l0 : List Nat} : Moves [.dict, .mem, .flips, .hostMem, .queues, .skeins, .spindles, .calderas, .scrubPending, .safety, .dbg, .out] s (State.convParts s g f q l0) := by
  induction l0 generalizing s
  case nil =>
    unfold State.convParts
    repeat' first
      | dsimp only | intro _ _ | with_reducible refine Moves.foldl ?_ ?_ | with_reducible refine MovesFst.foldl ?_ ?_
      | ((with_reducible apply Moves.after State.complete_moves ?_ ?_); rfl)
      | ((with_reducible apply Moves.after State.convFill_moves ?_ ?_); rfl)
      | ((with_reducible apply Moves.after State.failAt_moves ?_ ?_); rfl)
      | ((with_reducible apply Moves.after State.modSkein_moves ?_ ?_); rfl)
      | ((with_reducible apply Moves.after State.slotPresent_moves ?_ ?_); rfl) | split
      | (with_reducible exact Moves.refl)
  case cons _ _ ih =>
    unfold State.convParts
    repeat' first
      | ((with_reducible refine Moves.after ih ?_ ?_); rfl) | dsimp only | intro _ _
      | with_reducible refine Moves.foldl ?_ ?_ | with_reducible refine MovesFst.foldl ?_ ?_
      | ((with_reducible apply Moves.after State.complete_moves ?_ ?_); rfl)
      | ((with_reducible apply Moves.after State.convFill_moves ?_ ?_); rfl)
      | ((with_reducible apply Moves.after State.failAt_moves ?_ ?_); rfl)
      | ((with_reducible apply Moves.after State.modSkein_moves ?_ ?_); rfl)
      | ((with_reducible apply Moves.after State.slotPresent_moves ?_ ?_); rfl) | split
      | (with_reducible exact Moves.refl)

theorem doUnroll_moves {g i : Nat} {s : State} : Moves [.dict, .mem, .flips, .hostMem, .queues, .skeins, .spindles, .calderas, .scrubPending, .safety, .dbg, .out] s (doUnroll g i s) := by
  unfold doUnroll
  repeat' first
    | dsimp only | ((with_reducible apply Moves.after State.convParts_moves ?_ ?_); rfl)
    | ((with_reducible apply Moves.after State.setFlight_moves ?_ ?_); rfl) | split
    | (with_reducible exact Moves.refl)

theorem State.poolAll_moves {s : State} {g : Nat} {f : Flight} {q : Geom} {l0 : List Nat} : Moves [.dict, .mem, .flips, .hostMem, .queues, .skeins, .calderas, .scrubPending, .safety, .dbg, .out] s (State.poolAll s g f q l0) := by
  induction l0 generalizing s
  case nil =>
    unfold State.poolAll
    repeat' first
      | dsimp only | intro _ _ | with_reducible refine Moves.foldl ?_ ?_ | with_reducible refine MovesFst.foldl ?_ ?_
      | ((with_reducible apply Moves.after State.addFlags_moves ?_ ?_); rfl)
      | ((with_reducible apply Moves.after State.checkSources_moves ?_ ?_); rfl)
      | ((with_reducible apply Moves.after State.complete_moves ?_ ?_); rfl)
      | ((with_reducible apply Moves.after State.failAt_moves ?_ ?_); rfl)
      | ((with_reducible apply Moves.after State.put_moves ?_ ?_); rfl)
      | ((with_reducible apply Moves.after State.setFlight_moves ?_ ?_); rfl) | split
      | (with_reducible exact Moves.refl)
  case cons _ _ ih =>
    unfold State.poolAll
    repeat' first
      | ((with_reducible refine Moves.after ih ?_ ?_); rfl) | dsimp only | intro _ _
      | with_reducible refine Moves.foldl ?_ ?_ | with_reducible refine MovesFst.foldl ?_ ?_
      | ((with_reducible apply Moves.after State.addFlags_moves ?_ ?_); rfl)
      | ((with_reducible apply Moves.after State.checkSources_moves ?_ ?_); rfl)
      | ((with_reducible apply Moves.after State.complete_moves ?_ ?_); rfl)
      | ((with_reducible apply Moves.after State.failAt_moves ?_ ?_); rfl)
      | ((with_reducible apply Moves.after State.put_moves ?_ ?_); rfl)
      | ((with_reducible apply Moves.after State.setFlight_moves ?_ ?_); rfl) | split
      | (with_reducible exact Moves.refl)

theorem doPool_moves {mode g i : Nat} {s : State} : Moves [.dict, .mem, .flips, .hostMem, .queues, .skeins, .calderas, .scrubPending, .safety, .dbg, .out] s (doPool mode g i s) := by
  unfold doPool
  repeat' first
    | dsimp only | ((with_reducible apply Moves.after State.complete_moves ?_ ?_); rfl)
    | ((with_reducible apply Moves.after State.poolAll_moves ?_ ?_); rfl) | split | (with_reducible exact Moves.refl)

end Sys2Proof.Machine
end

