-- ==== Sys2Proof/Laws/WindowsMoves.lean ====
section
/-! SUPPORT. Laws: what each operation of Machine/Windows.lean changes at most, and that it keeps the invariant. -/
open Sys2Proof.Safety

namespace Sys2Proof.Machine

theorem State.transmit_moves {s : State} {l : Nat} {f : LinkFrame} : Moves [.dict, .links, .out] s (State.transmit s l f) := by
  unfold State.transmit
  repeat' first
    | dsimp only | ((with_reducible apply Moves.after State.bump_moves ?_ ?_); rfl)
    | ((with_reducible apply Moves.after State.count_moves ?_ ?_); rfl)
    | ((with_reducible apply Moves.after State.emit_moves ?_ ?_); rfl)
    | ((with_reducible apply Moves.after State.setLink_moves ?_ ?_); rfl) | split
    | (with_reducible exact Moves.refl)

theorem State.pump_moves {s : State} {l : Nat} : Moves [.dict, .links, .out] s (State.pump s l) := by
  unfold State.pump
  repeat' first
    | dsimp only | intro _ _ | with_reducible refine Moves.foldl ?_ ?_ | with_reducible refine MovesFst.foldl ?_ ?_
    | ((with_reducible apply Moves.after State.modLink_moves ?_ ?_); rfl)
    | ((with_reducible apply Moves.after State.transmit_moves ?_ ?_); rfl) | split
    | (with_reducible exact Moves.refl)

theorem State.linkPush_moves {s : State} {l : Nat} {f : LinkFrame} : Moves [.dict, .links, .out] s (State.linkPush s l f) := by
  unfold State.linkPush
  repeat' first
    | dsimp only | intro _ _ | ((with_reducible apply Moves.after State.bumpSat_moves ?_ ?_); rfl)
    | ((with_reducible apply Moves.after State.setLink_moves ?_ ?_); rfl)
    | ((with_reducible apply Moves.after State.transmit_moves ?_ ?_); rfl) | split
    | (with_reducible exact Moves.refl)

theorem State.sendFinish_moves {s : State} {g : Nat} {f : Flight} : Moves [.dict, .mem, .flips, .hostMem, .queues, .syncs, .skeins, .calderas, .scrubPending, .safety, .dbg, .out] s (State.sendFinish s g f) := by
  unfold State.sendFinish
  repeat' first
    | dsimp only | ((with_reducible apply Moves.after State.complete_moves ?_ ?_); rfl)
    | ((with_reducible apply Moves.after State.fail_moves ?_ ?_); rfl)
    | ((with_reducible apply Moves.after State.syncAdd_moves ?_ ?_); rfl) | split
    | (with_reducible exact Moves.refl)

theorem State.sendAck_moves {s : State} {g xid status : Nat} : Moves [.dict, .mem, .flips, .hostMem, .queues, .syncs, .skeins, .calderas, .scrubPending, .safety, .dbg, .out] s (State.sendAck s g xid status) := by
  unfold State.sendAck
  repeat' first
    | dsimp only | intro _ _ | ((with_reducible apply Moves.after State.sendFinish_moves ?_ ?_); rfl)
    | ((with_reducible apply Moves.after State.setFlight_moves ?_ ?_); rfl) | split
    | (with_reducible exact Moves.refl)

theorem State.crossAck_moves {s : State} {g xid status : Nat} : Moves [.calderas] s (State.crossAck s g xid status) := by
  unfold State.crossAck
  repeat' first
    | dsimp only | intro _ _ | ((with_reducible apply Moves.after State.modCaldera_moves ?_ ?_); rfl) | split
    | (with_reducible exact Moves.refl)

theorem State.respond_moves {s : State} {f : LinkFrame} {status : Nat} : Moves [.dict, .calderas, .links, .out] s (State.respond s f status) := by
  unfold State.respond
  repeat' first
    | dsimp only | ((with_reducible apply Moves.after State.crossAck_moves ?_ ?_); rfl)
    | ((with_reducible apply Moves.after State.linkPush_moves ?_ ?_); rfl) | split | (with_reducible exact Moves.refl)

theorem State.route_moves {s : State} {f : LinkFrame} : Moves [.dict, .calderas, .links, .out] s (State.route s f) := by
  unfold State.route
  repeat' first
    | dsimp only | ((with_reducible apply Moves.after State.linkPush_moves ?_ ?_); rfl)
    | ((with_reducible apply Moves.after State.respond_moves ?_ ?_); rfl) | split | (with_reducible exact Moves.refl)

theorem State.setWindow_moves {s : State} {g w : Nat} {x : Window} : Moves [.skeins] s (State.setWindow s g w x) := by
  unfold State.setWindow
  repeat' first
    | dsimp only | intro _ _ | ((with_reducible apply Moves.after State.modSkein_moves ?_ ?_); rfl)
    | (with_reducible exact Moves.refl)

theorem doWopen_moves {g i : Nat} {s : State} : Moves [.dict, .mem, .flips, .hostMem, .queues, .skeins, .calderas, .scrubPending, .safety, .dbg, .out] s (doWopen g i s) := by
  unfold doWopen
  repeat' first
    | dsimp only | intro _ _ | ((with_reducible apply Moves.after State.complete_moves ?_ ?_); rfl)
    | ((with_reducible apply Moves.after State.fail_moves ?_ ?_); rfl)
    | ((with_reducible apply Moves.after State.setWindow_moves ?_ ?_); rfl) | split
    | (with_reducible exact Moves.refl)

theorem State.closeSettle_moves {s : State} {g : Nat} : Moves [.dict, .mem, .flips, .hostMem, .queues, .skeins, .calderas, .scrubPending, .safety, .dbg, .out] s (State.closeSettle s g) := by
  unfold State.closeSettle
  repeat' first
    | dsimp only | intro _ _ | with_reducible refine Moves.forEach ?_ ?_
    | ((with_reducible apply Moves.after State.complete_moves ?_ ?_); rfl)
    | ((with_reducible apply Moves.after State.setWindow_moves ?_ ?_); rfl) | split
    | (with_reducible exact Moves.refl)

theorem doWclose_moves {g i : Nat} {s : State} : Moves [.dict, .mem, .flips, .hostMem, .queues, .skeins, .calderas, .scrubPending, .safety, .dbg, .out] s (doWclose g i s) := by
  unfold doWclose
  repeat' first
    | dsimp only | ((with_reducible apply Moves.after State.closeSettle_moves ?_ ?_); rfl)
    | ((with_reducible apply Moves.after State.fail_moves ?_ ?_); rfl)
    | ((with_reducible apply Moves.after State.setFlight_moves ?_ ?_); rfl)
    | ((with_reducible apply Moves.after State.setWindow_moves ?_ ?_); rfl) | split
    | (with_reducible exact Moves.refl)

theorem State.hostRefusal_moves {s : State} {status da : Nat} : Moves [.dict] s (State.hostRefusal s status da) := by
  unfold State.hostRefusal
  repeat' first
    | dsimp only | ((with_reducible apply Moves.after State.bumpSat_moves ?_ ?_); rfl)
    | ((with_reducible apply Moves.after State.setReg_moves ?_ ?_); rfl) | (with_reducible exact Moves.refl)

theorem State.hostAbort_moves {s : State} {status da : Nat} : Moves [.dict, .out] s (State.hostAbort s status da) := by
  unfold State.hostAbort
  repeat' first
    | dsimp only | ((with_reducible apply Moves.after State.emit_moves ?_ ?_); rfl)
    | ((with_reducible apply Moves.after State.hostRefusal_moves ?_ ?_); rfl) | (with_reducible exact Moves.refl)

theorem State.answerWrite_moves {s : State} {g : Nat} {r : RemoteWrite} {status : Nat} : Moves [.dict, .mem, .flips, .hostMem, .queues, .syncs, .skeins, .calderas, .scrubPending, .safety, .links, .dbg, .out] s (State.answerWrite s g r status) := by
  unfold State.answerWrite
  repeat' first
    | dsimp only | intro _ _ | ((with_reducible apply Moves.after State.hostAbort_moves ?_ ?_); rfl)
    | ((with_reducible apply Moves.after State.modDebug_moves ?_ ?_); rfl)
    | ((with_reducible apply Moves.after State.modSkein_moves ?_ ?_); rfl)
    | ((with_reducible apply Moves.after State.respond_moves ?_ ?_); rfl)
    | ((with_reducible apply Moves.after State.sendAck_moves ?_ ?_); rfl) | split
    | (with_reducible exact Moves.refl)

theorem State.refuseWrite_moves {s : State} {g : Nat} {r : RemoteWrite} {v : Nat × Nat} : Moves [.dict, .mem, .flips, .hostMem, .queues, .syncs, .skeins, .calderas, .scrubPending, .safety, .links, .dbg, .out] s (State.refuseWrite s g r v) := by
  unfold State.refuseWrite
  repeat' first
    | dsimp only | ((with_reducible apply Moves.after State.answerWrite_moves ?_ ?_); rfl)
    | ((with_reducible apply Moves.after State.bumpSat_moves ?_ ?_); rfl)
    | ((with_reducible apply Moves.after State.setReg_moves ?_ ?_); rfl) | split | (with_reducible exact Moves.refl)

theorem State.closingFrame_moves {s : State} {g : Nat} {r : RemoteWrite} {id part sk : Nat} : Moves [.dict, .syncs, .skeins, .calderas, .links, .out] s (State.closingFrame s g r id part sk) := by
  unfold State.closingFrame
  repeat' first
    | dsimp only | intro _ _ | ((with_reducible apply Moves.after State.bumpSat_moves ?_ ?_); rfl)
    | ((with_reducible apply Moves.after State.outerAdd_moves ?_ ?_); rfl)
    | ((with_reducible apply Moves.after State.respond_moves ?_ ?_); rfl)
    | ((with_reducible apply Moves.after State.setSkein_moves ?_ ?_); rfl) | split | (with_reducible exact Moves.refl)

theorem doRemoteWrite_moves {g : Nat} {s : State} : Moves [.dict, .mem, .flips, .hostMem, .queues, .syncs, .skeins, .calderas, .scrubPending, .safety, .links, .dbg, .out] s (doRemoteWrite g s) := by
  unfold doRemoteWrite
  repeat' first
    | dsimp only | intro _ _ | with_reducible refine Moves.foldl ?_ ?_ | with_reducible refine MovesFst.foldl ?_ ?_
    | ((with_reducible apply Moves.after State.closingFrame_moves ?_ ?_); rfl)
    | ((with_reducible apply Moves.after State.count_moves ?_ ?_); rfl)
    | ((with_reducible apply Moves.after State.modSkein_moves ?_ ?_); rfl)
    | ((with_reducible apply Moves.after State.refuseWrite_moves ?_ ?_); rfl) | split
    | (with_reducible exact Moves.refl)

theorem State.putEnabled_moves {s : State} {a : Nat} {l0 : List (Option Byte)} : Moves [.mem, .flips] s (State.putEnabled s a l0) := by
  induction l0 generalizing s a
  case nil =>
    unfold State.putEnabled
    repeat' first
      | dsimp only | intro _ _ | ((with_reducible apply Moves.after State.put_moves ?_ ?_); rfl) | split
      | (with_reducible exact Moves.refl)
  case cons _ _ ih =>
    unfold State.putEnabled
    repeat' first
      | ((with_reducible refine Moves.after ih ?_ ?_); rfl) | dsimp only | intro _ _
      | ((with_reducible apply Moves.after State.put_moves ?_ ?_); rfl) | split | (with_reducible exact Moves.refl)

theorem State.putMasked_moves {s : State} {a : Nat} {bs : List (Option Byte)} : Moves [.mem, .flips] s (State.putMasked s a bs) := by
  unfold State.putMasked
  repeat' first
    | dsimp only | ((with_reducible apply Moves.after State.put_moves ?_ ?_); rfl)
    | ((with_reducible apply Moves.after State.putEnabled_moves ?_ ?_); rfl) | split
    | (with_reducible exact Moves.refl)

theorem doRemoteWriteLand_moves {g : Nat} {s : State} : Moves [.dict, .mem, .flips, .hostMem, .queues, .syncs, .skeins, .calderas, .scrubPending, .safety, .links, .dbg, .out] s (doRemoteWriteLand g s) := by
  unfold doRemoteWriteLand
  repeat' first
    | dsimp only | intro _ _ | ((with_reducible apply Moves.after State.answerWrite_moves ?_ ?_); rfl)
    | ((with_reducible apply Moves.after State.closeSettle_moves ?_ ?_); rfl)
    | ((with_reducible apply Moves.after State.modSkein_moves ?_ ?_); rfl)
    | ((with_reducible apply Moves.after State.putMasked_moves ?_ ?_); rfl) | split
    | (with_reducible exact Moves.refl)

theorem State.sendRemote_moves {s : State} {g : Nat} {f : Flight} {type : Nat} {parts : List (Nat × List Byte)} : Moves [.dict, .skeins, .calderas, .links, .out] s (State.sendRemote s g f type parts) := by
  unfold State.sendRemote
  repeat' first
    | dsimp only | intro _ _ | with_reducible refine Moves.foldl ?_ ?_ | with_reducible refine MovesFst.foldl ?_ ?_
    | ((with_reducible apply Moves.after State.route_moves ?_ ?_); rfl)
    | ((with_reducible apply Moves.after State.setFlight_moves ?_ ?_); rfl) | split
    | (with_reducible exact Moves.refl)

theorem State.sendBegin_moves {s : State} {g : Nat} {f : Flight} : MovesFst [.dict, .mem, .flips, .hostMem, .queues, .skeins, .calderas, .scrubPending, .safety, .dbg, .out] s (State.sendBegin s g f) := by
  unfold State.sendBegin
  repeat' first
    | dsimp only | intro _ _ | ((with_reducible apply Moves.after State.fail_moves ?_ ?_); rfl)
    | ((with_reducible apply Moves.after State.failAt_moves ?_ ?_); rfl)
    | ((with_reducible apply Moves.after State.modSkein_moves ?_ ?_); rfl)
    | ((with_reducible apply Moves.after State.setFlight_moves ?_ ?_); rfl)
    | ((with_reducible apply Moves.after State.spadRead_moves ?_ ?_); rfl) | split | (with_reducible exact Moves.refl)

theorem doSend_moves {g i : Nat} {s : State} : Moves [.dict, .mem, .flips, .hostMem, .queues, .skeins, .calderas, .scrubPending, .safety, .links, .dbg, .out] s (doSend g i s) := by
  unfold doSend
  repeat' first
    | dsimp only | intro _ _ | ((with_reducible apply Moves.after State.modSkein_moves ?_ ?_); rfl)
    | ((with_reducible apply Moves.after State.sendBegin_moves ?_ ?_); rfl)
    | ((with_reducible apply Moves.after State.sendRemote_moves ?_ ?_); rfl)
    | ((with_reducible apply Moves.after State.setFlight_moves ?_ ?_); rfl) | split
    | (with_reducible exact Moves.refl)

theorem doSendQueue_moves {g i : Nat} {s : State} : Moves [.dict, .mem, .flips, .hostMem, .queues, .syncs, .skeins, .calderas, .scrubPending, .safety, .links, .dbg, .out] s (doSendQueue g i s) := by
  unfold doSendQueue
  repeat' first
    | dsimp only | intro _ _ | with_reducible refine Moves.foldl ?_ ?_ | with_reducible refine MovesFst.foldl ?_ ?_
    | ((with_reducible apply Moves.after State.queuePush_moves ?_ ?_); rfl)
    | ((with_reducible apply Moves.after State.sendBegin_moves ?_ ?_); rfl)
    | ((with_reducible apply Moves.after State.sendFinish_moves ?_ ?_); rfl)
    | ((with_reducible apply Moves.after State.sendRemote_moves ?_ ?_); rfl) | split
    | (with_reducible exact Moves.refl)

theorem doResp_moves {g xid status : Nat} {s : State} : Moves [.calderas] s (doResp g xid status s) := by
  unfold doResp
  repeat' first
    | dsimp only | ((with_reducible apply Moves.after State.crossAck_moves ?_ ?_); rfl) | split
    | (with_reducible exact Moves.refl)

end Sys2Proof.Machine
end

