-- ==== Sys2Proof/Laws/ChannelsMoves.lean ====
section
/-! SUPPORT. Laws: what each operation of Machine/Channels.lean changes at most, and that it keeps the invariant. -/
open Sys2Proof.Safety

namespace Sys2Proof.Machine

theorem doWheelPeriodStart_moves {s : State} : Moves [.dict, .channels] s (doWheelPeriodStart s) := by
  unfold doWheelPeriodStart
  repeat' first
    | dsimp only | intro _ _ | with_reducible refine Moves.forEach ?_ ?_
    | ((with_reducible apply Moves.after State.setReg_moves ?_ ?_); rfl)
    | ((with_reducible apply Moves.after State.modChannel_moves ?_ ?_); rfl) | (with_reducible exact Moves.refl)

theorem State.fetchUnit_moves {s : State} {c l pa : Nat} : Moves [.dict, .calderas] s (State.fetchUnit s c l pa) := by
  unfold State.fetchUnit
  repeat' first
    | dsimp only | intro _ _ | with_reducible refine Moves.foldl ?_ ?_ | with_reducible refine MovesFst.foldl ?_ ?_
    | ((with_reducible apply Moves.after State.lateRefusal_moves ?_ ?_); rfl)
    | ((with_reducible apply Moves.after State.modCaldera_moves ?_ ?_); rfl)
    | ((with_reducible apply Moves.after State.noteRead_moves ?_ ?_); rfl) | split | (with_reducible exact Moves.refl)

theorem State.carry_moves {s : State} {a : Access} : Moves [.dict, .mem, .flips, .hostMem, .queues, .skeins, .calderas, .scrubPending, .safety, .dbg, .out] s (State.carry s a) := by
  unfold State.carry
  repeat' first
    | dsimp only | ((with_reducible apply Moves.after State.fetchUnit_moves ?_ ?_); rfl)
    | ((with_reducible apply Moves.after State.storeAck_moves ?_ ?_); rfl)
    | ((with_reducible apply Moves.after State.writeUnit_moves ?_ ?_); rfl) | split
    | (with_reducible exact Moves.refl)

theorem doChannelAccessSlot_moves {q : Nat} {s : State} : Moves [.dict, .mem, .flips, .hostMem, .queues, .skeins, .calderas, .channels, .scrubPending, .safety, .dbg, .freeUsed, .out] s (doChannelAccessSlot q s) := by
  unfold doChannelAccessSlot
  repeat' first
    | dsimp only | intro _ _ | ((with_reducible apply Moves.after State.carry_moves ?_ ?_); rfl)
    | ((with_reducible apply Moves.after State.count_moves ?_ ?_); rfl)
    | ((with_reducible apply Moves.after State.free_moves ?_ ?_); rfl)
    | ((with_reducible apply Moves.after State.setChannel_moves ?_ ?_); rfl) | split
    | (with_reducible exact Moves.refl)

theorem doRefreshBusy_moves {q : Nat} {s : State} : Moves [.dict, .channels] s (doRefreshBusy q s) := by
  unfold doRefreshBusy
  repeat' first
    | dsimp only | ((with_reducible apply Moves.after State.count_moves ?_ ?_); rfl)
    | ((with_reducible apply Moves.after State.setChannel_moves ?_ ?_); rfl) | split
    | (with_reducible exact Moves.refl)

theorem State.scrubTake_moves {s : State} {q : Nat} : Moves [.dict, .channels] s (State.scrubTake s q) := by
  unfold State.scrubTake
  repeat' first
    | dsimp only | intro _ _ | ((with_reducible apply Moves.after State.count_moves ?_ ?_); rfl)
    | ((with_reducible apply Moves.after State.modChannel_moves ?_ ?_); rfl) | split
    | (with_reducible exact Moves.refl)

theorem State.scrubWait_moves {s : State} : Moves [.dict] s (State.scrubWait s) := by
  unfold State.scrubWait
  repeat' first
    | dsimp only | ((with_reducible apply Moves.after State.setReg_moves ?_ ?_); rfl) | split
    | (with_reducible exact Moves.refl)

theorem State.scrubGo_moves {s : State} : Moves [.dict] s (State.scrubGo s) := by
  unfold State.scrubGo
  repeat' first
    | dsimp only | ((with_reducible apply Moves.after State.opStart_moves ?_ ?_); rfl)
    | ((with_reducible apply Moves.after State.setReg_moves ?_ ?_); rfl) | split | (with_reducible exact Moves.refl)

theorem State.scrubWrap_moves {s : State} : Moves [.dict] s (State.scrubWrap s) := by
  unfold State.scrubWrap
  repeat' first
    | dsimp only | ((with_reducible apply Moves.after State.bump_moves ?_ ?_); rfl)
    | ((with_reducible apply Moves.after State.opStart_moves ?_ ?_); rfl)
    | ((with_reducible apply Moves.after State.setReg_moves ?_ ?_); rfl) | (with_reducible exact Moves.refl)

theorem doScrubRead_moves {s : State} : Moves [.dict, .mem, .flips, .hostMem, .queues, .calderas, .channels, .scrubPending, .safety, .dbg, .out] s (doScrubRead s) := by
  unfold doScrubRead
  repeat' first
    | dsimp only | intro _ _ | ((with_reducible apply Moves.after State.bumpSatBy_moves ?_ ?_); rfl)
    | ((with_reducible apply Moves.after State.noteRead_moves ?_ ?_); rfl)
    | ((with_reducible apply Moves.after State.raise_moves ?_ ?_); rfl)
    | ((with_reducible apply Moves.after State.scrubGo_moves ?_ ?_); rfl)
    | ((with_reducible apply Moves.after State.scrubTake_moves ?_ ?_); rfl)
    | ((with_reducible apply Moves.after State.scrubWait_moves ?_ ?_); rfl)
    | ((with_reducible apply Moves.after State.scrubWrap_moves ?_ ?_); rfl)
    | ((with_reducible apply Moves.after State.setReg_moves ?_ ?_); rfl)
    | ((with_reducible apply Moves.after State.withScrubPending_moves ?_ ?_); rfl) | split
    | (with_reducible exact Moves.refl)

theorem doScrubWriteBack_moves {s : State} : Moves [.dict, .mem, .flips, .channels, .scrubPending] s (doScrubWriteBack s) := by
  unfold doScrubWriteBack
  repeat' first
    | dsimp only | ((with_reducible apply Moves.after State.bumpSat_moves ?_ ?_); rfl)
    | ((with_reducible apply Moves.after State.heal_moves ?_ ?_); rfl)
    | ((with_reducible apply Moves.after State.scrubGo_moves ?_ ?_); rfl)
    | ((with_reducible apply Moves.after State.scrubTake_moves ?_ ?_); rfl)
    | ((with_reducible apply Moves.after State.scrubWait_moves ?_ ?_); rfl)
    | ((with_reducible apply Moves.after State.withScrubPending_moves ?_ ?_); rfl) | split
    | (with_reducible exact Moves.refl)

theorem State.bankCommand_moves {s : State} {b target : Nat} : MovesFst [.dict, .bankTargets] s (State.bankCommand s b target) := by
  unfold State.bankCommand
  repeat' first
    | dsimp only | intro _ _ | ((with_reducible apply Moves.after State.opStart_moves ?_ ?_); rfl)
    | ((with_reducible apply Moves.after State.setReg_moves ?_ ?_); rfl)
    | ((with_reducible apply Moves.after State.withBankTargets_moves ?_ ?_); rfl) | split
    | (with_reducible exact Moves.refl)

theorem State.bankWipe_moves {s : State} {b : Nat} : Moves [.mem, .flips] s (s.bankWipe b) := by
  refine Moves.after State.withFlips_moves ?_ (Moves.after (State.withMem_moves (wipe_wf _ _ _)) ?_ Moves.refl) <;> rfl

theorem doBankCloseComplete_moves {b : Nat} {s : State} : Moves [.dict, .mem, .flips, .bankTargets] s (doBankCloseComplete b s) := by
  unfold doBankCloseComplete
  repeat' first
    | dsimp only | intro _ _ | ((with_reducible apply Moves.after State.bankWipe_moves ?_ ?_); rfl)
    | ((with_reducible apply Moves.after State.setReg_moves ?_ ?_); rfl)
    | ((with_reducible apply Moves.after State.withBankTargets_moves ?_ ?_); rfl) | split
    | (with_reducible exact Moves.refl)

theorem doBankOpenComplete_moves {b : Nat} {s : State} : Moves [.dict, .mem, .flips, .bankTargets] s (doBankOpenComplete b s) := by
  unfold doBankOpenComplete
  repeat' first
    | dsimp only | intro _ _ | ((with_reducible apply Moves.after State.bankWipe_moves ?_ ?_); rfl)
    | ((with_reducible apply Moves.after State.opEnd_moves ?_ ?_); rfl)
    | ((with_reducible apply Moves.after State.setReg_moves ?_ ?_); rfl)
    | ((with_reducible apply Moves.after State.withBankTargets_moves ?_ ?_); rfl) | split
    | (with_reducible exact Moves.refl)

end Sys2Proof.Machine
end

