-- ==== Sys2Proof/Laws/TreadleMoves.lean ====
section
/-! SUPPORT. Laws: what each operation of Machine/Treadle.lean changes at most, and that it keeps the invariant. -/
open Sys2Proof.Safety

namespace Sys2Proof.Machine

theorem doTreadleSettingsApply_moves {p : Nat} {s : State} : Moves [.dict] s (doTreadleSettingsApply p s) := by
  unfold doTreadleSettingsApply
  repeat' first
    | dsimp only | intro _ _ | with_reducible refine Moves.forEach ?_ ?_
    | ((with_reducible apply Moves.after State.setReg_moves ?_ ?_); rfl) | split | (with_reducible exact Moves.refl)

theorem State.toNormal_moves {s : State} {p : Nat} : Moves [.dict, .out] s (State.toNormal s p) := by
  unfold State.toNormal
  repeat' first
    | dsimp only | ((with_reducible apply Moves.after State.emcy_moves ?_ ?_); rfl)
    | ((with_reducible apply Moves.after State.setReg_moves ?_ ?_); rfl) | split | (with_reducible exact Moves.refl)

theorem State.frameMargin_moves {s : State} {p c : Nat} : Moves [.dict, .mem, .flips, .hostMem, .queues, .calderas, .scrubPending, .safety, .dbg, .freeUsed, .out] s (State.frameMargin s p c) := by
  unfold State.frameMargin
  repeat' first
    | dsimp only | ((with_reducible apply Moves.after State.setReg_moves ?_ ?_); rfl)
    | ((with_reducible apply Moves.after State.warn_moves ?_ ?_); rfl)
    | ((with_reducible apply Moves.after State.warnEnd_moves ?_ ?_); rfl)
    | ((with_reducible apply Moves.after State.withFreeUsed_moves ?_ ?_); rfl) | split
    | (with_reducible exact Moves.refl)

theorem State.frameCaldera_moves {s : State} {p c : Nat} : Moves [.dict, .mem, .flips, .hostMem, .queues, .calderas, .scrubPending, .safety, .dbg, .freeUsed, .out] s (State.frameCaldera s p c) := by
  unfold State.frameCaldera
  repeat' first
    | dsimp only | intro _ _ | ((with_reducible apply Moves.after State.ageFault_moves ?_ ?_); rfl)
    | ((with_reducible apply Moves.after State.frameMargin_moves ?_ ?_); rfl)
    | ((with_reducible apply Moves.after State.maxReg_moves ?_ ?_); rfl)
    | ((with_reducible apply Moves.after State.modCaldera_moves ?_ ?_); rfl)
    | ((with_reducible apply Moves.after State.setReg_moves ?_ ?_); rfl) | split | (with_reducible exact Moves.refl)

theorem doTreadleFrameStart_moves {p : Nat} {s : State} : Moves [.dict, .mem, .flips, .hostMem, .queues, .calderas, .scrubPending, .plans, .safety, .dbg, .freeUsed, .out] s (doTreadleFrameStart p s) := by
  unfold doTreadleFrameStart
  repeat' first
    | dsimp only | intro _ _ | with_reducible refine Moves.forEach ?_ ?_
    | ((with_reducible apply Moves.after State.bump_moves ?_ ?_); rfl)
    | ((with_reducible apply Moves.after State.frameCaldera_moves ?_ ?_); rfl)
    | ((with_reducible apply Moves.after State.modPlan_moves ?_ ?_); rfl)
    | ((with_reducible apply Moves.after State.toNormal_moves ?_ ?_); rfl) | split | (with_reducible exact Moves.refl)

theorem State.releaseStep_moves {s : State} {c : Nat} : Moves [.dict, .mem, .flips, .hostMem, .queues, .skeins, .spindles, .calderas, .scrubPending, .safety, .dbg, .freeUsed, .out] s (State.releaseStep s c) := by
  unfold State.releaseStep
  repeat' first
    | dsimp only | intro _ _ | ((with_reducible apply Moves.after State.bump_moves ?_ ?_); rfl)
    | ((with_reducible apply Moves.after State.calderaStep_moves ?_ ?_); rfl)
    | ((with_reducible apply Moves.after State.modCaldera_moves ?_ ?_); rfl) | split
    | (with_reducible exact Moves.refl)

theorem State.tickCaldera_moves {s : State} {c : Nat} {late : Bool} : Moves [.dict, .mem, .flips, .hostMem, .queues, .skeins, .spindles, .calderas, .scrubPending, .safety, .dbg, .freeUsed, .out] s (State.tickCaldera s c late) := by
  unfold State.tickCaldera
  repeat' first
    | dsimp only | intro _ _ | ((with_reducible apply Moves.after State.ageFault_moves ?_ ?_); rfl)
    | ((with_reducible apply Moves.after State.bumpSat_moves ?_ ?_); rfl)
    | ((with_reducible apply Moves.after State.modCaldera_moves ?_ ?_); rfl)
    | ((with_reducible apply Moves.after State.raise_moves ?_ ?_); rfl)
    | ((with_reducible apply Moves.after State.releaseStep_moves ?_ ?_); rfl) | split
    | (with_reducible exact Moves.refl)

theorem doTreadleTick_moves {p late : Nat} {s : State} : Moves [.dict, .mem, .flips, .hostMem, .queues, .skeins, .spindles, .calderas, .scrubPending, .plans, .safety, .dbg, .freeUsed, .out] s (doTreadleTick p late s) := by
  unfold doTreadleTick
  repeat' first
    | dsimp only | intro _ _ | with_reducible refine Moves.forEach ?_ ?_
    | ((with_reducible apply Moves.after State.modPlan_moves ?_ ?_); rfl)
    | ((with_reducible apply Moves.after State.tickCaldera_moves ?_ ?_); rfl) | split
    | (with_reducible exact Moves.refl)

theorem doStepHandshakeComplete_moves {c : Nat} {s : State} : Moves [.dict, .mem, .flips, .hostMem, .queues, .skeins, .spindles, .calderas, .scrubPending, .safety, .dbg, .freeUsed, .out] s (doStepHandshakeComplete c s) := by
  unfold doStepHandshakeComplete
  repeat' first
    | dsimp only | ((with_reducible apply Moves.after State.releaseStep_moves ?_ ?_); rfl) | split
    | (with_reducible exact Moves.refl)

theorem doReservedSlotBegin_moves {c : Nat} {s : State} : Moves [.calderas] s (doReservedSlotBegin c s) := by
  unfold doReservedSlotBegin
  repeat' first
    | dsimp only | intro _ _ | ((with_reducible apply Moves.after State.modCaldera_moves ?_ ?_); rfl) | split
    | (with_reducible exact Moves.refl)

theorem doReservedSlotEnd_moves {c : Nat} {s : State} : Moves [.dict, .mem, .flips, .hostMem, .queues, .skeins, .calderas, .scrubPending, .safety, .dbg, .out] s (doReservedSlotEnd c s) := by
  unfold doReservedSlotEnd
  repeat' first
    | dsimp only | intro _ _ | with_reducible refine Moves.forEach ?_ ?_
    | ((with_reducible apply Moves.after State.modCaldera_moves ?_ ?_); rfl)
    | ((with_reducible apply Moves.after State.setReg_moves ?_ ?_); rfl)
    | ((with_reducible apply Moves.after State.settle_moves ?_ ?_); rfl) | split | (with_reducible exact Moves.refl)

theorem doCompletionDelivery_moves {c latencyNs : Nat} {refresh : Bool} {s : State} : Moves [.dict] s (doCompletionDelivery c latencyNs refresh s) := by
  unfold doCompletionDelivery
  repeat' first
    | dsimp only | ((with_reducible apply Moves.after State.bumpSat_moves ?_ ?_); rfl)
    | ((with_reducible apply Moves.after State.setReg_moves ?_ ?_); rfl) | split | (with_reducible exact Moves.refl)

theorem State.stopCaldera_moves {s : State} {c : Nat} : Moves [.dict, .skeins, .calderas, .dbg] s (State.stopCaldera s c) := by
  unfold State.stopCaldera
  repeat' first
    | dsimp only | intro _ _ | with_reducible refine Moves.forEach ?_ ?_
    | ((with_reducible apply Moves.after State.modCaldera_moves ?_ ?_); rfl)
    | ((with_reducible apply Moves.after State.modDebug_moves ?_ ?_); rfl)
    | ((with_reducible apply Moves.after State.modSkein_moves ?_ ?_); rfl)
    | ((with_reducible apply Moves.after State.setStreamState_moves ?_ ?_); rfl)
    | ((with_reducible apply Moves.after State.traceStop_moves ?_ ?_); rfl) | split
    | (with_reducible exact Moves.refl)

theorem State.releaseDone_moves {s : State} : Moves [.dict] s (State.releaseDone s) := by
  unfold State.releaseDone
  repeat' first
    | dsimp only | ((with_reducible apply Moves.after State.setReg_moves ?_ ?_); rfl) | split
    | (with_reducible exact Moves.refl)

theorem State.releaseCaldera_moves {s : State} {c : Nat} : Moves [.dict, .skeins, .calderas, .dbg] s (State.releaseCaldera s c) := by
  unfold State.releaseCaldera
  repeat' first
    | dsimp only | intro _ _ | with_reducible refine Moves.forEach ?_ ?_
    | ((with_reducible apply Moves.after State.modCaldera_moves ?_ ?_); rfl)
    | ((with_reducible apply Moves.after State.modDebug_moves ?_ ?_); rfl)
    | ((with_reducible apply Moves.after State.modSkein_moves ?_ ?_); rfl)
    | ((with_reducible apply Moves.after State.releaseDone_moves ?_ ?_); rfl)
    | ((with_reducible apply Moves.after State.resumeHalted_moves ?_ ?_); rfl)
    | ((with_reducible apply Moves.after State.setStreamState_moves ?_ ?_); rfl)
    | ((with_reducible apply Moves.after State.traceStop_moves ?_ ?_); rfl)
    | ((with_reducible apply Moves.after State.wakeAll_moves ?_ ?_); rfl) | split | (with_reducible exact Moves.refl)

theorem doExternalEventEffect_moves {c : Nat} {s : State} : Moves [.dict, .mem, .flips, .hostMem, .queues, .syncs, .skeins, .calderas, .scrubPending, .safety, .dbg, .out] s (doExternalEventEffect c s) := by
  unfold doExternalEventEffect
  repeat' first
    | dsimp only | intro _ _ | ((with_reducible apply Moves.after State.modCaldera_moves ?_ ?_); rfl)
    | ((with_reducible apply Moves.after State.releaseCaldera_moves ?_ ?_); rfl)
    | ((with_reducible apply Moves.after State.sendAck_moves ?_ ?_); rfl)
    | ((with_reducible apply Moves.after State.stopCaldera_moves ?_ ?_); rfl)
    | ((with_reducible apply Moves.after State.timeoutEffect_moves ?_ ?_); rfl)
    | ((with_reducible apply Moves.after State.wakeSkein_moves ?_ ?_); rfl) | split
    | (with_reducible exact Moves.refl)

theorem doCutComplete_moves {s : State} : Moves [.dict, .dbg] s (doCutComplete s) := by
  unfold doCutComplete
  repeat' first
    | dsimp only | ((with_reducible apply Moves.after State.setReg_moves ?_ ?_); rfl)
    | ((with_reducible apply Moves.after State.trace_moves ?_ ?_); rfl) | split | (with_reducible exact Moves.refl)

end Sys2Proof.Machine
end

