-- ==== Sys2Proof/Laws/PipelineMoves.lean ====
section
/-! SUPPORT. Laws: what each operation of Machine/Pipeline.lean changes at most, and that it keeps the invariant. -/
open Sys2Proof.Safety

namespace Sys2Proof.Machine

theorem State.blockReadEvents_moves {s : State} {p da n : Nat} : Moves [.dict, .mem, .flips, .hostMem, .queues, .calderas, .scrubPending, .safety, .dbg, .out] s (State.blockReadEvents s p da n) := by
  unfold State.blockReadEvents
  repeat' first
    | dsimp only | ((with_reducible apply Moves.after State.memUncorr_moves ?_ ?_); rfl)
    | ((with_reducible apply Moves.after State.readEvents_moves ?_ ?_); rfl) | split
    | (with_reducible exact Moves.refl)

theorem State.blockWrite_moves {s : State} {p da : Nat} {bs : List Byte} : MovesFst [.dict, .mem, .flips, .hostMem, .calderas, .scrubPending] s (State.blockWrite s p da bs) := by
  unfold State.blockWrite
  repeat' first
    | dsimp only | ((with_reducible apply Moves.after State.writeDev_moves ?_ ?_); rfl) | split
    | (with_reducible exact Moves.refl)

theorem State.setFrame_moves {s : State} {n : Nat} {f : ChainFrame} : Moves [.cameras] s (State.setFrame s n f) := by
  unfold State.setFrame
  repeat' first
    | dsimp only | intro _ _ | ((with_reducible apply Moves.after State.modCamera_moves ?_ ?_); rfl) | split
    | (with_reducible exact Moves.refl)

theorem State.settleFrames_moves {s : State} {n : Nat} : Moves [.cameras] s (State.settleFrames s n) := by
  unfold State.settleFrames
  repeat' first
    | dsimp only | intro _ _ | ((with_reducible apply Moves.after State.modCamera_moves ?_ ?_); rfl)
    | (with_reducible exact Moves.refl)

theorem State.writeList_moves {s : State} {n da : Nat} {tile : Option (Nat × Nat)} {invalid : Bool} : Moves [.dict, .mem, .flips, .hostMem, .calderas, .scrubPending] s (State.writeList s n da tile invalid) := by
  unfold State.writeList
  repeat' first
    | dsimp only | ((with_reducible apply Moves.after State.blockWrite_moves ?_ ?_); rfl)
    | ((with_reducible apply Moves.after State.bumpSat_moves ?_ ?_); rfl) | split
    | (with_reducible exact Moves.refl)

theorem State.tileOvf_moves {s : State} {n number : Nat} : Moves [.dict, .cameras] s (State.tileOvf s n number) := by
  unfold State.tileOvf
  repeat' first
    | dsimp only | intro _ _ | ((with_reducible apply Moves.after State.bumpSat_moves ?_ ?_); rfl)
    | ((with_reducible apply Moves.after State.setFrame_moves ?_ ?_); rfl) | split
    | (with_reducible exact Moves.refl)

theorem State.moveLast_moves {s : State} {n : Nat} {f : ChainFrame} : Moves [.cameras] s (State.moveLast s n f) := by
  unfold State.moveLast
  repeat' first
    | dsimp only | intro _ _ | with_reducible refine Moves.foldl ?_ ?_ | with_reducible refine MovesFst.foldl ?_ ?_
    | ((with_reducible apply Moves.after State.modCamera_moves ?_ ?_); rfl) | split
    | (with_reducible exact Moves.refl)

theorem State.formBatch_moves {s : State} {n : Nat} {f : ChainFrame} {ts : List (Nat × Nat)} {last : Bool} : Moves [.dict, .mem, .flips, .hostMem, .queues, .calderas, .scrubPending, .cameras, .safety, .dbg, .out] s (State.formBatch s n f ts last) := by
  unfold State.formBatch
  repeat' first
    | dsimp only | intro _ _ | with_reducible refine Moves.foldl ?_ ?_ | with_reducible refine MovesFst.foldl ?_ ?_
    | ((with_reducible apply Moves.after State.bumpSat_moves ?_ ?_); rfl)
    | ((with_reducible apply Moves.after State.moveLast_moves ?_ ?_); rfl)
    | ((with_reducible apply Moves.after State.raise_moves ?_ ?_); rfl)
    | ((with_reducible apply Moves.after State.setCamera_moves ?_ ?_); rfl)
    | ((with_reducible apply Moves.after State.setFrame_moves ?_ ?_); rfl)
    | ((with_reducible apply Moves.after State.tileOvf_moves ?_ ?_); rfl)
    | ((with_reducible apply Moves.after State.writeList_moves ?_ ?_); rfl) | split
    | (with_reducible exact Moves.refl)

theorem State.releaseSlot_moves {s : State} {n number : Nat} {slots : List (Option (Nat × Nat))} : Moves [.dict, .mem, .flips, .hostMem, .queues, .calderas, .scrubPending, .cameras, .gatherQueue, .safety, .dbg, .out] s (State.releaseSlot s n number slots) := by
  unfold State.releaseSlot
  repeat' first
    | dsimp only | intro _ _ | ((with_reducible apply Moves.after State.formBatch_moves ?_ ?_); rfl)
    | ((with_reducible apply Moves.after State.setFrame_moves ?_ ?_); rfl)
    | ((with_reducible apply Moves.after State.withGatherQueue_moves ?_ ?_); rfl) | split
    | (with_reducible exact Moves.refl)

theorem State.releaseFrames_moves {s : State} {n : Nat} {l0 : List Nat} : Moves [.dict, .mem, .flips, .hostMem, .queues, .calderas, .scrubPending, .cameras, .gatherQueue, .safety, .dbg, .out] s (State.releaseFrames s n l0) := by
  induction l0 generalizing s
  case nil =>
    unfold State.releaseFrames
    repeat' first
      | dsimp only | intro _ _ | with_reducible refine Moves.foldl ?_ ?_ | with_reducible refine MovesFst.foldl ?_ ?_
      | ((with_reducible apply Moves.after State.releaseSlot_moves ?_ ?_); rfl) | split
      | (with_reducible exact Moves.refl)
  case cons _ _ ih =>
    unfold State.releaseFrames
    repeat' first
      | ((with_reducible refine Moves.after ih ?_ ?_); rfl) | dsimp only | intro _ _
      | with_reducible refine Moves.foldl ?_ ?_ | with_reducible refine MovesFst.foldl ?_ ?_
      | ((with_reducible apply Moves.after State.releaseSlot_moves ?_ ?_); rfl) | split
      | (with_reducible exact Moves.refl)

theorem State.formBatches_moves {s : State} {n : Nat} : Moves [.dict, .mem, .flips, .hostMem, .queues, .calderas, .scrubPending, .cameras, .gatherQueue, .safety, .dbg, .out] s (State.formBatches s n) := by
  unfold State.formBatches
  repeat' first
    | dsimp only | ((with_reducible apply Moves.after State.releaseFrames_moves ?_ ?_); rfl) | split
    | (with_reducible exact Moves.refl)

theorem State.readMask_moves {s : State} {n : Nat} {f : ChainFrame} : Moves [.dict, .mem, .flips, .hostMem, .queues, .calderas, .scrubPending, .cameras, .safety, .dbg, .out] s (State.readMask s n f) := by
  unfold State.readMask
  repeat' first
    | dsimp only | ((with_reducible apply Moves.after State.blockReadEvents_moves ?_ ?_); rfl)
    | ((with_reducible apply Moves.after State.bumpSat_moves ?_ ?_); rfl)
    | ((with_reducible apply Moves.after State.setCamera_moves ?_ ?_); rfl)
    | ((with_reducible apply Moves.after State.setFrame_moves ?_ ?_); rfl)
    | ((with_reducible apply Moves.after State.tileOvf_moves ?_ ?_); rfl) | split | (with_reducible exact Moves.refl)

theorem State.releaseStripe_moves {s : State} {n k : Nat} {f : ChainFrame} : Moves [.dict, .mem, .flips, .hostMem, .queues, .syncs, .calderas, .scrubPending, .cameras, .safety, .dbg, .out] s (State.releaseStripe s n k f) := by
  unfold State.releaseStripe
  repeat' first
    | dsimp only | intro _ _ | ((with_reducible apply Moves.after State.outerAdd_moves ?_ ?_); rfl)
    | ((with_reducible apply Moves.after State.readMask_moves ?_ ?_); rfl)
    | ((with_reducible apply Moves.after State.setFrame_moves ?_ ?_); rfl) | split | (with_reducible exact Moves.refl)

theorem State.releaseReady_moves {s : State} {n k number l0 : Nat} : Moves [.dict, .mem, .flips, .hostMem, .queues, .syncs, .calderas, .scrubPending, .cameras, .safety, .dbg, .out] s (State.releaseReady s n k number l0) := by
  induction l0 generalizing s number
  case zero =>
    unfold State.releaseReady
    repeat' first
      | dsimp only | intro _ _ | ((with_reducible apply Moves.after State.releaseStripe_moves ?_ ?_); rfl) | split
      | (with_reducible exact Moves.refl)
  case succ _ ih =>
    unfold State.releaseReady
    repeat' first
      | ((with_reducible refine Moves.after ih ?_ ?_); rfl) | dsimp only | intro _ _
      | ((with_reducible apply Moves.after State.releaseStripe_moves ?_ ?_); rfl) | split
      | (with_reducible exact Moves.refl)

theorem doRowLand_moves {n k : Nat} {s : State} : Moves [.dict, .mem, .flips, .hostMem, .queues, .syncs, .calderas, .scrubPending, .cameras, .gatherQueue, .safety, .dbg, .out] s (doRowLand n k s) := by
  unfold doRowLand
  repeat' first
    | dsimp only | intro _ _ | ((with_reducible apply Moves.after State.blockWrite_moves ?_ ?_); rfl)
    | ((with_reducible apply Moves.after State.formBatches_moves ?_ ?_); rfl)
    | ((with_reducible apply Moves.after State.releaseReady_moves ?_ ?_); rfl)
    | ((with_reducible apply Moves.after State.setFrame_moves ?_ ?_); rfl)
    | ((with_reducible apply Moves.after State.settleFrames_moves ?_ ?_); rfl) | split
    | (with_reducible exact Moves.refl)

theorem State.emptyFrame_moves {s : State} {n : Nat} {f : ChainFrame} : Moves [.dict, .mem, .flips, .hostMem, .queues, .syncs, .calderas, .scrubPending, .cameras, .gatherQueue, .safety, .dbg, .out] s (State.emptyFrame s n f) := by
  unfold State.emptyFrame
  repeat' first
    | dsimp only | intro _ _ | with_reducible refine Moves.forEach ?_ ?_
    | ((with_reducible apply Moves.after State.formBatches_moves ?_ ?_); rfl)
    | ((with_reducible apply Moves.after State.modCamera_moves ?_ ?_); rfl)
    | ((with_reducible apply Moves.after State.outerAdd_moves ?_ ?_); rfl) | split | (with_reducible exact Moves.refl)

theorem State.chainOpen_moves {s : State} {n number t0 : Nat} : Moves [.dict, .mem, .flips, .hostMem, .queues, .syncs, .calderas, .scrubPending, .cameras, .gatherQueue, .safety, .dbg, .out] s (State.chainOpen s n number t0) := by
  unfold State.chainOpen
  repeat' first
    | dsimp only | intro _ _ | ((with_reducible apply Moves.after State.emptyFrame_moves ?_ ?_); rfl)
    | ((with_reducible apply Moves.after State.modCamera_moves ?_ ?_); rfl)
    | ((with_reducible apply Moves.after State.raise_moves ?_ ?_); rfl) | split | (with_reducible exact Moves.refl)

theorem State.chainMissing_moves {s : State} {n number : Nat} : Moves [.dict, .mem, .flips, .hostMem, .queues, .syncs, .calderas, .scrubPending, .cameras, .gatherQueue, .safety, .dbg, .out] s (State.chainMissing s n number) := by
  unfold State.chainMissing
  repeat' first
    | dsimp only | ((with_reducible apply Moves.after State.emptyFrame_moves ?_ ?_); rfl) | split
    | (with_reducible exact Moves.refl)

theorem State.putPlane_moves {s : State} {n : Nat} {plane : List Nat} : Moves [.dict, .mem, .flips, .hostMem, .calderas, .scrubPending] s (State.putPlane s n plane) := by
  unfold State.putPlane
  repeat' first
    | dsimp only | intro _ _ | ((with_reducible apply Moves.after State.blockWrite_moves ?_ ?_); rfl) | split
    | (with_reducible exact Moves.refl)

theorem State.planeLost_moves {s : State} {n : Nat} {f : ChainFrame} {abandon : Bool} : Moves [.dict, .mem, .flips, .hostMem, .calderas, .scrubPending, .cameras, .lanes] s (State.planeLost s n f abandon) := by
  unfold State.planeLost
  repeat' first
    | dsimp only | ((with_reducible apply Moves.after State.bumpSat_moves ?_ ?_); rfl)
    | ((with_reducible apply Moves.after State.putPlane_moves ?_ ?_); rfl)
    | ((with_reducible apply Moves.after State.setFrame_moves ?_ ?_); rfl)
    | ((with_reducible apply Moves.after State.withLanes_moves ?_ ?_); rfl) | split
    | (with_reducible exact Moves.refl)

theorem State.chainLine_moves {s : State} {n number : Nat} {px : List Nat} {tag : Bool} : Moves [.dict, .mem, .flips, .hostMem, .calderas, .scrubPending, .cameras, .lanes] s (State.chainLine s n number px tag) := by
  unfold State.chainLine
  repeat' first
    | dsimp only | intro _ _ | ((with_reducible apply Moves.after State.planeLost_moves ?_ ?_); rfl)
    | ((with_reducible apply Moves.after State.setFrame_moves ?_ ?_); rfl) | split | (with_reducible exact Moves.refl)

theorem State.invalidate299_moves {s : State} {n : Nat} {f : ChainFrame} : Moves [.dict, .mem, .flips, .hostMem, .calderas, .scrubPending, .cameras] s (State.invalidate299 s n f) := by
  unfold State.invalidate299
  repeat' first
    | dsimp only | intro _ _ | with_reducible refine Moves.foldl ?_ ?_ | with_reducible refine MovesFst.foldl ?_ ?_
    | ((with_reducible apply Moves.after State.modCamera_moves ?_ ?_); rfl)
    | ((with_reducible apply Moves.after State.writeList_moves ?_ ?_); rfl) | split
    | (with_reducible exact Moves.refl)

theorem State.chainClose_moves {s : State} {n number : Nat} {invalid : Bool} : Moves [.dict, .mem, .flips, .hostMem, .calderas, .scrubPending, .cameras] s (State.chainClose s n number invalid) := by
  unfold State.chainClose
  repeat' first
    | dsimp only | intro _ _ | ((with_reducible apply Moves.after State.invalidate299_moves ?_ ?_); rfl)
    | ((with_reducible apply Moves.after State.modCamera_moves ?_ ?_); rfl)
    | ((with_reducible apply Moves.after State.setFrame_moves ?_ ?_); rfl)
    | ((with_reducible apply Moves.after State.settleFrames_moves ?_ ?_); rfl) | split
    | (with_reducible exact Moves.refl)

theorem State.frameLate_moves {s : State} {n number : Nat} : Moves [.dict, .mem, .flips, .hostMem, .queues, .calderas, .scrubPending, .safety, .dbg, .out] s (State.frameLate s n number) := by
  unfold State.frameLate
  repeat' first
    | dsimp only | ((with_reducible apply Moves.after State.raise_moves ?_ ?_); rfl) | split
    | (with_reducible exact Moves.refl)

theorem State.projectEvents_moves {s : State} {n : Nat} : Moves [.dict, .mem, .flips, .hostMem, .queues, .calderas, .scrubPending, .safety, .dbg, .out] s (State.projectEvents s n) := by
  unfold State.projectEvents
  repeat' first
    | dsimp only | intro _ _ | with_reducible refine Moves.forEach ?_ ?_
    | ((with_reducible apply Moves.after State.blockReadEvents_moves ?_ ?_); rfl) | split
    | (with_reducible exact Moves.refl)

theorem doProjectionStart_moves {n : Nat} {s : State} : Moves [.dict, .mem, .flips, .hostMem, .queues, .calderas, .scrubPending, .cameras, .lanes, .safety, .dbg, .out] s (doProjectionStart n s) := by
  unfold doProjectionStart
  repeat' first
    | dsimp only | ((with_reducible apply Moves.after State.planeLost_moves ?_ ?_); rfl)
    | ((with_reducible apply Moves.after State.projectEvents_moves ?_ ?_); rfl)
    | ((with_reducible apply Moves.after State.setFrame_moves ?_ ?_); rfl)
    | ((with_reducible apply Moves.after State.withLanes_moves ?_ ?_); rfl) | split
    | (with_reducible exact Moves.refl)

theorem doProjectionComplete_moves {n : Nat} {s : State} : Moves [.dict, .mem, .flips, .hostMem, .calderas, .scrubPending, .cameras, .lanes] s (doProjectionComplete n s) := by
  unfold doProjectionComplete
  repeat' first
    | dsimp only | intro _ _ | ((with_reducible apply Moves.after State.bumpBy_moves ?_ ?_); rfl)
    | ((with_reducible apply Moves.after State.bumpSat_moves ?_ ?_); rfl)
    | ((with_reducible apply Moves.after State.putPlane_moves ?_ ?_); rfl)
    | ((with_reducible apply Moves.after State.setFrame_moves ?_ ?_); rfl)
    | ((with_reducible apply Moves.after State.withLanes_moves ?_ ?_); rfl) | split
    | (with_reducible exact Moves.refl)

theorem State.storePoint_moves {s : State} {e : List Byte} : Moves [.dict, .mem, .flips, .hostMem, .calderas, .scrubPending, .decoders] s (State.storePoint s e) := by
  unfold State.storePoint
  repeat' first
    | dsimp only | ((with_reducible apply Moves.after State.blockWrite_moves ?_ ?_); rfl)
    | ((with_reducible apply Moves.after State.bump_moves ?_ ?_); rfl)
    | ((with_reducible apply Moves.after State.bumpSat_moves ?_ ?_); rfl)
    | ((with_reducible apply Moves.after State.setDecoder_moves ?_ ?_); rfl) | split
    | (with_reducible exact Moves.refl)

theorem doPointPop_moves {s : State} : Moves [.dict, .mem, .flips, .hostMem, .queues, .calderas, .scrubPending, .decoders, .safety, .dbg, .out] s (doPointPop s) := by
  unfold doPointPop
  repeat' first
    | dsimp only | intro _ _ | ((with_reducible apply Moves.after State.memUncorr_moves ?_ ?_); rfl)
    | ((with_reducible apply Moves.after State.queueDrop_moves ?_ ?_); rfl)
    | ((with_reducible apply Moves.after State.readEvents_moves ?_ ?_); rfl)
    | ((with_reducible apply Moves.after State.storePoint_moves ?_ ?_); rfl) | split
    | (with_reducible exact Moves.refl)

theorem doSlotGather_moves {e : Nat} {s : State} : Moves [.dict, .mem, .flips, .hostMem, .calderas, .scrubPending, .cameras, .gatherQueue, .gatherBusy] s (doSlotGather e s) := by
  unfold doSlotGather
  repeat' first
    | dsimp only | intro _ _ | ((with_reducible apply Moves.after State.modCamera_moves ?_ ?_); rfl)
    | ((with_reducible apply Moves.after State.withGatherBusy_moves ?_ ?_); rfl)
    | ((with_reducible apply Moves.after State.withGatherQueue_moves ?_ ?_); rfl)
    | ((with_reducible apply Moves.after State.writeList_moves ?_ ?_); rfl) | split
    | (with_reducible exact Moves.refl)

theorem State.gatherBytes_moves {s : State} {g : GatherSlot} {r : Nat} : MovesFst [.dict, .mem, .flips, .hostMem, .queues, .calderas, .scrubPending, .safety, .dbg, .freeUsed, .out] s (State.gatherBytes s g r) := by
  unfold State.gatherBytes
  repeat' first
    | dsimp only | intro _ _ | ((with_reducible apply Moves.after State.blockReadEvents_moves ?_ ?_); rfl)
    | ((with_reducible apply Moves.after State.withFreeUsed_moves ?_ ?_); rfl) | split
    | (with_reducible exact Moves.refl)

theorem State.gatherRows_moves {s : State} {g : GatherSlot} {base : Nat} {l0 : List Nat} : Moves [.dict, .mem, .flips, .hostMem, .queues, .calderas, .scrubPending, .safety, .dbg, .freeUsed, .out] s (State.gatherRows s g base l0) := by
  induction l0 generalizing s
  case nil =>
    unfold State.gatherRows
    repeat' first
      | dsimp only | intro _ _ | ((with_reducible apply Moves.after State.blockWrite_moves ?_ ?_); rfl)
      | ((with_reducible apply Moves.after State.gatherBytes_moves ?_ ?_); rfl) | split
      | (with_reducible exact Moves.refl)
  case cons _ _ ih =>
    unfold State.gatherRows
    repeat' first
      | ((with_reducible refine Moves.after ih ?_ ?_); rfl) | dsimp only | intro _ _
      | ((with_reducible apply Moves.after State.blockWrite_moves ?_ ?_); rfl)
      | ((with_reducible apply Moves.after State.gatherBytes_moves ?_ ?_); rfl) | split
      | (with_reducible exact Moves.refl)

theorem doSlotGatherComplete_moves {e : Nat} {s : State} : Moves [.dict, .mem, .flips, .hostMem, .queues, .calderas, .scrubPending, .cameras, .gatherBusy, .safety, .dbg, .freeUsed, .out] s (doSlotGatherComplete e s) := by
  unfold doSlotGatherComplete
  repeat' first
    | dsimp only | intro _ _ | ((with_reducible apply Moves.after State.gatherRows_moves ?_ ?_); rfl)
    | ((with_reducible apply Moves.after State.modCamera_moves ?_ ?_); rfl)
    | ((with_reducible apply Moves.after State.withGatherBusy_moves ?_ ?_); rfl) | split
    | (with_reducible exact Moves.refl)

theorem State.queueLeave_moves {s : State} {n q : Nat} : Moves [.queues] s (State.queueLeave s n q) := by
  unfold State.queueLeave
  repeat' first
    | dsimp only | intro _ _ | ((with_reducible apply Moves.after State.queueDisable_moves ?_ ?_); rfl) | split
    | (with_reducible exact Moves.refl)

theorem doBatchPush_moves {n : Nat} {s : State} : Moves [.dict, .mem, .flips, .hostMem, .queues, .calderas, .scrubPending, .cameras, .dbg, .out] s (doBatchPush n s) := by
  unfold doBatchPush
  repeat' first
    | dsimp only | intro _ _ | ((with_reducible apply Moves.after State.bump_moves ?_ ?_); rfl)
    | ((with_reducible apply Moves.after State.bumpBy_moves ?_ ?_); rfl)
    | ((with_reducible apply Moves.after State.modCamera_moves ?_ ?_); rfl)
    | ((with_reducible apply Moves.after State.outerPush_moves ?_ ?_); rfl)
    | ((with_reducible apply Moves.after State.queueLeave_moves ?_ ?_); rfl)
    | ((with_reducible apply Moves.after State.setReg_moves ?_ ?_); rfl)
    | ((with_reducible apply Moves.after State.settleFrames_moves ?_ ?_); rfl)
    | ((with_reducible apply Moves.after State.trace_moves ?_ ?_); rfl) | split | (with_reducible exact Moves.refl)

theorem doBatchPushTimeout_moves {n : Nat} {s : State} : Moves [.dict, .mem, .flips, .hostMem, .queues, .calderas, .scrubPending, .cameras, .safety, .dbg, .out] s (doBatchPushTimeout n s) := by
  unfold doBatchPushTimeout
  repeat' first
    | dsimp only | intro _ _ | ((with_reducible apply Moves.after State.modCamera_moves ?_ ?_); rfl)
    | ((with_reducible apply Moves.after State.raise_moves ?_ ?_); rfl) | split | (with_reducible exact Moves.refl)

theorem State.chainUnload_moves {s : State} {n : Nat} : Moves [.cameras, .chains, .lanes, .gatherQueue, .gatherBusy] s (State.chainUnload s n) := by
  unfold State.chainUnload
  repeat' first
    | dsimp only | intro _ _ | ((with_reducible apply Moves.after State.modCamera_moves ?_ ?_); rfl)
    | ((with_reducible apply Moves.after State.withChains_moves ?_ ?_); rfl)
    | ((with_reducible apply Moves.after State.withGatherBusy_moves ?_ ?_); rfl)
    | ((with_reducible apply Moves.after State.withGatherQueue_moves ?_ ?_); rfl)
    | ((with_reducible apply Moves.after State.withLanes_moves ?_ ?_); rfl) | (with_reducible exact Moves.refl)

end Sys2Proof.Machine
end

