-- ==== Sys2Proof/Laws/SensorMoves.lean ====
section
/-! SUPPORT. Laws: what each operation of Machine/Sensor.lean changes at most, and that it keeps the invariant. -/
open Sys2Proof.Safety

namespace Sys2Proof.Machine

theorem State.unmapped_moves {s : State} {p : Nat} : Moves [.dict] s (State.unmapped s p) := by
  unfold State.unmapped
  repeat' first
    | dsimp only | ((with_reducible apply Moves.after State.bumpSat_moves ?_ ?_); rfl)
    | (with_reducible exact Moves.refl)

theorem State.countDamage_moves {s : State} {p : Nat} {l0 : PacketDamage} : Moves [.dict] s (State.countDamage s p l0) := by
  unfold State.countDamage
  repeat' first
    | dsimp only | intro _ _ | ((with_reducible apply Moves.after State.bumpSat_moves ?_ ?_); rfl)
    | ((with_reducible apply Moves.after State.bumpSatBy_moves ?_ ?_); rfl) | split
    | (with_reducible exact Moves.refl)

theorem doAphyLinkUp_moves {p : Nat} {s : State} : Moves [.dict] s (doAphyLinkUp p s) := by
  unfold doAphyLinkUp
  repeat' first
    | dsimp only | ((with_reducible apply Moves.after State.setReg_moves ?_ ?_); rfl) | split
    | (with_reducible exact Moves.refl)

theorem State.setOpen_moves {s : State} {n : Nat} {o : Option OpenFrame} : Moves [.cameras] s (State.setOpen s n o) := by
  unfold State.setOpen
  repeat' first
    | dsimp only | intro _ _ | ((with_reducible apply Moves.after State.modCamera_moves ?_ ?_); rfl)
    | (with_reducible exact Moves.refl)

theorem State.deliver_moves {s : State} {n : Nat} {o : OpenFrame} {px : List Nat} {tag : Bool} : Moves [.dict, .mem, .flips, .hostMem, .calderas, .scrubPending, .cameras, .lanes] s (State.deliver s n o px tag) := by
  unfold State.deliver
  repeat' first
    | dsimp only | ((with_reducible apply Moves.after State.chainLine_moves ?_ ?_); rfl)
    | ((with_reducible apply Moves.after State.setOpen_moves ?_ ?_); rfl) | split | (with_reducible exact Moves.refl)

theorem State.concealOne_moves {s : State} {n cause : Nat} : Moves [.dict, .mem, .flips, .hostMem, .calderas, .scrubPending, .cameras, .lanes] s (State.concealOne s n cause) := by
  unfold State.concealOne
  repeat' first
    | dsimp only | ((with_reducible apply Moves.after State.bumpSat_moves ?_ ?_); rfl)
    | ((with_reducible apply Moves.after State.deliver_moves ?_ ?_); rfl)
    | ((with_reducible apply Moves.after State.setReg_moves ?_ ?_); rfl) | split | (with_reducible exact Moves.refl)

theorem State.concealLines_moves {s : State} {n cause l0 : Nat} : Moves [.dict, .mem, .flips, .hostMem, .calderas, .scrubPending, .cameras, .lanes] s (State.concealLines s n cause l0) := by
  induction l0 generalizing s
  case zero =>
    unfold State.concealLines
    repeat' first
      | dsimp only | intro _ _ | ((with_reducible apply Moves.after State.concealOne_moves ?_ ?_); rfl) | split
      | (with_reducible exact Moves.refl)
  case succ _ ih =>
    unfold State.concealLines
    repeat' first
      | ((with_reducible refine Moves.after ih ?_ ?_); rfl) | dsimp only | intro _ _
      | ((with_reducible apply Moves.after State.concealOne_moves ?_ ?_); rfl) | split
      | (with_reducible exact Moves.refl)

theorem State.takeLine_moves {s : State} {n : Nat} {o : OpenFrame} {px : List Nat} : Moves [.dict, .mem, .flips, .hostMem, .calderas, .scrubPending, .cameras, .lanes] s (State.takeLine s n o px) := by
  unfold State.takeLine
  repeat' first
    | dsimp only | ((with_reducible apply Moves.after State.deliver_moves ?_ ?_); rfl) | split
    | (with_reducible exact Moves.refl)

theorem State.dimLine_moves {s : State} {n : Nat} {o : OpenFrame} {i : Nat} {px : List Nat} {bad whole padded : Bool} : Moves [.dict, .mem, .flips, .hostMem, .calderas, .scrubPending, .cameras, .lanes] s (State.dimLine s n o i px bad whole padded) := by
  unfold State.dimLine
  repeat' first
    | dsimp only | ((with_reducible apply Moves.after State.bumpSat_moves ?_ ?_); rfl)
    | ((with_reducible apply Moves.after State.deliver_moves ?_ ?_); rfl)
    | ((with_reducible apply Moves.after State.setOpen_moves ?_ ?_); rfl) | split | (with_reducible exact Moves.refl)

theorem State.dimFill_moves {s : State} {n l0 : Nat} : Moves [.dict, .mem, .flips, .hostMem, .calderas, .scrubPending, .cameras, .lanes] s (State.dimFill s n l0) := by
  induction l0 generalizing s
  case zero =>
    unfold State.dimFill
    repeat' first
      | dsimp only | intro _ _ | ((with_reducible apply Moves.after State.bumpSat_moves ?_ ?_); rfl)
      | ((with_reducible apply Moves.after State.deliver_moves ?_ ?_); rfl) | split
      | (with_reducible exact Moves.refl)
  case succ _ ih =>
    unfold State.dimFill
    repeat' first
      | ((with_reducible refine Moves.after ih ?_ ?_); rfl) | dsimp only | intro _ _
      | ((with_reducible apply Moves.after State.bumpSat_moves ?_ ?_); rfl)
      | ((with_reducible apply Moves.after State.deliver_moves ?_ ?_); rfl) | split
      | (with_reducible exact Moves.refl)

theorem State.eventPush_moves {s : State} {n : Nat} {es : List (List Byte)} : Moves [.dict, .mem, .flips, .hostMem, .queues, .calderas, .scrubPending, .out] s (State.eventPush s n es) := by
  unfold State.eventPush
  repeat' first
    | dsimp only | ((with_reducible apply Moves.after State.bumpSat_moves ?_ ?_); rfl)
    | ((with_reducible apply Moves.after State.outerPush_moves ?_ ?_); rfl) | split
    | (with_reducible exact Moves.refl)

theorem State.closeFrame_moves {s : State} {n close cause : Nat} : Moves [.dict, .mem, .flips, .hostMem, .queues, .calderas, .scrubPending, .cameras, .lanes, .safety, .dbg, .out] s (State.closeFrame s n close cause) := by
  unfold State.closeFrame
  repeat' first
    | dsimp only | intro _ _ | ((with_reducible apply Moves.after State.bump_moves ?_ ?_); rfl)
    | ((with_reducible apply Moves.after State.chainClose_moves ?_ ?_); rfl)
    | ((with_reducible apply Moves.after State.concealLines_moves ?_ ?_); rfl)
    | ((with_reducible apply Moves.after State.conditionEnd_moves ?_ ?_); rfl)
    | ((with_reducible apply Moves.after State.dimFill_moves ?_ ?_); rfl)
    | ((with_reducible apply Moves.after State.eventPush_moves ?_ ?_); rfl)
    | ((with_reducible apply Moves.after State.setOpen_moves ?_ ?_); rfl)
    | ((with_reducible apply Moves.after State.trace_moves ?_ ?_); rfl) | split | (with_reducible exact Moves.refl)

theorem State.frameStart_moves {s : State} {p vc number : Nat} : Moves [.dict, .mem, .flips, .hostMem, .queues, .syncs, .calderas, .scrubPending, .cameras, .lanes, .gatherQueue, .safety, .dbg, .out] s (State.frameStart s p vc number) := by
  unfold State.frameStart
  repeat' first
    | dsimp only | ((with_reducible apply Moves.after State.chainOpen_moves ?_ ?_); rfl)
    | ((with_reducible apply Moves.after State.closeFrame_moves ?_ ?_); rfl)
    | ((with_reducible apply Moves.after State.setCamera_moves ?_ ?_); rfl)
    | ((with_reducible apply Moves.after State.unmapped_moves ?_ ?_); rfl) | split | (with_reducible exact Moves.refl)

theorem doFrameStart_moves {p vc number : Nat} {damage : PacketDamage} {s : State} : Moves [.dict, .mem, .flips, .hostMem, .queues, .syncs, .calderas, .scrubPending, .cameras, .lanes, .gatherQueue, .safety, .dbg, .out] s (doFrameStart p vc number damage s) := by
  unfold doFrameStart
  repeat' first
    | dsimp only | ((with_reducible apply Moves.after State.countDamage_moves ?_ ?_); rfl)
    | ((with_reducible apply Moves.after State.frameStart_moves ?_ ?_); rfl) | split
    | (with_reducible exact Moves.refl)

theorem State.frameEnd_moves {s : State} {p vc : Nat} : Moves [.dict, .mem, .flips, .hostMem, .queues, .calderas, .scrubPending, .cameras, .lanes, .safety, .dbg, .out] s (State.frameEnd s p vc) := by
  unfold State.frameEnd
  repeat' first
    | dsimp only | ((with_reducible apply Moves.after State.closeFrame_moves ?_ ?_); rfl)
    | ((with_reducible apply Moves.after State.frameLate_moves ?_ ?_); rfl)
    | ((with_reducible apply Moves.after State.unmapped_moves ?_ ?_); rfl) | split | (with_reducible exact Moves.refl)

theorem doFrameEnd_moves {p vc : Nat} {damage : PacketDamage} {s : State} : Moves [.dict, .mem, .flips, .hostMem, .queues, .calderas, .scrubPending, .cameras, .lanes, .safety, .dbg, .out] s (doFrameEnd p vc damage s) := by
  unfold doFrameEnd
  repeat' first
    | dsimp only | ((with_reducible apply Moves.after State.countDamage_moves ?_ ?_); rfl)
    | ((with_reducible apply Moves.after State.frameEnd_moves ?_ ?_); rfl) | split | (with_reducible exact Moves.refl)

theorem State.lineStart_moves {s : State} {p vc number : Nat} : Moves [.dict, .cameras] s (State.lineStart s p vc number) := by
  unfold State.lineStart
  repeat' first
    | dsimp only | ((with_reducible apply Moves.after State.setOpen_moves ?_ ?_); rfl)
    | ((with_reducible apply Moves.after State.unmapped_moves ?_ ?_); rfl) | split | (with_reducible exact Moves.refl)

theorem doLineStart_moves {p vc number : Nat} {damage : PacketDamage} {s : State} : Moves [.dict, .cameras] s (doLineStart p vc number damage s) := by
  unfold doLineStart
  repeat' first
    | dsimp only | ((with_reducible apply Moves.after State.countDamage_moves ?_ ?_); rfl)
    | ((with_reducible apply Moves.after State.lineStart_moves ?_ ?_); rfl) | split
    | (with_reducible exact Moves.refl)

theorem State.lineEnd_moves {s : State} {p vc : Nat} : Moves [.dict] s (State.lineEnd s p vc) := by
  unfold State.lineEnd
  repeat' first
    | dsimp only | ((with_reducible apply Moves.after State.unmapped_moves ?_ ?_); rfl) | split
    | (with_reducible exact Moves.refl)

theorem doLineEnd_moves {p vc : Nat} {damage : PacketDamage} {s : State} : Moves [.dict] s (doLineEnd p vc damage s) := by
  unfold doLineEnd
  repeat' first
    | dsimp only | ((with_reducible apply Moves.after State.countDamage_moves ?_ ?_); rfl)
    | ((with_reducible apply Moves.after State.lineEnd_moves ?_ ?_); rfl) | split | (with_reducible exact Moves.refl)

theorem doUnmappedPacket_moves {p : Nat} {damage : PacketDamage} {s : State} : Moves [.dict] s (doUnmappedPacket p damage s) := by
  unfold doUnmappedPacket
  repeat' first
    | dsimp only | ((with_reducible apply Moves.after State.countDamage_moves ?_ ?_); rfl)
    | ((with_reducible apply Moves.after State.unmapped_moves ?_ ?_); rfl) | split | (with_reducible exact Moves.refl)

theorem State.nativeLine_moves {s : State} {n : Nat} {o : OpenFrame} {damage : PacketDamage} {payload : List Byte} : Moves [.dict, .mem, .flips, .hostMem, .calderas, .scrubPending, .cameras, .lanes] s (State.nativeLine s n o damage payload) := by
  unfold State.nativeLine
  repeat' first
    | dsimp only | ((with_reducible apply Moves.after State.concealOne_moves ?_ ?_); rfl)
    | ((with_reducible apply Moves.after State.takeLine_moves ?_ ?_); rfl) | split | (with_reducible exact Moves.refl)

theorem State.dimImage_moves {s : State} {n : Nat} {o : OpenFrame} {i : Nat} {damage : PacketDamage} {payload : List Byte} : Moves [.dict, .mem, .flips, .hostMem, .calderas, .scrubPending, .cameras, .lanes] s (State.dimImage s n o i damage payload) := by
  unfold State.dimImage
  repeat' first
    | dsimp only | ((with_reducible apply Moves.after State.dimLine_moves ?_ ?_); rfl)
    | ((with_reducible apply Moves.after State.setOpen_moves ?_ ?_); rfl) | split | (with_reducible exact Moves.refl)

theorem State.frameLine_moves {s : State} {n : Nat} {o : OpenFrame} {damage : PacketDamage} {payload : List Byte} : Moves [.dict, .mem, .flips, .hostMem, .calderas, .scrubPending, .cameras, .lanes] s (State.frameLine s n o damage payload) := by
  unfold State.frameLine
  repeat' first
    | dsimp only | ((with_reducible apply Moves.after State.concealLines_moves ?_ ?_); rfl)
    | ((with_reducible apply Moves.after State.dimImage_moves ?_ ?_); rfl)
    | ((with_reducible apply Moves.after State.lineStart_moves ?_ ?_); rfl)
    | ((with_reducible apply Moves.after State.nativeLine_moves ?_ ?_); rfl)
    | ((with_reducible apply Moves.after State.setOpen_moves ?_ ?_); rfl) | split | (with_reducible exact Moves.refl)

theorem doImageLine_moves {p vc dataType : Nat} {damage : PacketDamage} {payload : List Byte} {s : State} : Moves [.dict, .mem, .flips, .hostMem, .calderas, .scrubPending, .cameras, .lanes] s (doImageLine p vc dataType damage payload s) := by
  unfold doImageLine
  repeat' first
    | dsimp only | ((with_reducible apply Moves.after State.countDamage_moves ?_ ?_); rfl)
    | ((with_reducible apply Moves.after State.frameLine_moves ?_ ?_); rfl)
    | ((with_reducible apply Moves.after State.unmapped_moves ?_ ?_); rfl) | split | (with_reducible exact Moves.refl)

theorem doFrameTimeout_moves {n : Nat} {s : State} : Moves [.dict, .mem, .flips, .hostMem, .queues, .calderas, .scrubPending, .cameras, .lanes, .safety, .dbg, .out] s (doFrameTimeout n s) := by
  unfold doFrameTimeout
  repeat' first
    | dsimp only | ((with_reducible apply Moves.after State.closeFrame_moves ?_ ?_); rfl) | split
    | (with_reducible exact Moves.refl)

theorem doMissingFrame_moves {n : Nat} {s : State} : Moves [.dict, .mem, .flips, .hostMem, .queues, .syncs, .calderas, .scrubPending, .cameras, .gatherQueue, .safety, .dbg, .out] s (doMissingFrame n s) := by
  unfold doMissingFrame
  repeat' first
    | dsimp only | ((with_reducible apply Moves.after State.bump_moves ?_ ?_); rfl)
    | ((with_reducible apply Moves.after State.chainMissing_moves ?_ ?_); rfl)
    | ((with_reducible apply Moves.after State.eventPush_moves ?_ ?_); rfl)
    | ((with_reducible apply Moves.after State.raise_moves ?_ ?_); rfl) | split | (with_reducible exact Moves.refl)

theorem doAphyLinkLoss_moves {p : Nat} {s : State} : Moves [.dict, .mem, .flips, .hostMem, .queues, .calderas, .scrubPending, .cameras, .lanes, .safety, .dbg, .out] s (doAphyLinkLoss p s) := by
  unfold doAphyLinkLoss
  repeat' first
    | dsimp only | intro _ _ | with_reducible refine Moves.forEach ?_ ?_
    | ((with_reducible apply Moves.after State.bumpSat_moves ?_ ?_); rfl)
    | ((with_reducible apply Moves.after State.closeFrame_moves ?_ ?_); rfl)
    | ((with_reducible apply Moves.after State.raise_moves ?_ ?_); rfl)
    | ((with_reducible apply Moves.after State.setReg_moves ?_ ?_); rfl) | split | (with_reducible exact Moves.refl)

theorem State.cameraEnable_moves {s : State} {n : Nat} : MovesFst [.dict, .cameras] s (State.cameraEnable s n) := by
  unfold State.cameraEnable
  repeat' first
    | dsimp only | intro _ _ | ((with_reducible apply Moves.after State.setCamera_moves ?_ ?_); rfl)
    | ((with_reducible apply Moves.after State.setReg_moves ?_ ?_); rfl) | split | (with_reducible exact Moves.refl)

theorem State.cameraDisable_moves {s : State} {n : Nat} : Moves [.dict, .mem, .flips, .hostMem, .queues, .calderas, .scrubPending, .cameras, .lanes, .safety, .dbg, .out] s (State.cameraDisable s n) := by
  unfold State.cameraDisable
  repeat' first
    | dsimp only | ((with_reducible apply Moves.after State.closeFrame_moves ?_ ?_); rfl)
    | ((with_reducible apply Moves.after State.setReg_moves ?_ ?_); rfl) | split | (with_reducible exact Moves.refl)

theorem State.ipDiscard_moves {s : State} {m : Nat} : Moves [.dict] s (State.ipDiscard s m) := by
  unfold State.ipDiscard
  repeat' first
    | dsimp only | ((with_reducible apply Moves.after State.bumpSat_moves ?_ ?_); rfl)
    | (with_reducible exact Moves.refl)

theorem State.ringPut_moves {s : State} {d off : Nat} {bs : List Byte} : Moves [.dict, .mem, .flips, .hostMem, .calderas, .scrubPending] s (State.ringPut s d off bs) := by
  unfold State.ringPut
  repeat' first
    | dsimp only | ((with_reducible apply Moves.after State.blockWrite_moves ?_ ?_); rfl)
    | (with_reducible exact Moves.refl)

theorem State.datagram_moves {s : State} {m d : Nat} {payload : List Byte} : Moves [.dict, .mem, .flips, .hostMem, .calderas, .scrubPending, .decoders] s (State.datagram s m d payload) := by
  unfold State.datagram
  repeat' first
    | dsimp only | ((with_reducible apply Moves.after State.bumpSat_moves ?_ ?_); rfl)
    | ((with_reducible apply Moves.after State.ringPut_moves ?_ ?_); rfl)
    | ((with_reducible apply Moves.after State.setDecoder_moves ?_ ?_); rfl) | split
    | (with_reducible exact Moves.refl)

theorem State.setReasm_moves {s : State} {d : Nat} {r : Option Reassembly} : Moves [.decoders] s (State.setReasm s d r) := by
  unfold State.setReasm
  repeat' first
    | dsimp only | intro _ _ | ((with_reducible apply Moves.after State.modDecoder_moves ?_ ?_); rfl)
    | (with_reducible exact Moves.refl)

theorem State.reasmFail_moves {s : State} {m d : Nat} : Moves [.dict, .decoders] s (State.reasmFail s m d) := by
  unfold State.reasmFail
  repeat' first
    | dsimp only | ((with_reducible apply Moves.after State.bumpSat_moves ?_ ?_); rfl)
    | ((with_reducible apply Moves.after State.setReasm_moves ?_ ?_); rfl) | (with_reducible exact Moves.refl)

theorem State.fragment_moves {s : State} {m d : Nat} {r : Reassembly} {dst off : Nat} {more : Bool} {data : List Byte} : Moves [.dict, .mem, .flips, .hostMem, .calderas, .scrubPending, .decoders] s (State.fragment s m d r dst off more data) := by
  unfold State.fragment
  repeat' first
    | dsimp only | ((with_reducible apply Moves.after State.datagram_moves ?_ ?_); rfl)
    | ((with_reducible apply Moves.after State.ipDiscard_moves ?_ ?_); rfl)
    | ((with_reducible apply Moves.after State.reasmFail_moves ?_ ?_); rfl)
    | ((with_reducible apply Moves.after State.setReasm_moves ?_ ?_); rfl) | split
    | (with_reducible exact Moves.refl)

theorem State.ipUdp_moves {s : State} {m src dst ident off : Nat} {more : Bool} {vlan : Option Nat} {data : List Byte} : Moves [.dict, .mem, .flips, .hostMem, .calderas, .scrubPending, .decoders] s (State.ipUdp s m src dst ident off more vlan data) := by
  unfold State.ipUdp
  repeat' first
    | dsimp only | intro _ _ | ((with_reducible apply Moves.after State.datagram_moves ?_ ?_); rfl)
    | ((with_reducible apply Moves.after State.fragment_moves ?_ ?_); rfl)
    | ((with_reducible apply Moves.after State.ipDiscard_moves ?_ ?_); rfl)
    | ((with_reducible apply Moves.after State.reasmFail_moves ?_ ?_); rfl) | split
    | (with_reducible exact Moves.refl)

theorem State.ipPacket_moves {s : State} {m : Nat} {vlan : Option Nat} {bs : List Byte} : Moves [.dict, .mem, .flips, .hostMem, .calderas, .scrubPending, .decoders] s (State.ipPacket s m vlan bs) := by
  unfold State.ipPacket
  repeat' first
    | dsimp only | ((with_reducible apply Moves.after State.ipDiscard_moves ?_ ?_); rfl)
    | ((with_reducible apply Moves.after State.ipUdp_moves ?_ ?_); rfl) | split | (with_reducible exact Moves.refl)

theorem State.arpPacket_moves {s : State} {m : Nat} {bs : List Byte} : Moves [.dict, .out] s (State.arpPacket s m bs) := by
  unfold State.arpPacket
  repeat' first
    | dsimp only | ((with_reducible apply Moves.after State.emit_moves ?_ ?_); rfl)
    | ((with_reducible apply Moves.after State.ipDiscard_moves ?_ ?_); rfl) | split
    | (with_reducible exact Moves.refl)

theorem doEthernetFrame_moves {m : Nat} {fcsOk : Bool} {bytes : List Byte} {s : State} : Moves [.dict, .mem, .flips, .hostMem, .calderas, .scrubPending, .decoders, .out] s (doEthernetFrame m fcsOk bytes s) := by
  unfold doEthernetFrame
  repeat' first
    | dsimp only | ((with_reducible apply Moves.after State.arpPacket_moves ?_ ?_); rfl)
    | ((with_reducible apply Moves.after State.bump_moves ?_ ?_); rfl)
    | ((with_reducible apply Moves.after State.bumpSat_moves ?_ ?_); rfl)
    | ((with_reducible apply Moves.after State.ipDiscard_moves ?_ ?_); rfl)
    | ((with_reducible apply Moves.after State.ipPacket_moves ?_ ?_); rfl) | split
    | (with_reducible exact Moves.refl)

theorem doReassemblyTimeout_moves {d : Nat} {s : State} : Moves [.dict, .decoders] s (doReassemblyTimeout d s) := by
  unfold doReassemblyTimeout
  repeat' first
    | dsimp only | ((with_reducible apply Moves.after State.reasmFail_moves ?_ ?_); rfl) | split
    | (with_reducible exact Moves.refl)

theorem doRangeLinkUp_moves {m : Nat} {s : State} : Moves [.dict] s (doRangeLinkUp m s) := by
  unfold doRangeLinkUp
  repeat' first
    | dsimp only | ((with_reducible apply Moves.after State.setReg_moves ?_ ?_); rfl) | split
    | (with_reducible exact Moves.refl)

theorem doRangeLinkLoss_moves {m : Nat} {s : State} : Moves [.dict, .mem, .flips, .hostMem, .queues, .calderas, .scrubPending, .safety, .dbg, .out] s (doRangeLinkLoss m s) := by
  unfold doRangeLinkLoss
  repeat' first
    | dsimp only | intro _ _ | with_reducible refine Moves.forEach ?_ ?_
    | ((with_reducible apply Moves.after State.bumpSat_moves ?_ ?_); rfl)
    | ((with_reducible apply Moves.after State.raise_moves ?_ ?_); rfl)
    | ((with_reducible apply Moves.after State.setReg_moves ?_ ?_); rfl) | split | (with_reducible exact Moves.refl)

theorem doSampleTake_moves {d : Nat} {s : State} : Moves [.dict, .decoders] s (doSampleTake d s) := by
  unfold doSampleTake
  repeat' first
    | dsimp only | ((with_reducible apply Moves.after State.bump_moves ?_ ?_); rfl)
    | ((with_reducible apply Moves.after State.setDecoder_moves ?_ ?_); rfl) | split
    | (with_reducible exact Moves.refl)

theorem State.stage__moves {s : State} {d : Nat} {pts : List (List Byte)} : Moves [.dict, .mem, .flips, .hostMem, .calderas, .scrubPending] s (State.stage_ s d pts) := by
  unfold State.stage_
  repeat' first
    | dsimp only | ((with_reducible apply Moves.after State.blockWrite_moves ?_ ?_); rfl)
    | (with_reducible exact Moves.refl)

theorem State.decoderFault_moves {s : State} {d : Nat} : Moves [.dict, .mem, .flips, .hostMem, .queues, .calderas, .scrubPending, .safety, .dbg, .out] s (State.decoderFault s d) := by
  unfold State.decoderFault
  repeat' first
    | dsimp only | ((with_reducible apply Moves.after State.raise_moves ?_ ?_); rfl)
    | ((with_reducible apply Moves.after State.verdict_moves ?_ ?_); rfl) | split | (with_reducible exact Moves.refl)

theorem State.sampleBroken_moves {s : State} {d : Nat} {x : Sample} {bs : List Byte} : Moves [.dict, .mem, .flips, .hostMem, .queues, .calderas, .scrubPending, .decoders, .safety, .dbg, .out] s (State.sampleBroken s d x bs) := by
  unfold State.sampleBroken
  repeat' first
    | dsimp only | intro _ _ | ((with_reducible apply Moves.after State.bumpSatBy_moves ?_ ?_); rfl)
    | ((with_reducible apply Moves.after State.decoderFault_moves ?_ ?_); rfl)
    | ((with_reducible apply Moves.after State.modDecoder_moves ?_ ?_); rfl) | split
    | (with_reducible exact Moves.refl)

theorem doSampleDecode_moves {d : Nat} {s : State} : Moves [.dict, .mem, .flips, .hostMem, .queues, .calderas, .scrubPending, .decoders, .safety, .dbg, .out] s (doSampleDecode d s) := by
  unfold doSampleDecode
  repeat' first
    | dsimp only | ((with_reducible apply Moves.after State.bumpSatBy_moves ?_ ?_); rfl)
    | ((with_reducible apply Moves.after State.sampleBroken_moves ?_ ?_); rfl)
    | ((with_reducible apply Moves.after State.setDecoder_moves ?_ ?_); rfl)
    | ((with_reducible apply Moves.after State.stage__moves ?_ ?_); rfl) | split | (with_reducible exact Moves.refl)

theorem State.sampleOver_moves {s : State} {d cause gap pts : Nat} {x : Sample} : Moves [.dict, .decoders] s (State.sampleOver s d cause gap pts x) := by
  unfold State.sampleOver
  repeat' first
    | dsimp only | intro _ _ | ((with_reducible apply Moves.after State.bumpBy_moves ?_ ?_); rfl)
    | ((with_reducible apply Moves.after State.bumpSat_moves ?_ ?_); rfl)
    | ((with_reducible apply Moves.after State.bumpSatBy_moves ?_ ?_); rfl)
    | ((with_reducible apply Moves.after State.maxReg_moves ?_ ?_); rfl)
    | ((with_reducible apply Moves.after State.modDecoder_moves ?_ ?_); rfl)
    | ((with_reducible apply Moves.after State.setReg_moves ?_ ?_); rfl) | split | (with_reducible exact Moves.refl)

theorem doSamplePush_moves {d : Nat} {s : State} : Moves [.dict, .mem, .flips, .hostMem, .queues, .calderas, .scrubPending, .decoders, .safety, .dbg, .out] s (doSamplePush d s) := by
  unfold doSamplePush
  repeat' first
    | dsimp only | intro _ _ | ((with_reducible apply Moves.after State.conditionEnd_moves ?_ ?_); rfl)
    | ((with_reducible apply Moves.after State.decoderFault_moves ?_ ?_); rfl)
    | ((with_reducible apply Moves.after State.outerPush_moves ?_ ?_); rfl)
    | ((with_reducible apply Moves.after State.sampleOver_moves ?_ ?_); rfl)
    | ((with_reducible apply Moves.after State.setDecoder_moves ?_ ?_); rfl)
    | ((with_reducible apply Moves.after State.verdict_moves ?_ ?_); rfl) | split | (with_reducible exact Moves.refl)

theorem doSampleBudget_moves {d offset : Nat} {s : State} : Moves [.dict, .mem, .flips, .hostMem, .queues, .calderas, .scrubPending, .decoders, .out] s (doSampleBudget d offset s) := by
  unfold doSampleBudget
  repeat' first
    | dsimp only | ((with_reducible apply Moves.after State.bumpSat_moves ?_ ?_); rfl)
    | ((with_reducible apply Moves.after State.bumpSatBy_moves ?_ ?_); rfl)
    | ((with_reducible apply Moves.after State.outerPush_moves ?_ ?_); rfl)
    | ((with_reducible apply Moves.after State.sampleOver_moves ?_ ?_); rfl) | split
    | (with_reducible exact Moves.refl)

theorem State.decoderEnable_moves {s : State} {d v : Nat} : MovesFst [.dict, .decoders] s (State.decoderEnable s d v) := by
  unfold State.decoderEnable
  repeat' first
    | dsimp only | intro _ _ | ((with_reducible apply Moves.after State.modDecoder_moves ?_ ?_); rfl)
    | ((with_reducible apply Moves.after State.setReg_moves ?_ ?_); rfl) | split | (with_reducible exact Moves.refl)

end Sys2Proof.Machine
end

