-- ==== Sys2Proof/Laws/TimeMoves.lean ====
section
/-! SUPPORT. Laws: what each operation of Machine/Time.lean changes at most, and that it keeps the invariant. -/
open Sys2Proof.Safety

namespace Sys2Proof.Machine

theorem State.tickTime_moves {s : State} : Moves [.time] s s.tickTime := by
  unfold State.tickTime
  exact State.modTime_moves fun _ => Nat.mod_lt _ (by decide)

theorem State.stepTo_moves {s : State} {sec ns : Nat} : Moves [.dict, .time] s (State.stepTo s sec ns) := by
  unfold State.stepTo
  repeat' first
    | dsimp only | intro _ _ | ((with_reducible apply Moves.after State.bumpSat_moves ?_ ?_); rfl)
    | (((with_reducible refine Moves.after (State.modTime_moves ?hf) ?_ ?_); case hf => exact fun _ => Nat.mod_lt _ (by decide)); rfl)
    | (with_reducible exact Moves.refl)

theorem State.timeControl_moves {s : State} {v : Nat} : MovesFst [.dict, .time] s (State.timeControl s v) := by
  unfold State.timeControl
  repeat' first
    | dsimp only | intro _ _
    | (((with_reducible refine Moves.after (State.modTime_moves ?hf) ?_ ?_); case hf => exact id); rfl)
    | ((with_reducible apply Moves.after State.stepTo_moves ?_ ?_); rfl) | split | (with_reducible exact Moves.refl)

theorem State.servoState_moves {s : State} {off : Int} : Moves [.dict, .time] s (State.servoState s off) := by
  unfold State.servoState
  repeat' first
    | dsimp only | intro _ _
    | (((with_reducible refine Moves.after (State.modTime_moves ?hf) ?_ ?_); case hf => exact id); rfl)
    | ((with_reducible apply Moves.after State.setReg_moves ?_ ?_); rfl) | split | (with_reducible exact Moves.refl)

theorem State.servoCorrect_moves {s : State} {off : Int} : Moves [.dict, .time] s (State.servoCorrect s off) := by
  unfold State.servoCorrect
  repeat' first
    | dsimp only | intro _ _
    | (((with_reducible refine Moves.after (State.modTime_moves ?hf) ?_ ?_); case hf => exact id); rfl)
    | ((with_reducible apply Moves.after State.setReg_moves ?_ ?_); rfl)
    | ((with_reducible apply Moves.after State.stepTo_moves ?_ ?_); rfl) | split | (with_reducible exact Moves.refl)

theorem State.countHeld_moves {s : State} {m : Nat} {e : Egress} : Moves [.dict] s (State.countHeld s m e) := by
  unfold State.countHeld
  repeat' first
    | dsimp only | ((with_reducible apply Moves.after State.bumpSat_moves ?_ ?_); rfl) | split
    | (with_reducible exact Moves.refl)

theorem doPtpSync_moves {m domain : Nat} {origin rateOffset : Int} {s : State} : Moves [.dict, .time, .safety, .out] s (doPtpSync m domain origin rateOffset s) := by
  unfold doPtpSync
  repeat' first
    | dsimp only | intro _ _
    | (((with_reducible refine Moves.after (State.modTime_moves ?hf) ?_ ?_); case hf => first | exact id | exact fun h => h | exact fun _ => Nat.mod_lt _ (by decide)); rfl)
    | ((with_reducible apply Moves.after State.servoCorrect_moves ?_ ?_); rfl)
    | ((with_reducible apply Moves.after State.servoState_moves ?_ ?_); rfl)
    | ((with_reducible apply Moves.after State.setReg_moves ?_ ?_); rfl)
    | ((with_reducible apply Moves.after State.warnEnd_moves ?_ ?_); rfl) | split | (with_reducible exact Moves.refl)

theorem doDelayReqSend_moves {m : Nat} {e : Egress} {response : Option Int} {s : State} : Moves [.dict, .time, .out] s (doDelayReqSend m e response s) := by
  unfold doDelayReqSend
  repeat' first
    | dsimp only | intro _ _ | ((with_reducible apply Moves.after State.countHeld_moves ?_ ?_); rfl)
    | ((with_reducible apply Moves.after State.emit_moves ?_ ?_); rfl)
    | (((with_reducible refine Moves.after (State.modTime_moves ?hf) ?_ ?_); case hf => first | exact id | exact fun h => h | exact fun _ => Nat.mod_lt _ (by decide)); rfl)
    | split | (with_reducible exact Moves.refl)

theorem doSyncTimeout_moves {s : State} : Moves [.dict, .mem, .flips, .hostMem, .queues, .time, .calderas, .scrubPending, .safety, .dbg, .out] s (doSyncTimeout s) := by
  unfold doSyncTimeout
  repeat' first
    | dsimp only | intro _ _
    | (((with_reducible refine Moves.after (State.modTime_moves ?hf) ?_ ?_); case hf => first | exact id | exact fun h => h | exact fun _ => Nat.mod_lt _ (by decide)); rfl)
    | ((with_reducible apply Moves.after State.setReg_moves ?_ ?_); rfl)
    | ((with_reducible apply Moves.after State.warn_moves ?_ ?_); rfl) | split | (with_reducible exact Moves.refl)

theorem doHoldoverLimit_moves {s : State} : Moves [.dict, .mem, .flips, .hostMem, .queues, .calderas, .scrubPending, .safety, .dbg, .out] s (doHoldoverLimit s) := by
  unfold doHoldoverLimit
  repeat' first
    | dsimp only | ((with_reducible apply Moves.after State.raise_moves ?_ ?_); rfl) | split
    | (with_reducible exact Moves.refl)

theorem State.sourceWrite_moves {s : State} {v : Nat} : MovesFst [.dict, .time, .safety, .out] s (s.sourceWrite v) := by
  unfold State.sourceWrite
  repeat' first | exact Moves.refl | split
  refine State.warnEnd_moves.after rfl (State.setReg_moves.after rfl (State.setReg_moves.after rfl ?_))
  exact (State.modTime_moves fun h => h).mono rfl

theorem State.ptpCorrected_moves {s : State} {out : Nat} {msg : PtpMessage} {res : Int} : Moves [.dict, .out] s (State.ptpCorrected s out msg res) := by
  unfold State.ptpCorrected
  repeat' first
    | dsimp only | ((with_reducible apply Moves.after State.bump_moves ?_ ?_); rfl)
    | ((with_reducible apply Moves.after State.emit_moves ?_ ?_); rfl)
    | ((with_reducible apply Moves.after State.maxReg_moves ?_ ?_); rfl) | split | (with_reducible exact Moves.refl)

theorem State.ptpOut_moves {s : State} {m : Nat} {msg : PtpMessage} {e : Egress} {out : Nat} : Moves [.dict, .ptpPending, .out] s (State.ptpOut s m msg e out) := by
  unfold State.ptpOut
  repeat' first
    | dsimp only | ((with_reducible apply Moves.after State.bump_moves ?_ ?_); rfl)
    | ((with_reducible apply Moves.after State.bumpSat_moves ?_ ?_); rfl)
    | ((with_reducible apply Moves.after State.countHeld_moves ?_ ?_); rfl)
    | ((with_reducible apply Moves.after State.emit_moves ?_ ?_); rfl)
    | ((with_reducible apply Moves.after State.ptpCorrected_moves ?_ ?_); rfl)
    | ((with_reducible apply Moves.after State.withPtpPending_moves ?_ ?_); rfl) | split
    | (with_reducible exact Moves.refl)

theorem doPtpForward_moves {m : Nat} {msg : PtpMessage} {es : List Egress} {s : State} : Moves [.dict, .ptpPending, .out] s (doPtpForward m msg es s) := by
  unfold doPtpForward
  repeat' first
    | dsimp only | intro _ _ | with_reducible refine Moves.forEach ?_ ?_
    | ((with_reducible apply Moves.after State.bumpSat_moves ?_ ?_); rfl)
    | ((with_reducible apply Moves.after State.countHeld_moves ?_ ?_); rfl)
    | ((with_reducible apply Moves.after State.emit_moves ?_ ?_); rfl)
    | ((with_reducible apply Moves.after State.ptpOut_moves ?_ ?_); rfl) | split | (with_reducible exact Moves.refl)

theorem doPdelayExchange_moves {m : Nat} {e : Egress} {answer : Option PdelayAnswer} {s : State} : Moves [.dict, .time, .out] s (doPdelayExchange m e answer s) := by
  unfold doPdelayExchange
  repeat' first
    | dsimp only | intro _ _ | ((with_reducible apply Moves.after State.countHeld_moves ?_ ?_); rfl)
    | ((with_reducible apply Moves.after State.emit_moves ?_ ?_); rfl)
    | (((with_reducible refine Moves.after (State.modTime_moves ?hf) ?_ ?_); case hf => first | exact id | exact fun h => h | exact fun _ => Nat.mod_lt _ (by decide)); rfl)
    | ((with_reducible apply Moves.after State.setReg_moves ?_ ?_); rfl) | split | (with_reducible exact Moves.refl)

theorem doGptpRelay_moves {m : Nat} {correction rateOffset : Int} {es : List Egress} {s : State} : Moves [.dict, .out] s (doGptpRelay m correction rateOffset es s) := by
  unfold doGptpRelay
  repeat' first
    | dsimp only | intro _ _ | with_reducible refine Moves.forEach ?_ ?_
    | ((with_reducible apply Moves.after State.countHeld_moves ?_ ?_); rfl)
    | ((with_reducible apply Moves.after State.emit_moves ?_ ?_); rfl) | split | (with_reducible exact Moves.refl)

theorem doOutputFrame_moves {m : Nat} {bytes : List Byte} {s : State} : Moves [.dict] s (doOutputFrame m bytes s) := by
  unfold doOutputFrame
  repeat' first
    | dsimp only | ((with_reducible apply Moves.after State.bumpSat_moves ?_ ?_); rfl) | split
    | (with_reducible exact Moves.refl)

theorem doTriggerEdge_moves {p v : Nat} {s : State} : Moves [.dict, .out] s (doTriggerEdge p v s) := by
  unfold doTriggerEdge
  repeat' first
    | dsimp only | ((with_reducible apply Moves.after State.bump_moves ?_ ?_); rfl)
    | ((with_reducible apply Moves.after State.emit_moves ?_ ?_); rfl) | split | (with_reducible exact Moves.refl)

theorem State.traceRing_moves {s : State} {pkt : List Byte} : Moves [.dict, .channels] s (State.traceRing s pkt) := by
  unfold State.traceRing
  repeat' first
    | dsimp only | ((with_reducible apply Moves.after State.bump_moves ?_ ?_); rfl)
    | ((with_reducible apply Moves.after State.lateRefusal_moves ?_ ?_); rfl)
    | ((with_reducible apply Moves.after State.queueWrite_moves ?_ ?_); rfl) | split
    | (with_reducible exact Moves.refl)

theorem State.traceOut_moves {s : State} : Moves [.dict, .channels, .dbg, .out] s (State.traceOut s) := by
  unfold State.traceOut
  repeat' first
    | dsimp only | intro _ _ | ((with_reducible apply Moves.after State.bump_moves ?_ ?_); rfl)
    | ((with_reducible apply Moves.after State.emit_moves ?_ ?_); rfl)
    | ((with_reducible apply Moves.after State.modDebug_moves ?_ ?_); rfl)
    | ((with_reducible apply Moves.after State.trace_moves ?_ ?_); rfl)
    | ((with_reducible apply Moves.after State.traceRing_moves ?_ ?_); rfl) | split
    | (with_reducible exact Moves.refl)

theorem State.fabricCycle_moves {s : State} : Moves [.dict, .time, .channels, .dbg, .out] s (State.fabricCycle s) := by
  unfold State.fabricCycle
  repeat' first
    | dsimp only | ((with_reducible apply Moves.after State.tickTime_moves ?_ ?_); rfl)
    | ((with_reducible apply Moves.after State.traceOut_moves ?_ ?_); rfl) | split
    | (with_reducible exact Moves.refl)

end Sys2Proof.Machine
end

