-- ==== Sys2Proof/Laws/LaunchMoves.lean ====
section
/-! SUPPORT. Laws: what each operation of Machine/Launch.lean changes at most, and that it keeps the invariant. -/
open Sys2Proof.Safety

namespace Sys2Proof.Machine

theorem State.lqDiscard_moves {s : State} {l : Nat} : Moves [.dict] s (State.lqDiscard s l) := by
  unfold State.lqDiscard
  repeat' first
    | dsimp only | ((with_reducible apply Moves.after State.bumpSat_moves ?_ ?_); rfl)
    | (with_reducible exact Moves.refl)

theorem State.eventRefused_moves {s : State} {l why : Nat} {t : Int} {frame src : Nat} : Moves [.dict, .mem, .flips, .hostMem, .queues, .calderas, .scrubPending, .launches, .safety, .dbg, .out] s (State.eventRefused s l why t frame src) := by
  unfold State.eventRefused
  repeat' first
    | dsimp only | intro _ _ | ((with_reducible apply Moves.after State.bumpSat_moves ?_ ?_); rfl)
    | ((with_reducible apply Moves.after State.lqDiscard_moves ?_ ?_); rfl)
    | ((with_reducible apply Moves.after State.modLaunch_moves ?_ ?_); rfl)
    | ((with_reducible apply Moves.after State.raise_moves ?_ ?_); rfl)
    | ((with_reducible apply Moves.after State.setReg_moves ?_ ?_); rfl) | split | (with_reducible exact Moves.refl)

theorem State.eventInsert_moves {s : State} {l : Nat} {t : Int} {e : LaunchEvent} : Moves [.dict, .launches] s (State.eventInsert s l t e) := by
  unfold State.eventInsert
  repeat' first
    | dsimp only | intro _ _ | ((with_reducible apply Moves.after State.modLaunch_moves ?_ ?_); rfl)
    | ((with_reducible apply Moves.after State.setReg_moves ?_ ?_); rfl) | split | (with_reducible exact Moves.refl)

theorem State.insertOne_moves {s : State} {l : Nat} {t : Int} {e : LaunchEvent} {frame src : Nat} : Moves [.dict, .mem, .flips, .hostMem, .queues, .calderas, .scrubPending, .launches, .safety, .dbg, .out] s (State.insertOne s l t e frame src) := by
  unfold State.insertOne
  repeat' first
    | dsimp only | ((with_reducible apply Moves.after State.eventInsert_moves ?_ ?_); rfl)
    | ((with_reducible apply Moves.after State.eventRefused_moves ?_ ?_); rfl) | split
    | (with_reducible exact Moves.refl)

theorem State.insertPair_moves {s : State} {l nozzle : Nat} {to_ tc : Int} {deg : Bool} {frame src : Nat} : Moves [.dict, .mem, .flips, .hostMem, .queues, .calderas, .scrubPending, .launches, .safety, .dbg, .out] s (State.insertPair s l nozzle to_ tc deg frame src) := by
  unfold State.insertPair
  repeat' first
    | dsimp only | ((with_reducible apply Moves.after State.eventInsert_moves ?_ ?_); rfl)
    | ((with_reducible apply Moves.after State.eventRefused_moves ?_ ?_); rfl) | split
    | (with_reducible exact Moves.refl)

theorem State.mapPairs_moves {s : State} {l : Nat} {m : List Byte} {inst : Int × Int} {ns : List Nat} {deg : Bool} {frame : Nat} : Moves [.dict, .mem, .flips, .hostMem, .queues, .calderas, .scrubPending, .launches, .safety, .dbg, .out] s (State.mapPairs s l m inst ns deg frame) := by
  unfold State.mapPairs
  repeat' first
    | dsimp only | intro _ _ | with_reducible refine Moves.forEach ?_ ?_
    | ((with_reducible apply Moves.after State.insertPair_moves ?_ ?_); rfl) | split
    | (with_reducible exact Moves.refl)

theorem State.mapRecord_moves {s : State} {l : Nat} {m e : List Byte} : Moves [.dict, .mem, .flips, .hostMem, .queues, .calderas, .scrubPending, .launches, .safety, .dbg, .out] s (State.mapRecord s l m e) := by
  unfold State.mapRecord
  repeat' first
    | dsimp only | ((with_reducible apply Moves.after State.bumpSat_moves ?_ ?_); rfl)
    | ((with_reducible apply Moves.after State.lqDiscard_moves ?_ ?_); rfl)
    | ((with_reducible apply Moves.after State.mapPairs_moves ?_ ?_); rfl)
    | ((with_reducible apply Moves.after State.raise_moves ?_ ?_); rfl) | split | (with_reducible exact Moves.refl)

theorem State.directEvent_moves {s : State} {l : Nat} {e : List Byte} : Moves [.dict, .mem, .flips, .hostMem, .queues, .calderas, .scrubPending, .launches, .safety, .dbg, .out] s (State.directEvent s l e) := by
  unfold State.directEvent
  repeat' first
    | dsimp only | ((with_reducible apply Moves.after State.insertOne_moves ?_ ?_); rfl)
    | ((with_reducible apply Moves.after State.lqDiscard_moves ?_ ?_); rfl) | split
    | (with_reducible exact Moves.refl)

theorem State.launchEntry_moves {s : State} {l : Nat} {e : List Byte} : Moves [.dict, .mem, .flips, .hostMem, .queues, .calderas, .scrubPending, .launches, .safety, .dbg, .out] s (State.launchEntry s l e) := by
  unfold State.launchEntry
  repeat' first
    | dsimp only | ((with_reducible apply Moves.after State.directEvent_moves ?_ ?_); rfl)
    | ((with_reducible apply Moves.after State.lqDiscard_moves ?_ ?_); rfl)
    | ((with_reducible apply Moves.after State.mapRecord_moves ?_ ?_); rfl) | split
    | (with_reducible exact Moves.refl)

theorem doLaunchEntry_moves {l : Nat} {s : State} : Moves [.dict, .mem, .flips, .hostMem, .queues, .calderas, .scrubPending, .launches, .safety, .dbg, .out] s (doLaunchEntry l s) := by
  unfold doLaunchEntry
  repeat' first
    | dsimp only | intro _ _ | with_reducible refine Moves.forEach ?_ ?_
    | ((with_reducible apply Moves.after State.launchEntry_moves ?_ ?_); rfl)
    | ((with_reducible apply Moves.after State.memUncorr_moves ?_ ?_); rfl)
    | ((with_reducible apply Moves.after State.modLaunch_moves ?_ ?_); rfl)
    | ((with_reducible apply Moves.after State.queueDrop_moves ?_ ?_); rfl)
    | ((with_reducible apply Moves.after State.readEvents_moves ?_ ?_); rfl) | split
    | (with_reducible exact Moves.refl)

theorem State.sendLaunch_moves {s : State} {l t : Nat} {degraded keepalive closing : Bool} : Moves [.dict, .launches, .dbg, .out] s (State.sendLaunch s l t degraded keepalive closing) := by
  unfold State.sendLaunch
  repeat' first
    | dsimp only | intro _ _ | ((with_reducible apply Moves.after State.bump_moves ?_ ?_); rfl)
    | ((with_reducible apply Moves.after State.emit_moves ?_ ?_); rfl)
    | ((with_reducible apply Moves.after State.modLaunch_moves ?_ ?_); rfl)
    | ((with_reducible apply Moves.after State.trace_moves ?_ ?_); rfl) | split | (with_reducible exact Moves.refl)

theorem State.maxOn_moves {s : State} {l t : Nat} : Moves [.dict, .mem, .flips, .hostMem, .queues, .calderas, .scrubPending, .launches, .safety, .dbg, .out] s (State.maxOn s l t) := by
  unfold State.maxOn
  repeat' first
    | dsimp only | intro _ _ | with_reducible refine Moves.forEach ?_ ?_
    | ((with_reducible apply Moves.after State.bumpSat_moves ?_ ?_); rfl)
    | ((with_reducible apply Moves.after State.modLaunch_moves ?_ ?_); rfl)
    | ((with_reducible apply Moves.after State.raise_moves ?_ ?_); rfl) | split | (with_reducible exact Moves.refl)

theorem State.calendarCheck_moves {s : State} {l : Nat} : Moves [.dict, .mem, .flips, .hostMem, .queues, .calderas, .scrubPending, .launches, .safety, .dbg, .out] s (State.calendarCheck s l) := by
  unfold State.calendarCheck
  repeat' first
    | dsimp only | intro _ _ | ((with_reducible apply Moves.after State.modLaunch_moves ?_ ?_); rfl)
    | ((with_reducible apply Moves.after State.raise_moves ?_ ?_); rfl) | split | (with_reducible exact Moves.refl)

theorem doLaunchFrame_moves {l : Nat} {s : State} : Moves [.dict, .mem, .flips, .hostMem, .queues, .calderas, .scrubPending, .launches, .safety, .dbg, .out] s (doLaunchFrame l s) := by
  unfold doLaunchFrame
  repeat' first
    | dsimp only | intro _ _ | ((with_reducible apply Moves.after State.bumpBy_moves ?_ ?_); rfl)
    | ((with_reducible apply Moves.after State.calendarCheck_moves ?_ ?_); rfl)
    | ((with_reducible apply Moves.after State.maxOn_moves ?_ ?_); rfl)
    | ((with_reducible apply Moves.after State.modLaunch_moves ?_ ?_); rfl)
    | ((with_reducible apply Moves.after State.sendLaunch_moves ?_ ?_); rfl) | split
    | (with_reducible exact Moves.refl)

theorem doKeepalive_moves {l : Nat} {s : State} : Moves [.dict, .launches, .dbg, .out] s (doKeepalive l s) := by
  unfold doKeepalive
  repeat' first
    | dsimp only | intro _ _ | ((with_reducible apply Moves.after State.sendLaunch_moves ?_ ?_); rfl) | split
    | (with_reducible exact Moves.refl)

theorem State.launchEnable_moves {s : State} {l : Nat} : MovesFst [.dict, .launches] s (State.launchEnable s l) := by
  unfold State.launchEnable
  repeat' first
    | dsimp only | intro _ _ | ((with_reducible apply Moves.after State.modLaunch_moves ?_ ?_); rfl)
    | ((with_reducible apply Moves.after State.setReg_moves ?_ ?_); rfl) | split | (with_reducible exact Moves.refl)

theorem State.launchDisable_moves {s : State} {l : Nat} : Moves [.dict, .launches, .dbg, .out] s (State.launchDisable s l) := by
  unfold State.launchDisable
  repeat' first
    | dsimp only | intro _ _ | ((with_reducible apply Moves.after State.modLaunch_moves ?_ ?_); rfl)
    | ((with_reducible apply Moves.after State.sendLaunch_moves ?_ ?_); rfl)
    | ((with_reducible apply Moves.after State.setReg_moves ?_ ?_); rfl) | split | (with_reducible exact Moves.refl)

theorem State.speedWrite_moves {s : State} {v : Nat} : Moves [.dict, .speedAt] s (State.speedWrite s v) := by
  unfold State.speedWrite
  repeat' first
    | dsimp only | ((with_reducible apply Moves.after State.bump_moves ?_ ?_); rfl)
    | ((with_reducible apply Moves.after State.setReg_moves ?_ ?_); rfl)
    | ((with_reducible apply Moves.after State.withSpeedAt_moves ?_ ?_); rfl) | (with_reducible exact Moves.refl)

theorem doOutputLinkUp_moves {m : Nat} {s : State} : Moves [.dict, .safety] s (doOutputLinkUp m s) := by
  unfold doOutputLinkUp
  repeat' first
    | dsimp only | intro _ _ | ((with_reducible apply Moves.after State.conditionEnd_moves ?_ ?_); rfl)
    | ((with_reducible apply Moves.after State.setReg_moves ?_ ?_); rfl) | split | (with_reducible exact Moves.refl)

theorem doOutputLinkLoss_moves {m : Nat} {s : State} : Moves [.dict, .mem, .flips, .hostMem, .queues, .calderas, .scrubPending, .safety, .dbg, .out] s (doOutputLinkLoss m s) := by
  unfold doOutputLinkLoss
  repeat' first
    | dsimp only | intro _ _ | with_reducible refine Moves.forEach ?_ ?_
    | ((with_reducible apply Moves.after State.bumpSat_moves ?_ ?_); rfl)
    | ((with_reducible apply Moves.after State.raise_moves ?_ ?_); rfl)
    | ((with_reducible apply Moves.after State.setReg_moves ?_ ?_); rfl) | split | (with_reducible exact Moves.refl)

end Sys2Proof.Machine
end

