-- ==== Sys2Proof/Laws/PostProcMoves.lean ====
section
/-! SUPPORT. Laws: what each operation of Machine/PostProc.lean changes at most, and that it keeps the invariant. -/
open Sys2Proof.Safety

namespace Sys2Proof.Machine

theorem State.setEngine_moves {s : State} {e : Nat} {j : Job} : Moves [.engines] s (State.setEngine s e j) := by
  unfold State.setEngine
  repeat' first
    | dsimp only | ((with_reducible apply Moves.after State.withEngines_moves ?_ ?_); rfl)
    | (with_reducible exact Moves.refl)

theorem State.jobDataFault_moves {s : State} {b da : Nat} : Moves [.dict, .mem, .flips, .hostMem, .queues, .calderas, .scrubPending, .safety, .dbg, .out] s (State.jobDataFault s b da) := by
  unfold State.jobDataFault
  repeat' first
    | dsimp only | ((with_reducible apply Moves.after State.raise_moves ?_ ?_); rfl) | split
    | (with_reducible exact Moves.refl)

theorem doJobPop_moves {e : Nat} {s : State} : Moves [.dict, .mem, .flips, .hostMem, .queues, .calderas, .scrubPending, .engines, .jobOrder, .nextBlock, .safety, .dbg, .out] s (doJobPop e s) := by
  unfold doJobPop
  repeat' first
    | dsimp only | ((with_reducible apply Moves.after State.bump_moves ?_ ?_); rfl)
    | ((with_reducible apply Moves.after State.jobDataFault_moves ?_ ?_); rfl)
    | ((with_reducible apply Moves.after State.memUncorr_moves ?_ ?_); rfl)
    | ((with_reducible apply Moves.after State.queueDrop_moves ?_ ?_); rfl)
    | ((with_reducible apply Moves.after State.readEvents_moves ?_ ?_); rfl)
    | ((with_reducible apply Moves.after State.setEngine_moves ?_ ?_); rfl)
    | ((with_reducible apply Moves.after State.withJobOrder_moves ?_ ?_); rfl)
    | ((with_reducible apply Moves.after State.withNextBlock_moves ?_ ?_); rfl) | split
    | (with_reducible exact Moves.refl)

theorem doJobComplete_moves {e : Nat} {s : State} : Moves [.dict, .mem, .flips, .hostMem, .queues, .calderas, .scrubPending, .engines, .safety, .dbg, .out] s (doJobComplete e s) := by
  unfold doJobComplete
  repeat' first
    | dsimp only | intro _ _ | with_reducible refine Moves.foldl ?_ ?_ | with_reducible refine MovesFst.foldl ?_ ?_
    | ((with_reducible apply Moves.after State.blockReadEvents_moves ?_ ?_); rfl)
    | ((with_reducible apply Moves.after State.jobDataFault_moves ?_ ?_); rfl)
    | ((with_reducible apply Moves.after State.setEngine_moves ?_ ?_); rfl) | split
    | (with_reducible exact Moves.refl)

theorem State.jobOver_moves {s : State} {e : Nat} {j : Job} : Moves [.dict, .engines] s (State.jobOver s e j) := by
  unfold State.jobOver
  repeat' first
    | dsimp only | ((with_reducible apply Moves.after State.bump_moves ?_ ?_); rfl)
    | ((with_reducible apply Moves.after State.bumpSat_moves ?_ ?_); rfl)
    | ((with_reducible apply Moves.after State.withEngines_moves ?_ ?_); rfl) | split
    | (with_reducible exact Moves.refl)

theorem State.jobPushed_moves {s : State} {j : Job} : Moves [.dict] s (State.jobPushed s j) := by
  unfold State.jobPushed
  repeat' first
    | dsimp only | ((with_reducible apply Moves.after State.maxReg_moves ?_ ?_); rfl)
    | ((with_reducible apply Moves.after State.setReg_moves ?_ ?_); rfl) | (with_reducible exact Moves.refl)

theorem doJobPush_moves {e : Nat} {s : State} : Moves [.dict, .mem, .flips, .hostMem, .queues, .calderas, .scrubPending, .engines, .out] s (doJobPush e s) := by
  unfold doJobPush
  repeat' first
    | dsimp only | intro _ _ | ((with_reducible apply Moves.after State.jobOver_moves ?_ ?_); rfl)
    | ((with_reducible apply Moves.after State.jobPushed_moves ?_ ?_); rfl)
    | ((with_reducible apply Moves.after State.outerPush_moves ?_ ?_); rfl) | split
    | (with_reducible exact Moves.refl)

theorem State.engineParity_moves {s : State} {e : Nat} : Moves [.engines] s (State.engineParity s e) := by
  unfold State.engineParity
  repeat' first
    | dsimp only | ((with_reducible apply Moves.after State.setEngine_moves ?_ ?_); rfl) | split
    | (with_reducible exact Moves.refl)

theorem doJobBudget_moves {e : Nat} {s : State} : Moves [.dict, .mem, .flips, .hostMem, .queues, .calderas, .scrubPending, .engines, .safety, .dbg, .out] s (doJobBudget e s) := by
  unfold doJobBudget
  repeat' first
    | dsimp only | ((with_reducible apply Moves.after State.bumpSat_moves ?_ ?_); rfl)
    | ((with_reducible apply Moves.after State.jobOver_moves ?_ ?_); rfl)
    | ((with_reducible apply Moves.after State.jobPushed_moves ?_ ?_); rfl)
    | ((with_reducible apply Moves.after State.outerPush_moves ?_ ?_); rfl)
    | ((with_reducible apply Moves.after State.raise_moves ?_ ?_); rfl)
    | ((with_reducible apply Moves.after State.withEngines_moves ?_ ?_); rfl) | split
    | (with_reducible exact Moves.refl)

theorem State.blockEnable_moves {s : State} {b v : Nat} : MovesFst [.dict] s (State.blockEnable s b v) := by
  unfold State.blockEnable
  repeat' first
    | dsimp only | ((with_reducible apply Moves.after State.setReg_moves ?_ ?_); rfl) | split
    | (with_reducible exact Moves.refl)

end Sys2Proof.Machine
end

