-- ==== Sys2Proof/Laws/SafetyMonMoves.lean ====
section
/-! SUPPORT. Laws: what each operation of Machine/SafetyMon.lean changes at most, and that it keeps the invariant. -/
open Sys2Proof.Safety

namespace Sys2Proof.Machine

theorem State.poisonRunning_moves {s : State} {u : Nat} : Moves [.spindles] s (State.poisonRunning s u) := by
  unfold State.poisonRunning
  repeat' first
    | dsimp only | intro _ _ | ((with_reducible apply Moves.after State.modSpindle_moves ?_ ?_); rfl) | split
    | (with_reducible exact Moves.refl)

theorem State.accessParity_moves {s : State} {l0 : Agent} : Moves [.dict, .replies, .mailboxes, .mirrorQueue, .out] s (State.accessParity s l0) := by
  unfold State.accessParity
  repeat' first
    | dsimp only | intro _ _ | ((with_reducible apply Moves.after State.emit_moves ?_ ?_); rfl)
    | ((with_reducible apply Moves.after State.msix_moves ?_ ?_); rfl)
    | ((with_reducible apply Moves.after State.setMailbox_moves ?_ ?_); rfl)
    | ((with_reducible apply Moves.after State.withMirrorQueue_moves ?_ ?_); rfl)
    | ((with_reducible apply Moves.after State.withReplies_moves ?_ ?_); rfl) | split
    | (with_reducible exact Moves.refl)

theorem State.spoil_moves {s : State} {code : Nat} {l0 : FaultUnit} : MovesFst [.dict, .replies, .mem, .flips, .hostMem, .queues, .skeins, .spindles, .calderas, .scrubPending, .decoders, .engines, .safety, .mailboxes, .mirrorQueue, .dbg, .out] s (State.spoil s code l0) := by
  unfold State.spoil
  repeat' first
    | dsimp only | intro _ _ | ((with_reducible apply Moves.after State.accessParity_moves ?_ ?_); rfl)
    | ((with_reducible apply Moves.after State.engineParity_moves ?_ ?_); rfl)
    | ((with_reducible apply Moves.after State.fail_moves ?_ ?_); rfl)
    | ((with_reducible apply Moves.after State.poisonRunning_moves ?_ ?_); rfl)
    | ((with_reducible apply Moves.after State.sampleBroken_moves ?_ ?_); rfl) | split
    | (with_reducible exact Moves.refl)

theorem doFaultDetect_moves {code p source detail : Nat} {unit : FaultUnit} {s : State} : Moves [.dict, .replies, .mem, .flips, .hostMem, .queues, .skeins, .spindles, .calderas, .scrubPending, .decoders, .engines, .safety, .mailboxes, .mirrorQueue, .dbg, .out] s (doFaultDetect code p source detail unit s) := by
  unfold doFaultDetect
  repeat' first
    | dsimp only | ((with_reducible apply Moves.after State.raiseKey_moves ?_ ?_); rfl)
    | ((with_reducible apply Moves.after State.spoil_moves ?_ ?_); rfl) | split | (with_reducible exact Moves.refl)

theorem doWarning_moves {code p source detail : Nat} {s : State} : Moves [.dict, .mem, .flips, .hostMem, .queues, .calderas, .scrubPending, .safety, .dbg, .out] s (doWarning code p source detail s) := by
  unfold doWarning
  repeat' first
    | dsimp only | ((with_reducible apply Moves.after State.bumpSat_moves ?_ ?_); rfl)
    | ((with_reducible apply Moves.after State.warn_moves ?_ ?_); rfl) | split | (with_reducible exact Moves.refl)

theorem doMonitorRefresh_moves {s : State} : Moves [.safety] s (doMonitorRefresh s) := by
  unfold doMonitorRefresh
  repeat' first
    | dsimp only | intro _ _ | ((with_reducible apply Moves.after State.modSafety_moves ?_ ?_); rfl) | split
    | (with_reducible exact Moves.refl)

theorem doMonitor_moves {s : State} : Moves [.dict, .mem, .flips, .hostMem, .queues, .calderas, .scrubPending, .safety, .dbg, .out] s (doMonitor s) := by
  unfold doMonitor
  repeat' first
    | dsimp only | intro _ _ | ((with_reducible apply Moves.after State.modSafety_moves ?_ ?_); rfl)
    | ((with_reducible apply Moves.after State.raise_moves ?_ ?_); rfl) | split | (with_reducible exact Moves.refl)

theorem State.endOutOfService_moves {s : State} {gs : List Nat} : Moves [.dict, .mem, .flips, .hostMem, .queues, .skeins, .calderas, .scrubPending, .safety, .dbg, .out] s (State.endOutOfService s gs) := by
  unfold State.endOutOfService
  repeat' first
    | dsimp only | intro _ _ | with_reducible refine Moves.forEach ?_ ?_
    | ((with_reducible apply Moves.after State.endStream_moves ?_ ?_); rfl) | split
    | (with_reducible exact Moves.refl)

theorem State.dropHeld_moves {s : State} {k : Nat} {arrived : Bool} : Moves [.dict, .safety] s (State.dropHeld s k arrived) := by
  unfold State.dropHeld
  repeat' first
    | dsimp only | ((with_reducible apply Moves.after State.bumpSatBy_moves ?_ ?_); rfl)
    | ((with_reducible apply Moves.after State.setPair_moves ?_ ?_); rfl) | split
    | (with_reducible exact Moves.refl)

theorem State.takeOut_moves {s : State} {c : Nat} : Moves [.dict, .mem, .flips, .hostMem, .queues, .skeins, .calderas, .scrubPending, .plans, .safety, .dbg, .out] s (State.takeOut s c) := by
  unfold State.takeOut
  repeat' first
    | dsimp only | intro _ _ | with_reducible refine Moves.forEach ?_ ?_
    | ((with_reducible apply Moves.after State.dropHeld_moves ?_ ?_); rfl)
    | ((with_reducible apply Moves.after State.endOutOfService_moves ?_ ?_); rfl)
    | ((with_reducible apply Moves.after State.modCaldera_moves ?_ ?_); rfl)
    | ((with_reducible apply Moves.after State.modPlan_moves ?_ ?_); rfl)
    | ((with_reducible apply Moves.after State.setReg_moves ?_ ?_); rfl) | split | (with_reducible exact Moves.refl)

theorem State.retryWrite_moves {s : State} {f : PendingFault} {passed : Bool} : Moves [.mem, .flips] s (State.retryWrite s f passed) := by
  unfold State.retryWrite
  repeat' first
    | dsimp only | ((with_reducible apply Moves.after State.put_moves ?_ ?_); rfl)
    | ((with_reducible apply Moves.after State.wr_moves ?_ ?_); rfl) | split | (with_reducible exact Moves.refl)

theorem State.lastingFault_moves {s : State} {f : PendingFault} : Moves [.dict, .mem, .flips, .hostMem, .queues, .skeins, .calderas, .scrubPending, .plans, .safety, .dbg, .out] s (State.lastingFault s f) := by
  unfold State.lastingFault
  repeat' first
    | dsimp only | intro _ _ | with_reducible refine Moves.forEach ?_ ?_
    | ((with_reducible apply Moves.after State.modSafety_moves ?_ ?_); rfl)
    | ((with_reducible apply Moves.after State.takeOut_moves ?_ ?_); rfl) | split
    | (with_reducible exact Moves.refl)

theorem doFaultRetry_moves {p : Nat} {passed : Bool} {s : State} : Moves [.dict, .mem, .flips, .hostMem, .queues, .skeins, .calderas, .scrubPending, .plans, .safety, .dbg, .out] s (doFaultRetry p passed s) := by
  unfold doFaultRetry
  repeat' first
    | dsimp only | intro _ _ | with_reducible refine Moves.forEach ?_ ?_
    | ((with_reducible apply Moves.after State.bumpSat_moves ?_ ?_); rfl)
    | ((with_reducible apply Moves.after State.lastingFault_moves ?_ ?_); rfl)
    | ((with_reducible apply Moves.after State.logPush_moves ?_ ?_); rfl)
    | ((with_reducible apply Moves.after State.modSafety_moves ?_ ?_); rfl)
    | ((with_reducible apply Moves.after State.retryWrite_moves ?_ ?_); rfl)
    | ((with_reducible apply Moves.after State.settlePart_moves ?_ ?_); rfl)
    | ((with_reducible apply Moves.after State.unpend_moves ?_ ?_); rfl) | split | (with_reducible exact Moves.refl)

theorem State.pairFault_moves {s : State} {k kind : Nat} {r : SinterRec} : Moves [.dict, .mem, .flips, .hostMem, .queues, .calderas, .scrubPending, .safety, .dbg, .out] s (State.pairFault s k kind r) := by
  unfold State.pairFault
  repeat' first
    | dsimp only | ((with_reducible apply Moves.after State.bumpSat_moves ?_ ?_); rfl)
    | ((with_reducible apply Moves.after State.raiseKey_moves ?_ ?_); rfl)
    | ((with_reducible apply Moves.after State.setReg_moves ?_ ?_); rfl)
    | ((with_reducible apply Moves.after State.verdict_moves ?_ ?_); rfl) | split | (with_reducible exact Moves.refl)

theorem State.judgePair_moves {s : State} {k : Nat} {r h : SinterRec} : Moves [.dict, .mem, .flips, .hostMem, .queues, .calderas, .scrubPending, .safety, .dbg, .out] s (State.judgePair s k r h) := by
  unfold State.judgePair
  repeat' first
    | dsimp only | ((with_reducible apply Moves.after State.bump_moves ?_ ?_); rfl)
    | ((with_reducible apply Moves.after State.pairFault_moves ?_ ?_); rfl)
    | ((with_reducible apply Moves.after State.verdict_moves ?_ ?_); rfl) | split | (with_reducible exact Moves.refl)

theorem State.holdRecord_moves {s : State} {k : Nat} {r : SinterRec} : Moves [.dict, .mem, .flips, .hostMem, .queues, .calderas, .scrubPending, .safety, .dbg, .out] s (State.holdRecord s k r) := by
  unfold State.holdRecord
  repeat' first
    | dsimp only | ((with_reducible apply Moves.after State.pairFault_moves ?_ ?_); rfl)
    | ((with_reducible apply Moves.after State.setPair_moves ?_ ?_); rfl) | split | (with_reducible exact Moves.refl)

theorem doCheckpointCompare_moves {k : Nat} {s : State} : Moves [.dict, .mem, .flips, .hostMem, .queues, .calderas, .scrubPending, .safety, .dbg, .out] s (doCheckpointCompare k s) := by
  unfold doCheckpointCompare
  repeat' first
    | dsimp only | intro _ _ | ((with_reducible apply Moves.after State.bumpSat_moves ?_ ?_); rfl)
    | ((with_reducible apply Moves.after State.dropHeld_moves ?_ ?_); rfl)
    | ((with_reducible apply Moves.after State.holdRecord_moves ?_ ?_); rfl)
    | ((with_reducible apply Moves.after State.judgePair_moves ?_ ?_); rfl)
    | ((with_reducible apply Moves.after State.raise_moves ?_ ?_); rfl)
    | ((with_reducible apply Moves.after State.setPair_moves ?_ ?_); rfl) | split | (with_reducible exact Moves.refl)

theorem doCompareTimeout_moves {k : Nat} {s : State} : Moves [.dict, .mem, .flips, .hostMem, .queues, .calderas, .scrubPending, .safety, .dbg, .out] s (doCompareTimeout k s) := by
  unfold doCompareTimeout
  repeat' first
    | dsimp only | ((with_reducible apply Moves.after State.dropHeld_moves ?_ ?_); rfl)
    | ((with_reducible apply Moves.after State.pairFault_moves ?_ ?_); rfl)
    | ((with_reducible apply Moves.after State.setPair_moves ?_ ?_); rfl) | split | (with_reducible exact Moves.refl)

theorem doWatchCheck_moves {p w : Nat} {s : State} : Moves [.dict, .mem, .flips, .hostMem, .queues, .calderas, .scrubPending, .safety, .dbg, .out] s (doWatchCheck p w s) := by
  unfold doWatchCheck
  repeat' first
    | dsimp only | ((with_reducible apply Moves.after State.bumpSat_moves ?_ ?_); rfl)
    | ((with_reducible apply Moves.after State.raise_moves ?_ ?_); rfl) | split | (with_reducible exact Moves.refl)

theorem State.takeBases_moves {s : State} {p : Nat} : Moves [.safety] s (State.takeBases s p) := by
  unfold State.takeBases
  repeat' first
    | dsimp only | intro _ _ | with_reducible refine Moves.foldl ?_ ?_ | with_reducible refine MovesFst.foldl ?_ ?_
    | ((with_reducible apply Moves.after State.modPart_moves ?_ ?_); rfl) | (with_reducible exact Moves.refl)

theorem State.sweepBegin_moves {s : State} {c : Nat} : Moves [.dict, .calderas] s (State.sweepBegin s c) := by
  unfold State.sweepBegin
  repeat' first
    | dsimp only | intro _ _ | ((with_reducible apply Moves.after State.modCaldera_moves ?_ ?_); rfl)
    | ((with_reducible apply Moves.after State.opStart_moves ?_ ?_); rfl)
    | ((with_reducible apply Moves.after State.setReg_moves ?_ ?_); rfl) | split | (with_reducible exact Moves.refl)

theorem State.sweepProgress_moves {s : State} : Moves [.dict] s (State.sweepProgress s) := by
  unfold State.sweepProgress
  repeat' first
    | dsimp only | intro _ _ | with_reducible refine Moves.foldl ?_ ?_ | with_reducible refine MovesFst.foldl ?_ ?_
    | ((with_reducible apply Moves.after State.maxReg_moves ?_ ?_); rfl) | split | (with_reducible exact Moves.refl)

theorem State.sweepEnd_moves {s : State} {c : Nat} : Moves [.dict, .calderas, .safety, .out] s (State.sweepEnd s c) := by
  unfold State.sweepEnd
  repeat' first
    | dsimp only | intro _ _ | ((with_reducible apply Moves.after State.bump_moves ?_ ?_); rfl)
    | ((with_reducible apply Moves.after State.maxReg_moves ?_ ?_); rfl)
    | ((with_reducible apply Moves.after State.opEnd_moves ?_ ?_); rfl)
    | ((with_reducible apply Moves.after State.setCaldera_moves ?_ ?_); rfl)
    | ((with_reducible apply Moves.after State.setReg_moves ?_ ?_); rfl)
    | ((with_reducible apply Moves.after State.warnEnd_moves ?_ ?_); rfl) | split
    | (with_reducible exact Moves.refl)

theorem doSelftestElement_moves {c : Nat} {passed : Bool} {s : State} : Moves [.dict, .mem, .flips, .hostMem, .queues, .calderas, .scrubPending, .safety, .dbg, .out] s (doSelftestElement c passed s) := by
  unfold doSelftestElement
  repeat' first
    | dsimp only | ((with_reducible apply Moves.after State.bumpSat_moves ?_ ?_); rfl)
    | ((with_reducible apply Moves.after State.raise_moves ?_ ?_); rfl)
    | ((with_reducible apply Moves.after State.setReg_moves ?_ ?_); rfl)
    | ((with_reducible apply Moves.after State.sweepBegin_moves ?_ ?_); rfl)
    | ((with_reducible apply Moves.after State.sweepEnd_moves ?_ ?_); rfl)
    | ((with_reducible apply Moves.after State.sweepProgress_moves ?_ ?_); rfl) | split
    | (with_reducible exact Moves.refl)

theorem doSweepLate_moves {c : Nat} {s : State} : Moves [.dict, .mem, .flips, .hostMem, .queues, .calderas, .scrubPending, .safety, .dbg, .out] s (doSweepLate c s) := by
  unfold doSweepLate
  repeat' first
    | dsimp only | ((with_reducible apply Moves.after State.setCaldera_moves ?_ ?_); rfl)
    | ((with_reducible apply Moves.after doWarning_moves ?_ ?_); rfl) | split | (with_reducible exact Moves.refl)

theorem doIoCheckerTest_moves {passed : Bool} {s : State} : Moves [.dict, .mem, .flips, .hostMem, .queues, .calderas, .scrubPending, .safety, .dbg, .out] s (doIoCheckerTest passed s) := by
  unfold doIoCheckerTest
  repeat' first
    | dsimp only | ((with_reducible apply Moves.after State.raise_moves ?_ ?_); rfl) | split
    | (with_reducible exact Moves.refl)

theorem State.geyserJudge_moves {s : State} {p : Nat} : Moves [.dict, .mem, .flips, .hostMem, .queues, .calderas, .scrubPending, .safety, .dbg, .out] s (State.geyserJudge s p) := by
  unfold State.geyserJudge
  repeat' first
    | dsimp only | intro _ _ | with_reducible refine Moves.foldl ?_ ?_ | with_reducible refine MovesFst.foldl ?_ ?_
    | with_reducible refine Moves.forEach ?_ ?_ | ((with_reducible apply Moves.after State.raise_moves ?_ ?_); rfl)
    | ((with_reducible apply Moves.after State.setPart_moves ?_ ?_); rfl)
    | ((with_reducible apply Moves.after State.verdict_moves ?_ ?_); rfl) | split | (with_reducible exact Moves.refl)

theorem State.inject_moves {s : State} {p : Nat} : Moves [.dict, .mem, .flips, .hostMem, .queues, .calderas, .scrubPending, .safety, .dbg, .out] s (State.inject s p) := by
  unfold State.inject
  repeat' first
    | dsimp only | intro _ _ | ((with_reducible apply Moves.after State.blockReadEvents_moves ?_ ?_); rfl)
    | ((with_reducible apply Moves.after State.blockWrite_moves ?_ ?_); rfl)
    | ((with_reducible apply Moves.after State.modPart_moves ?_ ?_); rfl)
    | ((with_reducible apply Moves.after State.setReg_moves ?_ ?_); rfl) | split | (with_reducible exact Moves.refl)

theorem doGeyserTick_moves {p : Nat} {s : State} : Moves [.dict, .mem, .flips, .hostMem, .queues, .calderas, .scrubPending, .safety, .dbg, .out] s (doGeyserTick p s) := by
  unfold doGeyserTick
  repeat' first
    | dsimp only | intro _ _ | ((with_reducible apply Moves.after State.bump_moves ?_ ?_); rfl)
    | ((with_reducible apply Moves.after State.bumpSat_moves ?_ ?_); rfl)
    | ((with_reducible apply Moves.after State.geyserJudge_moves ?_ ?_); rfl)
    | ((with_reducible apply Moves.after State.inject_moves ?_ ?_); rfl)
    | ((with_reducible apply Moves.after State.modPart_moves ?_ ?_); rfl)
    | ((with_reducible apply Moves.after State.outerPush_moves ?_ ?_); rfl)
    | ((with_reducible apply Moves.after State.raise_moves ?_ ?_); rfl)
    | ((with_reducible apply Moves.after State.setReg_moves ?_ ?_); rfl) | split | (with_reducible exact Moves.refl)

end Sys2Proof.Machine
end

