-- ==== Sys2Proof/Laws/LinksMoves.lean ====
section
/-! SUPPORT. Laws: what each operation of Machine/Links.lean changes at most, and that it keeps the invariant. -/
open Sys2Proof.Safety

namespace Sys2Proof.Machine

theorem State.setLinkState_moves {s : State} {l v : Nat} : Moves [.dict, .dbg] s (State.setLinkState s l v) := by
  unfold State.setLinkState
  repeat' first
    | dsimp only | ((with_reducible apply Moves.after State.setReg_moves ?_ ?_); rfl)
    | ((with_reducible apply Moves.after State.trace_moves ?_ ?_); rfl) | (with_reducible exact Moves.refl)

theorem State.trainLink_moves {s : State} {l : Nat} : Moves [.dict, .dbg] s (State.trainLink s l) := by
  unfold State.trainLink
  repeat' first
    | dsimp only | ((with_reducible apply Moves.after State.opStart_moves ?_ ?_); rfl)
    | ((with_reducible apply Moves.after State.setLinkState_moves ?_ ?_); rfl) | split
    | (with_reducible exact Moves.refl)

theorem State.settleTraining_moves {s : State} : Moves [.dict] s (State.settleTraining s) := by
  unfold State.settleTraining
  repeat' first
    | dsimp only | intro _ _ | ((with_reducible apply Moves.after State.opEnd_moves ?_ ?_); rfl)
    | ((with_reducible apply Moves.after State.setReg_moves ?_ ?_); rfl) | split | (with_reducible exact Moves.refl)

theorem State.answerLost_moves {s : State} {l : Nat} : Moves [.dict, .calderas, .links, .out] s (State.answerLost s l) := by
  unfold State.answerLost
  repeat' first
    | dsimp only | intro _ _ | with_reducible refine Moves.foldl ?_ ?_ | with_reducible refine MovesFst.foldl ?_ ?_
    | ((with_reducible apply Moves.after State.respond_moves ?_ ?_); rfl)
    | ((with_reducible apply Moves.after State.setLink_moves ?_ ?_); rfl) | split | (with_reducible exact Moves.refl)

theorem State.sendHello_moves {s : State} {l : Nat} : Moves [.dict, .links, .out] s (State.sendHello s l) := by
  unfold State.sendHello
  repeat' first
    | dsimp only | ((with_reducible apply Moves.after State.linkPush_moves ?_ ?_); rfl) | split
    | (with_reducible exact Moves.refl)

theorem State.sendCount_moves {s : State} {l bitmap duplicate depth : Nat} : Moves [.dict, .links, .out] s (State.sendCount s l bitmap duplicate depth) := by
  unfold State.sendCount
  repeat' first
    | dsimp only | intro _ _ | with_reducible refine Moves.forEach ?_ ?_
    | ((with_reducible apply Moves.after State.linkPush_moves ?_ ?_); rfl) | (with_reducible exact Moves.refl)

theorem State.sendDone_moves {s : State} {nodes treeDepth result duplicate : Nat} : Moves [.dict, .links, .out] s (State.sendDone s nodes treeDepth result duplicate) := by
  unfold State.sendDone
  repeat' first
    | dsimp only | intro _ _ | with_reducible refine Moves.forEach ?_ ?_
    | ((with_reducible apply Moves.after State.linkPush_moves ?_ ?_); rfl) | (with_reducible exact Moves.refl)

theorem State.setTree_moves {s : State} {l : Nat} : Moves [.dict] s (State.setTree s l) := by
  unfold State.setTree
  repeat' first
    | dsimp only | ((with_reducible apply Moves.after State.setReg_moves ?_ ?_); rfl) | split
    | (with_reducible exact Moves.refl)

theorem State.startRun_moves {s : State} {run : Nat} : Moves [.dict, .links, .discovery, .dbg, .out] s (State.startRun s run) := by
  unfold State.startRun
  repeat' first
    | dsimp only | intro _ _ | with_reducible refine Moves.forEach ?_ ?_
    | ((with_reducible apply Moves.after State.bump_moves ?_ ?_); rfl)
    | ((with_reducible apply Moves.after State.modLink_moves ?_ ?_); rfl)
    | ((with_reducible apply Moves.after State.opEnd_moves ?_ ?_); rfl)
    | ((with_reducible apply Moves.after State.opStart_moves ?_ ?_); rfl)
    | ((with_reducible apply Moves.after State.sendHello_moves ?_ ?_); rfl)
    | ((with_reducible apply Moves.after State.setReg_moves ?_ ?_); rfl)
    | ((with_reducible apply Moves.after State.settleTraining_moves ?_ ?_); rfl)
    | ((with_reducible apply Moves.after State.trainLink_moves ?_ ?_); rfl)
    | ((with_reducible apply Moves.after State.withDiscovery_moves ?_ ?_); rfl) | split
    | (with_reducible exact Moves.refl)

theorem State.nextRun_moves {s : State} : Moves [.dict, .links, .discovery, .dbg, .out] s (State.nextRun s) := by
  unfold State.nextRun
  repeat' first
    | dsimp only | ((with_reducible apply Moves.after State.startRun_moves ?_ ?_); rfl)
    | (with_reducible exact Moves.refl)

theorem State.discoveryChange_moves {s : State} : Moves [.dict, .links, .discovery, .dbg, .out] s (State.discoveryChange s) := by
  unfold State.discoveryChange
  repeat' first
    | dsimp only | ((with_reducible apply Moves.after State.nextRun_moves ?_ ?_); rfl) | split
    | (with_reducible exact Moves.refl)

theorem State.finishRun_moves {s : State} {nodes treeDepth result duplicate : Nat} : Moves [.dict, .discovery] s (State.finishRun s nodes treeDepth result duplicate) := by
  unfold State.finishRun
  repeat' first
    | dsimp only | ((with_reducible apply Moves.after State.opEnd_moves ?_ ?_); rfl)
    | ((with_reducible apply Moves.after State.setReg_moves ?_ ?_); rfl)
    | ((with_reducible apply Moves.after State.withDiscovery_moves ?_ ?_); rfl) | split
    | (with_reducible exact Moves.refl)

theorem State.tryCount_moves {s : State} : Moves [.dict, .links, .discovery, .out] s (State.tryCount s) := by
  unfold State.tryCount
  repeat' first
    | dsimp only | intro _ _ | ((with_reducible apply Moves.after State.finishRun_moves ?_ ?_); rfl)
    | ((with_reducible apply Moves.after State.sendCount_moves ?_ ?_); rfl)
    | ((with_reducible apply Moves.after State.sendDone_moves ?_ ?_); rfl)
    | ((with_reducible apply Moves.after State.setReg_moves ?_ ?_); rfl)
    | ((with_reducible apply Moves.after State.withDiscovery_moves ?_ ?_); rfl) | split
    | (with_reducible exact Moves.refl)

theorem doLinkTrained_moves {l peerNode peerLink : Nat} {s : State} : Moves [.dict, .links, .discovery, .dbg, .out] s (doLinkTrained l peerNode peerLink s) := by
  unfold doLinkTrained
  repeat' first
    | dsimp only | ((with_reducible apply Moves.after State.discoveryChange_moves ?_ ?_); rfl)
    | ((with_reducible apply Moves.after State.sendHello_moves ?_ ?_); rfl)
    | ((with_reducible apply Moves.after State.setLink_moves ?_ ?_); rfl)
    | ((with_reducible apply Moves.after State.setLinkState_moves ?_ ?_); rfl)
    | ((with_reducible apply Moves.after State.setReg_moves ?_ ?_); rfl)
    | ((with_reducible apply Moves.after State.settleTraining_moves ?_ ?_); rfl) | split
    | (with_reducible exact Moves.refl)

theorem doLinkGivenUp_moves {l : Nat} {s : State} : Moves [.dict, .dbg] s (doLinkGivenUp l s) := by
  unfold doLinkGivenUp
  repeat' first
    | dsimp only | ((with_reducible apply Moves.after State.setLinkState_moves ?_ ?_); rfl)
    | ((with_reducible apply Moves.after State.settleTraining_moves ?_ ?_); rfl) | split
    | (with_reducible exact Moves.refl)

theorem State.dropLink_moves {s : State} {l : Nat} : Moves [.dict, .calderas, .links, .discovery, .dbg, .out] s (State.dropLink s l) := by
  unfold State.dropLink
  repeat' first
    | dsimp only | ((with_reducible apply Moves.after State.answerLost_moves ?_ ?_); rfl)
    | ((with_reducible apply Moves.after State.discoveryChange_moves ?_ ?_); rfl)
    | ((with_reducible apply Moves.after State.nextRun_moves ?_ ?_); rfl)
    | ((with_reducible apply Moves.after State.setLinkState_moves ?_ ?_); rfl)
    | ((with_reducible apply Moves.after State.trainLink_moves ?_ ?_); rfl) | split
    | (with_reducible exact Moves.refl)

theorem State.failLink_moves {s : State} {l : Nat} : Moves [.dict, .calderas, .links, .discovery, .dbg, .out] s (State.failLink s l) := by
  unfold State.failLink
  repeat' first
    | dsimp only | ((with_reducible apply Moves.after State.bumpSat_moves ?_ ?_); rfl)
    | ((with_reducible apply Moves.after State.dropLink_moves ?_ ?_); rfl) | split | (with_reducible exact Moves.refl)

theorem State.linkEnable_moves {s : State} {l v : Nat} : Moves [.dict, .calderas, .links, .discovery, .dbg, .out] s (State.linkEnable s l v) := by
  unfold State.linkEnable
  repeat' first
    | dsimp only | ((with_reducible apply Moves.after State.dropLink_moves ?_ ?_); rfl)
    | ((with_reducible apply Moves.after State.setLinkState_moves ?_ ?_); rfl)
    | ((with_reducible apply Moves.after State.setReg_moves ?_ ?_); rfl)
    | ((with_reducible apply Moves.after State.settleTraining_moves ?_ ?_); rfl)
    | ((with_reducible apply Moves.after State.trainLink_moves ?_ ?_); rfl) | split
    | (with_reducible exact Moves.refl)

theorem State.retrain_moves {s : State} : Moves [.dict, .calderas, .links, .discovery, .dbg, .out] s (State.retrain s) := by
  unfold State.retrain
  repeat' first
    | dsimp only | intro _ _ | with_reducible refine Moves.forEach ?_ ?_
    | ((with_reducible apply Moves.after State.dropLink_moves ?_ ?_); rfl)
    | ((with_reducible apply Moves.after State.trainLink_moves ?_ ?_); rfl) | split
    | (with_reducible exact Moves.refl)

theorem State.replayFrom_moves {s : State} {l i : Nat} : Moves [.dict, .links, .out] s (State.replayFrom s l i) := by
  unfold State.replayFrom
  repeat' first
    | dsimp only | intro _ _ | with_reducible refine Moves.foldl ?_ ?_ | with_reducible refine MovesFst.foldl ?_ ?_
    | ((with_reducible apply Moves.after State.bumpSatBy_moves ?_ ?_); rfl)
    | ((with_reducible apply Moves.after State.count_moves ?_ ?_); rfl)
    | ((with_reducible apply Moves.after State.emit_moves ?_ ?_); rfl)
    | ((with_reducible apply Moves.after State.setLink_moves ?_ ?_); rfl) | (with_reducible exact Moves.refl)

theorem State.replayOrFail_moves {s : State} {l i : Nat} : Moves [.dict, .calderas, .links, .discovery, .dbg, .out] s (State.replayOrFail s l i) := by
  unfold State.replayOrFail
  repeat' first
    | dsimp only | intro _ _ | ((with_reducible apply Moves.after State.failLink_moves ?_ ?_); rfl)
    | ((with_reducible apply Moves.after State.replayFrom_moves ?_ ?_); rfl) | split
    | (with_reducible exact Moves.refl)

theorem doLack_moves {l seq : Nat} {s : State} : Moves [.dict, .links, .out] s (doLack l seq s) := by
  unfold doLack
  repeat' first
    | dsimp only | intro _ _ | ((with_reducible apply Moves.after State.modLink_moves ?_ ?_); rfl)
    | ((with_reducible apply Moves.after State.pump_moves ?_ ?_); rfl) | split | (with_reducible exact Moves.refl)

theorem doLnak_moves {l seq : Nat} {s : State} : Moves [.dict, .calderas, .links, .discovery, .dbg, .out] s (doLnak l seq s) := by
  unfold doLnak
  repeat' first
    | dsimp only | ((with_reducible apply Moves.after State.replayOrFail_moves ?_ ?_); rfl) | split
    | (with_reducible exact Moves.refl)

theorem doReplayTimeout_moves {l : Nat} {s : State} : Moves [.dict, .calderas, .links, .discovery, .dbg, .out] s (doReplayTimeout l s) := by
  unfold doReplayTimeout
  repeat' first
    | dsimp only | ((with_reducible apply Moves.after State.replayOrFail_moves ?_ ?_); rfl) | split
    | (with_reducible exact Moves.refl)

theorem doCredit_moves {l vc0 vc1 : Nat} {s : State} : Moves [.dict, .links, .out] s (doCredit l vc0 vc1 s) := by
  unfold doCredit
  repeat' first
    | dsimp only | intro _ _ | ((with_reducible apply Moves.after State.modLink_moves ?_ ?_); rfl)
    | ((with_reducible apply Moves.after State.pump_moves ?_ ?_); rfl) | split | (with_reducible exact Moves.refl)

theorem State.forgetXid_moves {s : State} {f : LinkFrame} : Moves [.skeins] s (State.forgetXid s f) := by
  unfold State.forgetXid
  repeat' first
    | dsimp only | intro _ _ | ((with_reducible apply Moves.after State.modSkein_moves ?_ ?_); rfl)
    | (with_reducible exact Moves.refl)

theorem State.refusePush_moves {s : State} {f : LinkFrame} {status : Nat} : Moves [.dict, .skeins, .calderas, .links, .out] s (State.refusePush s f status) := by
  unfold State.refusePush
  repeat' first
    | dsimp only | intro _ _ | ((with_reducible apply Moves.after State.modSkein_moves ?_ ?_); rfl)
    | ((with_reducible apply Moves.after State.respond_moves ?_ ?_); rfl) | split | (with_reducible exact Moves.refl)

theorem State.deliverPush_moves {s : State} {f : LinkFrame} : Moves [.dict, .mem, .flips, .hostMem, .queues, .skeins, .calderas, .scrubPending, .links, .out] s (State.deliverPush s f) := by
  unfold State.deliverPush
  repeat' first
    | dsimp only | intro _ _ | ((with_reducible apply Moves.after State.bumpSat_moves ?_ ?_); rfl)
    | ((with_reducible apply Moves.after State.forgetXid_moves ?_ ?_); rfl)
    | ((with_reducible apply Moves.after State.modSkein_moves ?_ ?_); rfl)
    | ((with_reducible apply Moves.after State.outerPush_moves ?_ ?_); rfl)
    | ((with_reducible apply Moves.after State.refusePush_moves ?_ ?_); rfl)
    | ((with_reducible apply Moves.after State.respond_moves ?_ ?_); rfl) | split | (with_reducible exact Moves.refl)

theorem State.closePush_moves {s : State} {f : LinkFrame} : Moves [.dict, .syncs, .skeins, .calderas, .links, .out] s (State.closePush s f) := by
  unfold State.closePush
  repeat' first
    | dsimp only | intro _ _ | ((with_reducible apply Moves.after State.bumpSat_moves ?_ ?_); rfl)
    | ((with_reducible apply Moves.after State.forgetXid_moves ?_ ?_); rfl)
    | ((with_reducible apply Moves.after State.outerAdd_moves ?_ ?_); rfl)
    | ((with_reducible apply Moves.after State.respond_moves ?_ ?_); rfl) | split | (with_reducible exact Moves.refl)

theorem State.deliverWrite_moves {s : State} {f : LinkFrame} : Moves [.dict, .skeins, .calderas, .links, .out] s (State.deliverWrite s f) := by
  unfold State.deliverWrite
  repeat' first
    | dsimp only | intro _ _ | ((with_reducible apply Moves.after State.modSkein_moves ?_ ?_); rfl)
    | ((with_reducible apply Moves.after State.respond_moves ?_ ?_); rfl) | split | (with_reducible exact Moves.refl)

theorem State.deliver__moves {s : State} {f : LinkFrame} : Moves [.dict, .mem, .flips, .hostMem, .queues, .syncs, .skeins, .calderas, .scrubPending, .links, .out] s (State.deliver_ s f) := by
  unfold State.deliver_
  repeat' first
    | dsimp only | ((with_reducible apply Moves.after State.closePush_moves ?_ ?_); rfl)
    | ((with_reducible apply Moves.after State.crossAck_moves ?_ ?_); rfl)
    | ((with_reducible apply Moves.after State.deliverPush_moves ?_ ?_); rfl)
    | ((with_reducible apply Moves.after State.deliverWrite_moves ?_ ?_); rfl)
    | ((with_reducible apply Moves.after State.route_moves ?_ ?_); rfl) | split | (with_reducible exact Moves.refl)

theorem doDataFrame_moves {l : Nat} {crcOk : Bool} {f : LinkFrame} {s : State} : Moves [.dict, .mem, .flips, .hostMem, .queues, .syncs, .skeins, .calderas, .scrubPending, .links, .out] s (doDataFrame l crcOk f s) := by
  unfold doDataFrame
  repeat' first
    | dsimp only | ((with_reducible apply Moves.after State.bump_moves ?_ ?_); rfl)
    | ((with_reducible apply Moves.after State.bumpSat_moves ?_ ?_); rfl)
    | ((with_reducible apply Moves.after State.deliver__moves ?_ ?_); rfl)
    | ((with_reducible apply Moves.after State.emit_moves ?_ ?_); rfl)
    | ((with_reducible apply Moves.after State.setLink_moves ?_ ?_); rfl) | split | (with_reducible exact Moves.refl)

theorem State.takeOffer_moves {s : State} {root depth neighbour l : Nat} : Moves [.dict, .links, .discovery, .out] s (State.takeOffer s root depth neighbour l) := by
  unfold State.takeOffer
  repeat' first
    | dsimp only | intro _ _ | with_reducible refine Moves.forEach ?_ ?_
    | ((with_reducible apply Moves.after State.sendHello_moves ?_ ?_); rfl)
    | ((with_reducible apply Moves.after State.setReg_moves ?_ ?_); rfl)
    | ((with_reducible apply Moves.after State.setTree_moves ?_ ?_); rfl)
    | ((with_reducible apply Moves.after State.withDiscovery_moves ?_ ?_); rfl) | split
    | (with_reducible exact Moves.refl)

theorem doHello_moves {l neighbour root depth run : Nat} {onParent : Bool} {s : State} : Moves [.dict, .links, .discovery, .dbg, .out] s (doHello l neighbour root depth run onParent s) := by
  unfold doHello
  repeat' first
    | dsimp only | intro _ _ | ((with_reducible apply Moves.after State.modLink_moves ?_ ?_); rfl)
    | ((with_reducible apply Moves.after State.nextRun_moves ?_ ?_); rfl)
    | ((with_reducible apply Moves.after State.setTree_moves ?_ ?_); rfl)
    | ((with_reducible apply Moves.after State.startRun_moves ?_ ?_); rfl)
    | ((with_reducible apply Moves.after State.takeOffer_moves ?_ ?_); rfl) | split
    | (with_reducible exact Moves.refl)

theorem doConverged_moves {s : State} : Moves [.dict, .links, .discovery, .out] s (doConverged s) := by
  unfold doConverged
  repeat' first
    | dsimp only | intro _ _ | ((with_reducible apply Moves.after State.setReg_moves ?_ ?_); rfl)
    | ((with_reducible apply Moves.after State.tryCount_moves ?_ ?_); rfl) | split
    | (with_reducible exact Moves.refl)

theorem doCount_moves {l bitmap duplicate depthBelow run : Nat} {s : State} : Moves [.dict, .links, .discovery, .out] s (doCount l bitmap duplicate depthBelow run s) := by
  unfold doCount
  repeat' first
    | dsimp only | intro _ _ | ((with_reducible apply Moves.after State.modLink_moves ?_ ?_); rfl)
    | ((with_reducible apply Moves.after State.setReg_moves ?_ ?_); rfl)
    | ((with_reducible apply Moves.after State.tryCount_moves ?_ ?_); rfl) | split
    | (with_reducible exact Moves.refl)

theorem doDone_moves {l nodes treeDepth result duplicate : Nat} {s : State} : Moves [.dict, .links, .discovery, .out] s (doDone l nodes treeDepth result duplicate s) := by
  unfold doDone
  repeat' first
    | dsimp only | ((with_reducible apply Moves.after State.finishRun_moves ?_ ?_); rfl)
    | ((with_reducible apply Moves.after State.sendDone_moves ?_ ?_); rfl) | split
    | (with_reducible exact Moves.refl)

end Sys2Proof.Machine
end

