-- ==== Sys2Proof/Laws/HostPortMoves.lean ====
section
/-! SUPPORT. Laws: what each operation of Machine/HostPort.lean changes at most, and that it keeps the invariant. -/
open Sys2Proof.Safety

namespace Sys2Proof.Machine

theorem State.outsideUncorr_moves {s : State} {p : Nat × Nat} : Moves [.dict, .mem, .flips, .hostMem, .queues, .calderas, .scrubPending, .safety, .dbg, .out] s (State.outsideUncorr s p) := by
  unfold State.outsideUncorr
  repeat' first
    | dsimp only | ((with_reducible apply Moves.after State.memUncorr_moves ?_ ?_); rfl)
    | ((with_reducible apply Moves.after State.raise_moves ?_ ?_); rfl)
    | ((with_reducible apply Moves.after State.ramUncorr_moves ?_ ?_); rfl)
    | ((with_reducible apply Moves.after State.readEvents_moves ?_ ?_); rfl) | split
    | (with_reducible exact Moves.refl)

theorem State.outsideNote_moves {s : State} {p : Nat × Nat} : Moves [.dict, .mem, .flips] s (State.outsideNote s p) := by
  unfold State.outsideNote
  repeat' first
    | dsimp only | ((with_reducible apply Moves.after State.readEvents_moves ?_ ?_); rfl)
    | ((with_reducible apply Moves.after State.spadRead_moves ?_ ?_); rfl)
    | ((with_reducible apply Moves.after State.storeRead_moves ?_ ?_); rfl) | split
    | (with_reducible exact Moves.refl)

theorem State.outsideRead_moves {s : State} {da n : Nat} : MovesFst [.dict, .mem, .flips, .hostMem, .queues, .calderas, .scrubPending, .safety, .dbg, .out] s (State.outsideRead s da n) := by
  unfold State.outsideRead
  repeat' first
    | dsimp only | intro _ _ | with_reducible refine Moves.foldl ?_ ?_ | with_reducible refine MovesFst.foldl ?_ ?_
    | ((with_reducible apply Moves.after State.lateRefusal_moves ?_ ?_); rfl)
    | ((with_reducible apply Moves.after State.outsideNote_moves ?_ ?_); rfl)
    | ((with_reducible apply Moves.after State.outsideUncorr_moves ?_ ?_); rfl) | split
    | (with_reducible exact Moves.refl)

theorem State.outsidePiece_moves {s : State} {byHost : Bool} {da : Nat} {bs : List (Option Byte)} : MovesFst [.dict, .mem, .flips, .hostMem, .channels] s (State.outsidePiece s byHost da bs) := by
  unfold State.outsidePiece
  repeat' first
    | dsimp only | intro _ _ | with_reducible refine Moves.foldl ?_ ?_ | with_reducible refine MovesFst.foldl ?_ ?_
    | ((with_reducible apply Moves.after State.hostWrite_moves ?_ ?_); rfl)
    | ((with_reducible apply Moves.after State.lateRefusal_moves ?_ ?_); rfl)
    | ((with_reducible apply Moves.after State.putMasked_moves ?_ ?_); rfl)
    | ((with_reducible apply Moves.after State.queueWrite_moves ?_ ?_); rfl) | split
    | (with_reducible exact Moves.refl)

theorem State.outsideWrite_moves {s : State} {who : Sender} {da : Nat} {bs : List (Option Byte)} : MovesFst [.dict, .mem, .flips, .hostMem, .skeins, .channels] s (State.outsideWrite s who da bs) := by
  unfold State.outsideWrite
  repeat' first
    | dsimp only | intro _ _ | with_reducible refine Moves.foldl ?_ ?_ | with_reducible refine MovesFst.foldl ?_ ?_
    | ((with_reducible apply Moves.after State.modSkein_moves ?_ ?_); rfl)
    | ((with_reducible apply Moves.after State.outsidePiece_moves ?_ ?_); rfl) | split
    | (with_reducible exact Moves.refl)

theorem doHostRead_moves {bar4 : Bool} {offset len : Nat} {s : State} : Moves [.dict, .mem, .flips, .hostMem, .queues, .calderas, .scrubPending, .safety, .dbg, .out] s (doHostRead bar4 offset len s) := by
  unfold doHostRead
  repeat' first
    | dsimp only | ((with_reducible apply Moves.after State.bumpBy_moves ?_ ?_); rfl)
    | ((with_reducible apply Moves.after State.emit_moves ?_ ?_); rfl)
    | ((with_reducible apply Moves.after State.hostAbort_moves ?_ ?_); rfl)
    | ((with_reducible apply Moves.after State.outsideRead_moves ?_ ?_); rfl) | split
    | (with_reducible exact Moves.refl)

theorem doHostWrite_moves {bar4 : Bool} {offset : Nat} {bytes : List (Option Byte)} {s : State} : Moves [.dict, .mem, .flips, .hostMem, .skeins, .channels, .out] s (doHostWrite bar4 offset bytes s) := by
  unfold doHostWrite
  repeat' first
    | dsimp only | ((with_reducible apply Moves.after State.bumpBy_moves ?_ ?_); rfl)
    | ((with_reducible apply Moves.after State.hostAbort_moves ?_ ?_); rfl)
    | ((with_reducible apply Moves.after State.outsideWrite_moves ?_ ?_); rfl) | split
    | (with_reducible exact Moves.refl)

theorem doBar0Refused_moves {write : Bool} {offset width : Nat} {s : State} : Moves [.dict, .out] s (doBar0Refused write offset width s) := by
  unfold doBar0Refused
  repeat' first
    | dsimp only | ((with_reducible apply Moves.after State.bumpBy_moves ?_ ?_); rfl)
    | ((with_reducible apply Moves.after State.emit_moves ?_ ?_); rfl)
    | ((with_reducible apply Moves.after State.hostRefusal_moves ?_ ?_); rfl) | split
    | (with_reducible exact Moves.refl)

theorem State.doorbellRefused_moves {s : State} {status kind n : Nat} : Moves [.dict] s (State.doorbellRefused s status kind n) := by
  unfold State.doorbellRefused
  repeat' first
    | dsimp only | ((with_reducible apply Moves.after State.bumpSat_moves ?_ ?_); rfl)
    | ((with_reducible apply Moves.after State.setReg_moves ?_ ?_); rfl) | (with_reducible exact Moves.refl)

theorem doDoorbellPush_moves {q width value : Nat} {s : State} : Moves [.dict, .mem, .flips, .hostMem, .queues, .calderas, .scrubPending, .safety, .dbg, .out] s (doDoorbellPush q width value s) := by
  unfold doDoorbellPush
  repeat' first
    | dsimp only | ((with_reducible apply Moves.after State.bumpBy_moves ?_ ?_); rfl)
    | ((with_reducible apply Moves.after State.doorbellRefused_moves ?_ ?_); rfl)
    | ((with_reducible apply Moves.after State.outerPush_moves ?_ ?_); rfl)
    | ((with_reducible apply Moves.after State.outsideRead_moves ?_ ?_); rfl) | split
    | (with_reducible exact Moves.refl)

theorem doDoorbellPop_moves {q width value : Nat} {s : State} : Moves [.dict, .queues, .out] s (doDoorbellPop q width value s) := by
  unfold doDoorbellPop
  repeat' first
    | dsimp only | intro _ _ | ((with_reducible apply Moves.after State.bumpBy_moves ?_ ?_); rfl)
    | ((with_reducible apply Moves.after State.doorbellRefused_moves ?_ ?_); rfl)
    | ((with_reducible apply Moves.after State.modQueue_moves ?_ ?_); rfl)
    | ((with_reducible apply Moves.after State.queueDrop_moves ?_ ?_); rfl)
    | ((with_reducible apply Moves.after State.sendArmed_moves ?_ ?_); rfl) | split
    | (with_reducible exact Moves.refl)

theorem doSyncDoorbell_moves {n width value : Nat} {s : State} : Moves [.dict, .syncs, .calderas] s (doSyncDoorbell n width value s) := by
  unfold doSyncDoorbell
  repeat' first
    | dsimp only | ((with_reducible apply Moves.after State.bumpBy_moves ?_ ?_); rfl)
    | ((with_reducible apply Moves.after State.doorbellRefused_moves ?_ ?_); rfl)
    | ((with_reducible apply Moves.after State.outerAdd_moves ?_ ?_); rfl) | split | (with_reducible exact Moves.refl)

theorem State.settleBusMaster_moves {s : State} : Moves [.dict] s (State.settleBusMaster s) := by
  unfold State.settleBusMaster
  repeat' first
    | dsimp only | ((with_reducible apply Moves.after State.setReg_moves ?_ ?_); rfl)
    | (with_reducible exact Moves.refl)

theorem doPcieLinkUp_moves {speed width : Nat} {s : State} : Moves [.dict] s (doPcieLinkUp speed width s) := by
  unfold doPcieLinkUp
  repeat' first
    | dsimp only | ((with_reducible apply Moves.after State.setReg_moves ?_ ?_); rfl)
    | ((with_reducible apply Moves.after State.settleBusMaster_moves ?_ ?_); rfl) | split
    | (with_reducible exact Moves.refl)

theorem doPcieLinkDown_moves {s : State} : Moves [.dict] s (doPcieLinkDown s) := by
  unfold doPcieLinkDown
  repeat' first
    | dsimp only | ((with_reducible apply Moves.after State.setReg_moves ?_ ?_); rfl)
    | ((with_reducible apply Moves.after State.settleBusMaster_moves ?_ ?_); rfl) | split
    | (with_reducible exact Moves.refl)

theorem doConfigurationWrite_moves {busMaster d3hot : Bool} {s : State} : Moves [.dict, .busMaster, .d3hot] s (doConfigurationWrite busMaster d3hot s) := by
  unfold doConfigurationWrite
  repeat' first
    | dsimp only | ((with_reducible apply Moves.after State.settleBusMaster_moves ?_ ?_); rfl)
    | ((with_reducible apply Moves.after State.withBusMaster_moves ?_ ?_); rfl)
    | ((with_reducible apply Moves.after State.withD3hot_moves ?_ ?_); rfl) | split
    | (with_reducible exact Moves.refl)

theorem State.descTimeout_moves {s : State} {g i : Nat} : Moves [.dict, .mem, .flips, .hostMem, .queues, .skeins, .calderas, .scrubPending, .safety, .dbg, .out] s (State.descTimeout s g i) := by
  unfold State.descTimeout
  repeat' first
    | dsimp only | intro _ _ | ((with_reducible apply Moves.after State.fail_moves ?_ ?_); rfl)
    | ((with_reducible apply Moves.after State.raise_moves ?_ ?_); rfl) | split | (with_reducible exact Moves.refl)

theorem State.jobTimeout_moves {s : State} {e i : Nat} : Moves [.dict, .mem, .flips, .hostMem, .queues, .calderas, .scrubPending, .engines, .safety, .dbg, .out] s (State.jobTimeout s e i) := by
  unfold State.jobTimeout
  repeat' first
    | dsimp only | intro _ _ | ((with_reducible apply Moves.after State.jobDataFault_moves ?_ ?_); rfl)
    | ((with_reducible apply Moves.after State.setEngine_moves ?_ ?_); rfl) | split
    | (with_reducible exact Moves.refl)

theorem doCompletionTimeout_moves {who : HostReader} {i : Nat} {s : State} : Moves [.dict, .mem, .flips, .hostMem, .queues, .skeins, .calderas, .scrubPending, .engines, .safety, .dbg, .out] s (doCompletionTimeout who i s) := by
  unfold doCompletionTimeout
  repeat' first
    | dsimp only | ((with_reducible apply Moves.after State.descTimeout_moves ?_ ?_); rfl)
    | ((with_reducible apply Moves.after State.jobTimeout_moves ?_ ?_); rfl) | split
    | (with_reducible exact Moves.refl)

end Sys2Proof.Machine
end

