-- ==== Sys2Proof/Laws/SecurityMoves.lean ====
section
/-! SUPPORT. Laws: what each operation of Machine/Security.lean changes at most, and that it keeps the invariant. -/
open Sys2Proof.Safety

namespace Sys2Proof.Machine

theorem State.measure_moves {s : State} {kind part : Nat} {digest : List Byte} : Moves [.dict, .boot] s (State.measure s kind part digest) := by
  unfold State.measure
  repeat' first
    | dsimp only | intro _ _ | ((with_reducible apply Moves.after State.bump_moves ?_ ?_); rfl)
    | ((with_reducible apply Moves.after State.bumpSat_moves ?_ ?_); rfl)
    | ((with_reducible apply Moves.after State.modBoot_moves ?_ ?_); rfl)
    | ((with_reducible apply Moves.after State.setReg_moves ?_ ?_); rfl) | split | (with_reducible exact Moves.refl)

theorem State.acceptImage_moves {s : State} {b : List Byte} {origin : Nat} : Moves [.dict, .boot] s (State.acceptImage s b origin) := by
  unfold State.acceptImage
  repeat' first
    | dsimp only | intro _ _ | ((with_reducible apply Moves.after State.measure_moves ?_ ?_); rfl)
    | ((with_reducible apply Moves.after State.modBoot_moves ?_ ?_); rfl)
    | ((with_reducible apply Moves.after State.setReg_moves ?_ ?_); rfl) | (with_reducible exact Moves.refl)

theorem State.imageResult_moves {s : State} {b : List Byte} {origin status : Nat} {hostLoad : Bool} : Moves [.dict, .boot] s (State.imageResult s b origin status hostLoad) := by
  unfold State.imageResult
  repeat' first
    | dsimp only | intro _ _ | ((with_reducible apply Moves.after State.acceptImage_moves ?_ ?_); rfl)
    | ((with_reducible apply Moves.after State.modBoot_moves ?_ ?_); rfl)
    | ((with_reducible apply Moves.after State.opEnd_moves ?_ ?_); rfl)
    | ((with_reducible apply Moves.after State.setReg_moves ?_ ?_); rfl) | split | (with_reducible exact Moves.refl)

theorem State.verifyLoad_moves {s : State} : Moves [.dict, .boot] s (State.verifyLoad s) := by
  unfold State.verifyLoad
  repeat' first
    | dsimp only | ((with_reducible apply Moves.after State.imageResult_moves ?_ ?_); rfl) | split
    | (with_reducible exact Moves.refl)

theorem doImageVerify_moves {image : List Byte} {s : State} : Moves [.dict, .mem, .flips, .boot] s (doImageVerify image s) := by
  unfold doImageVerify
  repeat' first
    | dsimp only | ((with_reducible apply Moves.after State.imageResult_moves ?_ ?_); rfl)
    | ((with_reducible apply Moves.after State.opStart_moves ?_ ?_); rfl)
    | ((with_reducible apply Moves.after State.put_moves ?_ ?_); rfl)
    | ((with_reducible apply Moves.after State.verifyLoad_moves ?_ ?_); rfl) | split
    | (with_reducible exact Moves.refl)

theorem doSpiHeaderTimeout_moves {s : State} : Moves [.dict, .boot] s (doSpiHeaderTimeout s) := by
  unfold doSpiHeaderTimeout
  repeat' first
    | dsimp only | ((with_reducible apply Moves.after State.imageResult_moves ?_ ?_); rfl)
    | ((with_reducible apply Moves.after State.opStart_moves ?_ ?_); rfl) | split
    | (with_reducible exact Moves.refl)

theorem State.firmwareLoad_moves {s : State} : MovesFst [.dict, .mem, .flips, .boot] s (State.firmwareLoad s) := by
  unfold State.firmwareLoad
  repeat' first
    | dsimp only | intro _ _ | ((with_reducible apply Moves.after State.imageResult_moves ?_ ?_); rfl)
    | ((with_reducible apply Moves.after State.modBoot_moves ?_ ?_); rfl)
    | ((with_reducible apply Moves.after State.opStart_moves ?_ ?_); rfl)
    | ((with_reducible apply Moves.after State.put_moves ?_ ?_); rfl)
    | ((with_reducible apply Moves.after State.readEvents_moves ?_ ?_); rfl)
    | ((with_reducible apply Moves.after State.setReg_moves ?_ ?_); rfl) | split | (with_reducible exact Moves.refl)

theorem State.loadBroken_moves {s : State} : Moves [.dict, .boot] s (State.loadBroken s) := by
  unfold State.loadBroken
  repeat' first
    | dsimp only | ((with_reducible apply Moves.after State.imageResult_moves ?_ ?_); rfl) | split
    | (with_reducible exact Moves.refl)

theorem State.firmwareProgram_moves {s : State} : MovesFst [.dict, .mem, .flips, .hostMem, .boot, .calderas, .scrubPending] s (State.firmwareProgram s) := by
  unfold State.firmwareProgram
  repeat' first
    | dsimp only | intro _ _ | ((with_reducible apply Moves.after State.modBoot_moves ?_ ?_); rfl)
    | ((with_reducible apply Moves.after State.opEnd_moves ?_ ?_); rfl)
    | ((with_reducible apply Moves.after State.opStart_moves ?_ ?_); rfl)
    | ((with_reducible apply Moves.after State.readEvents_moves ?_ ?_); rfl)
    | ((with_reducible apply Moves.after State.setReg_moves ?_ ?_); rfl)
    | ((with_reducible apply Moves.after State.writeDev_moves ?_ ?_); rfl) | split
    | (with_reducible exact Moves.refl)

theorem doFirmwareProgramComplete_moves {readBackOk : Bool} {s : State} : Moves [.dict, .boot] s (doFirmwareProgramComplete readBackOk s) := by
  unfold doFirmwareProgramComplete
  repeat' first
    | dsimp only | intro _ _ | ((with_reducible apply Moves.after State.modBoot_moves ?_ ?_); rfl)
    | ((with_reducible apply Moves.after State.opEnd_moves ?_ ?_); rfl)
    | ((with_reducible apply Moves.after State.setReg_moves ?_ ?_); rfl) | split | (with_reducible exact Moves.refl)

theorem State.optionProgram_moves {s : State} {readBackOk : Bool} : MovesFst [.dict, .mem, .flips, .boot] s (State.optionProgram s readBackOk) := by
  unfold State.optionProgram
  repeat' first
    | dsimp only | intro _ _ | ((with_reducible apply Moves.after State.modBoot_moves ?_ ?_); rfl)
    | ((with_reducible apply Moves.after State.readEvents_moves ?_ ?_); rfl)
    | ((with_reducible apply Moves.after State.setReg_moves ?_ ?_); rfl) | split | (with_reducible exact Moves.refl)

theorem State.writeOut_moves {s : State} {bs : List Byte} : MovesFst [.dict, .mem, .flips, .hostMem, .calderas, .scrubPending] s (State.writeOut s bs) := by
  unfold State.writeOut
  repeat' first
    | dsimp only | ((with_reducible apply Moves.after State.setReg_moves ?_ ?_); rfl)
    | ((with_reducible apply Moves.after State.writeDev_moves ?_ ?_); rfl) | split
    | (with_reducible exact Moves.refl)

theorem State.attest_moves {s : State} : MovesFst [.dict, .mem, .flips, .hostMem, .boot, .calderas, .scrubPending] s (State.attest s) := by
  unfold State.attest
  repeat' first
    | dsimp only | intro _ _ | ((with_reducible apply Moves.after State.modBoot_moves ?_ ?_); rfl)
    | ((with_reducible apply Moves.after State.setReg_moves ?_ ?_); rfl)
    | ((with_reducible apply Moves.after State.writeOut_moves ?_ ?_); rfl) | split
    | (with_reducible exact Moves.refl)

theorem State.exportId_moves {s : State} : MovesFst [.dict, .mem, .flips, .hostMem, .calderas, .scrubPending] s (State.exportId s) := by
  unfold State.exportId
  repeat' first
    | dsimp only | ((with_reducible apply Moves.after State.setReg_moves ?_ ?_); rfl)
    | ((with_reducible apply Moves.after State.writeOut_moves ?_ ?_); rfl) | split
    | (with_reducible exact Moves.refl)

theorem State.svnCommit_moves {s : State} : MovesFst [.dict, .boot] s (State.svnCommit s) := by
  unfold State.svnCommit
  repeat' first
    | dsimp only | intro _ _ | ((with_reducible apply Moves.after State.modBoot_moves ?_ ?_); rfl)
    | ((with_reducible apply Moves.after State.setReg_moves ?_ ?_); rfl) | split | (with_reducible exact Moves.refl)

theorem State.loadPatternKey_moves {s : State} : MovesFst [.dict, .mem, .flips, .boot] s (State.loadPatternKey s) := by
  unfold State.loadPatternKey
  repeat' first
    | dsimp only | intro _ _ | ((with_reducible apply Moves.after State.measure_moves ?_ ?_); rfl)
    | ((with_reducible apply Moves.after State.modBoot_moves ?_ ?_); rfl)
    | ((with_reducible apply Moves.after State.readEvents_moves ?_ ?_); rfl)
    | ((with_reducible apply Moves.after State.setReg_moves ?_ ?_); rfl) | split | (with_reducible exact Moves.refl)

theorem State.installPattern_moves {s : State} {b : List Byte} : MovesFst [.dict, .mem, .flips, .hostMem, .boot, .calderas, .scrubPending, .safety] s (State.installPattern s b) := by
  unfold State.installPattern
  repeat' first
    | dsimp only | intro _ _ | ((with_reducible apply Moves.after State.bump_moves ?_ ?_); rfl)
    | ((with_reducible apply Moves.after State.measure_moves ?_ ?_); rfl)
    | ((with_reducible apply Moves.after State.modPart_moves ?_ ?_); rfl)
    | ((with_reducible apply Moves.after State.modSafety_moves ?_ ?_); rfl)
    | ((with_reducible apply Moves.after State.setReg_moves ?_ ?_); rfl)
    | ((with_reducible apply Moves.after State.writeDev_moves ?_ ?_); rfl) | split
    | (with_reducible exact Moves.refl)

theorem State.install_moves {s : State} {da n : Nat} : MovesFst [.dict, .mem, .flips, .hostMem, .boot, .calderas, .scrubPending, .safety] s (State.install s da n) := by
  unfold State.install
  repeat' first
    | dsimp only | ((with_reducible apply Moves.after State.installPattern_moves ?_ ?_); rfl)
    | ((with_reducible apply Moves.after State.opEnd_moves ?_ ?_); rfl)
    | ((with_reducible apply Moves.after State.opStart_moves ?_ ?_); rfl)
    | ((with_reducible apply Moves.after State.readEvents_moves ?_ ?_); rfl)
    | ((with_reducible apply Moves.after State.setReg_moves ?_ ?_); rfl) | split | (with_reducible exact Moves.refl)

theorem State.mgmtReply_moves {s : State} {e : List Byte} {status : Nat} : Moves [.dict, .mem, .flips, .hostMem, .queues, .calderas, .scrubPending, .links, .out] s (State.mgmtReply s e status) := by
  unfold State.mgmtReply
  repeat' first
    | dsimp only | ((with_reducible apply Moves.after State.outerPush_moves ?_ ?_); rfl)
    | ((with_reducible apply Moves.after State.route_moves ?_ ?_); rfl) | split | (with_reducible exact Moves.refl)

theorem doMgmtEntry_moves {s : State} : Moves [.dict, .mem, .flips, .hostMem, .queues, .boot, .calderas, .scrubPending, .safety, .links, .out] s (doMgmtEntry s) := by
  unfold doMgmtEntry
  repeat' first
    | dsimp only | ((with_reducible apply Moves.after State.bumpSat_moves ?_ ?_); rfl)
    | ((with_reducible apply Moves.after State.install_moves ?_ ?_); rfl)
    | ((with_reducible apply Moves.after State.mgmtReply_moves ?_ ?_); rfl)
    | ((with_reducible apply Moves.after State.queueDrop_moves ?_ ?_); rfl) | split
    | (with_reducible exact Moves.refl)

end Sys2Proof.Machine
end

