-- ==== Sys2Proof/Laws/DebugPortMoves.lean ====
section
/-! SUPPORT. Laws: what each operation of Machine/DebugPort.lean changes at most, and that it keeps the invariant. -/
open Sys2Proof.Safety

namespace Sys2Proof.Machine

theorem State.tapOut_moves {s : State} {width v : Nat} : Moves [.dbg, .out] s (State.tapOut s width v) := by
  unfold State.tapOut
  repeat' first
    | dsimp only | intro _ _ | ((with_reducible apply Moves.after State.emit_moves ?_ ?_); rfl)
    | ((with_reducible apply Moves.after State.modDebug_moves ?_ ?_); rfl) | (with_reducible exact Moves.refl)

theorem State.tapBegin_moves {s : State} : Moves [.dict] s (State.tapBegin s) := by
  unfold State.tapBegin
  repeat' first
    | dsimp only | ((with_reducible apply Moves.after State.setReg_moves ?_ ?_); rfl)
    | (with_reducible exact Moves.refl)

theorem doBypass_moves {s : State} : Moves [.dict, .dbg, .out] s (doBypass s) := by
  unfold doBypass
  repeat' first
    | dsimp only | ((with_reducible apply Moves.after State.tapBegin_moves ?_ ?_); rfl)
    | ((with_reducible apply Moves.after State.tapOut_moves ?_ ?_); rfl) | (with_reducible exact Moves.refl)

theorem State.breakDevice_moves {s : State} : Moves [.dbg] s (State.breakDevice s) := by
  unfold State.breakDevice
  repeat' first
    | dsimp only | intro _ _ | ((with_reducible apply Moves.after State.modDebug_moves ?_ ?_); rfl)
    | (with_reducible exact Moves.refl)

theorem State.breakPart_moves {s : State} {p : Nat} : Moves [.dbg] s (State.breakPart s p) := by
  unfold State.breakPart
  repeat' first
    | dsimp only | intro _ _ | ((with_reducible apply Moves.after State.modDebug_moves ?_ ?_); rfl)
    | (with_reducible exact Moves.refl)

theorem doExtest_moves {s : State} : Moves [.dict, .boot, .dbg, .out] s (doExtest s) := by
  unfold doExtest
  repeat' first
    | dsimp only | ((with_reducible apply Moves.after State.breakDevice_moves ?_ ?_); rfl)
    | ((with_reducible apply Moves.after State.emit_moves ?_ ?_); rfl)
    | ((with_reducible apply Moves.after State.measure_moves ?_ ?_); rfl)
    | ((with_reducible apply Moves.after State.setReg_moves ?_ ?_); rfl) | (with_reducible exact Moves.refl)

theorem doSamplePreload_moves {s : State} : Moves [.dict, .out] s (doSamplePreload s) := by
  unfold doSamplePreload
  repeat' first
    | dsimp only | ((with_reducible apply Moves.after State.emit_moves ?_ ?_); rfl)
    | ((with_reducible apply Moves.after State.tapBegin_moves ?_ ?_); rfl) | (with_reducible exact Moves.refl)

theorem doDbgStatus_moves {s : State} : Moves [.dict, .dbg, .out] s (doDbgStatus s) := by
  unfold doDbgStatus
  repeat' first
    | dsimp only | ((with_reducible apply Moves.after State.tapBegin_moves ?_ ?_); rfl)
    | ((with_reducible apply Moves.after State.tapOut_moves ?_ ?_); rfl) | (with_reducible exact Moves.refl)

theorem doIdcode_moves {s : State} : Moves [.dict, .dbg, .out] s (doIdcode s) := by
  unfold doIdcode
  repeat' first
    | dsimp only | ((with_reducible apply Moves.after State.tapBegin_moves ?_ ?_); rfl)
    | ((with_reducible apply Moves.after State.tapOut_moves ?_ ?_); rfl) | (with_reducible exact Moves.refl)

theorem doDbgUnlock_moves {request signature : List Byte} {s : State} : Moves [.dict, .boot, .dbg, .out] s (doDbgUnlock request signature s) := by
  unfold doDbgUnlock
  repeat' first
    | dsimp only | intro _ _ | ((with_reducible apply Moves.after State.bump_moves ?_ ?_); rfl)
    | ((with_reducible apply Moves.after State.measure_moves ?_ ?_); rfl)
    | ((with_reducible apply Moves.after State.modDebug_moves ?_ ?_); rfl)
    | ((with_reducible apply Moves.after State.setReg_moves ?_ ?_); rfl)
    | ((with_reducible apply Moves.after State.tapBegin_moves ?_ ?_); rfl)
    | ((with_reducible apply Moves.after State.tapOut_moves ?_ ?_); rfl) | split | (with_reducible exact Moves.refl)

theorem doDbgLock_moves {s : State} : Moves [.dict, .dbg] s (doDbgLock s) := by
  unfold doDbgLock
  repeat' first
    | dsimp only | intro _ _ | ((with_reducible apply Moves.after State.modDebug_moves ?_ ?_); rfl)
    | ((with_reducible apply Moves.after State.tapBegin_moves ?_ ?_); rfl) | (with_reducible exact Moves.refl)

theorem State.breakAccess_moves {s : State} {write : Bool} {da : Nat} : Moves [.dbg] s (State.breakAccess s write da) := by
  unfold State.breakAccess
  repeat' first
    | dsimp only | ((with_reducible apply Moves.after State.breakDevice_moves ?_ ?_); rfl)
    | ((with_reducible apply Moves.after State.breakPart_moves ?_ ?_); rfl) | split
    | (with_reducible exact Moves.refl)

theorem doDbgMemRead_moves {address : Nat} {s : State} : Moves [.dict, .mem, .flips, .hostMem, .queues, .calderas, .scrubPending, .safety, .dbg, .out] s (doDbgMemRead address s) := by
  unfold doDbgMemRead
  repeat' first
    | dsimp only | ((with_reducible apply Moves.after State.breakAccess_moves ?_ ?_); rfl)
    | ((with_reducible apply Moves.after State.outsideRead_moves ?_ ?_); rfl)
    | ((with_reducible apply Moves.after State.tapBegin_moves ?_ ?_); rfl)
    | ((with_reducible apply Moves.after State.tapOut_moves ?_ ?_); rfl)
    | ((with_reducible apply Moves.after doBypass_moves ?_ ?_); rfl) | split | (with_reducible exact Moves.refl)

theorem doDbgMemWrite_moves {address : Nat} {unit : List Byte} {s : State} : Moves [.dict, .mem, .flips, .hostMem, .skeins, .channels, .dbg, .out] s (doDbgMemWrite address unit s) := by
  unfold doDbgMemWrite
  repeat' first
    | dsimp only | ((with_reducible apply Moves.after State.breakAccess_moves ?_ ?_); rfl)
    | ((with_reducible apply Moves.after State.outsideWrite_moves ?_ ?_); rfl)
    | ((with_reducible apply Moves.after State.tapBegin_moves ?_ ?_); rfl)
    | ((with_reducible apply Moves.after State.tapOut_moves ?_ ?_); rfl)
    | ((with_reducible apply Moves.after doBypass_moves ?_ ?_); rfl) | split | (with_reducible exact Moves.refl)

theorem State.issueRelease_moves {s : State} : Moves [.dict, .calderas, .dbg] s (State.issueRelease s) := by
  unfold State.issueRelease
  repeat' first
    | dsimp only | intro _ _ | with_reducible refine Moves.forEach ?_ ?_
    | ((with_reducible apply Moves.after State.modCaldera_moves ?_ ?_); rfl)
    | ((with_reducible apply Moves.after State.modDebug_moves ?_ ?_); rfl)
    | ((with_reducible apply Moves.after State.releaseDone_moves ?_ ?_); rfl)
    | ((with_reducible apply Moves.after State.setReg_moves ?_ ?_); rfl) | (with_reducible exact Moves.refl)

theorem State.globalStopCmd_moves {s : State} : MovesFst [.dict, .calderas, .dbg] s (State.globalStopCmd s) := by
  unfold State.globalStopCmd
  repeat' first
    | dsimp only | intro _ _ | ((with_reducible apply Moves.after State.issueStop_moves ?_ ?_); rfl) | split
    | (with_reducible exact Moves.refl)

theorem State.partitionStopCmd_moves {s : State} : MovesFst [.dict, .calderas, .dbg] s (State.partitionStopCmd s) := by
  unfold State.partitionStopCmd
  repeat' first
    | dsimp only | intro _ _ | ((with_reducible apply Moves.after State.issueStop_moves ?_ ?_); rfl) | split
    | (with_reducible exact Moves.refl)

theorem State.releaseCmd_moves {s : State} : MovesFst [.dict, .calderas, .dbg] s (State.releaseCmd s) := by
  unfold State.releaseCmd
  repeat' first
    | dsimp only | ((with_reducible apply Moves.after State.issueRelease_moves ?_ ?_); rfl) | split
    | (with_reducible exact Moves.refl)

theorem doDbgStop_moves {mask : Nat} {release : Bool} {s : State} : Moves [.dict, .calderas, .dbg, .out] s (doDbgStop mask release s) := by
  unfold doDbgStop
  repeat' first
    | dsimp only | ((with_reducible apply Moves.after State.issueStop_moves ?_ ?_); rfl)
    | ((with_reducible apply Moves.after State.releaseCmd_moves ?_ ?_); rfl)
    | ((with_reducible apply Moves.after State.tapBegin_moves ?_ ?_); rfl)
    | ((with_reducible apply Moves.after doBypass_moves ?_ ?_); rfl) | split | (with_reducible exact Moves.refl)

theorem doDbgGrant_moves {value : Nat} {s : State} : Moves [.dict, .dbg, .out] s (doDbgGrant value s) := by
  unfold doDbgGrant
  repeat' first
    | dsimp only | ((with_reducible apply Moves.after State.setReg_moves ?_ ?_); rfl)
    | ((with_reducible apply Moves.after State.tapBegin_moves ?_ ?_); rfl)
    | ((with_reducible apply Moves.after doBypass_moves ?_ ?_); rfl) | split | (with_reducible exact Moves.refl)

theorem doTraceSync_moves {s : State} : Moves [.dict, .dbg] s (doTraceSync s) := by
  unfold doTraceSync
  repeat' first
    | dsimp only | ((with_reducible apply Moves.after State.traceRaw_moves ?_ ?_); rfl)
    | (with_reducible exact Moves.refl)

end Sys2Proof.Machine
end

