-- ==== Sys2Proof/Laws/CommitMoves.lean ====
section
/-! SUPPORT. Laws: what each operation of Machine/Commit.lean changes at most, and that it keeps the invariant. -/
open Sys2Proof.Safety

namespace Sys2Proof.Machine

theorem State.applyEntries_moves {s : State} {ids : List Nat} {t : Tbl Nat} : Moves [.dict, .xlat, .skeins, .calderas, .dbg] s (State.applyEntries s ids t) := by
  unfold State.applyEntries
  repeat' first
    | dsimp only | intro _ _ | with_reducible refine Moves.forEach ?_ ?_
    | ((with_reducible apply Moves.after State.invalidate_moves ?_ ?_); rfl)
    | ((with_reducible apply Moves.after State.resumeHalted_moves ?_ ?_); rfl)
    | ((with_reducible apply Moves.after State.withXlat_moves ?_ ?_); rfl) | split
    | (with_reducible exact Moves.refl)

theorem State.commit_moves {s : State} : MovesFst [.dict, .accepted, .xlat, .skeins, .calderas, .dbg] s (State.commit s) := by
  unfold State.commit
  repeat' first
    | dsimp only | intro _ _ | with_reducible refine Moves.forEach ?_ ?_ | with_reducible refine Moves.foldl ?_ ?_
    | with_reducible refine MovesFst.foldl ?_ ?_
    | ((with_reducible apply Moves.after State.applyEntries_moves ?_ ?_); rfl)
    | ((with_reducible apply Moves.after State.bump_moves ?_ ?_); rfl)
    | ((with_reducible apply Moves.after State.bumpSat_moves ?_ ?_); rfl)
    | ((with_reducible apply Moves.after State.setAcc_moves ?_ ?_); rfl)
    | ((with_reducible apply Moves.after State.setReg_moves ?_ ?_); rfl) | split | (with_reducible exact Moves.refl)

theorem State.discardShadows_moves {s : State} : Moves [.dict, .xlatShadow] s (State.discardShadows s) := by
  unfold State.discardShadows
  repeat' first
    | dsimp only | intro _ _ | with_reducible refine Moves.foldl ?_ ?_ | with_reducible refine MovesFst.foldl ?_ ?_
    | ((with_reducible apply Moves.after State.setReg_moves ?_ ?_); rfl)
    | ((with_reducible apply Moves.after State.withXlatShadow_moves ?_ ?_); rfl) | (with_reducible exact Moves.refl)

end Sys2Proof.Machine
end

