-- ==== Sys2Proof/Laws/PlanMoves.lean ====
section
/-! SUPPORT. Laws: what each operation of Machine/Plan.lean changes at most, and that it keeps the invariant. -/
open Sys2Proof.Safety

namespace Sys2Proof.Machine

theorem State.clearReg_moves {s : State} {ix sub : Nat} : Moves [.dict] s (State.clearReg s ix sub) := by
  unfold State.clearReg
  repeat' first
    | dsimp only | ((with_reducible apply Moves.after State.setReg_moves ?_ ?_); rfl)
    | (with_reducible exact Moves.refl)

theorem State.clearRegs_moves {s : State} {ix : Nat} {subs : List Nat} : Moves [.dict] s (State.clearRegs s ix subs) := by
  unfold State.clearRegs
  repeat' first
    | dsimp only | intro _ _ | with_reducible refine Moves.forEach ?_ ?_
    | ((with_reducible apply Moves.after State.clearReg_moves ?_ ?_); rfl) | (with_reducible exact Moves.refl)

theorem State.planClears_moves {s : State} {p mask : Nat} {streams : List (Nat × Nat)} : Moves [.dict, .skeins, .plans] s (State.planClears s p mask streams) := by
  unfold State.planClears
  repeat' first
    | dsimp only | intro _ _ | with_reducible refine Moves.forEach ?_ ?_
    | ((with_reducible apply Moves.after State.clearRegs_moves ?_ ?_); rfl)
    | ((with_reducible apply Moves.after State.modPlan_moves ?_ ?_); rfl)
    | ((with_reducible apply Moves.after State.modSkein_moves ?_ ?_); rfl) | (with_reducible exact Moves.refl)

theorem State.loadPages_moves {s : State} {b : List Byte} : Moves [.dict, .xlat, .xlatShadow, .skeins, .calderas, .dbg] s (State.loadPages s b) := by
  unfold State.loadPages
  repeat' first
    | dsimp only | intro _ _ | with_reducible refine Moves.foldl ?_ ?_ | with_reducible refine MovesFst.foldl ?_ ?_
    | ((with_reducible apply Moves.after State.applyEntries_moves ?_ ?_); rfl)
    | ((with_reducible apply Moves.after State.withXlatShadow_moves ?_ ?_); rfl) | (with_reducible exact Moves.refl)

theorem State.loadQueue_moves {s : State} {p : Nat} {e : List Byte} : MovesFst [.queues, .plans] s (State.loadQueue s p e) := by
  unfold State.loadQueue
  repeat' first
    | dsimp only | intro _ _ | ((with_reducible apply Moves.after State.modPlan_moves ?_ ?_); rfl)
    | ((with_reducible apply Moves.after State.modQueue_moves ?_ ?_); rfl)
    | ((with_reducible apply Moves.after State.queueEnable_moves ?_ ?_); rfl) | split
    | (with_reducible exact Moves.refl)

theorem State.loadRemote_moves {s : State} {p da : Nat} {b : List Byte} : Moves [.skeins] s (State.loadRemote s p da b) := by
  unfold State.loadRemote
  repeat' first
    | dsimp only | intro _ _ | with_reducible refine Moves.foldl ?_ ?_ | with_reducible refine MovesFst.foldl ?_ ?_
    | ((with_reducible apply Moves.after State.modSkein_moves ?_ ?_); rfl) | split | (with_reducible exact Moves.refl)

theorem State.loadData_moves {s : State} {p da : Nat} {b : List Byte} : MovesFst [.dict, .mem, .flips, .hostMem, .skeins, .calderas, .scrubPending] s (State.loadData s p da b) := by
  unfold State.loadData
  repeat' first
    | dsimp only | ((with_reducible apply Moves.after State.loadRemote_moves ?_ ?_); rfl)
    | ((with_reducible apply Moves.after State.writeDev_moves ?_ ?_); rfl) | split | (with_reducible exact Moves.refl)

theorem State.loadChain_moves {s : State} {p n id : Nat} {b : List Byte} : Moves [.dict, .plans, .chains, .decoders] s (State.loadChain s p n id b) := by
  unfold State.loadChain
  repeat' first
    | dsimp only | intro _ _ | ((with_reducible apply Moves.after State.clearRegs_moves ?_ ?_); rfl)
    | ((with_reducible apply Moves.after State.modDecoder_moves ?_ ?_); rfl)
    | ((with_reducible apply Moves.after State.modPlan_moves ?_ ?_); rfl)
    | ((with_reducible apply Moves.after State.setReg_moves ?_ ?_); rfl)
    | ((with_reducible apply Moves.after State.withChains_moves ?_ ?_); rfl) | split
    | (with_reducible exact Moves.refl)

theorem State.loadSchema_moves {s : State} {p d id : Nat} {b : List Byte} : Moves [.dict, .plans, .decoders] s (State.loadSchema s p d id b) := by
  unfold State.loadSchema
  repeat' first
    | dsimp only | intro _ _ | ((with_reducible apply Moves.after State.clearRegs_moves ?_ ?_); rfl)
    | ((with_reducible apply Moves.after State.modDecoder_moves ?_ ?_); rfl)
    | ((with_reducible apply Moves.after State.modPlan_moves ?_ ?_); rfl)
    | ((with_reducible apply Moves.after State.setReg_moves ?_ ?_); rfl) | split | (with_reducible exact Moves.refl)

theorem State.loadBlock_moves {s : State} {p n id : Nat} {b : List Byte} : Moves [.dict, .plans, .blocks] s (State.loadBlock s p n id b) := by
  unfold State.loadBlock
  repeat' first
    | dsimp only | intro _ _ | ((with_reducible apply Moves.after State.clearRegs_moves ?_ ?_); rfl)
    | ((with_reducible apply Moves.after State.modPlan_moves ?_ ?_); rfl)
    | ((with_reducible apply Moves.after State.setReg_moves ?_ ?_); rfl)
    | ((with_reducible apply Moves.after State.withBlocks_moves ?_ ?_); rfl) | split
    | (with_reducible exact Moves.refl)

theorem State.loadLaunch_moves {s : State} {p l id : Nat} {b : List Byte} : Moves [.dict, .plans, .launches] s (State.loadLaunch s p l id b) := by
  unfold State.loadLaunch
  repeat' first
    | dsimp only | intro _ _ | ((with_reducible apply Moves.after State.clearRegs_moves ?_ ?_); rfl)
    | ((with_reducible apply Moves.after State.modPlan_moves ?_ ?_); rfl)
    | ((with_reducible apply Moves.after State.setLaunch_moves ?_ ?_); rfl)
    | ((with_reducible apply Moves.after State.setReg_moves ?_ ?_); rfl) | split | (with_reducible exact Moves.refl)

theorem State.loadSinter_moves {s : State} {p : Nat} {b : List Byte} : Moves [.dict, .plans] s (State.loadSinter s p b) := by
  unfold State.loadSinter
  repeat' first
    | dsimp only | intro _ _ | ((with_reducible apply Moves.after State.modPlan_moves ?_ ?_); rfl)
    | ((with_reducible apply Moves.after State.setReg_moves ?_ ?_); rfl) | (with_reducible exact Moves.refl)

theorem State.loadStreams_moves {s : State} {id : Nat} {b : List Byte} : Moves [.dict] s (State.loadStreams s id b) := by
  unfold State.loadStreams
  repeat' first
    | dsimp only | intro _ _ | with_reducible refine Moves.foldl ?_ ?_ | with_reducible refine MovesFst.foldl ?_ ?_
    | ((with_reducible apply Moves.after State.setReg_moves ?_ ?_); rfl) | (with_reducible exact Moves.refl)

theorem State.loadSection_moves {s : State} {p id : Nat} {x : Section} : MovesFst [.dict, .mem, .flips, .hostMem, .xlat, .xlatShadow, .queues, .syncs, .skeins, .calderas, .scrubPending, .plans, .chains, .decoders, .blocks, .launches, .dbg] s (State.loadSection s p id x) := by
  unfold State.loadSection
  repeat' first
    | dsimp only | intro _ _ | with_reducible refine Moves.foldl ?_ ?_ | with_reducible refine MovesFst.foldl ?_ ?_
    | ((with_reducible apply Moves.after State.loadBlock_moves ?_ ?_); rfl)
    | ((with_reducible apply Moves.after State.loadChain_moves ?_ ?_); rfl)
    | ((with_reducible apply Moves.after State.loadData_moves ?_ ?_); rfl)
    | ((with_reducible apply Moves.after State.loadLaunch_moves ?_ ?_); rfl)
    | ((with_reducible apply Moves.after State.loadPages_moves ?_ ?_); rfl)
    | ((with_reducible apply Moves.after State.loadQueue_moves ?_ ?_); rfl)
    | ((with_reducible apply Moves.after State.loadSchema_moves ?_ ?_); rfl)
    | ((with_reducible apply Moves.after State.loadSinter_moves ?_ ?_); rfl)
    | ((with_reducible apply Moves.after State.loadStreams_moves ?_ ?_); rfl)
    | ((with_reducible apply Moves.after State.outerSet_moves ?_ ?_); rfl) | split | (with_reducible exact Moves.refl)

theorem State.planWrite_moves {s : State} {p : Nat} {b : List Byte} {broken : Option Nat} : MovesFst [.dict, .mem, .flips, .hostMem, .xlat, .xlatShadow, .queues, .syncs, .skeins, .calderas, .scrubPending, .plans, .chains, .decoders, .blocks, .launches, .dbg] s (State.planWrite s p b broken) := by
  unfold State.planWrite
  repeat' first
    | dsimp only | intro _ _ | with_reducible refine Moves.foldl ?_ ?_ | with_reducible refine MovesFst.foldl ?_ ?_
    | ((with_reducible apply Moves.after State.loadSection_moves ?_ ?_); rfl)
    | ((with_reducible apply Moves.after State.modPlan_moves ?_ ?_); rfl)
    | ((with_reducible apply Moves.after State.planClears_moves ?_ ?_); rfl) | split
    | (with_reducible exact Moves.refl)

theorem State.planRefused_moves {s : State} {p : Nat} : MovesFst [.dict] s (State.planRefused s p) := by
  unfold State.planRefused
  repeat' first
    | dsimp only | ((with_reducible apply Moves.after State.setReg_moves ?_ ?_); rfl)
    | (with_reducible exact Moves.refl)

theorem State.containerEvents_moves {s : State} {p : Nat} : Moves [.dict, .mem, .flips, .hostMem, .queues, .calderas, .scrubPending, .safety, .dbg, .out] s (State.containerEvents s p) := by
  unfold State.containerEvents
  repeat' first
    | dsimp only | ((with_reducible apply Moves.after State.memUncorr_moves ?_ ?_); rfl)
    | ((with_reducible apply Moves.after State.readEvents_moves ?_ ?_); rfl) | split
    | (with_reducible exact Moves.refl)

theorem State.planLoad_moves {s : State} {p : Nat} : MovesFst [.dict, .mem, .flips, .hostMem, .queues, .calderas, .scrubPending, .plans, .safety, .dbg, .out] s (State.planLoad s p) := by
  unfold State.planLoad
  repeat' first
    | dsimp only | intro _ _ | ((with_reducible apply Moves.after State.containerEvents_moves ?_ ?_); rfl)
    | ((with_reducible apply Moves.after State.modPlan_moves ?_ ?_); rfl)
    | ((with_reducible apply Moves.after State.planRefused_moves ?_ ?_); rfl)
    | ((with_reducible apply Moves.after State.setReg_moves ?_ ?_); rfl) | split | (with_reducible exact Moves.refl)

theorem State.dropGolden_moves {s : State} {p : Nat} {digest : List Byte} : Moves [.dict, .safety] s (State.dropGolden s p digest) := by
  unfold State.dropGolden
  repeat' first
    | dsimp only | intro _ _ | ((with_reducible apply Moves.after State.modPart_moves ?_ ?_); rfl)
    | ((with_reducible apply Moves.after State.setReg_moves ?_ ?_); rfl) | split | (with_reducible exact Moves.refl)

theorem State.planFinish_moves {s : State} {p : Nat} {broken : Option Nat} : MovesFst [.dict, .mem, .flips, .hostMem, .xlat, .xlatShadow, .queues, .syncs, .skeins, .calderas, .scrubPending, .plans, .chains, .decoders, .blocks, .launches, .dbg] s (State.planFinish s p broken) := by
  unfold State.planFinish
  repeat' first
    | dsimp only | ((with_reducible apply Moves.after State.planWrite_moves ?_ ?_); rfl) | split
    | (with_reducible exact Moves.refl)

theorem doPlanLoadComplete_moves {p : Nat} {broken : Option Nat} {s : State} : Moves [.dict, .mem, .flips, .hostMem, .xlat, .xlatShadow, .queues, .syncs, .skeins, .calderas, .scrubPending, .plans, .chains, .decoders, .blocks, .launches, .safety, .dbg] s (doPlanLoadComplete p broken s) := by
  unfold doPlanLoadComplete
  repeat' first
    | dsimp only | intro _ _ | ((with_reducible apply Moves.after State.conditionEnd_moves ?_ ?_); rfl)
    | ((with_reducible apply Moves.after State.dropGolden_moves ?_ ?_); rfl)
    | ((with_reducible apply Moves.after State.planFinish_moves ?_ ?_); rfl)
    | ((with_reducible apply Moves.after State.setPlan_moves ?_ ?_); rfl)
    | ((with_reducible apply Moves.after State.setReg_moves ?_ ?_); rfl) | split | (with_reducible exact Moves.refl)

theorem State.activate_moves {s : State} {p : Nat} : MovesFst [.dict, .boot, .plans, .cameras, .decoders, .launches, .safety] s (State.activate s p) := by
  unfold State.activate
  repeat' first
    | dsimp only | intro _ _ | with_reducible refine Moves.forEach ?_ ?_
    | ((with_reducible apply Moves.after State.blockEnable_moves ?_ ?_); rfl)
    | ((with_reducible apply Moves.after State.cameraEnable_moves ?_ ?_); rfl)
    | ((with_reducible apply Moves.after State.decoderEnable_moves ?_ ?_); rfl)
    | ((with_reducible apply Moves.after State.launchEnable_moves ?_ ?_); rfl)
    | ((with_reducible apply Moves.after State.measure_moves ?_ ?_); rfl)
    | ((with_reducible apply Moves.after State.modPart_moves ?_ ?_); rfl)
    | ((with_reducible apply Moves.after State.modPlan_moves ?_ ?_); rfl)
    | ((with_reducible apply Moves.after State.planRefused_moves ?_ ?_); rfl)
    | ((with_reducible apply Moves.after State.setReg_moves ?_ ?_); rfl) | split | (with_reducible exact Moves.refl)

theorem doPlanStart_moves {p : Nat} {s : State} : Moves [.dict, .skeins, .plans, .safety, .dbg] s (doPlanStart p s) := by
  unfold doPlanStart
  repeat' first
    | dsimp only | intro _ _ | with_reducible refine Moves.foldl ?_ ?_ | with_reducible refine MovesFst.foldl ?_ ?_
    | ((with_reducible apply Moves.after State.modPart_moves ?_ ?_); rfl)
    | ((with_reducible apply Moves.after State.setPlan_moves ?_ ?_); rfl)
    | ((with_reducible apply Moves.after State.startStream_moves ?_ ?_); rfl)
    | ((with_reducible apply Moves.after State.takeBases_moves ?_ ?_); rfl) | split
    | (with_reducible exact Moves.refl)

theorem State.closeWindows_moves {s : State} {g : Nat} : Moves [.dict, .mem, .flips, .hostMem, .queues, .skeins, .calderas, .scrubPending, .safety, .dbg, .out] s (State.closeWindows s g) := by
  unfold State.closeWindows
  repeat' first
    | dsimp only | intro _ _ | with_reducible refine Moves.forEach ?_ ?_
    | ((with_reducible apply Moves.after State.closeSettle_moves ?_ ?_); rfl)
    | ((with_reducible apply Moves.after State.setWindow_moves ?_ ?_); rfl) | split
    | (with_reducible exact Moves.refl)

theorem State.unload_moves {s : State} {p : Nat} : MovesFst [.dict, .mem, .flips, .hostMem, .queues, .skeins, .calderas, .scrubPending, .plans, .cameras, .chains, .decoders, .lanes, .gatherQueue, .gatherBusy, .blocks, .launches, .safety, .dbg, .out] s (State.unload s p) := by
  unfold State.unload
  repeat' first
    | dsimp only | intro _ _ | with_reducible refine Moves.forEach ?_ ?_
    | ((with_reducible apply Moves.after State.blockEnable_moves ?_ ?_); rfl)
    | ((with_reducible apply Moves.after State.cameraDisable_moves ?_ ?_); rfl)
    | ((with_reducible apply Moves.after State.chainUnload_moves ?_ ?_); rfl)
    | ((with_reducible apply Moves.after State.clearRegs_moves ?_ ?_); rfl)
    | ((with_reducible apply Moves.after State.closeWindows_moves ?_ ?_); rfl)
    | ((with_reducible apply Moves.after State.decoderEnable_moves ?_ ?_); rfl)
    | ((with_reducible apply Moves.after State.launchDisable_moves ?_ ?_); rfl)
    | ((with_reducible apply Moves.after State.modDecoder_moves ?_ ?_); rfl)
    | ((with_reducible apply Moves.after State.planRefused_moves ?_ ?_); rfl)
    | ((with_reducible apply Moves.after State.queueDisable_moves ?_ ?_); rfl)
    | ((with_reducible apply Moves.after State.setLaunch_moves ?_ ?_); rfl)
    | ((with_reducible apply Moves.after State.setPlan_moves ?_ ?_); rfl)
    | ((with_reducible apply Moves.after State.setReg_moves ?_ ?_); rfl)
    | ((with_reducible apply Moves.after State.withBlocks_moves ?_ ?_); rfl) | split
    | (with_reducible exact Moves.refl)

end Sys2Proof.Machine
end

