-- ==== Sys2Proof/Laws/ResetBootMoves.lean ====
section
/-! SUPPORT. Laws: what each operation of Machine/ResetBoot.lean changes at most, and that it keeps the invariant. -/
open Sys2Proof.Safety

namespace Sys2Proof.Machine

theorem State.resetBase_moves {s : State} : Moves [.dict, .accepted, .selects, .latches, .replies, .mem, .flips, .xlat, .xlatShadow, .queues, .syncs, .time, .boot, .skeins, .spindles, .calderas, .channels, .scrubPending, .bankTargets, .plans, .cameras, .chains, .decoders, .lanes, .gatherQueue, .gatherBusy, .blocks, .engines, .jobOrder, .nextBlock, .launches, .ptpPending, .speedAt, .safety, .mailboxes, .mirrorQueue, .cans, .busMaster, .d3hot, .msixTable, .links, .discovery, .dbg] s s.resetBase :=
  ⟨fun p hp => by cases p <;> first | rfl | exact absurd (by decide) hp,
   fun _ => ⟨rfl, (by decide : (0 : Nat) < 1000000000), fun n => (by decide : (0 : Nat) < 2 ^ 32)⟩⟩

theorem State.keptByDevice_moves {ps : List Part} {s z : State} {cause : Nat} (hp : .time ∈ ps ∧ .boot ∈ ps)
    (h : Moves ps s z) : Moves ps s (s.keptByDevice cause z) := by
  unfold State.keptByDevice
  change Moves ps s (State.modBoot (State.modTime z _) _)
  refine State.modBoot_moves.after (by simpa using hp.2) ⟨fun p hq => ?_, fun hi => ⟨(h.inv hi).memory, (hi.nanos : s.time.nanos < 1000000000), (h.inv hi).syncs⟩⟩
  have := h.only p hq
  cases p <;> first | exact this | exact absurd hp.1 hq

theorem State.resetTo_moves {s : State} {cls : ResetClass} {cause : Nat} : Moves [.dict, .accepted, .selects, .latches, .replies, .mem, .flips, .xlat, .xlatShadow, .queues, .syncs, .time, .boot, .skeins, .spindles, .calderas, .channels, .scrubPending, .bankTargets, .plans, .cameras, .chains, .decoders, .lanes, .gatherQueue, .gatherBusy, .blocks, .engines, .jobOrder, .nextBlock, .launches, .ptpPending, .speedAt, .safety, .mailboxes, .mirrorQueue, .cans, .busMaster, .d3hot, .msixTable, .links, .discovery, .dbg] s (s.resetTo cls cause) := by
  unfold State.resetTo
  cases cls <;> dsimp only
  · exact State.modBoot_moves.after (by decide) (State.resetBase_moves.mono (by decide))
  · exact State.keptByDevice_moves (by decide) (State.resetBase_moves.mono (by decide))
  · refine (State.withXlatShadow_moves.after rfl (State.withXlat_moves.after rfl (State.withFlips_moves.after rfl ?_)))
    have k : Moves [.dict, .accepted, .selects, .latches, .replies, .mem, .flips, .xlat, .xlatShadow, .queues, .syncs, .time, .boot, .skeins, .spindles, .calderas, .channels, .scrubPending, .bankTargets, .plans, .cameras, .chains, .decoders, .lanes, .gatherQueue, .gatherBusy, .blocks, .engines, .jobOrder, .nextBlock, .launches, .ptpPending, .speedAt, .safety, .mailboxes, .mirrorQueue, .cans, .busMaster, .d3hot, .msixTable, .links, .discovery, .dbg] s (((s.keptByDevice cause s.resetBase).modDebug (fun d =>
        { d with broken := s.dbg.broken, deviceBreak := s.dbg.deviceBreak })).modBoot (fun b => { b with filled := true })) :=
      State.modBoot_moves.after (by decide) (State.modDebug_moves.after (by decide) (State.keptByDevice_moves (by decide) (State.resetBase_moves.mono (by decide))))
    refine ⟨fun p hp => ?_, fun hi => ⟨tblWf_filter 0 _ _ hi.memory, (k.inv hi).nanos, (k.inv hi).syncs⟩⟩
    have := k.only p hp
    cases p <;> first | exact absurd (by decide) hp | exact this

theorem doPowerOn_moves {s : State} : Moves [.dict, .accepted, .selects, .latches, .replies, .mem, .flips, .xlat, .xlatShadow, .queues, .syncs, .time, .boot, .skeins, .spindles, .calderas, .channels, .scrubPending, .bankTargets, .plans, .cameras, .chains, .decoders, .lanes, .gatherQueue, .gatherBusy, .blocks, .engines, .jobOrder, .nextBlock, .launches, .ptpPending, .speedAt, .safety, .mailboxes, .mirrorQueue, .cans, .busMaster, .d3hot, .msixTable, .links, .discovery, .dbg] s (doPowerOn s) := by
  unfold doPowerOn
  repeat' first
    | dsimp only | ((with_reducible apply Moves.after State.resetTo_moves ?_ ?_); rfl)
    | (with_reducible exact Moves.refl)

theorem doBrownOut_moves {rail : Nat} {s : State} : Moves [.dict, .accepted, .selects, .latches, .replies, .mem, .flips, .xlat, .xlatShadow, .queues, .syncs, .time, .boot, .skeins, .spindles, .calderas, .channels, .scrubPending, .bankTargets, .plans, .cameras, .chains, .decoders, .lanes, .gatherQueue, .gatherBusy, .blocks, .engines, .jobOrder, .nextBlock, .launches, .ptpPending, .speedAt, .safety, .mailboxes, .mirrorQueue, .cans, .busMaster, .d3hot, .msixTable, .links, .discovery, .dbg] s (doBrownOut rail s) := by
  unfold doBrownOut
  repeat' first
    | dsimp only | ((with_reducible apply Moves.after State.resetTo_moves ?_ ?_); rfl) | split
    | (with_reducible exact Moves.refl)

theorem doReferenceClockFailure_moves {s : State} : Moves [.dict, .accepted, .selects, .latches, .replies, .mem, .flips, .xlat, .xlatShadow, .queues, .syncs, .time, .boot, .skeins, .spindles, .calderas, .channels, .scrubPending, .bankTargets, .plans, .cameras, .chains, .decoders, .lanes, .gatherQueue, .gatherBusy, .blocks, .engines, .jobOrder, .nextBlock, .launches, .ptpPending, .speedAt, .safety, .mailboxes, .mirrorQueue, .cans, .busMaster, .d3hot, .msixTable, .links, .discovery, .dbg] s (doReferenceClockFailure s) := by
  unfold doReferenceClockFailure
  repeat' first
    | dsimp only | ((with_reducible apply Moves.after State.resetTo_moves ?_ ?_); rfl)
    | (with_reducible exact Moves.refl)

theorem doPllLockLost_moves {pll : Nat} {s : State} : Moves [.dict, .accepted, .selects, .latches, .replies, .mem, .flips, .xlat, .xlatShadow, .queues, .syncs, .time, .boot, .skeins, .spindles, .calderas, .channels, .scrubPending, .bankTargets, .plans, .cameras, .chains, .decoders, .lanes, .gatherQueue, .gatherBusy, .blocks, .engines, .jobOrder, .nextBlock, .launches, .ptpPending, .speedAt, .safety, .mailboxes, .mirrorQueue, .cans, .busMaster, .d3hot, .msixTable, .links, .discovery, .dbg] s (doPllLockLost pll s) := by
  unfold doPllLockLost
  repeat' first
    | dsimp only | ((with_reducible apply Moves.after State.resetTo_moves ?_ ?_); rfl) | split
    | (with_reducible exact Moves.refl)

theorem State.cobIds_moves {s : State} : Moves [.dict] s (State.cobIds s) := by
  unfold State.cobIds
  repeat' first
    | dsimp only | intro _ _ | with_reducible refine Moves.forEach ?_ ?_
    | ((with_reducible apply Moves.after State.setReg_moves ?_ ?_); rfl) | (with_reducible exact Moves.refl)

theorem State.readOptions_moves {s : State} : Moves [.dict, .boot] s (State.readOptions s) := by
  unfold State.readOptions
  repeat' first
    | dsimp only | intro _ _ | ((with_reducible apply Moves.after State.cobIds_moves ?_ ?_); rfl)
    | ((with_reducible apply Moves.after State.modBoot_moves ?_ ?_); rfl)
    | ((with_reducible apply Moves.after State.setReg_moves ?_ ?_); rfl) | split | (with_reducible exact Moves.refl)

theorem doResetNLow_moves {s : State} : Moves [.dict, .accepted, .selects, .latches, .replies, .mem, .flips, .xlat, .xlatShadow, .queues, .syncs, .time, .boot, .skeins, .spindles, .calderas, .channels, .scrubPending, .bankTargets, .plans, .cameras, .chains, .decoders, .lanes, .gatherQueue, .gatherBusy, .blocks, .engines, .jobOrder, .nextBlock, .launches, .ptpPending, .speedAt, .safety, .mailboxes, .mirrorQueue, .cans, .busMaster, .d3hot, .msixTable, .links, .discovery, .dbg] s (doResetNLow s) := by
  unfold doResetNLow
  repeat' first
    | dsimp only | intro _ _ | ((with_reducible apply Moves.after State.modBoot_moves ?_ ?_); rfl)
    | ((with_reducible apply Moves.after State.resetTo_moves ?_ ?_); rfl) | split
    | (with_reducible exact Moves.refl)

theorem doResetNRise_moves {s : State} : Moves [.dict, .boot] s (doResetNRise s) := by
  unfold doResetNRise
  repeat' first
    | dsimp only | intro _ _ | ((with_reducible apply Moves.after State.modBoot_moves ?_ ?_); rfl)
    | ((with_reducible apply Moves.after State.readOptions_moves ?_ ?_); rfl) | split
    | (with_reducible exact Moves.refl)

theorem doWatchdog_moves {s : State} : Moves [.dict, .accepted, .selects, .latches, .replies, .mem, .flips, .xlat, .xlatShadow, .queues, .syncs, .time, .boot, .skeins, .spindles, .calderas, .channels, .scrubPending, .bankTargets, .plans, .cameras, .chains, .decoders, .lanes, .gatherQueue, .gatherBusy, .blocks, .engines, .jobOrder, .nextBlock, .launches, .ptpPending, .speedAt, .safety, .mailboxes, .mirrorQueue, .cans, .busMaster, .d3hot, .msixTable, .links, .discovery, .dbg] s (doWatchdog s) := by
  unfold doWatchdog
  repeat' first
    | dsimp only | ((with_reducible apply Moves.after State.resetTo_moves ?_ ?_); rfl) | split
    | (with_reducible exact Moves.refl)

theorem doLockUp_moves {s : State} : Moves [.dict, .accepted, .selects, .latches, .replies, .mem, .flips, .xlat, .xlatShadow, .queues, .syncs, .time, .boot, .skeins, .spindles, .calderas, .channels, .scrubPending, .bankTargets, .plans, .cameras, .chains, .decoders, .lanes, .gatherQueue, .gatherBusy, .blocks, .engines, .jobOrder, .nextBlock, .launches, .ptpPending, .speedAt, .safety, .mailboxes, .mirrorQueue, .cans, .busMaster, .d3hot, .msixTable, .links, .discovery, .dbg] s (doLockUp s) := by
  unfold doLockUp
  repeat' first
    | dsimp only | ((with_reducible apply Moves.after State.resetTo_moves ?_ ?_); rfl) | split
    | (with_reducible exact Moves.refl)

theorem State.stepDone_moves {s : State} : Moves [.boot] s (State.stepDone s) := by
  unfold State.stepDone
  repeat' first
    | dsimp only | intro _ _ | ((with_reducible apply Moves.after State.modBoot_moves ?_ ?_); rfl)
    | (with_reducible exact Moves.refl)

theorem State.releaseManagement_moves {s : State} : Moves [.dict, .boot] s (State.releaseManagement s) := by
  unfold State.releaseManagement
  repeat' first
    | dsimp only | intro _ _ | ((with_reducible apply Moves.after State.measure_moves ?_ ?_); rfl)
    | ((with_reducible apply Moves.after State.modBoot_moves ?_ ?_); rfl)
    | ((with_reducible apply Moves.after State.setReg_moves ?_ ?_); rfl)
    | ((with_reducible apply Moves.after State.stepDone_moves ?_ ?_); rfl) | split
    | (with_reducible exact Moves.refl)

theorem State.releaseLinks_moves {s : State} : Moves [.dict, .boot, .links, .discovery, .dbg, .out] s (State.releaseLinks s) := by
  unfold State.releaseLinks
  repeat' first
    | dsimp only | intro _ _ | with_reducible refine Moves.forEach ?_ ?_
    | ((with_reducible apply Moves.after State.nextRun_moves ?_ ?_); rfl)
    | ((with_reducible apply Moves.after State.stepDone_moves ?_ ?_); rfl)
    | ((with_reducible apply Moves.after State.trainLink_moves ?_ ?_); rfl) | split
    | (with_reducible exact Moves.refl)

theorem State.bootUps_moves {s : State} : Moves [.cans, .out] s (State.bootUps s) := by
  unfold State.bootUps
  repeat' first
    | dsimp only | intro _ _ | with_reducible refine Moves.forEach ?_ ?_
    | ((with_reducible apply Moves.after State.emit_moves ?_ ?_); rfl)
    | ((with_reducible apply Moves.after State.modCan_moves ?_ ?_); rfl) | split | (with_reducible exact Moves.refl)

theorem State.releaseLast_moves {s : State} : Moves [.dict, .boot, .cans, .freeUsed, .out] s (State.releaseLast s) := by
  unfold State.releaseLast
  repeat' first
    | dsimp only | ((with_reducible apply Moves.after State.bootUps_moves ?_ ?_); rfl)
    | ((with_reducible apply Moves.after State.free_moves ?_ ?_); rfl)
    | ((with_reducible apply Moves.after State.setReg_moves ?_ ?_); rfl)
    | ((with_reducible apply Moves.after State.stepDone_moves ?_ ?_); rfl) | split
    | (with_reducible exact Moves.refl)

theorem doDomainRelease_moves {s : State} : Moves [.dict, .boot, .cans, .links, .discovery, .dbg, .freeUsed, .out] s (doDomainRelease s) := by
  unfold doDomainRelease
  repeat' first
    | dsimp only | with_reducible refine Moves.ite ?_ ?_ | ((with_reducible apply Moves.after State.modBoot_moves ?_ ?_); rfl)
    | ((with_reducible apply Moves.after State.opStart_moves ?_ ?_); rfl)
    | ((with_reducible apply Moves.after State.readOptions_moves ?_ ?_); rfl)
    | ((with_reducible apply Moves.after State.releaseLast_moves ?_ ?_); rfl)
    | ((with_reducible apply Moves.after State.releaseLinks_moves ?_ ?_); rfl)
    | ((with_reducible apply Moves.after State.releaseManagement_moves ?_ ?_); rfl)
    | ((with_reducible apply Moves.after State.stepDone_moves ?_ ?_); rfl) | (with_reducible exact Moves.refl)

theorem doPllLockTimeout_moves {pll : Nat} {s : State} : Moves [.boot] s (doPllLockTimeout pll s) := by
  unfold doPllLockTimeout
  repeat' first
    | dsimp only | intro _ _ | ((with_reducible apply Moves.after State.modBoot_moves ?_ ?_); rfl) | split
    | (with_reducible exact Moves.refl)

theorem doMemoryFillComplete_moves {s : State} : Moves [.dict, .boot] s (doMemoryFillComplete s) := by
  unfold doMemoryFillComplete
  repeat' first
    | dsimp only | intro _ _ | ((with_reducible apply Moves.after State.modBoot_moves ?_ ?_); rfl)
    | ((with_reducible apply Moves.after State.opEnd_moves ?_ ?_); rfl) | split | (with_reducible exact Moves.refl)

theorem doPerstNLow_moves {s : State} : Moves [.dict, .boot, .mailboxes, .mirrorQueue, .busMaster, .d3hot, .msixTable] s (doPerstNLow s) := by
  unfold doPerstNLow
  repeat' first
    | dsimp only | intro _ _ | ((with_reducible apply Moves.after State.loadBroken_moves ?_ ?_); rfl)
    | ((with_reducible apply Moves.after State.modBoot_moves ?_ ?_); rfl)
    | ((with_reducible apply Moves.after State.withBusMaster_moves ?_ ?_); rfl)
    | ((with_reducible apply Moves.after State.withD3hot_moves ?_ ?_); rfl)
    | ((with_reducible apply Moves.after State.withMailboxes_moves ?_ ?_); rfl)
    | ((with_reducible apply Moves.after State.withMirrorQueue_moves ?_ ?_); rfl)
    | ((with_reducible apply Moves.after State.withMsixTable_moves ?_ ?_); rfl)
    | ((with_reducible apply Moves.after doPcieLinkDown_moves ?_ ?_); rfl) | split | (with_reducible exact Moves.refl)

theorem doPerstNRise_moves {s : State} : Moves [.boot] s (doPerstNRise s) := by
  unfold doPerstNRise
  repeat' first
    | dsimp only | intro _ _ | ((with_reducible apply Moves.after State.modBoot_moves ?_ ?_); rfl)
    | (with_reducible exact Moves.refl)

theorem doDbgReset_moves {s : State} : Moves [.dict, .accepted, .selects, .latches, .replies, .mem, .flips, .xlat, .xlatShadow, .queues, .syncs, .time, .boot, .skeins, .spindles, .calderas, .channels, .scrubPending, .bankTargets, .plans, .cameras, .chains, .decoders, .lanes, .gatherQueue, .gatherBusy, .blocks, .engines, .jobOrder, .nextBlock, .launches, .ptpPending, .speedAt, .safety, .mailboxes, .mirrorQueue, .cans, .busMaster, .d3hot, .msixTable, .links, .discovery, .dbg, .out] s (doDbgReset s) := by
  unfold doDbgReset
  repeat' first
    | dsimp only | ((with_reducible apply Moves.after State.resetTo_moves ?_ ?_); rfl)
    | ((with_reducible apply Moves.after State.tapBegin_moves ?_ ?_); rfl)
    | ((with_reducible apply Moves.after doBypass_moves ?_ ?_); rfl) | split | (with_reducible exact Moves.refl)

theorem State.softReset_moves {s : State} {v : Nat} : MovesFst [.dict, .accepted, .selects, .latches, .replies, .mem, .flips, .xlat, .xlatShadow, .queues, .syncs, .time, .boot, .skeins, .spindles, .calderas, .channels, .scrubPending, .bankTargets, .plans, .cameras, .chains, .decoders, .lanes, .gatherQueue, .gatherBusy, .blocks, .engines, .jobOrder, .nextBlock, .launches, .ptpPending, .speedAt, .safety, .mailboxes, .mirrorQueue, .cans, .busMaster, .d3hot, .msixTable, .links, .discovery, .dbg] s (State.softReset s v) := by
  unfold State.softReset
  repeat' first
    | dsimp only | ((with_reducible apply Moves.after State.resetTo_moves ?_ ?_); rfl) | split
    | (with_reducible exact Moves.refl)

theorem doRailSample_moves {mv : List Nat} {temp : Int} {s : State} : Moves [.dict, .boot] s (doRailSample mv temp s) := by
  unfold doRailSample
  repeat' first
    | dsimp only | intro _ _ | with_reducible refine Moves.forEach ?_ ?_
    | ((with_reducible apply Moves.after State.modBoot_moves ?_ ?_); rfl)
    | ((with_reducible apply Moves.after State.setReg_moves ?_ ?_); rfl) | split | (with_reducible exact Moves.refl)

theorem State.wipeRange_moves {s : State} {a n : Nat} : Moves [.mem, .flips] s (s.wipeRange a n) := by
  refine Moves.after State.withFlips_moves ?_ (Moves.after (State.withMem_moves (wipe_wf _ _ _)) ?_ Moves.refl) <;> rfl

theorem State.calderaDefaults_moves {s : State} {c : Nat} : Moves [.dict, .accepted] s (State.calderaDefaults s c) := by
  unfold State.calderaDefaults
  repeat' first
    | dsimp only | intro _ _ | ((with_reducible apply Moves.after State.withAccepted_moves ?_ ?_); rfl)
    | ((with_reducible apply Moves.after State.withDict_moves ?_ ?_); rfl) | (with_reducible exact Moves.refl)

theorem State.wipeCaldera_moves {s : State} {c : Nat} : Moves [.dict, .accepted, .mem, .flips, .skeins, .spindles, .calderas] s (State.wipeCaldera s c) := by
  unfold State.wipeCaldera
  repeat' first
    | dsimp only | intro _ _ | with_reducible refine Moves.forEach ?_ ?_
    | ((with_reducible apply Moves.after State.calderaDefaults_moves ?_ ?_); rfl)
    | ((with_reducible apply Moves.after State.modCaldera_moves ?_ ?_); rfl)
    | ((with_reducible apply Moves.after State.setSkein_moves ?_ ?_); rfl)
    | ((with_reducible apply Moves.after State.setSpindle_moves ?_ ?_); rfl)
    | ((with_reducible apply Moves.after State.wipeRange_moves ?_ ?_); rfl) | (with_reducible exact Moves.refl)

theorem State.calderaResetCmd_moves {s : State} {mask : Nat} : MovesFst [.dict, .accepted, .mem, .flips, .skeins, .spindles, .calderas] s (State.calderaResetCmd s mask) := by
  unfold State.calderaResetCmd
  repeat' first
    | dsimp only | intro _ _ | with_reducible refine Moves.forEach ?_ ?_
    | ((with_reducible apply Moves.after State.modCaldera_moves ?_ ?_); rfl)
    | ((with_reducible apply Moves.after State.setReg_moves ?_ ?_); rfl)
    | ((with_reducible apply Moves.after State.wipeCaldera_moves ?_ ?_); rfl) | split
    | (with_reducible exact Moves.refl)

theorem doCalderaResetComplete_moves {c : Nat} {sweepPassed : Bool} {s : State} : Moves [.dict, .mem, .flips, .hostMem, .queues, .calderas, .scrubPending, .safety, .out] s (doCalderaResetComplete c sweepPassed s) := by
  unfold doCalderaResetComplete
  repeat' first
    | dsimp only | intro _ _ | ((with_reducible apply Moves.after State.bump_moves ?_ ?_); rfl)
    | ((with_reducible apply Moves.after State.bumpSat_moves ?_ ?_); rfl)
    | ((with_reducible apply Moves.after State.logPush_moves ?_ ?_); rfl)
    | ((with_reducible apply Moves.after State.modCaldera_moves ?_ ?_); rfl)
    | ((with_reducible apply Moves.after State.setReg_moves ?_ ?_); rfl) | split | (with_reducible exact Moves.refl)

theorem State.powerCmd_moves {s : State} {v : Nat} : MovesFst [.dict, .accepted, .mem, .flips, .skeins, .spindles, .calderas] s (State.powerCmd s v) := by
  unfold State.powerCmd
  repeat' first
    | dsimp only | ((with_reducible apply Moves.after State.setReg_moves ?_ ?_); rfl)
    | ((with_reducible apply Moves.after State.wipeCaldera_moves ?_ ?_); rfl) | split
    | (with_reducible exact Moves.refl)

theorem doPowerOnComplete_moves {c : Nat} {s : State} : Moves [.dict] s (doPowerOnComplete c s) := by
  unfold doPowerOnComplete
  repeat' first
    | dsimp only | ((with_reducible apply Moves.after State.setReg_moves ?_ ?_); rfl) | split
    | (with_reducible exact Moves.refl)

end Sys2Proof.Machine
end

