-- ==== Sys2Proof/Laws/AccessMoves.lean ====
section
/-! SUPPORT. Laws: what each operation of Machine/Access.lean changes at most, and that it keeps the invariant. -/
open Sys2Proof.Safety

namespace Sys2Proof.Machine

theorem State.reply_moves {s : State} {a code v : Nat} : Moves [.replies] s (State.reply s a code v) := by
  unfold State.reply
  repeat' first
    | dsimp only | ((with_reducible apply Moves.after State.withReplies_moves ?_ ?_); rfl)
    | (with_reducible exact Moves.refl)

theorem State.store_moves {s : State} {ix sub v : Nat} : MovesFst [.dict] s (State.store s ix sub v) := by
  unfold State.store
  repeat' first
    | dsimp only | ((with_reducible apply Moves.after State.setReg_moves ?_ ?_); rfl)
    | (with_reducible exact Moves.refl)

theorem State.storeIf_moves {s : State} {ok : Bool} {ix sub v : Nat} : MovesFst [.dict] s (State.storeIf s ok ix sub v) := by
  unfold State.storeIf
  repeat' first
    | dsimp only | ((with_reducible apply Moves.after State.store_moves ?_ ?_); rfl) | split
    | (with_reducible exact Moves.refl)

theorem State.applyComm_moves {s : State} {ix sub v : Nat} : MovesFst [.dict] s (State.applyComm s ix sub v) := by
  unfold State.applyComm
  repeat' first
    | dsimp only | intro _ _ | with_reducible refine Moves.forEach ?_ ?_
    | ((with_reducible apply Moves.after State.setReg_moves ?_ ?_); rfl)
    | ((with_reducible apply Moves.after State.store_moves ?_ ?_); rfl)
    | ((with_reducible apply Moves.after State.storeIf_moves ?_ ?_); rfl) | split
    | (with_reducible exact Moves.refl)

theorem State.applyReset_moves {s : State} {readBack : Bool} {ix sub v : Nat} : MovesFst [.dict, .accepted, .selects, .latches, .replies, .mem, .flips, .xlat, .xlatShadow, .queues, .syncs, .time, .boot, .skeins, .spindles, .calderas, .channels, .scrubPending, .bankTargets, .plans, .cameras, .chains, .decoders, .lanes, .gatherQueue, .gatherBusy, .blocks, .engines, .jobOrder, .nextBlock, .launches, .ptpPending, .speedAt, .safety, .mailboxes, .mirrorQueue, .cans, .busMaster, .d3hot, .msixTable, .links, .discovery, .dbg] s (State.applyReset s readBack ix sub v) := by
  unfold State.applyReset
  repeat' first
    | dsimp only | ((with_reducible apply Moves.after State.calderaResetCmd_moves ?_ ?_); rfl)
    | ((with_reducible apply Moves.after State.optionProgram_moves ?_ ?_); rfl)
    | ((with_reducible apply Moves.after State.powerCmd_moves ?_ ?_); rfl)
    | ((with_reducible apply Moves.after State.softReset_moves ?_ ?_); rfl)
    | ((with_reducible apply Moves.after State.store_moves ?_ ?_); rfl) | split | (with_reducible exact Moves.refl)

theorem State.applyMemory_moves {s : State} {a ix sub v : Nat} : MovesFst [.dict, .selects, .xlatShadow, .calderas, .bankTargets] s (State.applyMemory s a ix sub v) := by
  unfold State.applyMemory
  repeat' first
    | dsimp only | ((with_reducible apply Moves.after State.bankCommand_moves ?_ ?_); rfl)
    | ((with_reducible apply Moves.after State.store_moves ?_ ?_); rfl)
    | ((with_reducible apply Moves.after State.storeIf_moves ?_ ?_); rfl)
    | ((with_reducible apply Moves.after State.wcFlush_moves ?_ ?_); rfl)
    | ((with_reducible apply Moves.after State.withSelects_moves ?_ ?_); rfl)
    | ((with_reducible apply Moves.after State.withXlatShadow_moves ?_ ?_); rfl) | split
    | (with_reducible exact Moves.refl)

theorem State.applyCommit_moves {s : State} {sub v : Nat} : MovesFst [.dict, .accepted, .xlat, .xlatShadow, .skeins, .calderas, .dbg] s (State.applyCommit s sub v) := by
  unfold State.applyCommit
  repeat' first
    | dsimp only | ((with_reducible apply Moves.after State.commit_moves ?_ ?_); rfl)
    | ((with_reducible apply Moves.after State.discardShadows_moves ?_ ?_); rfl)
    | ((with_reducible apply Moves.after State.store_moves ?_ ?_); rfl) | split | (with_reducible exact Moves.refl)

theorem State.applyQueue_moves {s : State} {a ix sub v : Nat} : MovesFst [.dict, .selects, .queues, .syncs, .calderas] s (State.applyQueue s a ix sub v) := by
  unfold State.applyQueue
  repeat' first
    | dsimp only | intro _ _ | ((with_reducible apply Moves.after State.modQueue_moves ?_ ?_); rfl)
    | ((with_reducible apply Moves.after State.outerAdd_moves ?_ ?_); rfl)
    | ((with_reducible apply Moves.after State.outerSet_moves ?_ ?_); rfl)
    | ((with_reducible apply Moves.after State.queueDisable_moves ?_ ?_); rfl)
    | ((with_reducible apply Moves.after State.queueEnable_moves ?_ ?_); rfl)
    | ((with_reducible apply Moves.after State.withSelects_moves ?_ ?_); rfl) | split
    | (with_reducible exact Moves.refl)

theorem State.applyStreams_moves {s : State} {a ix sub v : Nat} : MovesFst [.dict, .accepted, .selects, .mem, .flips, .hostMem, .xlat, .xlatShadow, .queues, .syncs, .boot, .skeins, .calderas, .scrubPending, .plans, .cameras, .chains, .decoders, .lanes, .gatherQueue, .gatherBusy, .blocks, .launches, .safety, .dbg, .out] s (State.applyStreams s a ix sub v) := by
  unfold State.applyStreams
  repeat' first
    | dsimp only | ((with_reducible apply Moves.after State.activate_moves ?_ ?_); rfl)
    | ((with_reducible apply Moves.after State.applyCommit_moves ?_ ?_); rfl)
    | ((with_reducible apply Moves.after State.applyQueue_moves ?_ ?_); rfl)
    | ((with_reducible apply Moves.after State.planLoad_moves ?_ ?_); rfl)
    | ((with_reducible apply Moves.after State.setReg_moves ?_ ?_); rfl)
    | ((with_reducible apply Moves.after State.store_moves ?_ ?_); rfl)
    | ((with_reducible apply Moves.after State.storeIf_moves ?_ ?_); rfl)
    | ((with_reducible apply Moves.after State.unload_moves ?_ ?_); rfl)
    | ((with_reducible apply Moves.after State.writeControl_moves ?_ ?_); rfl) | split
    | (with_reducible exact Moves.refl)

theorem State.applySensors_moves {s : State} {ix sub v : Nat} : MovesFst [.dict, .mem, .flips, .hostMem, .queues, .calderas, .scrubPending, .cameras, .decoders, .lanes, .safety, .dbg, .out] s (State.applySensors s ix sub v) := by
  unfold State.applySensors
  repeat' first
    | dsimp only | ((with_reducible apply Moves.after State.blockEnable_moves ?_ ?_); rfl)
    | ((with_reducible apply Moves.after State.cameraDisable_moves ?_ ?_); rfl)
    | ((with_reducible apply Moves.after State.cameraEnable_moves ?_ ?_); rfl)
    | ((with_reducible apply Moves.after State.decoderEnable_moves ?_ ?_); rfl)
    | ((with_reducible apply Moves.after State.store_moves ?_ ?_); rfl)
    | ((with_reducible apply Moves.after State.storeIf_moves ?_ ?_); rfl) | split | (with_reducible exact Moves.refl)

theorem State.applyTime_moves {s : State} {ix sub v : Nat} : MovesFst [.dict, .time, .safety, .out] s (State.applyTime s ix sub v) := by
  unfold State.applyTime
  repeat' first
    | dsimp only | ((with_reducible apply Moves.after State.sourceWrite_moves ?_ ?_); rfl)
    | ((with_reducible apply Moves.after State.storeIf_moves ?_ ?_); rfl)
    | ((with_reducible apply Moves.after State.timeControl_moves ?_ ?_); rfl) | split
    | (with_reducible exact Moves.refl)

theorem State.applyLaunch_moves {s : State} {ix sub v : Nat} : MovesFst [.dict, .launches, .speedAt, .dbg, .out] s (State.applyLaunch s ix sub v) := by
  unfold State.applyLaunch
  repeat' first
    | dsimp only | ((with_reducible apply Moves.after State.launchDisable_moves ?_ ?_); rfl)
    | ((with_reducible apply Moves.after State.launchEnable_moves ?_ ?_); rfl)
    | ((with_reducible apply Moves.after State.speedWrite_moves ?_ ?_); rfl)
    | ((with_reducible apply Moves.after State.storeIf_moves ?_ ?_); rfl) | split
    | (with_reducible exact Moves.refl)

theorem State.applySafety_moves {s : State} {ix sub v : Nat} : MovesFst [.dict, .mem, .flips, .hostMem, .boot, .calderas, .scrubPending, .safety] s (State.applySafety s ix sub v) := by
  unfold State.applySafety
  repeat' first
    | dsimp only | intro _ _ | ((with_reducible apply Moves.after State.install_moves ?_ ?_); rfl)
    | ((with_reducible apply Moves.after State.modPart_moves ?_ ?_); rfl)
    | ((with_reducible apply Moves.after State.store_moves ?_ ?_); rfl)
    | ((with_reducible apply Moves.after State.storeIf_moves ?_ ?_); rfl) | split
    | (with_reducible exact Moves.refl)

theorem State.applySecurity_moves {s : State} {ix sub v : Nat} : MovesFst [.dict, .mem, .flips, .hostMem, .boot, .calderas, .scrubPending] s (State.applySecurity s ix sub v) := by
  unfold State.applySecurity
  repeat' first
    | dsimp only | intro _ _ | ((with_reducible apply Moves.after State.attest_moves ?_ ?_); rfl)
    | ((with_reducible apply Moves.after State.exportId_moves ?_ ?_); rfl)
    | ((with_reducible apply Moves.after State.firmwareLoad_moves ?_ ?_); rfl)
    | ((with_reducible apply Moves.after State.firmwareProgram_moves ?_ ?_); rfl)
    | ((with_reducible apply Moves.after State.loadPatternKey_moves ?_ ?_); rfl)
    | ((with_reducible apply Moves.after State.modBoot_moves ?_ ?_); rfl)
    | ((with_reducible apply Moves.after State.setReg_moves ?_ ?_); rfl)
    | ((with_reducible apply Moves.after State.store_moves ?_ ?_); rfl)
    | ((with_reducible apply Moves.after State.svnCommit_moves ?_ ?_); rfl) | split
    | (with_reducible exact Moves.refl)

theorem State.applyDebug_moves {s : State} {ix sub v : Nat} : MovesFst [.dict, .calderas, .dbg] s (State.applyDebug s ix sub v) := by
  unfold State.applyDebug
  repeat' first
    | dsimp only | intro _ _ | with_reducible refine Moves.forEach ?_ ?_
    | ((with_reducible apply Moves.after State.globalStopCmd_moves ?_ ?_); rfl)
    | ((with_reducible apply Moves.after State.partitionStopCmd_moves ?_ ?_); rfl)
    | ((with_reducible apply Moves.after State.releaseCmd_moves ?_ ?_); rfl)
    | ((with_reducible apply Moves.after State.setReg_moves ?_ ?_); rfl)
    | ((with_reducible apply Moves.after State.store_moves ?_ ?_); rfl)
    | ((with_reducible apply Moves.after State.storeIf_moves ?_ ?_); rfl) | split
    | (with_reducible exact Moves.refl)

theorem State.applyLinks_moves {s : State} {ix sub v : Nat} : MovesFst [.dict, .calderas, .links, .discovery, .dbg, .out] s (State.applyLinks s ix sub v) := by
  unfold State.applyLinks
  repeat' first
    | dsimp only | ((with_reducible apply Moves.after State.linkEnable_moves ?_ ?_); rfl)
    | ((with_reducible apply Moves.after State.nextRun_moves ?_ ?_); rfl)
    | ((with_reducible apply Moves.after State.retrain_moves ?_ ?_); rfl)
    | ((with_reducible apply Moves.after State.storeIf_moves ?_ ?_); rfl) | split | (with_reducible exact Moves.refl)

theorem State.applyWrite_moves {s : State} {readBack : Bool} {a ix sub v : Nat} : MovesFst [.dict, .accepted, .selects, .latches, .replies, .mem, .flips, .hostMem, .xlat, .xlatShadow, .queues, .syncs, .time, .boot, .skeins, .spindles, .calderas, .channels, .scrubPending, .bankTargets, .plans, .cameras, .chains, .decoders, .lanes, .gatherQueue, .gatherBusy, .blocks, .engines, .jobOrder, .nextBlock, .launches, .ptpPending, .speedAt, .safety, .mailboxes, .mirrorQueue, .cans, .busMaster, .d3hot, .msixTable, .links, .discovery, .dbg, .out] s (State.applyWrite s readBack a ix sub v) := by
  unfold State.applyWrite
  repeat' first
    | dsimp only | ((with_reducible apply Moves.after State.applyComm_moves ?_ ?_); rfl)
    | ((with_reducible apply Moves.after State.applyDebug_moves ?_ ?_); rfl)
    | ((with_reducible apply Moves.after State.applyLaunch_moves ?_ ?_); rfl)
    | ((with_reducible apply Moves.after State.applyLinks_moves ?_ ?_); rfl)
    | ((with_reducible apply Moves.after State.applyMemory_moves ?_ ?_); rfl)
    | ((with_reducible apply Moves.after State.applyReset_moves ?_ ?_); rfl)
    | ((with_reducible apply Moves.after State.applySafety_moves ?_ ?_); rfl)
    | ((with_reducible apply Moves.after State.applySecurity_moves ?_ ?_); rfl)
    | ((with_reducible apply Moves.after State.applySensors_moves ?_ ?_); rfl)
    | ((with_reducible apply Moves.after State.applyStreams_moves ?_ ?_); rfl)
    | ((with_reducible apply Moves.after State.applyTime_moves ?_ ?_); rfl) | split
    | (with_reducible exact Moves.refl)

theorem State.odWriteWith_moves {s : State} {readBack : Bool} {a ix sub len v : Nat} : Moves [.dict, .accepted, .selects, .latches, .replies, .mem, .flips, .hostMem, .xlat, .xlatShadow, .queues, .syncs, .time, .boot, .skeins, .spindles, .calderas, .channels, .scrubPending, .bankTargets, .plans, .cameras, .chains, .decoders, .lanes, .gatherQueue, .gatherBusy, .blocks, .engines, .jobOrder, .nextBlock, .launches, .ptpPending, .speedAt, .safety, .mailboxes, .mirrorQueue, .cans, .busMaster, .d3hot, .msixTable, .links, .discovery, .dbg, .out] s (State.odWriteWith s readBack a ix sub len v) := by
  unfold State.odWriteWith
  repeat' first
    | dsimp only | ((with_reducible apply Moves.after State.applyWrite_moves ?_ ?_); rfl)
    | ((with_reducible apply Moves.after State.reply_moves ?_ ?_); rfl) | split | (with_reducible exact Moves.refl)

theorem State.odWrite_moves {s : State} {a : Agent} {ix sub len v : Nat} : Moves [.dict, .accepted, .selects, .latches, .replies, .mem, .flips, .hostMem, .xlat, .xlatShadow, .queues, .syncs, .time, .boot, .skeins, .spindles, .calderas, .channels, .scrubPending, .bankTargets, .plans, .cameras, .chains, .decoders, .lanes, .gatherQueue, .gatherBusy, .blocks, .engines, .jobOrder, .nextBlock, .launches, .ptpPending, .speedAt, .safety, .mailboxes, .mirrorQueue, .cans, .busMaster, .d3hot, .msixTable, .links, .discovery, .dbg, .freeUsed, .out] s (State.odWrite s a ix sub len v) := by
  unfold State.odWrite
  repeat' first
    | dsimp only | ((with_reducible apply Moves.after State.free_moves ?_ ?_); rfl)
    | ((with_reducible apply Moves.after State.odWriteWith_moves ?_ ?_); rfl) | split
    | (with_reducible exact Moves.refl)

theorem State.readLatch_moves {s : State} {a ix sub : Nat} : Moves [.latches] s (State.readLatch s a ix sub) := by
  unfold State.readLatch
  repeat' first
    | dsimp only | intro _ _ | ((with_reducible apply Moves.after State.withLatches_moves ?_ ?_); rfl) | split
    | (with_reducible exact Moves.refl)

theorem State.fillProgress_moves {s : State} {ix : Nat} : Moves [.dict, .freeUsed] s (State.fillProgress s ix) := by
  unfold State.fillProgress
  repeat' first
    | dsimp only | ((with_reducible apply Moves.after State.free_moves ?_ ?_); rfl)
    | ((with_reducible apply Moves.after State.setReg_moves ?_ ?_); rfl) | split | (with_reducible exact Moves.refl)

theorem State.odRead_moves {s : State} {a : Agent} {ix sub : Nat} : MovesFst [.dict, .latches, .replies, .freeUsed] s (State.odRead s a ix sub) := by
  unfold State.odRead
  repeat' first
    | dsimp only | ((with_reducible apply Moves.after State.fillProgress_moves ?_ ?_); rfl)
    | ((with_reducible apply Moves.after State.readLatch_moves ?_ ?_); rfl)
    | ((with_reducible apply Moves.after State.reply_moves ?_ ?_); rfl) | split | (with_reducible exact Moves.refl)

end Sys2Proof.Machine
end

