-- ==== Sys2Proof/Laws/ControlMoves.lean ====
section
/-! SUPPORT. Laws: what each operation of Machine/Control.lean changes at most, and that it keeps the invariant. -/
open Sys2Proof.Safety

namespace Sys2Proof.Machine

theorem State.mailboxStart_moves {s : State} {i : Nat} {m : Mailbox} {word : Nat} : Moves [.mailboxes, .mirrorQueue] s (State.mailboxStart s i m word) := by
  unfold State.mailboxStart
  repeat' first
    | dsimp only | ((with_reducible apply Moves.after State.setMailbox_moves ?_ ?_); rfl)
    | ((with_reducible apply Moves.after State.withMirrorQueue_moves ?_ ?_); rfl) | split
    | (with_reducible exact Moves.refl)

theorem doMailboxRequest_moves {i : Nat} {w : MailboxWrite} {s : State} : Moves [.dict, .mailboxes, .mirrorQueue] s (doMailboxRequest i w s) := by
  unfold doMailboxRequest
  repeat' first
    | dsimp only | ((with_reducible apply Moves.after State.bumpBy_moves ?_ ?_); rfl)
    | ((with_reducible apply Moves.after State.mailboxStart_moves ?_ ?_); rfl)
    | ((with_reducible apply Moves.after State.setMailbox_moves ?_ ?_); rfl) | split
    | (with_reducible exact Moves.refl)

theorem State.mailboxAccess_moves {s : State} {m : Mailbox} : MovesFst [.dict, .accepted, .selects, .latches, .replies, .mem, .flips, .hostMem, .xlat, .xlatShadow, .queues, .syncs, .time, .boot, .skeins, .spindles, .calderas, .channels, .scrubPending, .bankTargets, .plans, .cameras, .chains, .decoders, .lanes, .gatherQueue, .gatherBusy, .blocks, .engines, .jobOrder, .nextBlock, .launches, .ptpPending, .speedAt, .safety, .mailboxes, .mirrorQueue, .cans, .busMaster, .d3hot, .msixTable, .links, .discovery, .dbg, .freeUsed, .out] s (State.mailboxAccess s m) := by
  unfold State.mailboxAccess
  repeat' first
    | dsimp only | ((with_reducible apply Moves.after State.odRead_moves ?_ ?_); rfl)
    | ((with_reducible apply Moves.after State.odWrite_moves ?_ ?_); rfl) | split
    | (with_reducible exact Moves.refl)

theorem doMailboxComplete_moves {s : State} : Moves [.dict, .accepted, .selects, .latches, .replies, .mem, .flips, .hostMem, .xlat, .xlatShadow, .queues, .syncs, .time, .boot, .skeins, .spindles, .calderas, .channels, .scrubPending, .bankTargets, .plans, .cameras, .chains, .decoders, .lanes, .gatherQueue, .gatherBusy, .blocks, .engines, .jobOrder, .nextBlock, .launches, .ptpPending, .speedAt, .safety, .mailboxes, .mirrorQueue, .cans, .busMaster, .d3hot, .msixTable, .links, .discovery, .dbg, .freeUsed, .out] s (doMailboxComplete s) := by
  unfold doMailboxComplete
  repeat' first
    | dsimp only | ((with_reducible apply Moves.after State.mailboxAccess_moves ?_ ?_); rfl)
    | ((with_reducible apply Moves.after State.msix_moves ?_ ?_); rfl)
    | ((with_reducible apply Moves.after State.setMailbox_moves ?_ ?_); rfl)
    | ((with_reducible apply Moves.after State.withMirrorQueue_moves ?_ ?_); rfl) | split
    | (with_reducible exact Moves.refl)

theorem State.dropOwner_moves {s : State} {a : Nat} : Moves [.dict] s (State.dropOwner s a) := by
  unfold State.dropOwner
  repeat' first
    | dsimp only | ((with_reducible apply Moves.after State.setReg_moves ?_ ?_); rfl) | split
    | (with_reducible exact Moves.refl)

theorem State.commDefaults_moves {s : State} : Moves [.dict] s (State.commDefaults s) := by
  unfold State.commDefaults
  repeat' first
    | dsimp only | intro _ _ | ((with_reducible apply Moves.after State.cobIds_moves ?_ ?_); rfl)
    | ((with_reducible apply Moves.after State.withDict_moves ?_ ?_); rfl) | (with_reducible exact Moves.refl)

theorem doNmt_moves {c : Nat} {state : Nmt} {s : State} : Moves [.cans] s (doNmt c state s) := by
  unfold doNmt
  repeat' first
    | dsimp only | intro _ _ | ((with_reducible apply Moves.after State.modCan_moves ?_ ?_); rfl) | split
    | (with_reducible exact Moves.refl)

theorem doNmtReset_moves {c : Nat} {s : State} : Moves [.dict, .cans, .out] s (doNmtReset c s) := by
  unfold doNmtReset
  repeat' first
    | dsimp only | intro _ _ | ((with_reducible apply Moves.after State.commDefaults_moves ?_ ?_); rfl)
    | ((with_reducible apply Moves.after State.dropOwner_moves ?_ ?_); rfl)
    | ((with_reducible apply Moves.after State.emit_moves ?_ ?_); rfl)
    | ((with_reducible apply Moves.after State.modCan_moves ?_ ?_); rfl) | split | (with_reducible exact Moves.refl)

theorem doHeartbeat_moves {c : Nat} {s : State} : Moves [.out] s (doHeartbeat c s) := by
  unfold doHeartbeat
  repeat' first
    | dsimp only | ((with_reducible apply Moves.after State.emit_moves ?_ ?_); rfl) | split
    | (with_reducible exact Moves.refl)

theorem doBusOff_moves {c : Nat} {s : State} : Moves [.dict, .cans, .freeUsed] s (doBusOff c s) := by
  unfold doBusOff
  repeat' first
    | dsimp only | intro _ _ | ((with_reducible apply Moves.after State.bumpSat_moves ?_ ?_); rfl)
    | ((with_reducible apply Moves.after State.dropOwner_moves ?_ ?_); rfl)
    | ((with_reducible apply Moves.after State.free_moves ?_ ?_); rfl)
    | ((with_reducible apply Moves.after State.modCan_moves ?_ ?_); rfl)
    | ((with_reducible apply Moves.after State.setReg_moves ?_ ?_); rfl) | split | (with_reducible exact Moves.refl)

theorem doBusOffRecovery_moves {c : Nat} {s : State} : Moves [.dict, .cans] s (doBusOffRecovery c s) := by
  unfold doBusOffRecovery
  repeat' first
    | dsimp only | intro _ _ | ((with_reducible apply Moves.after State.modCan_moves ?_ ?_); rfl)
    | ((with_reducible apply Moves.after State.setReg_moves ?_ ?_); rfl) | split | (with_reducible exact Moves.refl)

theorem State.usdoAnswer_moves {s : State} {c code len v : Nat} : Moves [.out] s (State.usdoAnswer s c code len v) := by
  unfold State.usdoAnswer
  repeat' first
    | dsimp only | ((with_reducible apply Moves.after State.emit_moves ?_ ?_); rfl)
    | (with_reducible exact Moves.refl)

theorem State.setSegment_moves {s : State} {c : Nat} {x : Option (Nat × Nat × Nat × Bool × List Byte)} : Moves [.cans] s (State.setSegment s c x) := by
  unfold State.setSegment
  repeat' first
    | dsimp only | intro _ _ | ((with_reducible apply Moves.after State.modCan_moves ?_ ?_); rfl)
    | (with_reducible exact Moves.refl)

theorem State.usdoWrite_moves {s : State} {c ix sub len v : Nat} : Moves [.dict, .accepted, .selects, .latches, .replies, .mem, .flips, .hostMem, .xlat, .xlatShadow, .queues, .syncs, .time, .boot, .skeins, .spindles, .calderas, .channels, .scrubPending, .bankTargets, .plans, .cameras, .chains, .decoders, .lanes, .gatherQueue, .gatherBusy, .blocks, .engines, .jobOrder, .nextBlock, .launches, .ptpPending, .speedAt, .safety, .mailboxes, .mirrorQueue, .cans, .busMaster, .d3hot, .msixTable, .links, .discovery, .dbg, .freeUsed, .out] s (State.usdoWrite s c ix sub len v) := by
  unfold State.usdoWrite
  repeat' first
    | dsimp only | ((with_reducible apply Moves.after State.odWrite_moves ?_ ?_); rfl)
    | ((with_reducible apply Moves.after State.usdoAnswer_moves ?_ ?_); rfl) | (with_reducible exact Moves.refl)

theorem State.usdoSegment_moves {s : State} {c : Nat} {toggle : Bool} {bytes : List Byte} : Moves [.dict, .accepted, .selects, .latches, .replies, .mem, .flips, .hostMem, .xlat, .xlatShadow, .queues, .syncs, .time, .boot, .skeins, .spindles, .calderas, .channels, .scrubPending, .bankTargets, .plans, .cameras, .chains, .decoders, .lanes, .gatherQueue, .gatherBusy, .blocks, .engines, .jobOrder, .nextBlock, .launches, .ptpPending, .speedAt, .safety, .mailboxes, .mirrorQueue, .cans, .busMaster, .d3hot, .msixTable, .links, .discovery, .dbg, .freeUsed, .out] s (State.usdoSegment s c toggle bytes) := by
  unfold State.usdoSegment
  repeat' first
    | dsimp only | ((with_reducible apply Moves.after State.setSegment_moves ?_ ?_); rfl)
    | ((with_reducible apply Moves.after State.usdoAnswer_moves ?_ ?_); rfl)
    | ((with_reducible apply Moves.after State.usdoWrite_moves ?_ ?_); rfl) | split
    | (with_reducible exact Moves.refl)

theorem doUsdoRequest_moves {c : Nat} {m : UsdoMessage} {s : State} : Moves [.dict, .accepted, .selects, .latches, .replies, .mem, .flips, .hostMem, .xlat, .xlatShadow, .queues, .syncs, .time, .boot, .skeins, .spindles, .calderas, .channels, .scrubPending, .bankTargets, .plans, .cameras, .chains, .decoders, .lanes, .gatherQueue, .gatherBusy, .blocks, .engines, .jobOrder, .nextBlock, .launches, .ptpPending, .speedAt, .safety, .mailboxes, .mirrorQueue, .cans, .busMaster, .d3hot, .msixTable, .links, .discovery, .dbg, .freeUsed, .out] s (doUsdoRequest c m s) := by
  unfold doUsdoRequest
  repeat' first
    | dsimp only | ((with_reducible apply Moves.after State.odRead_moves ?_ ?_); rfl)
    | ((with_reducible apply Moves.after State.setSegment_moves ?_ ?_); rfl)
    | ((with_reducible apply Moves.after State.usdoAnswer_moves ?_ ?_); rfl)
    | ((with_reducible apply Moves.after State.usdoSegment_moves ?_ ?_); rfl)
    | ((with_reducible apply Moves.after State.usdoWrite_moves ?_ ?_); rfl) | split
    | (with_reducible exact Moves.refl)

theorem doUsdoTimeout_moves {c : Nat} {s : State} : Moves [.cans, .out] s (doUsdoTimeout c s) := by
  unfold doUsdoTimeout
  repeat' first
    | dsimp only | ((with_reducible apply Moves.after State.setSegment_moves ?_ ?_); rfl)
    | ((with_reducible apply Moves.after State.usdoAnswer_moves ?_ ?_); rfl) | split
    | (with_reducible exact Moves.refl)

theorem State.rpdoWrite_moves {s t : State} {c : Nat} {ms : List Nat} {data : List Byte} (h : State.rpdoWrite c ms data s = some t) :
    Moves [.dict, .accepted, .selects, .latches, .replies, .mem, .flips, .hostMem, .xlat, .xlatShadow, .queues, .syncs, .time, .boot, .skeins, .spindles, .calderas, .channels, .scrubPending, .bankTargets, .plans, .cameras, .chains, .decoders, .lanes, .gatherQueue, .gatherBusy, .blocks, .engines, .jobOrder, .nextBlock, .launches, .ptpPending, .speedAt, .safety, .mailboxes, .mirrorQueue, .cans, .busMaster, .d3hot, .msixTable, .links, .discovery, .dbg, .freeUsed, .out] s t := by
  induction ms generalizing s data with
  | nil => cases h; exact Moves.refl
  | cons m r ih =>
    unfold State.rpdoWrite at h
    dsimp only at h
    split at h
    · cases h
    · split at h
      · cases h
      · exact (ih h).after rfl State.odWrite_moves

theorem State.rpdoApply_moves {s : State} {c n : Nat} {data : List Byte} : Moves [.dict, .accepted, .selects, .latches, .replies, .mem, .flips, .hostMem, .xlat, .xlatShadow, .queues, .syncs, .time, .boot, .skeins, .spindles, .calderas, .channels, .scrubPending, .bankTargets, .plans, .cameras, .chains, .decoders, .lanes, .gatherQueue, .gatherBusy, .blocks, .engines, .jobOrder, .nextBlock, .launches, .ptpPending, .speedAt, .safety, .mailboxes, .mirrorQueue, .cans, .busMaster, .d3hot, .msixTable, .links, .discovery, .dbg, .freeUsed, .out] s (State.rpdoApply s c n data) := by
  unfold State.rpdoApply
  repeat' first
    | dsimp only | ((with_reducible apply Moves.after State.bumpSat_moves ?_ ?_); rfl)
    | (with_reducible exact State.rpdoWrite_moves (by assumption)) | split | (with_reducible exact Moves.refl)

theorem doRpdoReceived_moves {c cob : Nat} {data : List Byte} {s : State} : Moves [.dict, .accepted, .selects, .latches, .replies, .mem, .flips, .hostMem, .xlat, .xlatShadow, .queues, .syncs, .time, .boot, .skeins, .spindles, .calderas, .channels, .scrubPending, .bankTargets, .plans, .cameras, .chains, .decoders, .lanes, .gatherQueue, .gatherBusy, .blocks, .engines, .jobOrder, .nextBlock, .launches, .ptpPending, .speedAt, .safety, .mailboxes, .mirrorQueue, .cans, .busMaster, .d3hot, .msixTable, .links, .discovery, .dbg, .freeUsed, .out] s (doRpdoReceived c cob data s) := by
  unfold doRpdoReceived
  repeat' first
    | dsimp only | intro _ _ | with_reducible refine Moves.forEach ?_ ?_
    | ((with_reducible apply Moves.after State.modCan_moves ?_ ?_); rfl)
    | ((with_reducible apply Moves.after State.rpdoApply_moves ?_ ?_); rfl) | split
    | (with_reducible exact Moves.refl)

theorem State.tpdoEntry_moves {s : State} {c m : Nat} : MovesFst [.dict, .latches, .freeUsed] s (State.tpdoEntry s c m) := by
  unfold State.tpdoEntry
  repeat' first
    | dsimp only | ((with_reducible apply Moves.after State.fillProgress_moves ?_ ?_); rfl)
    | ((with_reducible apply Moves.after State.free_moves ?_ ?_); rfl)
    | ((with_reducible apply Moves.after State.readLatch_moves ?_ ?_); rfl) | split
    | (with_reducible exact Moves.refl)

theorem State.tpdoSend_moves {s : State} {c n : Nat} : Moves [.dict, .latches, .freeUsed, .out] s (State.tpdoSend s c n) := by
  unfold State.tpdoSend
  repeat' first
    | dsimp only | intro _ _ | with_reducible refine Moves.foldl ?_ ?_ | with_reducible refine MovesFst.foldl ?_ ?_
    | ((with_reducible apply Moves.after State.emit_moves ?_ ?_); rfl)
    | ((with_reducible apply Moves.after State.tpdoEntry_moves ?_ ?_); rfl) | (with_reducible exact Moves.refl)

theorem doSyncReceived_moves {c cob : Nat} {s : State} : Moves [.dict, .accepted, .selects, .latches, .replies, .mem, .flips, .hostMem, .xlat, .xlatShadow, .queues, .syncs, .time, .boot, .skeins, .spindles, .calderas, .channels, .scrubPending, .bankTargets, .plans, .cameras, .chains, .decoders, .lanes, .gatherQueue, .gatherBusy, .blocks, .engines, .jobOrder, .nextBlock, .launches, .ptpPending, .speedAt, .safety, .mailboxes, .mirrorQueue, .cans, .busMaster, .d3hot, .msixTable, .links, .discovery, .dbg, .freeUsed, .out] s (doSyncReceived c cob s) := by
  unfold doSyncReceived
  repeat' first
    | dsimp only | intro _ _ | with_reducible refine Moves.forEach ?_ ?_ | with_reducible refine Moves.foldl ?_ ?_
    | with_reducible refine MovesFst.foldl ?_ ?_
    | ((with_reducible apply Moves.after State.modCan_moves ?_ ?_); rfl)
    | ((with_reducible apply Moves.after State.rpdoApply_moves ?_ ?_); rfl)
    | ((with_reducible apply Moves.after State.tpdoSend_moves ?_ ?_); rfl) | split
    | (with_reducible exact Moves.refl)

theorem doTpdoTimer_moves {c n : Nat} {s : State} : Moves [.dict, .latches, .freeUsed, .out] s (doTpdoTimer c n s) := by
  unfold doTpdoTimer
  repeat' first
    | dsimp only | ((with_reducible apply Moves.after State.tpdoSend_moves ?_ ?_); rfl) | split
    | (with_reducible exact Moves.refl)

end Sys2Proof.Machine
end

