-- ==== Sys2Proof/Laws/PerInstr.lean ====
section
/-! SUPPORT. Laws: per command. Family `NoWord`: no word of the opcode table spells the command, since no row gives bits. -/
namespace Sys2Proof.Laws

/-- No word spells the command. -/
def NoWord.Statement (i : Instr) : Prop := ∀ nbits w, decodeTableWord nbits w ≠ some i

/-- What every lemma of the family rests on. -/
theorem noWord_all (i : Instr) : NoWord.Statement i := fun _ _ h => nomatch h

theorem NoWord.registerWrite : ∀ a0 a1 a2 a3 a4, NoWord.Statement (.registerWrite a0 a1 a2 a3 a4) := fun _ _ _ _ _ => noWord_all _
theorem NoWord.ownerWrite : ∀ a0 a1, NoWord.Statement (.ownerWrite a0 a1) := fun _ _ => noWord_all _
theorem NoWord.commit : ∀ a0, NoWord.Statement (.commit a0) := fun _ => noWord_all _
theorem NoWord.discard : ∀ a0, NoWord.Statement (.discard a0) := fun _ => noWord_all _
theorem NoWord.wheelPeriodStart : NoWord.Statement .wheelPeriodStart := noWord_all _
theorem NoWord.treadleSettingsApply : ∀ a0, NoWord.Statement (.treadleSettingsApply a0) := fun _ => noWord_all _
theorem NoWord.mailboxRequest : ∀ a0 a1, NoWord.Statement (.mailboxRequest a0 a1) := fun _ _ => noWord_all _
theorem NoWord.mailboxComplete : NoWord.Statement .mailboxComplete := noWord_all _
theorem NoWord.nmtStartRemoteNode : ∀ a0, NoWord.Statement (.nmtStartRemoteNode a0) := fun _ => noWord_all _
theorem NoWord.nmtStopRemoteNode : ∀ a0, NoWord.Statement (.nmtStopRemoteNode a0) := fun _ => noWord_all _
theorem NoWord.nmtEnterPreOperational : ∀ a0, NoWord.Statement (.nmtEnterPreOperational a0) := fun _ => noWord_all _
theorem NoWord.nmtResetNode : ∀ a0, NoWord.Statement (.nmtResetNode a0) := fun _ => noWord_all _
theorem NoWord.nmtResetCommunication : ∀ a0, NoWord.Statement (.nmtResetCommunication a0) := fun _ => noWord_all _
theorem NoWord.usdoRequest : ∀ a0 a1, NoWord.Statement (.usdoRequest a0 a1) := fun _ _ => noWord_all _
theorem NoWord.usdoTimeout : ∀ a0, NoWord.Statement (.usdoTimeout a0) := fun _ => noWord_all _
theorem NoWord.heartbeat : ∀ a0, NoWord.Statement (.heartbeat a0) := fun _ => noWord_all _
theorem NoWord.syncReceived : ∀ a0 a1, NoWord.Statement (.syncReceived a0 a1) := fun _ _ => noWord_all _
theorem NoWord.rpdoReceived : ∀ a0 a1 a2, NoWord.Statement (.rpdoReceived a0 a1 a2) := fun _ _ _ => noWord_all _
theorem NoWord.tpdoEventTimer : ∀ a0 a1, NoWord.Statement (.tpdoEventTimer a0 a1) := fun _ _ => noWord_all _
theorem NoWord.pdoMappingCountWrite : ∀ a0 a1 a2, NoWord.Statement (.pdoMappingCountWrite a0 a1 a2) := fun _ _ _ => noWord_all _
theorem NoWord.errorListClear : ∀ a0, NoWord.Statement (.errorListClear a0) := fun _ => noWord_all _
theorem NoWord.busOff : ∀ a0, NoWord.Statement (.busOff a0) := fun _ => noWord_all _
theorem NoWord.busOffRecovery : ∀ a0, NoWord.Statement (.busOffRecovery a0) := fun _ => noWord_all _
theorem NoWord.powerOn : NoWord.Statement .powerOn := noWord_all _
theorem NoWord.brownOut : ∀ a0, NoWord.Statement (.brownOut a0) := fun _ => noWord_all _
theorem NoWord.referenceClockFailure : NoWord.Statement .referenceClockFailure := noWord_all _
theorem NoWord.pllLockLost : ∀ a0, NoWord.Statement (.pllLockLost a0) := fun _ => noWord_all _
theorem NoWord.resetNLow : NoWord.Statement .resetNLow := noWord_all _
theorem NoWord.resetNRise : NoWord.Statement .resetNRise := noWord_all _
theorem NoWord.watchdog : NoWord.Statement .watchdog := noWord_all _
theorem NoWord.managementLockUp : NoWord.Statement .managementLockUp := noWord_all _
theorem NoWord.reset : ∀ a0, NoWord.Statement (.reset a0) := fun _ => noWord_all _
theorem NoWord.perstNLow : NoWord.Statement .perstNLow := noWord_all _
theorem NoWord.perstNRise : NoWord.Statement .perstNRise := noWord_all _
theorem NoWord.domainRelease : NoWord.Statement .domainRelease := noWord_all _
theorem NoWord.pllLockTimeout : ∀ a0, NoWord.Statement (.pllLockTimeout a0) := fun _ => noWord_all _
theorem NoWord.memoryFillComplete : NoWord.Statement .memoryFillComplete := noWord_all _
theorem NoWord.spiHeaderTimeout : NoWord.Statement .spiHeaderTimeout := noWord_all _
theorem NoWord.imageVerify : ∀ a0, NoWord.Statement (.imageVerify a0) := fun _ => noWord_all _
theorem NoWord.firmwareLoad : ∀ a0, NoWord.Statement (.firmwareLoad a0) := fun _ => noWord_all _
theorem NoWord.firmwareProgram : ∀ a0, NoWord.Statement (.firmwareProgram a0) := fun _ => noWord_all _
theorem NoWord.firmwareProgramComplete : ∀ a0, NoWord.Statement (.firmwareProgramComplete a0) := fun _ => noWord_all _
theorem NoWord.optionProgram : ∀ a0 a1, NoWord.Statement (.optionProgram a0 a1) := fun _ _ => noWord_all _
theorem NoWord.attest : ∀ a0, NoWord.Statement (.attest a0) := fun _ => noWord_all _
theorem NoWord.exportId : ∀ a0, NoWord.Statement (.exportId a0) := fun _ => noWord_all _
theorem NoWord.svnCommit : ∀ a0, NoWord.Statement (.svnCommit a0) := fun _ => noWord_all _
theorem NoWord.loadPatternKey : ∀ a0, NoWord.Statement (.loadPatternKey a0) := fun _ => noWord_all _
theorem NoWord.calderaPowerOff : ∀ a0 a1, NoWord.Statement (.calderaPowerOff a0 a1) := fun _ _ => noWord_all _
theorem NoWord.calderaPowerOn : ∀ a0 a1, NoWord.Statement (.calderaPowerOn a0 a1) := fun _ _ => noWord_all _
theorem NoWord.calderaPowerOnComplete : ∀ a0, NoWord.Statement (.calderaPowerOnComplete a0) := fun _ => noWord_all _
theorem NoWord.calderaReset : ∀ a0 a1, NoWord.Statement (.calderaReset a0 a1) := fun _ _ => noWord_all _
theorem NoWord.calderaResetComplete : ∀ a0 a1, NoWord.Statement (.calderaResetComplete a0 a1) := fun _ _ => noWord_all _
theorem NoWord.railSample : ∀ a0 a1, NoWord.Statement (.railSample a0 a1) := fun _ _ => noWord_all _
theorem NoWord.streamStart : ∀ a0 a1, NoWord.Statement (.streamStart a0 a1) := fun _ _ => noWord_all _
theorem NoWord.abandon : ∀ a0 a1, NoWord.Statement (.abandon a0 a1) := fun _ _ => noWord_all _
theorem NoWord.clearFlags : ∀ a0 a1, NoWord.Statement (.clearFlags a0 a1) := fun _ _ => noWord_all _
theorem NoWord.prefetchRead : ∀ a0, NoWord.Statement (.prefetchRead a0) := fun _ => noWord_all _
theorem NoWord.descriptorDispatch : ∀ a0, NoWord.Statement (.descriptorDispatch a0) := fun _ => noWord_all _
theorem NoWord.load : ∀ a0 a1, NoWord.Statement (.load a0 a1) := fun _ _ => noWord_all _
theorem NoWord.loadQpop : ∀ a0 a1, NoWord.Statement (.loadQpop a0 a1) := fun _ _ => noWord_all _
theorem NoWord.store : ∀ a0 a1, NoWord.Statement (.store a0 a1) := fun _ _ => noWord_all _
theorem NoWord.matmul : ∀ a0 a1, NoWord.Statement (.matmul a0 a1) := fun _ _ => noWord_all _
theorem NoWord.unroll : ∀ a0 a1, NoWord.Statement (.unroll a0 a1) := fun _ _ => noWord_all _
theorem NoWord.maxIncl : ∀ a0 a1, NoWord.Statement (.maxIncl a0 a1) := fun _ _ => noWord_all _
theorem NoWord.maxExcl : ∀ a0 a1, NoWord.Statement (.maxExcl a0 a1) := fun _ _ => noWord_all _
theorem NoWord.avgIncl : ∀ a0 a1, NoWord.Statement (.avgIncl a0 a1) := fun _ _ => noWord_all _
theorem NoWord.avgExcl : ∀ a0 a1, NoWord.Statement (.avgExcl a0 a1) := fun _ _ => noWord_all _
theorem NoWord.drain : ∀ a0 a1, NoWord.Statement (.drain a0 a1) := fun _ _ => noWord_all _
theorem NoWord.add : ∀ a0 a1, NoWord.Statement (.add a0 a1) := fun _ _ => noWord_all _
theorem NoWord.sub : ∀ a0 a1, NoWord.Statement (.sub a0 a1) := fun _ _ => noWord_all _
theorem NoWord.mul : ∀ a0 a1, NoWord.Statement (.mul a0 a1) := fun _ _ => noWord_all _
theorem NoWord.fma : ∀ a0 a1, NoWord.Statement (.fma a0 a1) := fun _ _ => noWord_all _
theorem NoWord.min : ∀ a0 a1, NoWord.Statement (.min a0 a1) := fun _ _ => noWord_all _
theorem NoWord.max : ∀ a0 a1, NoWord.Statement (.max a0 a1) := fun _ _ => noWord_all _
theorem NoWord.shr : ∀ a0 a1, NoWord.Statement (.shr a0 a1) := fun _ _ => noWord_all _
theorem NoWord.cvt : ∀ a0 a1, NoWord.Statement (.cvt a0 a1) := fun _ _ => noWord_all _
theorem NoWord.tbl : ∀ a0 a1, NoWord.Statement (.tbl a0 a1) := fun _ _ => noWord_all _
theorem NoWord.reduceSum : ∀ a0 a1, NoWord.Statement (.reduceSum a0 a1) := fun _ _ => noWord_all _
theorem NoWord.reduceMax : ∀ a0 a1, NoWord.Statement (.reduceMax a0 a1) := fun _ _ => noWord_all _
theorem NoWord.reduceMin : ∀ a0 a1, NoWord.Statement (.reduceMin a0 a1) := fun _ _ => noWord_all _
theorem NoWord.table : ∀ a0 a1, NoWord.Statement (.table a0 a1) := fun _ _ => noWord_all _
theorem NoWord.wait : ∀ a0 a1, NoWord.Statement (.wait a0 a1) := fun _ _ => noWord_all _
theorem NoWord.waitTimeout : ∀ a0, NoWord.Statement (.waitTimeout a0) := fun _ => noWord_all _
theorem NoWord.signalAdd : ∀ a0 a1, NoWord.Statement (.signalAdd a0 a1) := fun _ _ => noWord_all _
theorem NoWord.signalSet : ∀ a0 a1, NoWord.Statement (.signalSet a0 a1) := fun _ _ => noWord_all _
theorem NoWord.signalReleaseApply : ∀ a0 a1, NoWord.Statement (.signalReleaseApply a0 a1) := fun _ _ => noWord_all _
theorem NoWord.fence : ∀ a0 a1, NoWord.Statement (.fence a0 a1) := fun _ _ => noWord_all _
theorem NoWord.digestInit : ∀ a0 a1, NoWord.Statement (.digestInit a0 a1) := fun _ _ => noWord_all _
theorem NoWord.digestAbsorb : ∀ a0 a1, NoWord.Statement (.digestAbsorb a0 a1) := fun _ _ => noWord_all _
theorem NoWord.digestFinal : ∀ a0 a1, NoWord.Statement (.digestFinal a0 a1) := fun _ _ => noWord_all _
theorem NoWord.wopen : ∀ a0 a1, NoWord.Statement (.wopen a0 a1) := fun _ _ => noWord_all _
theorem NoWord.wclose : ∀ a0 a1, NoWord.Statement (.wclose a0 a1) := fun _ _ => noWord_all _
theorem NoWord.send : ∀ a0 a1, NoWord.Statement (.send a0 a1) := fun _ _ => noWord_all _
theorem NoWord.sendQueue : ∀ a0 a1, NoWord.Statement (.sendQueue a0 a1) := fun _ _ => noWord_all _
theorem NoWord.endStream : ∀ a0 a1, NoWord.Statement (.endStream a0 a1) := fun _ _ => noWord_all _
theorem NoWord.endLoop : ∀ a0 a1, NoWord.Statement (.endLoop a0 a1) := fun _ _ => noWord_all _
theorem NoWord.shadowLoadStart : ∀ a0, NoWord.Statement (.shadowLoadStart a0) := fun _ => noWord_all _
theorem NoWord.shadowLoadComplete : ∀ a0, NoWord.Statement (.shadowLoadComplete a0) := fun _ => noWord_all _
theorem NoWord.instructionIssue : ∀ a0, NoWord.Statement (.instructionIssue a0) := fun _ => noWord_all _
theorem NoWord.resultLand : ∀ a0, NoWord.Statement (.resultLand a0) := fun _ => noWord_all _
theorem NoWord.drainBegin : ∀ a0, NoWord.Statement (.drainBegin a0) := fun _ => noWord_all _
theorem NoWord.treadleFrameStart : ∀ a0, NoWord.Statement (.treadleFrameStart a0) := fun _ => noWord_all _
theorem NoWord.treadleTick : ∀ a0 a1, NoWord.Statement (.treadleTick a0 a1) := fun _ _ => noWord_all _
theorem NoWord.stepHandshakeComplete : ∀ a0, NoWord.Statement (.stepHandshakeComplete a0) := fun _ => noWord_all _
theorem NoWord.reservedSlotBegin : ∀ a0, NoWord.Statement (.reservedSlotBegin a0) := fun _ => noWord_all _
theorem NoWord.reservedSlotEnd : ∀ a0, NoWord.Statement (.reservedSlotEnd a0) := fun _ => noWord_all _
theorem NoWord.completionDelivery : ∀ a0 a1 a2, NoWord.Statement (.completionDelivery a0 a1 a2) := fun _ _ _ => noWord_all _
theorem NoWord.externalEventEffect : ∀ a0, NoWord.Statement (.externalEventEffect a0) := fun _ => noWord_all _
theorem NoWord.planLoad : ∀ a0 a1, NoWord.Statement (.planLoad a0 a1) := fun _ _ => noWord_all _
theorem NoWord.planLoadComplete : ∀ a0, NoWord.Statement (.planLoadComplete a0) := fun _ => noWord_all _
theorem NoWord.activate : ∀ a0 a1, NoWord.Statement (.activate a0 a1) := fun _ _ => noWord_all _
theorem NoWord.planStart : ∀ a0, NoWord.Statement (.planStart a0) := fun _ => noWord_all _
theorem NoWord.unload : ∀ a0 a1, NoWord.Statement (.unload a0 a1) := fun _ _ => noWord_all _
theorem NoWord.queueEnable : ∀ a0, NoWord.Statement (.queueEnable a0) := fun _ => noWord_all _
theorem NoWord.queueDisable : ∀ a0, NoWord.Statement (.queueDisable a0) := fun _ => noWord_all _
theorem NoWord.queuePush : ∀ a0 a1 a2, NoWord.Statement (.queuePush a0 a1 a2) := fun _ _ _ => noWord_all _
theorem NoWord.queuePop : ∀ a0 a1, NoWord.Statement (.queuePop a0 a1) := fun _ _ => noWord_all _
theorem NoWord.syncValueWrite : ∀ a0 a1, NoWord.Statement (.syncValueWrite a0 a1) := fun _ _ => noWord_all _
theorem NoWord.syncAddWrite : ∀ a0 a1, NoWord.Statement (.syncAddWrite a0 a1) := fun _ _ => noWord_all _
theorem NoWord.hostMemoryRead : ∀ a0 a1 a2, NoWord.Statement (.hostMemoryRead a0 a1 a2) := fun _ _ _ => noWord_all _
theorem NoWord.hostMemoryWrite : ∀ a0 a1 a2, NoWord.Statement (.hostMemoryWrite a0 a1 a2) := fun _ _ _ => noWord_all _
theorem NoWord.bar0RefusedAccess : ∀ a0 a1 a2, NoWord.Statement (.bar0RefusedAccess a0 a1 a2) := fun _ _ _ => noWord_all _
theorem NoWord.doorbellPush : ∀ a0 a1 a2, NoWord.Statement (.doorbellPush a0 a1 a2) := fun _ _ _ => noWord_all _
theorem NoWord.doorbellPop : ∀ a0 a1 a2, NoWord.Statement (.doorbellPop a0 a1 a2) := fun _ _ _ => noWord_all _
theorem NoWord.syncDoorbellWrite : ∀ a0 a1 a2, NoWord.Statement (.syncDoorbellWrite a0 a1 a2) := fun _ _ _ => noWord_all _
theorem NoWord.remoteWrite : ∀ a0, NoWord.Statement (.remoteWrite a0) := fun _ => noWord_all _
theorem NoWord.remoteWriteLand : ∀ a0, NoWord.Statement (.remoteWriteLand a0) := fun _ => noWord_all _
theorem NoWord.channelAccessSlot : ∀ a0, NoWord.Statement (.channelAccessSlot a0) := fun _ => noWord_all _
theorem NoWord.refreshBusy : ∀ a0, NoWord.Statement (.refreshBusy a0) := fun _ => noWord_all _
theorem NoWord.scrubRead : NoWord.Statement .scrubRead := noWord_all _
theorem NoWord.scrubWriteBack : NoWord.Statement .scrubWriteBack := noWord_all _
theorem NoWord.wcFlush : ∀ a0 a1, NoWord.Statement (.wcFlush a0 a1) := fun _ _ => noWord_all _
theorem NoWord.wcLineFetchComplete : ∀ a0, NoWord.Statement (.wcLineFetchComplete a0) := fun _ => noWord_all _
theorem NoWord.bankOff : ∀ a0 a1, NoWord.Statement (.bankOff a0 a1) := fun _ _ => noWord_all _
theorem NoWord.bankRetain : ∀ a0 a1, NoWord.Statement (.bankRetain a0 a1) := fun _ _ => noWord_all _
theorem NoWord.bankOn : ∀ a0 a1, NoWord.Statement (.bankOn a0 a1) := fun _ _ => noWord_all _
theorem NoWord.bankCloseComplete : ∀ a0, NoWord.Statement (.bankCloseComplete a0) := fun _ => noWord_all _
theorem NoWord.bankOpenComplete : ∀ a0, NoWord.Statement (.bankOpenComplete a0) := fun _ => noWord_all _
theorem NoWord.aphyLinkUp : ∀ a0, NoWord.Statement (.aphyLinkUp a0) := fun _ => noWord_all _
theorem NoWord.aphyLinkLoss : ∀ a0, NoWord.Statement (.aphyLinkLoss a0) := fun _ => noWord_all _
theorem NoWord.frameStart : ∀ a0 a1 a2, NoWord.Statement (.frameStart a0 a1 a2) := fun _ _ _ => noWord_all _
theorem NoWord.frameEnd : ∀ a0 a1, NoWord.Statement (.frameEnd a0 a1) := fun _ _ => noWord_all _
theorem NoWord.lineStart : ∀ a0 a1 a2, NoWord.Statement (.lineStart a0 a1 a2) := fun _ _ _ => noWord_all _
theorem NoWord.lineEnd : ∀ a0 a1, NoWord.Statement (.lineEnd a0 a1) := fun _ _ => noWord_all _
theorem NoWord.imageLine : ∀ a0 a1 a2 a3 a4, NoWord.Statement (.imageLine a0 a1 a2 a3 a4) := fun _ _ _ _ _ => noWord_all _
theorem NoWord.unmappedPacket : ∀ a0, NoWord.Statement (.unmappedPacket a0) := fun _ => noWord_all _
theorem NoWord.frameTimeout : ∀ a0, NoWord.Statement (.frameTimeout a0) := fun _ => noWord_all _
theorem NoWord.missingFrame : ∀ a0, NoWord.Statement (.missingFrame a0) := fun _ => noWord_all _
theorem NoWord.cameraStreamEnable : ∀ a0 a1, NoWord.Statement (.cameraStreamEnable a0 a1) := fun _ _ => noWord_all _
theorem NoWord.cameraStreamDisable : ∀ a0 a1, NoWord.Statement (.cameraStreamDisable a0 a1) := fun _ _ => noWord_all _
theorem NoWord.ethernetFrameReceived : ∀ a0 a1 a2, NoWord.Statement (.ethernetFrameReceived a0 a1 a2) := fun _ _ _ => noWord_all _
theorem NoWord.reassemblyTimeout : ∀ a0, NoWord.Statement (.reassemblyTimeout a0) := fun _ => noWord_all _
theorem NoWord.rangeLinkLoss : ∀ a0, NoWord.Statement (.rangeLinkLoss a0) := fun _ => noWord_all _
theorem NoWord.sampleTake : ∀ a0, NoWord.Statement (.sampleTake a0) := fun _ => noWord_all _
theorem NoWord.sampleDecodeComplete : ∀ a0, NoWord.Statement (.sampleDecodeComplete a0) := fun _ => noWord_all _
theorem NoWord.samplePush : ∀ a0, NoWord.Statement (.samplePush a0) := fun _ => noWord_all _
theorem NoWord.sampleBudgetExpiry : ∀ a0 a1, NoWord.Statement (.sampleBudgetExpiry a0 a1) := fun _ _ => noWord_all _
theorem NoWord.pointPop : NoWord.Statement .pointPop := noWord_all _
theorem NoWord.projectionStart : ∀ a0, NoWord.Statement (.projectionStart a0) := fun _ => noWord_all _
theorem NoWord.projectionComplete : ∀ a0, NoWord.Statement (.projectionComplete a0) := fun _ => noWord_all _
theorem NoWord.rowLand : ∀ a0 a1, NoWord.Statement (.rowLand a0 a1) := fun _ _ => noWord_all _
theorem NoWord.slotGather : ∀ a0, NoWord.Statement (.slotGather a0) := fun _ => noWord_all _
theorem NoWord.slotGatherComplete : ∀ a0, NoWord.Statement (.slotGatherComplete a0) := fun _ => noWord_all _
theorem NoWord.batchPush : ∀ a0, NoWord.Statement (.batchPush a0) := fun _ => noWord_all _
theorem NoWord.batchPushTimeout : ∀ a0, NoWord.Statement (.batchPushTimeout a0) := fun _ => noWord_all _
theorem NoWord.jobPop : ∀ a0, NoWord.Statement (.jobPop a0) := fun _ => noWord_all _
theorem NoWord.jobComplete : ∀ a0, NoWord.Statement (.jobComplete a0) := fun _ => noWord_all _
theorem NoWord.jobPush : ∀ a0, NoWord.Statement (.jobPush a0) := fun _ => noWord_all _
theorem NoWord.jobBudgetExpiry : ∀ a0, NoWord.Statement (.jobBudgetExpiry a0) := fun _ => noWord_all _
theorem NoWord.step : ∀ a0, NoWord.Statement (.step a0) := fun _ => noWord_all _
theorem NoWord.slew : ∀ a0, NoWord.Statement (.slew a0) := fun _ => noWord_all _
theorem NoWord.cancelSlew : ∀ a0, NoWord.Statement (.cancelSlew a0) := fun _ => noWord_all _
theorem NoWord.ptpSyncReceived : ∀ a0 a1 a2, NoWord.Statement (.ptpSyncReceived a0 a1 a2) := fun _ _ _ => noWord_all _
theorem NoWord.delayReqSend : ∀ a0, NoWord.Statement (.delayReqSend a0) := fun _ => noWord_all _
theorem NoWord.syncTimeout : NoWord.Statement .syncTimeout := noWord_all _
theorem NoWord.holdoverLimitExpiry : NoWord.Statement .holdoverLimitExpiry := noWord_all _
theorem NoWord.ptpEventForward : ∀ a0 a1 a2 a3 a4, NoWord.Statement (.ptpEventForward a0 a1 a2 a3 a4) := fun _ _ _ _ _ => noWord_all _
theorem NoWord.pdelayExchange : ∀ a0 a1, NoWord.Statement (.pdelayExchange a0 a1) := fun _ _ => noWord_all _
theorem NoWord.gptpSyncRelay : ∀ a0 a1 a2 a3, NoWord.Statement (.gptpSyncRelay a0 a1 a2 a3) := fun _ _ _ _ => noWord_all _
theorem NoWord.triggerEdge : ∀ a0 a1, NoWord.Statement (.triggerEdge a0 a1) := fun _ _ => noWord_all _
theorem NoWord.launchEntryMap : ∀ a0, NoWord.Statement (.launchEntryMap a0) := fun _ => noWord_all _
theorem NoWord.launchFrameSend : ∀ a0, NoWord.Statement (.launchFrameSend a0) := fun _ => noWord_all _
theorem NoWord.keepalive : ∀ a0, NoWord.Statement (.keepalive a0) := fun _ => noWord_all _
theorem NoWord.launchQueueEnable : ∀ a0 a1, NoWord.Statement (.launchQueueEnable a0 a1) := fun _ _ => noWord_all _
theorem NoWord.launchQueueDisable : ∀ a0 a1, NoWord.Statement (.launchQueueDisable a0 a1) := fun _ _ => noWord_all _
theorem NoWord.speedWrite : ∀ a0 a1, NoWord.Statement (.speedWrite a0 a1) := fun _ _ => noWord_all _
theorem NoWord.outputLinkLoss : ∀ a0, NoWord.Statement (.outputLinkLoss a0) := fun _ => noWord_all _
theorem NoWord.faultDetect : ∀ a0 a1 a2 a3, NoWord.Statement (.faultDetect a0 a1 a2 a3) := fun _ _ _ _ => noWord_all _
theorem NoWord.warning : ∀ a0 a1 a2 a3, NoWord.Statement (.warning a0 a1 a2 a3) := fun _ _ _ _ => noWord_all _
theorem NoWord.monitorRefresh : NoWord.Statement .monitorRefresh := noWord_all _
theorem NoWord.monitor : NoWord.Statement .monitor := noWord_all _
theorem NoWord.faultRetry : ∀ a0 a1, NoWord.Statement (.faultRetry a0 a1) := fun _ _ => noWord_all _
theorem NoWord.ack : ∀ a0 a1, NoWord.Statement (.ack a0 a1) := fun _ _ => noWord_all _
theorem NoWord.checkpointCompare : ∀ a0, NoWord.Statement (.checkpointCompare a0) := fun _ => noWord_all _
theorem NoWord.compareTimeout : ∀ a0, NoWord.Statement (.compareTimeout a0) := fun _ => noWord_all _
theorem NoWord.watchCheck : ∀ a0 a1, NoWord.Statement (.watchCheck a0 a1) := fun _ _ => noWord_all _
theorem NoWord.selftestElement : ∀ a0 a1, NoWord.Statement (.selftestElement a0 a1) := fun _ _ => noWord_all _
theorem NoWord.sweepLate : ∀ a0, NoWord.Statement (.sweepLate a0) := fun _ => noWord_all _
theorem NoWord.ioCheckerTest : ∀ a0, NoWord.Statement (.ioCheckerTest a0) := fun _ => noWord_all _
theorem NoWord.geyserTick : ∀ a0, NoWord.Statement (.geyserTick a0) := fun _ => noWord_all _
theorem NoWord.install : ∀ a0, NoWord.Statement (.install a0) := fun _ => noWord_all _
theorem NoWord.mgmtEntry : NoWord.Statement .mgmtEntry := noWord_all _
theorem NoWord.pcieLinkDown : NoWord.Statement .pcieLinkDown := noWord_all _
theorem NoWord.linkTrained : ∀ a0 a1 a2, NoWord.Statement (.linkTrained a0 a1 a2) := fun _ _ _ => noWord_all _
theorem NoWord.linkGivenUp : ∀ a0, NoWord.Statement (.linkGivenUp a0) := fun _ => noWord_all _
theorem NoWord.dataFrameReceived : ∀ a0 a1 a2, NoWord.Statement (.dataFrameReceived a0 a1 a2) := fun _ _ _ => noWord_all _
theorem NoWord.lack : ∀ a0 a1, NoWord.Statement (.lack a0 a1) := fun _ _ => noWord_all _
theorem NoWord.lnak : ∀ a0 a1, NoWord.Statement (.lnak a0 a1) := fun _ _ => noWord_all _
theorem NoWord.credit : ∀ a0 a1 a2, NoWord.Statement (.credit a0 a1 a2) := fun _ _ _ => noWord_all _
theorem NoWord.replayTimeout : ∀ a0, NoWord.Statement (.replayTimeout a0) := fun _ => noWord_all _
theorem NoWord.resp : ∀ a0 a1 a2, NoWord.Statement (.resp a0 a1 a2) := fun _ _ _ => noWord_all _
theorem NoWord.discover : ∀ a0, NoWord.Statement (.discover a0) := fun _ => noWord_all _
theorem NoWord.retrain : ∀ a0, NoWord.Statement (.retrain a0) := fun _ => noWord_all _
theorem NoWord.hello : ∀ a0 a1 a2 a3 a4 a5, NoWord.Statement (.hello a0 a1 a2 a3 a4 a5) := fun _ _ _ _ _ _ => noWord_all _
theorem NoWord.converged : NoWord.Statement .converged := noWord_all _
theorem NoWord.count : ∀ a0 a1 a2 a3 a4, NoWord.Statement (.count a0 a1 a2 a3 a4) := fun _ _ _ _ _ => noWord_all _
theorem NoWord.done : ∀ a0 a1 a2 a3 a4, NoWord.Statement (.done a0 a1 a2 a3 a4) := fun _ _ _ _ _ => noWord_all _
theorem NoWord.extest : NoWord.Statement .extest := noWord_all _
theorem NoWord.samplePreload : NoWord.Statement .samplePreload := noWord_all _
theorem NoWord.dbgStatus : NoWord.Statement .dbgStatus := noWord_all _
theorem NoWord.dbgUnlock : ∀ a0 a1, NoWord.Statement (.dbgUnlock a0 a1) := fun _ _ => noWord_all _
theorem NoWord.dbgLock : NoWord.Statement .dbgLock := noWord_all _
theorem NoWord.dbgMemRead : ∀ a0, NoWord.Statement (.dbgMemRead a0) := fun _ => noWord_all _
theorem NoWord.dbgMemWrite : ∀ a0 a1, NoWord.Statement (.dbgMemWrite a0 a1) := fun _ _ => noWord_all _
theorem NoWord.dbgStop : ∀ a0 a1, NoWord.Statement (.dbgStop a0 a1) := fun _ _ => noWord_all _
theorem NoWord.dbgGrant : ∀ a0, NoWord.Statement (.dbgGrant a0) := fun _ => noWord_all _
theorem NoWord.dbgReset : NoWord.Statement .dbgReset := noWord_all _
theorem NoWord.idcode : NoWord.Statement .idcode := noWord_all _
theorem NoWord.bypass : ∀ a0, NoWord.Statement (.bypass a0) := fun _ => noWord_all _
theorem NoWord.globalStop : ∀ a0, NoWord.Statement (.globalStop a0) := fun _ => noWord_all _
theorem NoWord.partitionStop : ∀ a0, NoWord.Statement (.partitionStop a0) := fun _ => noWord_all _
theorem NoWord.release : ∀ a0, NoWord.Statement (.release a0) := fun _ => noWord_all _
theorem NoWord.cutComplete : NoWord.Statement .cutComplete := noWord_all _
theorem NoWord.traceSync : NoWord.Statement .traceSync := noWord_all _
theorem NoWord.counterEnable : ∀ a0 a1, NoWord.Statement (.counterEnable a0 a1) := fun _ _ => noWord_all _
theorem NoWord.rangeLinkUp : ∀ a0, NoWord.Statement (.rangeLinkUp a0) := fun _ => noWord_all _
theorem NoWord.outputLinkUp : ∀ a0, NoWord.Statement (.outputLinkUp a0) := fun _ => noWord_all _
theorem NoWord.pcieLinkUp : ∀ a0 a1, NoWord.Statement (.pcieLinkUp a0 a1) := fun _ _ => noWord_all _
theorem NoWord.completionTimeout : ∀ a0 a1, NoWord.Statement (.completionTimeout a0 a1) := fun _ _ => noWord_all _
theorem NoWord.configurationWrite : ∀ a0 a1, NoWord.Statement (.configurationWrite a0 a1) := fun _ _ => noWord_all _

end Sys2Proof.Laws
end

