-- ==== Sys2Proof/Laws/Regs.lean ====
section
/-! SUPPORT. Laws: which registers a sequence of updates keeps, and what an agent's admitted write answers. -/
namespace Sys2Proof.Safety

open Machine

theorem RegsKept.refl {rs : List (Nat × Nat)} {s : State} : RegsKept rs s s := fun _ _ _ _ => rfl

/-- An update of another part keeps every register. -/
theorem RegsKept.of_dict {rs : List (Nat × Nat)} {s t u : State} (h : RegsKept rs s t) (e : u.dict = t.dict) :
    RegsKept rs s u := fun ix sub hs hn => by
  have k := h ix sub hs hn
  rwa [State.reg, ← e] at k

/-- A listed register is stored. -/
theorem RegsKept.setReg {rs : List (Nat × Nat)} {s t : State} {ix sub v : Nat} (h : RegsKept rs s t) (hs : sub < 256)
    (hm : (ix, sub) ∈ rs) : RegsKept rs s (t.setReg ix sub v) := fun x y hy hn => by
  rw [State.reg_setReg_ne _ _ (odKey_ne hs hy (fun e => hn (e ▸ hm)))]
  exact h x y hy hn

theorem RegsKept.bumpBy {rs : List (Nat × Nat)} {s t : State} {ix sub n : Nat} (h : RegsKept rs s t) (hs : sub < 256)
    (hm : (ix, sub) ∈ rs) : RegsKept rs s (t.bumpBy ix sub n) := h.setReg hs hm

theorem RegsKept.bumpSat {rs : List (Nat × Nat)} {s t : State} {ix sub : Nat} (h : RegsKept rs s t) (hs : sub < 256)
    (hm : (ix, sub) ∈ rs) : RegsKept rs s (t.bumpSat ix sub) := h.setReg hs hm

theorem RegsKept.bumpSatBy {rs : List (Nat × Nat)} {s t : State} {ix sub n : Nat} (h : RegsKept rs s t) (hs : sub < 256)
    (hm : (ix, sub) ∈ rs) : RegsKept rs s (t.bumpSatBy ix sub n) := h.setReg hs hm

theorem RegsKept.maxReg {rs : List (Nat × Nat)} {s t : State} {ix sub v : Nat} (h : RegsKept rs s t) (hs : sub < 256)
    (hm : (ix, sub) ∈ rs) : RegsKept rs s (t.maxReg ix sub v) := by
  unfold State.maxReg
  split
  · exact h.setReg hs hm
  · exact h

/-! Updates of other parts. -/

theorem RegsKept.withAccepted {rs : List (Nat × Nat)} {s t : State} {x : Tbl Nat} (h : RegsKept rs s t) : RegsKept rs s (t.withAccepted x) :=
  fun x y hy hn => h x y hy hn
theorem RegsKept.withSelects {rs : List (Nat × Nat)} {s t : State} {x : Tbl Nat} (h : RegsKept rs s t) : RegsKept rs s (t.withSelects x) :=
  fun x y hy hn => h x y hy hn
theorem RegsKept.withLatches {rs : List (Nat × Nat)} {s t : State} {x : Tbl Nat} (h : RegsKept rs s t) : RegsKept rs s (t.withLatches x) :=
  fun x y hy hn => h x y hy hn
theorem RegsKept.withReplies {rs : List (Nat × Nat)} {s t : State} {x : Tbl (Nat × Nat)} (h : RegsKept rs s t) : RegsKept rs s (t.withReplies x) :=
  fun x y hy hn => h x y hy hn
theorem RegsKept.withMem {rs : List (Nat × Nat)} {s t : State} {x : List Host.Cell} (h : RegsKept rs s t) : RegsKept rs s (t.withMem x) :=
  fun x y hy hn => h x y hy hn
theorem RegsKept.withFlips {rs : List (Nat × Nat)} {s t : State} {x : Tbl Nat} (h : RegsKept rs s t) : RegsKept rs s (t.withFlips x) :=
  fun x y hy hn => h x y hy hn
theorem RegsKept.withHostMem {rs : List (Nat × Nat)} {s t : State} {x : List Host.Cell} (h : RegsKept rs s t) : RegsKept rs s (t.withHostMem x) :=
  fun x y hy hn => h x y hy hn
theorem RegsKept.withXlat {rs : List (Nat × Nat)} {s t : State} {x : Tbl Nat} (h : RegsKept rs s t) : RegsKept rs s (t.withXlat x) :=
  fun x y hy hn => h x y hy hn
theorem RegsKept.withXlatShadow {rs : List (Nat × Nat)} {s t : State} {x : Tbl Nat} (h : RegsKept rs s t) : RegsKept rs s (t.withXlatShadow x) :=
  fun x y hy hn => h x y hy hn
theorem RegsKept.withScrubPending {rs : List (Nat × Nat)} {s t : State} {x : Option Nat} (h : RegsKept rs s t) : RegsKept rs s (t.withScrubPending x) :=
  fun x y hy hn => h x y hy hn
theorem RegsKept.withBankTargets {rs : List (Nat × Nat)} {s t : State} {x : Tbl Nat} (h : RegsKept rs s t) : RegsKept rs s (t.withBankTargets x) :=
  fun x y hy hn => h x y hy hn
theorem RegsKept.withChains {rs : List (Nat × Nat)} {s t : State} {x : Tbl (List Byte)} (h : RegsKept rs s t) : RegsKept rs s (t.withChains x) :=
  fun x y hy hn => h x y hy hn
theorem RegsKept.withLanes {rs : List (Nat × Nat)} {s t : State} {x : List Nat} (h : RegsKept rs s t) : RegsKept rs s (t.withLanes x) :=
  fun x y hy hn => h x y hy hn
theorem RegsKept.withGatherQueue {rs : List (Nat × Nat)} {s t : State} {x : List GatherSlot} (h : RegsKept rs s t) : RegsKept rs s (t.withGatherQueue x) :=
  fun x y hy hn => h x y hy hn
theorem RegsKept.withGatherBusy {rs : List (Nat × Nat)} {s t : State} {x : Tbl GatherSlot} (h : RegsKept rs s t) : RegsKept rs s (t.withGatherBusy x) :=
  fun x y hy hn => h x y hy hn
theorem RegsKept.withBlocks {rs : List (Nat × Nat)} {s t : State} {x : Tbl (List Byte)} (h : RegsKept rs s t) : RegsKept rs s (t.withBlocks x) :=
  fun x y hy hn => h x y hy hn
theorem RegsKept.withEngines {rs : List (Nat × Nat)} {s t : State} {x : Tbl Job} (h : RegsKept rs s t) : RegsKept rs s (t.withEngines x) :=
  fun x y hy hn => h x y hy hn
theorem RegsKept.withJobOrder {rs : List (Nat × Nat)} {s t : State} {x : Nat} (h : RegsKept rs s t) : RegsKept rs s (t.withJobOrder x) :=
  fun x y hy hn => h x y hy hn
theorem RegsKept.withNextBlock {rs : List (Nat × Nat)} {s t : State} {x : Nat} (h : RegsKept rs s t) : RegsKept rs s (t.withNextBlock x) :=
  fun x y hy hn => h x y hy hn
theorem RegsKept.withPtpPending {rs : List (Nat × Nat)} {s t : State} {x : List PtpPending} (h : RegsKept rs s t) : RegsKept rs s (t.withPtpPending x) :=
  fun x y hy hn => h x y hy hn
theorem RegsKept.withSpeedAt {rs : List (Nat × Nat)} {s t : State} {x : Option Nat} (h : RegsKept rs s t) : RegsKept rs s (t.withSpeedAt x) :=
  fun x y hy hn => h x y hy hn
theorem RegsKept.withSafety {rs : List (Nat × Nat)} {s t : State} {x : Safety} (h : RegsKept rs s t) : RegsKept rs s (t.withSafety x) :=
  fun x y hy hn => h x y hy hn
theorem RegsKept.withMailboxes {rs : List (Nat × Nat)} {s t : State} {x : Tbl Mailbox} (h : RegsKept rs s t) : RegsKept rs s (t.withMailboxes x) :=
  fun x y hy hn => h x y hy hn
theorem RegsKept.withMirrorQueue {rs : List (Nat × Nat)} {s t : State} {x : List Nat} (h : RegsKept rs s t) : RegsKept rs s (t.withMirrorQueue x) :=
  fun x y hy hn => h x y hy hn
theorem RegsKept.withBusMaster {rs : List (Nat × Nat)} {s t : State} {x : Bool} (h : RegsKept rs s t) : RegsKept rs s (t.withBusMaster x) :=
  fun x y hy hn => h x y hy hn
theorem RegsKept.withD3hot {rs : List (Nat × Nat)} {s t : State} {x : Bool} (h : RegsKept rs s t) : RegsKept rs s (t.withD3hot x) :=
  fun x y hy hn => h x y hy hn
theorem RegsKept.withMsixTable {rs : List (Nat × Nat)} {s t : State} {x : Tbl Nat} (h : RegsKept rs s t) : RegsKept rs s (t.withMsixTable x) :=
  fun x y hy hn => h x y hy hn
theorem RegsKept.withDiscovery {rs : List (Nat × Nat)} {s t : State} {x : Discovery} (h : RegsKept rs s t) : RegsKept rs s (t.withDiscovery x) :=
  fun x y hy hn => h x y hy hn
theorem RegsKept.withDbg {rs : List (Nat × Nat)} {s t : State} {x : Debug} (h : RegsKept rs s t) : RegsKept rs s (t.withDbg x) :=
  fun x y hy hn => h x y hy hn
theorem RegsKept.withFreeUsed {rs : List (Nat × Nat)} {s t : State} {x : Nat} (h : RegsKept rs s t) : RegsKept rs s (t.withFreeUsed x) :=
  fun x y hy hn => h x y hy hn
theorem RegsKept.wr {rs : List (Nat × Nat)} {s t : State} {a : Nat} {bs : List Byte} (h : RegsKept rs s t) : RegsKept rs s (t.wr a bs) :=
  fun x y hy hn => h x y hy hn
theorem RegsKept.setSkein {rs : List (Nat × Nat)} {s t : State} {g : Nat} {k : Skein} (h : RegsKept rs s t) : RegsKept rs s (t.setSkein g k) :=
  fun x y hy hn => h x y hy hn
theorem RegsKept.modSkein {rs : List (Nat × Nat)} {s t : State} {g : Nat} {f : Skein → Skein} (h : RegsKept rs s t) : RegsKept rs s (t.modSkein g f) :=
  fun x y hy hn => h x y hy hn
theorem RegsKept.setSpindle {rs : List (Nat × Nat)} {s t : State} {u : Nat} {k : Spindle} (h : RegsKept rs s t) : RegsKept rs s (t.setSpindle u k) :=
  fun x y hy hn => h x y hy hn
theorem RegsKept.modSpindle {rs : List (Nat × Nat)} {s t : State} {u : Nat} {f : Spindle → Spindle} (h : RegsKept rs s t) : RegsKept rs s (t.modSpindle u f) :=
  fun x y hy hn => h x y hy hn
theorem RegsKept.setCaldera {rs : List (Nat × Nat)} {s t : State} {c : Nat} {k : Caldera} (h : RegsKept rs s t) : RegsKept rs s (t.setCaldera c k) :=
  fun x y hy hn => h x y hy hn
theorem RegsKept.modCaldera {rs : List (Nat × Nat)} {s t : State} {c : Nat} {f : Caldera → Caldera} (h : RegsKept rs s t) : RegsKept rs s (t.modCaldera c f) :=
  fun x y hy hn => h x y hy hn
theorem RegsKept.setQueue {rs : List (Nat × Nat)} {s t : State} {q : Nat} {k : Queue} (h : RegsKept rs s t) : RegsKept rs s (t.setQueue q k) :=
  fun x y hy hn => h x y hy hn
theorem RegsKept.modQueue {rs : List (Nat × Nat)} {s t : State} {q : Nat} {f : Queue → Queue} (h : RegsKept rs s t) : RegsKept rs s (t.modQueue q f) :=
  fun x y hy hn => h x y hy hn
theorem RegsKept.setChannel {rs : List (Nat × Nat)} {s t : State} {q : Nat} {k : Channel} (h : RegsKept rs s t) : RegsKept rs s (t.setChannel q k) :=
  fun x y hy hn => h x y hy hn
theorem RegsKept.modChannel {rs : List (Nat × Nat)} {s t : State} {q : Nat} {f : Channel → Channel} (h : RegsKept rs s t) : RegsKept rs s (t.modChannel q f) :=
  fun x y hy hn => h x y hy hn
theorem RegsKept.setPlan {rs : List (Nat × Nat)} {s t : State} {p : Nat} {k : Plan} (h : RegsKept rs s t) : RegsKept rs s (t.setPlan p k) :=
  fun x y hy hn => h x y hy hn
theorem RegsKept.modPlan {rs : List (Nat × Nat)} {s t : State} {p : Nat} {f : Plan → Plan} (h : RegsKept rs s t) : RegsKept rs s (t.modPlan p f) :=
  fun x y hy hn => h x y hy hn
theorem RegsKept.setCamera {rs : List (Nat × Nat)} {s t : State} {n : Nat} {k : Camera} (h : RegsKept rs s t) : RegsKept rs s (t.setCamera n k) :=
  fun x y hy hn => h x y hy hn
theorem RegsKept.modCamera {rs : List (Nat × Nat)} {s t : State} {n : Nat} {f : Camera → Camera} (h : RegsKept rs s t) : RegsKept rs s (t.modCamera n f) :=
  fun x y hy hn => h x y hy hn
theorem RegsKept.setDecoder {rs : List (Nat × Nat)} {s t : State} {d : Nat} {k : Decoder} (h : RegsKept rs s t) : RegsKept rs s (t.setDecoder d k) :=
  fun x y hy hn => h x y hy hn
theorem RegsKept.modDecoder {rs : List (Nat × Nat)} {s t : State} {d : Nat} {f : Decoder → Decoder} (h : RegsKept rs s t) : RegsKept rs s (t.modDecoder d f) :=
  fun x y hy hn => h x y hy hn
theorem RegsKept.setLaunch {rs : List (Nat × Nat)} {s t : State} {l : Nat} {k : LaunchQ} (h : RegsKept rs s t) : RegsKept rs s (t.setLaunch l k) :=
  fun x y hy hn => h x y hy hn
theorem RegsKept.modLaunch {rs : List (Nat × Nat)} {s t : State} {l : Nat} {f : LaunchQ → LaunchQ} (h : RegsKept rs s t) : RegsKept rs s (t.modLaunch l f) :=
  fun x y hy hn => h x y hy hn
theorem RegsKept.setMailbox {rs : List (Nat × Nat)} {s t : State} {i : Nat} {k : Mailbox} (h : RegsKept rs s t) : RegsKept rs s (t.setMailbox i k) :=
  fun x y hy hn => h x y hy hn
theorem RegsKept.setCan {rs : List (Nat × Nat)} {s t : State} {c : Nat} {k : Can} (h : RegsKept rs s t) : RegsKept rs s (t.setCan c k) :=
  fun x y hy hn => h x y hy hn
theorem RegsKept.modCan {rs : List (Nat × Nat)} {s t : State} {c : Nat} {f : Can → Can} (h : RegsKept rs s t) : RegsKept rs s (t.modCan c f) :=
  fun x y hy hn => h x y hy hn
theorem RegsKept.setLink {rs : List (Nat × Nat)} {s t : State} {l : Nat} {k : Link} (h : RegsKept rs s t) : RegsKept rs s (t.setLink l k) :=
  fun x y hy hn => h x y hy hn
theorem RegsKept.modLink {rs : List (Nat × Nat)} {s t : State} {l : Nat} {f : Link → Link} (h : RegsKept rs s t) : RegsKept rs s (t.modLink l f) :=
  fun x y hy hn => h x y hy hn
theorem RegsKept.setSync {rs : List (Nat × Nat)} {s t : State} {n v : Nat} (h : RegsKept rs s t) : RegsKept rs s (t.setSync n v) :=
  fun x y hy hn => h x y hy hn
theorem RegsKept.setPart {rs : List (Nat × Nat)} {s t : State} {p : Nat} {k : PartSafety} (h : RegsKept rs s t) : RegsKept rs s (t.setPart p k) :=
  fun x y hy hn => h x y hy hn
theorem RegsKept.modPart {rs : List (Nat × Nat)} {s t : State} {p : Nat} {f : PartSafety → PartSafety} (h : RegsKept rs s t) : RegsKept rs s (t.modPart p f) :=
  fun x y hy hn => h x y hy hn
theorem RegsKept.setPair {rs : List (Nat × Nat)} {s t : State} {k : Nat} {x : Pair} (h : RegsKept rs s t) : RegsKept rs s (t.setPair k x) :=
  fun x y hy hn => h x y hy hn
theorem RegsKept.modDebug {rs : List (Nat × Nat)} {s t : State} {f : Debug → Debug} (h : RegsKept rs s t) : RegsKept rs s (t.modDebug f) :=
  fun x y hy hn => h x y hy hn
theorem RegsKept.modSafety {rs : List (Nat × Nat)} {s t : State} {f : Safety → Safety} (h : RegsKept rs s t) : RegsKept rs s (t.modSafety f) :=
  fun x y hy hn => h x y hy hn
theorem RegsKept.modBoot {rs : List (Nat × Nat)} {s t : State} {f : Boot → Boot} (h : RegsKept rs s t) : RegsKept rs s (t.modBoot f) :=
  fun x y hy hn => h x y hy hn
theorem RegsKept.modTime {rs : List (Nat × Nat)} {s t : State} {f : Timebase → Timebase} (h : RegsKept rs s t) : RegsKept rs s (t.modTime f) :=
  fun x y hy hn => h x y hy hn
theorem RegsKept.emit {rs : List (Nat × Nat)} {s t : State} {o : Out} (h : RegsKept rs s t) : RegsKept rs s (t.emit o) :=
  fun x y hy hn => h x y hy hn

theorem RegsKept.foldl {α : Type} {rs : List (Nat × Nat)} {s t : State} {l : List α} {f : State → α → State}
    (hf : ∀ u a, RegsKept rs s u → RegsKept rs s (f u a)) (h : RegsKept rs s t) : RegsKept rs s (l.foldl f t) := by
  induction l generalizing t with
  | nil => exact h
  | cons a r ih => exact ih (hf t a h)

theorem RegsKept.mono {rs qs : List (Nat × Nat)} {s t : State} (h : RegsKept rs s t) (hq : rs ⊆ qs) : RegsKept qs s t :=
  fun ix sub hs hn => h ix sub hs (fun hm => hn (hq hm))

theorem RegsKept.trans {rs : List (Nat × Nat)} {s t u : State} (h : RegsKept rs s t) (k : RegsKept rs t u) : RegsKept rs s u :=
  fun ix sub hs hn => (k ix sub hs hn).trans (h ix sub hs hn)

theorem RegsKept.count {rs : List (Nat × Nat)} {s t : State} {ev unit n : Nat} (h : RegsKept rs s t) (hc : countRegs ⊆ rs) :
    RegsKept rs s (t.count ev unit n) := by
  unfold State.count
  split
  · exact h
  · unfold forEach
    have : ∀ (l : List Nat), (∀ k ∈ l, k < 8) → ∀ t, RegsKept rs s t → RegsKept rs s (l.foldl (fun s k =>
        if s.reg 0x2D60 (k + 2) = ev * 256 + unit then s.bumpBy 0x2D60 (k + 0x0A) n else s) t) := by
      intro l
      induction l with
      | nil => exact fun _ _ h => h
      | cons k r ih =>
        intro hk t h
        refine ih (fun x hx => hk x (List.mem_cons_of_mem _ hx)) _ ?_
        have k8 := hk k List.mem_cons_self
        dsimp only
        split
        · exact h.bumpBy (by omega) (hc (List.mem_map.mpr ⟨k, List.mem_range.mpr k8, rfl⟩))
        · exact h
    exact this _ (fun k hk => List.mem_range.mp hk) t h

theorem RegsKept.traceRaw {rs : List (Nat × Nat)} {s t : State} {b : Bool} {pkt : List Byte} (h : RegsKept rs s t)
    (hc : traceRegs ⊆ rs) : RegsKept rs s (t.traceRaw b pkt) := by
  unfold State.traceRaw
  have ha : (0x2D20, 0x0A) ∈ rs := hc (by simp [traceRegs])
  have hb : (0x2D20, 0x0B) ∈ rs := hc (by simp [traceRegs])
  dsimp only
  split
  · exact h
  · split
    · exact h.withDbg.maxReg (by decide) hb
    · split
      · exact h.withDbg.maxReg (by decide) hb
      · exact h.withDbg.bumpSat (by decide) ha

theorem RegsKept.trace {rs : List (Nat × Nat)} {s t : State} {b ty src d16 d64 : Nat} (h : RegsKept rs s t)
    (hc : traceRegs ⊆ rs) : RegsKept rs s (t.trace b ty src d16 d64) := by
  unfold State.trace
  split
  · exact h.traceRaw hc
  · exact h

theorem RegsKept.traceSkein {rs : List (Nat × Nat)} {s t : State} {b ty g d16 d64 : Nat} (h : RegsKept rs s t)
    (hc : traceRegs ⊆ rs) : RegsKept rs s (t.traceSkein b ty g d16 d64) := by
  unfold State.traceSkein
  split
  · exact h.traceRaw hc
  · exact h

theorem RegsKept.setStreamState {rs : List (Nat × Nat)} {s t : State} {g st : Nat} (h : RegsKept rs s t)
    (hc : stateRegs g ⊆ rs) : RegsKept rs s (t.setStreamState g st) :=
  (h.setReg (by decide) (hc List.mem_cons_self)).traceSkein (fun _ hx => hc (List.mem_cons_of_mem _ hx))

theorem RegsKept.syncTag {rs : List (Nat × Nat)} {s t : State} {g : Nat} (h : RegsKept rs s t) (hm : (0x2440 + g, 6) ∈ rs) :
    RegsKept rs s (t.syncTag g) := by
  unfold State.syncTag
  split
  · split
    · exact h.setReg (by decide) hm
    · exact h
  · exact h

theorem RegsKept.wakeSkein {rs : List (Nat × Nat)} {s t : State} {g : Nat} (h : RegsKept rs s t)
    (hc : stateRegs g ⊆ rs) (hp : (0x2440 + g, 3) ∈ rs) (h6 : (0x2440 + g, 6) ∈ rs) : RegsKept rs s (t.wakeSkein g) := by
  unfold State.wakeSkein
  split
  · exact h
  · split
    · split
      · exact ((h.modSkein.setReg (by decide) hp).syncTag h6).setStreamState hc
      · exact h
    · exact h

/-- Streams that stand in the table of skeins may be woken. -/
theorem RegsKept.wakeAll {rs : List (Nat × Nat)} {s t : State} (h : RegsKept rs s t) (hc : wakeRegs t ⊆ rs) :
    RegsKept rs s t.wakeAll := by
  unfold State.wakeAll forEach
  have : ∀ (l : List Nat), (∀ g ∈ l, g ∈ t.skeins.map (·.1)) → ∀ u, RegsKept rs s u →
      RegsKept rs s (l.foldl State.wakeSkein u) := by
    intro l
    induction l with
    | nil => exact fun _ _ h => h
    | cons g r ih =>
      intro hg u hu
      refine ih (fun x hx => hg x (List.mem_cons_of_mem _ hx)) _ ?_
      obtain ⟨e, he, hge⟩ := List.mem_map.mp (hg g List.mem_cons_self)
      have h1 : (0x2440 + g, 1) ∈ rs := hc (List.mem_append_left _ (List.mem_flatMap.mpr ⟨e, he, by simp [hge]⟩))
      have h3 : (0x2440 + g, 3) ∈ rs := hc (List.mem_append_left _ (List.mem_flatMap.mpr ⟨e, he, by simp [hge]⟩))
      have h6 : (0x2440 + g, 6) ∈ rs := hc (List.mem_append_left _ (List.mem_flatMap.mpr ⟨e, he, by simp [hge]⟩))
      refine hu.wakeSkein (fun x hx => ?_) h3 h6
      rcases List.mem_cons.mp hx with rfl | hx
      · exact h1
      · exact hc (List.mem_append_right _ hx)
  exact this _ (fun g hg => (List.mem_filter.mp hg).1) t h

theorem RegsKept.syncAdd {rs : List (Nat × Nat)} {s t : State} {n v : Nat} (h : RegsKept rs s t) (hc : countRegs ⊆ rs)
    (hw : wakeRegs t ⊆ rs) : RegsKept rs s (t.syncAdd n v) := by
  refine (h.setSync.count hc).wakeAll ?_
  have : ((t.setSync n (t.sync n + v)).count 7 0 1).skeins = t.skeins :=
    State.count_moves.only .skeins (by decide)
  rwa [wakeRegs, this]

theorem RegsKept.syncSet {rs : List (Nat × Nat)} {s t : State} {n v : Nat} (h : RegsKept rs s t) (hc : countRegs ⊆ rs)
    (hw : wakeRegs t ⊆ rs) : RegsKept rs s (t.syncSet n v) := by
  refine (h.setSync.count hc).wakeAll ?_
  have : ((t.setSync n v).count 7 0 1).skeins = t.skeins :=
    State.count_moves.only .skeins (by decide)
  rwa [wakeRegs, this]

/-- A crossing to a caldera writes no register. -/
theorem RegsKept.crossAll {rs : List (Nat × Nat)} {s t : State} (h : RegsKept rs s t) : RegsKept rs s t.crossAll :=
  h.of_dict (State.crossAll_moves.only .dict (by decide))

theorem RegsKept.outerAdd {rs : List (Nat × Nat)} {s t : State} {n v : Nat} (h : RegsKept rs s t) (hc : countRegs ⊆ rs) :
    RegsKept rs s (t.outerAdd n v) := (h.setSync.count hc).crossAll

theorem RegsKept.outerSet {rs : List (Nat × Nat)} {s t : State} {n v : Nat} (h : RegsKept rs s t) (hc : countRegs ⊆ rs) :
    RegsKept rs s (t.outerSet n v) := (h.setSync.count hc).crossAll

theorem RegsKept.msix {rs : List (Nat × Nat)} {s t : State} {v : Nat} (h : RegsKept rs s t) (hc : (0x2E30, 0x0A) ∈ rs) :
    RegsKept rs s (t.msix v) := by
  unfold State.msix
  split
  · exact h
  · split
    · exact h.emit
    · exact h.emit.bumpBy (by decide) hc

theorem RegsKept.sendArmed {rs : List (Nat × Nat)} {s t : State} {q : Nat} (h : RegsKept rs s t) (hc : (0x2E30, 0x0A) ∈ rs) :
    RegsKept rs s (t.sendArmed q) := by
  unfold State.sendArmed
  dsimp only
  split
  · split
    · exact h
    · exact h.setQueue.msix hc
  · exact h

theorem RegsKept.queueDrop {rs : List (Nat × Nat)} {s t : State} {q n : Nat} (h : RegsKept rs s t) (hc : countRegs ⊆ rs) :
    RegsKept rs s (t.queueDrop q n) := h.setQueue.count hc

theorem RegsKept.put {rs : List (Nat × Nat)} {s t : State} {a : Nat} {bs : List Byte} (h : RegsKept rs s t) :
    RegsKept rs s (t.put a bs) := h.of_dict (State.put_moves.only .dict (by decide))

theorem RegsKept.forEach {rs : List (Nat × Nat)} {s t : State} {n : Nat} {f : State → Nat → State}
    (hf : ∀ u k, k < n → RegsKept rs s u → RegsKept rs s (f u k)) (h : RegsKept rs s t) :
    RegsKept rs s (forEach (List.range n) t f) := by
  have : ∀ (l : List Nat), (∀ k ∈ l, k < n) → ∀ u, RegsKept rs s u → RegsKept rs s (l.foldl f u) := by
    intro l
    induction l with
    | nil => exact fun _ _ h => h
    | cons k r ih =>
      exact fun hk u hu => ih (fun x hx => hk x (List.mem_cons_of_mem _ hx))
        _ (hf u k (hk k List.mem_cons_self) hu)
  exact this _ (fun k hk => List.mem_range.mp hk) t h

theorem RegsKept.invalidate {rs : List (Nat × Nat)} {s t : State} {a n : Nat} (h : RegsKept rs s t)
    (hc : ∀ c < 8, (0x2280 + c, 3) ∈ rs) : RegsKept rs s (t.invalidate a n) := by
  unfold State.invalidate
  refine RegsKept.forEach (fun u c h8 hu => ?_) h
  dsimp only
  split
  · exact hu
  · exact hu.setCaldera.setReg (by decide) (hc c h8)

theorem RegsKept.writePkg {rs : List (Nat × Nat)} {s t : State} {a : Nat} {bs : List Byte} (h : RegsKept rs s t)
    (hc : ∀ c < 8, (0x2280 + c, 3) ∈ rs) : RegsKept rs s (t.writePkg a bs) := by
  unfold State.writePkg
  have k := (h.put (a := a) (bs := bs)).invalidate hc (a := a) (n := bs.length)
  dsimp only
  split
  · split
    · exact k.withScrubPending
    · exact k
  · exact k

theorem RegsKept.lateRefusal {rs : List (Nat × Nat)} {s t : State} {a : Nat} (h : RegsKept rs s t)
    (h1 : (0x2290, 0x12) ∈ rs) (h2 : (0x2290, 0x13) ∈ rs) : RegsKept rs s (t.lateRefusal a) := by
  unfold State.lateRefusal
  split
  · exact (h.bumpSat (by decide) h1).setReg (by decide) h2
  · exact h

theorem RegsKept.hostWrite {rs : List (Nat × Nat)} {s t : State} {b : Nat} {bs : List Byte} (h : RegsKept rs s t)
    (h1 : (0x2E30, 0x0A) ∈ rs) : RegsKept rs s (t.hostWrite b bs) :=
  h.withHostMem.bumpBy (by decide) h1

theorem RegsKept.writePiece {rs : List (Nat × Nat)} {s t : State} {p : Place} {bs : List Byte} (h : RegsKept rs s t)
    (hw : writeRegs ⊆ rs) : RegsKept rs s (t.writePiece p bs).1 := by
  have h1 : (0x2290, 0x12) ∈ rs := hw (by simp [writeRegs])
  have h2 : (0x2290, 0x13) ∈ rs := hw (by simp [writeRegs])
  have h3 : (0x2E30, 0x0A) ∈ rs := hw (by simp [writeRegs])
  have h4 : ∀ c < 8, (0x2280 + c, 3) ∈ rs := fun c hc =>
    hw (List.mem_append_right _ (List.mem_map.mpr ⟨c, List.mem_range.mpr hc, rfl⟩))
  unfold State.writePiece
  split <;> try dsimp only
  · split <;> try dsimp only
    · exact h.lateRefusal h1 h2
    · exact h.writePkg h4
  · exact h.put
  · split
    · exact h.hostWrite h3
    · exact h
  · exact h.put
  · exact h.put
  · exact h

theorem RegsKept.ringWrite {rs : List (Nat × Nat)} {s t : State} {k : Queue} {n : Nat} {es : List (List Byte)}
    (h : RegsKept rs s t) (hw : writeRegs ⊆ rs) : RegsKept rs s (t.ringWrite k n es) := by
  induction es generalizing t n with
  | nil => exact h
  | cons e r ih => exact ih (h.writePiece hw)

/-- A push that lands or is refused, before any waiting stream is looked at. -/
theorem RegsKept.queuePut {rs : List (Nat × Nat)} {s t : State} {who : Option Nat} {q : Nat} {es : List (List Byte)}
    (h : RegsKept rs s t) (hp : outerRegs ⊆ rs) : RegsKept rs s (t.queuePut who q es).1 := by
  have hw : writeRegs ⊆ rs := fun x hx => hp (List.mem_append_left _ hx)
  have hc : countRegs ⊆ rs := fun x hx => hp (List.mem_append_right _ hx)
  unfold State.queuePut
  dsimp only
  split
  · exact h
  · split
    · exact h
    · split
      · exact h
      · split
        · exact h.setQueue
        · exact ((h.ringWrite hw).setQueue.count hc).sendArmed (hw (by simp [writeRegs]))

theorem RegsKept.queuePush {rs : List (Nat × Nat)} {s t : State} {p q : Nat} {es : List (List Byte)}
    (h : RegsKept rs s t) (hp : pushRegs t ⊆ rs) : RegsKept rs s (t.queuePush p q es).1 := by
  have ho : outerRegs ⊆ rs := fun x hx => hp (List.mem_append_left _ hx)
  unfold State.queuePush
  dsimp only
  split
  · refine RegsKept.wakeAll (h.queuePut ho) ?_
    rw [wakeRegs, State.queuePut_moves.only .skeins (by decide)]
    exact fun x hx => hp (List.mem_append_right _ hx)
  · exact h.queuePut ho

theorem RegsKept.outerPush {rs : List (Nat × Nat)} {s t : State} {q : Nat} {es : List (List Byte)}
    (h : RegsKept rs s t) (hp : outerRegs ⊆ rs) : RegsKept rs s (t.outerPush q es).1 := by
  unfold State.outerPush
  dsimp only
  split
  · exact (h.queuePut hp).crossAll
  · exact h.queuePut hp

theorem RegsKept.writeDev {rs : List (Nat × Nat)} {s t : State} {held : List (Nat × Nat)} {da : Nat} {bs : List Byte}
    (h : RegsKept rs s t) (hw : writeRegs ⊆ rs) : RegsKept rs s (t.writeDev held da bs).1 := by
  have : ∀ (l : List (Nat × Nat)) (r : State × Nat), RegsKept rs s r.1 → RegsKept rs s (l.foldl (fun (r : State × Nat) p =>
      if r.2 ≠ 0 then r
      else r.1.writePiece (r.1.placeFor held p.1) ((bs.drop (p.1 - da)).take p.2)) r).1 := by
    intro l
    induction l with
    | nil => exact fun _ h => h
    | cons p l ih =>
      intro r hr
      refine ih _ ?_
      dsimp only
      split
      · exact hr
      · exact hr.writePiece hw
  exact this _ (t, 0) h

theorem RegsKept.codeEvent {rs : List (Nat × Nat)} {s t : State} {pa : Nat} {sym : Option Nat} {b : Bool} (h : RegsKept rs s t)
    (hr : readRegs ⊆ rs) : RegsKept rs s (t.codeEvent pa sym b) := by
  have m1 : (0x2238, 1) ∈ rs := hr (by simp [readRegs])
  have m2 : (0x2238, 2) ∈ rs := hr (by simp [readRegs])
  have m3 : (0x2238, 3) ∈ rs := hr (by simp [readRegs])
  have m4 : (0x2238, 4) ∈ rs := hr (by simp [readRegs])
  unfold State.codeEvent
  cases sym
  · exact ((h.bumpSat (by decide) m2).setReg (by decide) m3).setReg (by decide) m4
  · exact ((h.bumpSat (by decide) m1).setReg (by decide) m3).setReg (by decide) m4

theorem RegsKept.noteRead {rs : List (Nat × Nat)} {s t : State} {pa n : Nat} {b : Bool} (h : RegsKept rs s t)
    (hr : readRegs ⊆ rs) : RegsKept rs s (t.noteRead pa n b) := by
  unfold State.noteRead
  dsimp only
  split
  · exact RegsKept.foldl (fun u _ hu => hu.codeEvent hr) (RegsKept.foldl (fun u _ hu => hu.codeEvent hr) h)
  · exact RegsKept.foldl (fun u _ hu => hu.codeEvent hr) h

/-- A read that corrects an on-chip codeword writes no register. -/
theorem RegsKept.heal {rs : List (Nat × Nat)} {s t : State} {a n : Nat} (h : RegsKept rs s t) : RegsKept rs s (t.heal a n) :=
  h.of_dict (State.heal_moves.only .dict (by decide))

/-- A scratchpad place lies in one of the 64 scratchpads. -/
theorem spadSkein_lt {s : State} {held : List (Nat × Nat)} {da k : Nat} (h : s.placeFor held da = .spad k) :
    spadSkein k < 64 := by
  unfold State.placeFor placeWith at h
  repeat' split at h
  all_goals try (exact absurd h (by decide))
  all_goals try (cases h; done)
  rename_i hx
  have e : da = k := by cases h; rfl
  subst e
  simp only [spadSkein, scratchBase] at *
  omega

theorem RegsKept.readEvents {rs : List (Nat × Nat)} {s t : State} {held : List (Nat × Nat)} {da n : Nat}
    (h : RegsKept rs s t) (hr : readRegs ⊆ rs) : RegsKept rs s (t.readEvents held da n) := by
  have m1 : (0x2290, 0x12) ∈ rs := hr (by simp [readRegs])
  have m2 : (0x2290, 0x13) ∈ rs := hr (by simp [readRegs])
  have m3 : (0x2E30, 0x0A) ∈ rs := hr (by simp [readRegs])
  unfold State.readEvents
  refine RegsKept.foldl (fun u p hu => ?_) h
  split <;> rename_i hpl
  · split
    · exact hu.lateRefusal m1 m2
    · exact hu.noteRead hr
  · split
    · exact hu.bumpBy (by decide) m3
    · exact hu
  · split
    · exact hu
    · exact hu.heal
  · split
    · exact hu
    · have hk := spadSkein_lt hpl
      exact hu.heal.bumpSatBy (by omega) (hr (List.mem_append_right _ (List.mem_map.mpr ⟨_, List.mem_range.mpr hk, rfl⟩)))
  · exact hu

theorem RegsKept.errorList {rs : List (Nat × Nat)} {s t : State} {v : Nat} (h : RegsKept rs s t)
    (he : ∀ i < 9, (0x1003, i) ∈ rs) : RegsKept rs s (t.errorList v) := by
  unfold State.errorList
  dsimp only [List.range, List.range.loop, List.map, List.zipIdx, List.foldl]
  refine RegsKept.setReg (RegsKept.setReg ?_ (by decide) (he 1 (by decide))) (by decide) (he 0 (by decide))
  exact ((((((h.setReg (by decide) (he 2 (by decide))).setReg (by decide) (he 3 (by decide))).setReg (by decide)
    (he 4 (by decide))).setReg (by decide) (he 5 (by decide))).setReg (by decide) (he 6 (by decide))).setReg (by decide)
    (he 7 (by decide))).setReg (by decide) (he 8 (by decide))

theorem RegsKept.emcy {rs : List (Nat × Nat)} {s t : State} {err code cls part src : Nat} (h : RegsKept rs s t)
    (he : ∀ i < 9, (0x1003, i) ∈ rs) : RegsKept rs s (t.emcy err code cls part src) := by
  unfold State.emcy
  rw [Machine.forEach]
  refine RegsKept.foldl (fun u c hu => ?_) ?_
  · split
    · exact hu.emit
    · exact hu
  · split
    · exact h
    · exact h.errorList he

theorem RegsKept.logPush {rs : List (Nat × Nat)} {s t : State} {code res part src det st : Nat} (h : RegsKept rs s t)
    (h9 : (0x2B00, 9) ∈ rs) (hp : outerRegs ⊆ rs) : RegsKept rs s (t.logPush code res part src det st) := by
  unfold State.logPush
  dsimp only
  split
  · exact h.bumpSat (by decide) h9
  · split
    · exact (h.outerPush hp).withSafety
    · exact (h.outerPush hp).bumpSat (by decide) h9

theorem RegsKept.opStart {rs : List (Nat × Nat)} {s t : State} {k n : Nat} (h : RegsKept rs s t)
    (hm : ∀ i < 9, (0x2F00 + k, i) ∈ rs) : RegsKept rs s (t.opStart k n) :=
  (((((h.setReg (by decide) (hm 2 (by decide))).setReg (by decide) (hm 4 (by decide))).setReg (by decide)
    (hm 5 (by decide))).setReg (by decide) (hm 6 (by decide))).setReg (by decide) (hm 7 (by decide))).bumpBy (by decide)
    (hm 8 (by decide))

theorem RegsKept.opEnd {rs : List (Nat × Nat)} {s t : State} {k r : Nat} (h : RegsKept rs s t)
    (hm : ∀ i < 9, (0x2F00 + k, i) ∈ rs) : RegsKept rs s (t.opEnd k r) := by
  unfold State.opEnd
  dsimp only
  refine RegsKept.setReg (RegsKept.setReg ?_ (by decide) (hm 2 (by decide))) (by decide) (hm 6 (by decide))
  split
  · exact h.setReg (by decide) (hm 4 (by decide))
  · exact h

theorem RegsKept.reply {rs : List (Nat × Nat)} {s t : State} {a c v : Nat} (h : RegsKept rs s t) :
    RegsKept rs s (t.reply a c v) := h.withReplies

theorem RegsKept.latch {rs : List (Nat × Nat)} {s t : State} {code p src det key : Nat} {b : Bool} (h : RegsKept rs s t)
    (hm : ∀ i ∈ [1, 5, 6, 7], (0x2B08 + p, i) ∈ rs) : RegsKept rs s (t.latch code p src det key b) :=
  (((h.modPart.setReg (by decide) (hm 1 (by decide))).setReg (by decide) (hm 5 (by decide))).setReg (by decide)
    (hm 6 (by decide))).bumpSat (by decide) (hm 7 (by decide))

theorem RegsKept.alarmTail {rs : List (Nat × Nat)} {s u : State} {err code cls res part src det st b ty sr d16 : Nat}
    (h : RegsKept rs s u) (h9 : (0x2B00, 9) ∈ rs) (he : ∀ i < 9, (0x1003, i) ∈ rs) (hp : outerRegs ⊆ rs)
    (ht : traceRegs ⊆ rs) :
    RegsKept rs s (((u.emcy err code cls part src).logPush code res part src det st).trace b ty sr d16 det) :=
  ((h.emcy he).logPush h9 hp).trace ht

/-- What each member of a list of updates keeps, all of them keep. -/
theorem forEach_ind {P : State → Prop} {l : List Nat} {t : State} {f : State → Nat → State}
    (hf : ∀ u k, k ∈ l → P u → P (f u k)) (h : P t) : P (Machine.forEach l t f) := by
  unfold Machine.forEach
  induction l generalizing t with
  | nil => exact h
  | cons k r ih => exact ih (fun u x hx => hf u x (List.mem_cons_of_mem _ hx)) (hf t k List.mem_cons_self h)

/-- The parts of the registers that an alarm writes. -/
theorem alarmRegs_sub {rs : List (Nat × Nat)} (ha : alarmRegs ⊆ rs) :
    (∀ p < 8, ∀ i ∈ [1, 5, 6, 7], (0x2B08 + p, i) ∈ rs) ∧ (∀ i ∈ [5, 8, 9], (0x2B00, i) ∈ rs)
      ∧ (∀ i < 9, (0x1003, i) ∈ rs) ∧ outerRegs ⊆ rs ∧ traceRegs ⊆ rs := by
  unfold alarmRegs at ha
  simp only [List.append_subset] at ha
  obtain ⟨⟨⟨⟨h1, h2⟩, h3⟩, h4⟩, h5⟩ := ha
  refine ⟨fun p hp i hi => h1 (List.mem_flatMap.mpr ⟨p, List.mem_range.mpr hp, ?_⟩), fun i hi => h2 ?_,
    fun i hi => h3 (List.mem_map.mpr ⟨i, List.mem_range.mpr hi, rfl⟩), h4, h5⟩
  · revert i; simp
  · revert i; simp

theorem scopeList_lt {scope : Option Nat} (hs : ∀ p ∈ scope, p < 8) : ∀ p ∈ scopeList scope, p < 8 := by
  cases scope with
  | some p => intro x hx; simp [scopeList] at hx; exact hx ▸ hs p rfl
  | none => intro x hx; exact List.mem_range.mp hx

theorem RegsKept.raiseKey {rs : List (Nat × Nat)} {s t : State} {code : Nat} {scope : Option Nat} {src det key : Nat}
    (h : RegsKept rs s t) (hs : ∀ p ∈ scope, p < 8) (ha : alarmRegs ⊆ rs) :
    RegsKept rs s (t.raiseKey code scope src det key) := by
  obtain ⟨hl, hb, he, hp, ht⟩ := alarmRegs_sub ha
  have k := forEach_ind (P := RegsKept rs s) (l := scopeList scope)
    (f := fun s p => s.latch code p src det key (scope == none)) (fun u p hp' hu => hu.latch (hl p (scopeList_lt hs p hp'))) h
  exact RegsKept.alarmTail (k.bumpSat (by decide) (hb 5 (by decide))) (hb 9 (by decide)) he hp ht

theorem RegsKept.raise {rs : List (Nat × Nat)} {s t : State} {code : Nat} {scope : Option Nat} {src det : Nat}
    (h : RegsKept rs s t) (hs : ∀ p ∈ scope, p < 8) (ha : alarmRegs ⊆ rs) :
    RegsKept rs s (t.raise code scope src det) := h.raiseKey hs ha

theorem RegsKept.warn {rs : List (Nat × Nat)} {s t : State} {code : Nat} {scope : Option Nat} {src det : Nat}
    (h : RegsKept rs s t) (hs : ∀ p ∈ scope, p < 8) (ha : alarmRegs ⊆ rs) : RegsKept rs s (t.warn code scope src det) := by
  obtain ⟨hl, hb, he, hp, ht⟩ := alarmRegs_sub ha
  have k := forEach_ind (P := RegsKept rs s) (l := scopeList scope)
    (f := fun s p => (s.setReg (0x2B08 + p) 5 code).setReg (0x2B08 + p) 6 s.stamp)
    (fun u p hp' hu => (hu.setReg (by decide) (hl p (scopeList_lt hs p hp') 5 (by decide))).setReg (by decide)
      (hl p (scopeList_lt hs p hp') 6 (by decide))) h
  exact RegsKept.alarmTail (k.withSafety.bumpSat (by decide) (hb 8 (by decide))) (hb 9 (by decide)) he hp ht

/-- What an operation that keeps the dictionary leaves in the registers. -/
theorem RegsKept.of_moves {ps : List Part} {rs : List (Nat × Nat)} {s t u : State} (h : RegsKept rs s t) (m : Moves ps t u)
    (hd : .dict ∉ ps) : RegsKept rs s u := h.of_dict (m.only .dict hd)

end Sys2Proof.Safety

open Sys2Proof.Safety

namespace Sys2Proof.Machine

/-- An admitted write: its effect, and the agent's reply. -/
theorem State.odWrite_admitted {s : State} {a : Agent} {ix sub len v : Nat} (h : Admitted s a ix sub len v)
    (hn : ¬ (ix = 0x2102 ∧ sub = 2)) :
    s.odWrite a ix sub len v =
      (s.applyWrite true (agentNo a) ix sub v).1.reply (agentNo a) (s.applyWrite true (agentNo a) ix sub v).2 0 := by
  unfold State.odWrite State.odWriteWith
  rw [if_neg hn, if_neg (fun e => e h)]

theorem replied_reply (s : State) (a : Agent) (code v : Nat) : Replied a code v (s.reply (agentNo a) code v) :=
  tblGet_put_self (0, 0) _ _ _

end Sys2Proof.Machine
end

