-- ==== Sys2Proof/WellFormed.lean ====
section
/-! DEFINITION. WellFormed: operands that a command can have: values within the widths of their fields, units of their
sizes. Unit numbers are within range by their types. A command that is not well formed is not one that any agent can
send; `exec` still gives it a meaning. -/
namespace Sys2Proof

/-- `v` fits in `n` bits. -/
def fits (n v : Nat) : Bool := decide (v < 2 ^ n)
/-- `v` lies in a closed interval. -/
def within (lo hi v : Nat) : Bool := decide (lo ≤ v ∧ v ≤ hi)
/-- `v` is a signed value of `n` bits. -/
def fitsInt (n : Nat) (v : Int) : Bool := decide (-(2 ^ (n - 1) : Nat) ≤ v ∧ v < (2 ^ (n - 1) : Nat))
/-- A whole number of bytes up to `n`, at least one. -/
def lenOk (n : Nat) (bs : List Byte) : Bool := within 1 n bs.length

/-- A write to a mailbox (R384). -/
def MailboxWrite.wf : MailboxWrite → Bool
  | .request w => fits 32 w
  | .length n => fits 32 n
  | .requestLength w n => fits 32 w && fits 32 n
  | .data o n v => (n == 4 || n == 8) && o % n == 0 && decide (o + n ≤ 32) && fits (8 * n) v
  | .readOnly n => n == 4 || n == 8

/-- A USDO message (R380): a value is 1 to 32 bytes long. -/
def UsdoMessage.wf : UsdoMessage → Bool
  | .read ix sub => fits 16 ix && fits 8 sub
  | .write ix sub len v => fits 16 ix && fits 8 sub && within 1 32 len && decide (v < 256 ^ len)
  | .writeStart ix sub len => fits 16 ix && fits 8 sub && within 1 32 len
  | .segment _ bs => lenOk 56 bs
  | .unsupported => true

/-- A frame of the device links (R434). -/
def LinkFrame.wf (f : LinkFrame) : Bool :=
  fits 8 f.type && fits 8 f.flags && fits 16 f.seq && fits 14 f.dst && fits 14 f.src && fits 8 f.srcPart && fits 8 f.srcSkein
    && fits 8 f.dstSkein && fits 8 f.win && fits 32 f.off && fits 16 f.epoch && fits 16 f.len && fits 16 f.xid
    && decide (f.payload.length ≤ 256)

/-- The body of a PTP message (R310). -/
def PtpBody.wf (m : PtpBody) : Bool := fits 80 m.sourcePort && fits 16 m.sequenceId && fits 8 m.domain && fitsInt 64 m.correction
  && fits 16 m.checksum

/-- A way out of a port. -/
def Egress.wf (e : Egress) : Bool := fits 64 e.after
/-- A neighbour's answer (R312). -/
def PdelayAnswer.wf (a : PdelayAnswer) : Bool := fitsInt 80 a.t2 && fitsInt 80 a.t3 && fits 48 a.back
/-- The unit that a fault spoils. -/
def FaultUnit.wf : FaultUnit → Bool
  | .none | .spindle _ | .engine _ | .access _ => true
  | .descriptor _ i => fits 4 i
  | .decoder _ off => fits 32 off
/-- What waits for a completion: one of 16 descriptors in flight, or one of the two reads of a job. -/
def HostReader.wf : HostReader → Nat → Bool
  | .skein _, i => fits 4 i
  | .engine _, i => fits 1 i

/-- The operands of a command lie in their ranges. -/
def Instr.wf : Instr → Bool
  | .registerWrite _ ix sx len v => fits 16 ix && fits 8 sx && within 1 32 len && decide (v < 256 ^ len)
  | .ownerWrite _ v => fits 8 v
  | .mailboxRequest _ w => w.wf
  | .usdoRequest _ m => m.wf
  | .syncReceived _ cob => fits 11 cob
  | .rpdoReceived _ cob data => fits 11 cob && decide (data.length ≤ 64)
  | .pdoMappingCountWrite _ ix v => (within 0x1600 0x1603 ix || within 0x1A00 0x1A03 ix) && fits 8 v
  | .imageVerify image => decide (image.length ≤ 2097152)
  | .calderaReset _ mask => fits 8 mask
  | .railSample mv temp => decide (mv.length = 7) && mv.all (fits 16) && fitsInt 16 temp
  | .load _ i | .loadQpop _ i | .store _ i | .matmul _ i | .unroll _ i | .maxIncl _ i | .maxExcl _ i | .avgIncl _ i
  | .avgExcl _ i | .drain _ i | .add _ i | .sub _ i | .mul _ i | .fma _ i | .min _ i | .max _ i | .shr _ i | .cvt _ i
  | .tbl _ i | .reduceSum _ i | .reduceMax _ i | .reduceMin _ i | .table _ i | .wait _ i | .signalAdd _ i | .signalSet _ i
  | .signalReleaseApply _ i | .fence _ i | .digestInit _ i | .digestAbsorb _ i | .digestFinal _ i | .wopen _ i
  | .wclose _ i | .send _ i | .sendQueue _ i | .endStream _ i | .endLoop _ i => fits 4 i
  | .completionTimeout who i => who.wf i
  | .treadleTick _ late => fits 8 late
  | .completionDelivery _ ns _ => fits 32 ns
  | .queuePush _ q es => fits 14 q && within 1 16384 es.length && es.all (fun e => decide (e.length = 32))
  | .queuePop q n => fits 14 q && within 1 16384 n
  | .syncValueWrite _ v | .syncAddWrite _ v | .speedWrite _ v => fits 32 v
  | .hostMemoryRead _ off n => fits 33 off && within 1 4096 n
  | .hostMemoryWrite _ off bs => fits 33 off && within 1 4096 bs.length
  | .bar0RefusedAccess _ off w => fits 20 off && within 1 4096 w
  | .doorbellPush q w v => fits 14 q && within 1 8 w && decide (v < 256 ^ w)
  | .doorbellPop q w v => fits 14 q && within 1 8 w && decide (v < 256 ^ w)
  | .syncDoorbellWrite n w v => fits 17 n && within 1 8 w && decide (v < 256 ^ w)
  | .frameStart _ _ n | .lineStart _ _ n => fits 16 n
  | .imageLine _ _ dt _ bs => fits 6 dt && decide (bs.length ≤ 65535)
  | .ethernetFrameReceived _ _ bs => within 18 9728 bs.length
  | .sampleBudgetExpiry _ off => fits 32 off
  | .ptpSyncReceived _ d x => fits 8 d && fitsInt 80 x.origin && fitsInt 32 x.rateOffset
  | .delayReqSend r => r.egress.wf && r.response.all (fitsInt 80)
  | .ptpEventForward _ v n m es => fits 4 v && fits 4 n && m.wf && decide (es.length = 6) && es.all Egress.wf
  | .pdelayExchange _ r => r.egress.wf && r.answer.all PdelayAnswer.wf
  | .gptpSyncRelay _ c o es => fitsInt 64 c && fitsInt 32 o && decide (es.length = 6) && es.all Egress.wf
  | .planLoadComplete d => d.broken.all (fits 16)
  | .faultDetect code _ x detail => within 1 0x18 code && fits 16 x.source && fits 64 detail && x.unit.wf
  | .warning code _ source detail => within 0x80 0xFF code && fits 16 source && fits 64 detail
  | .linkTrained _ node link => fits 14 node && fits 2 link
  | .dataFrameReceived _ _ f => f.wf
  | .lack _ seq | .lnak _ seq => fits 16 seq
  | .credit _ a b => fits 16 a && fits 16 b
  | .resp _ xid st => fits 16 xid && fits 8 st
  | .hello _ n r d run _ => fits 14 n && fits 14 r && fits 16 d && fits 16 run
  | .count _ _ dup d run => fits 14 dup && fits 16 d && fits 16 run
  | .done _ n d r dup => fits 16 n && fits 16 d && fits 8 r && fits 14 dup
  | .dbgUnlock request signature => decide (request.length = 64 ∧ signature.length = 2420)
  | .dbgMemRead a => fits 48 a
  | .dbgMemWrite a unit => fits 48 a && decide (unit.length = 32)
  | .dbgStop mask _ => fits 8 mask
  | .dbgGrant v | .bypass v | .counterEnable _ v => fits 8 v
  | .pcieLinkUp speed width => within 1 3 speed && (decide (width = 1) || decide (width = 2) || decide (width = 4))
  | _ => true

/-- A command that is well formed. -/
abbrev Instr.WellFormed (i : Instr) : Prop := i.wf = true

end Sys2Proof
end

