-- ==== Sys2Proof/Tests/Slice0.lean ====
section
/-! SUPPORT. Tests: the well-formedness checks, worked examples and tables of the specification, and for each statement
states and operands that meet the hypotheses of each of its clauses. -/
namespace Sys2Proof.Tests

set_option Elab.async false
set_option maxRecDepth 100000
set_option linter.unusedVariables false
open Machine
open Safety

/-! ### Well-formedness: an ill-formed command for each check -/

/-- The ways out of ports 0 to 5, none held; and with one beyond its field. -/
def wOuts : List Egress := List.replicate 6 ⟨65536, false⟩
def wLate (n : Nat) : List Egress := wOuts.set n ⟨2 ^ 64, false⟩
/-- A PTP message whose fields are the greatest. -/
def wMsg : PtpBody := ⟨.syncTwoStep, 2 ^ 80 - 1, 2 ^ 16 - 1, 255, 2 ^ 63 - 1, true, 2 ^ 16 - 1⟩

theorem test_wf_refuses_values :
    ∀ i ∈ ([.registerWrite .can0 0x10000 0 1 0, .registerWrite .can0 0 256 1 0, .registerWrite .can0 0 0 0 0,
        .registerWrite .can0 0 0 33 0, .registerWrite .can0 0 0 1 256, .ownerWrite .can1 256, .pdoMappingCountWrite .can0 0x1604 1,
        .pdoMappingCountWrite .can0 0x19FF 1, .pdoMappingCountWrite .can0 0x1600 256, .syncValueWrite .can0 (2 ^ 32),
        .syncAddWrite .can0 (2 ^ 32), .speedWrite .can0 (2 ^ 32), .calderaReset .can0 256, .counterEnable .can0 256, .dbgStop 256 false,
        .dbgGrant 256, .bypass 256] : List Instr), i.wf = false := by decide +kernel

theorem test_wf_refuses_bus :
    ∀ i ∈ ([.mailboxRequest 0 (.request (2 ^ 32)), .mailboxRequest 0 (.length (2 ^ 32)), .mailboxRequest 0 (.data 0 4 (2 ^ 32)),
        .mailboxRequest 0 (.data 4 8 0), .mailboxRequest 0 (.data 32 4 0), .mailboxRequest 0 (.data 0 16 0), .mailboxRequest 0 (.readOnly 3),
        .mailboxRequest 0 (.requestLength 0 (2 ^ 32)),
        .usdoRequest 0 (.read 0x10000 0), .usdoRequest 0 (.read 0 256), .usdoRequest 0 (.write 0x10000 0 1 0),
        .usdoRequest 0 (.write 0 256 1 0), .usdoRequest 0 (.write 0 0 33 0), .usdoRequest 0 (.write 0 0 1 256),
        .usdoRequest 0 (.writeStart 0x10000 0 1), .usdoRequest 0 (.writeStart 0 256 1), .usdoRequest 0 (.writeStart 0 0 0),
        .usdoRequest 0 (.segment false []), .usdoRequest 0 (.segment false (zeros 57)), .syncReceived 0 2048, .rpdoReceived 0 2048 [],
        .rpdoReceived 0 0 (zeros 65)] : List Instr), i.wf = false := by decide +kernel

theorem test_wf_refuses_compute :
    ∀ i ∈ ([.load 0 16, .endLoop 0 16, .completionTimeout (.skein 0) 16, .completionTimeout (.engine 0) 2, .planLoadComplete ⟨0, some 0x10000⟩, .treadleTick 0 256, .completionDelivery 0 (2 ^ 32) false,
        .queuePush .host 16384 [zeros 32], .queuePush .host 0 [], .queuePush .host 0 [zeros 31], .queuePop 16384 1, .queuePop 0 0,
        .queuePop 0 16385, .railSample (List.replicate 6 0) 0, .railSample (List.replicate 7 0x10000) 0,
        .railSample (List.replicate 7 0) 0x8000] : List Instr), i.wf = false := by decide +kernel

theorem test_wf_refuses_host :
    ∀ i ∈ ([.hostMemoryRead true (2 ^ 33) 1, .hostMemoryRead true 0 0, .hostMemoryWrite true (2 ^ 33) [some 0], .hostMemoryWrite true 0 [],
        .bar0RefusedAccess true (2 ^ 20) 1, .bar0RefusedAccess true 0 0, .doorbellPush 16384 4 0, .doorbellPush 0 9 0,
        .doorbellPush 0 1 256, .doorbellPop 16384 4 0, .doorbellPop 0 0 0, .doorbellPop 0 1 256, .syncDoorbellWrite (2 ^ 17) 4 0,
        .syncDoorbellWrite 0 0 0, .syncDoorbellWrite 0 1 256, .pcieLinkUp 4 1, .pcieLinkUp 1 3, .dbgMemRead (2 ^ 48),
        .dbgMemWrite (2 ^ 48) (zeros 32), .dbgMemWrite 0 (zeros 31), .dbgUnlock (zeros 63) (zeros 2420), .dbgUnlock (zeros 64) []]
        : List Instr), i.wf = false := by decide +kernel

theorem test_wf_refuses_sensors :
    ∀ i ∈ ([.frameStart 0 ⟨0, .none⟩ 0x10000, .lineStart 0 ⟨0, .none⟩ 0x10000, .imageLine 0 0 64 .none [], .ethernetFrameReceived 0 false (zeros 17),
        .sampleBudgetExpiry 0 (2 ^ 32), .faultDetect 0 0 ⟨0, .none⟩ 0,
        .faultDetect 0x19 0 ⟨0, .none⟩ 0, .faultDetect 1 0 ⟨0x10000, .none⟩ 0, .faultDetect 1 0 ⟨0, .none⟩ (2 ^ 64),
        .faultDetect 1 0 ⟨0, (.descriptor 0 16)⟩ 0, .faultDetect 1 0 ⟨0, (.decoder 0 (2 ^ 32))⟩ 0, .warning 0x7F 0 0 0, .warning 0x80 0 0x10000 0,
        .warning 0x80 0 0 (2 ^ 64)] : List Instr), i.wf = false := by decide +kernel

theorem test_wf_refuses_ptp :
    ∀ i ∈ ([.ptpSyncReceived 0 256 ⟨0, 0⟩, .ptpSyncReceived 0 0 ⟨(2 ^ 79), 0⟩, .ptpSyncReceived 0 0 ⟨0, (2 ^ 31)⟩, .delayReqSend ⟨0, ⟨2 ^ 64, false⟩, none⟩,
        .delayReqSend ⟨0, ⟨0, false⟩, (some (2 ^ 79))⟩, .pdelayExchange 0 ⟨⟨2 ^ 64, false⟩, none⟩, .pdelayExchange 0 ⟨⟨0, false⟩, (some ⟨2 ^ 79, 0, 0⟩)⟩,
        .pdelayExchange 0 ⟨⟨0, false⟩, (some ⟨0, 2 ^ 79, 0⟩)⟩, .pdelayExchange 0 ⟨⟨0, false⟩, (some ⟨0, 0, 2 ^ 48⟩)⟩,
        .gptpSyncRelay 0 (2 ^ 63) 0 wOuts, .gptpSyncRelay 0 0 (2 ^ 31) wOuts, .gptpSyncRelay 0 0 0 [], .gptpSyncRelay 0 0 0 (wLate 5),
        .ptpEventForward 0 2 1 wMsg [], .ptpEventForward 0 2 1 wMsg (wLate 0), .ptpEventForward 0 2 1 { wMsg with sourcePort := 2 ^ 80 } wOuts,
        .ptpEventForward 0 2 1 { wMsg with sequenceId := 2 ^ 16 } wOuts, .ptpEventForward 0 2 1 { wMsg with domain := 256 } wOuts,
        .ptpEventForward 0 2 1 { wMsg with correction := 2 ^ 63 } wOuts, .ptpEventForward 0 16 0 wMsg wOuts,
        .ptpEventForward 0 2 16 wMsg wOuts, .ptpEventForward 0 2 1 { wMsg with checksum := 2 ^ 16 } wOuts] : List Instr),
      i.wf = false := by decide +kernel

theorem test_wf_refuses_links :
    ∀ i ∈ ([.linkTrained 0 (2 ^ 14) 0, .linkTrained 0 0 4, .lack 0 0x10000, .lnak 0 0x10000, .credit 0 0x10000 0, .credit 0 0 0x10000,
        .resp 0 0x10000 0, .resp 0 0 256, .hello 0 (2 ^ 14) 0 0 0 false, .hello 0 0 (2 ^ 14) 0 0 false, .hello 0 0 0 0x10000 0 false,
        .hello 0 0 0 0 0x10000 false, .count 0 0 (2 ^ 14) 0 0, .count 0 0 0 0x10000 0, .count 0 0 0 0 0x10000, .done 0 0x10000 0 0 0,
        .done 0 0 0x10000 0 0, .done 0 0 0 256 0, .done 0 0 0 0 (2 ^ 14),
        .dataFrameReceived 0 false ⟨256, 0, 0, 0, 0, 0, 0, 0, 0, 0, 0, 0, 0, []⟩] : List Instr), i.wf = false := by decide +kernel

/-- The greatest operands that those checks let through. -/
theorem test_wf_accepts_greatest :
    ∀ i ∈ ([.registerWrite .can0 0xFFFF 255 32 (2 ^ 256 - 1), .pdoMappingCountWrite .can0 0x1A03 255, .usdoRequest 0 (.segment true (zeros 56)),
        .rpdoReceived 1 2047 (zeros 64), .load 63 15, .queuePush .host 16383 [zeros 32], .hostMemoryRead true (2 ^ 33 - 1) 4096,
        .doorbellPush 16383 8 (2 ^ 64 - 1), .faultDetect 0x18 0 ⟨0xFFFF, (.decoder 7 (2 ^ 32 - 1))⟩ (2 ^ 64 - 1), .warning 0xFF 0 0 0, .credit 3 0xFFFF 0xFFFF,
        .ptpSyncReceived 5 255 ⟨(2 ^ 79 - 1), (-(2 ^ 31))⟩, .gptpSyncRelay 0 (-(2 ^ 63)) (2 ^ 31 - 1) wOuts, .ptpEventForward 5 15 15 wMsg wOuts,
        .pdelayExchange 5 ⟨⟨2 ^ 64 - 1, true⟩, (some ⟨-(2 ^ 79), 2 ^ 79 - 1, 2 ^ 48 - 1⟩)⟩, .planLoadComplete ⟨7, some 0xFFFF⟩, .dbgMemRead (2 ^ 48 - 1), .pcieLinkUp 3 4]
        : List Instr), i.wf = true := by decide +kernel

/-- No row of the opcode table gives bits. -/
theorem test_no_word_decodes : decodeTableWord 0 0 = none ∧ decodeTableWord 64 0x1234 = none := ⟨rfl, rfl⟩

/-! ### Worked examples and tables of the specification -/

/-- R43: the sum 1,000 with Xa = 120 and Xb = 125 is 1.953125, that is 3FFA_0000h. -/
theorem test_R43_block_value : blockValue 1000 120 125 = (0x3FFA0000, 0) := by decide +kernel

/-- R39: the greatest finite numbers, E4M3 448 and FP16 65,504, as FP32. -/
theorem test_R39_greatest : widenFp 4 0x7E = 0x43E00000 ∧ widenFp 7 0x7BFF = 0x477FE000 := by decide +kernel

/-- R39: the smallest subnormal of FP16 is 2^-24, that of E4M3 2^-9. -/
theorem test_R39_subnormal : widenFp 7 1 = 0x33800000 ∧ widenFp 4 1 = 0x3B000000 := by decide +kernel

/-- R40: the canonical NaNs. -/
theorem test_R40_nans : [e4m3, e5m2, bf16, fp16, fp32].map fpNan = [0x7F, 0x7E, 0x7FC0, 0x7E00, 0x7FC00000] := by decide +kernel

/-- R38: the element with the lower index sits in bits [3:0]. -/
theorem test_R38_int4 : elemAt [0xA5] 4 0 = 5 ∧ elemAt [0xA5] 4 1 = 10 := by decide +kernel

/-- R158's example: stride 16, BOX_SCALE 0.0625, cell (3, 2) of tile (12, 7), channels 40, 24, 36 and 20. -/
theorem test_R158_box :
    (boxEdges (zeros 7 ++ [4] ++ zeros 12 ++ [0, 0, 0x80, 0x3D] ++ zeros 1000) 12 7 3 2 0 [40, 24, 36, 20]).map (edgeInt 65535)
      = [some 12544, some 7424, some 13760, some 8128] := by decide +kernel

/-- R197: check symbol 32 alone damaged is corrected; symbols 0 and 1 together are not. -/
theorem test_R198_symbols :
    (State.reset.withFlips [(36 * 5 + 32, 9)]).codeAt 5 = .corrected 32
      ∧ (State.reset.withFlips [(36 * 5, 9), (36 * 5 + 1, 9)]).codeAt 5 = .uncorrectable := by decide +kernel


/-! ### States for the hypotheses of the statements -/

/-- A device that runs: STATE RUN, released, host link up, both controllers operational, trace and counters on. -/
def wRun : State :=
  { State.reset with
    boot := { State.reset.boot with released := 9, calderas := 8, aon := true, filled := true, image := [1] }
    busMaster := true
    cans := [(0, { Can.init with nmt := .operational }), (1, { Can.init with nmt := .operational })]
    dict := ((((((State.reset.setReg 0x2100 1 2).setReg 0x2E30 1 3).setReg 0x2E30 2 4).setReg 0x2E30 3 1).setReg 0x2D20 1 1).setReg
      0x2D20 6 511 |>.setReg 0x2D20 7 1 |>.setReg 0x2D60 1 1 |>.setReg 0x2D60 2 0x700 |>.setReg 0x2D60 3 0x401).dict }
/-- A read of 1017h waits in mailbox 3, with MSI-X asked for. -/
def wMail : State := (wRun.setMailbox 3 { Mailbox.init with request := 0x10170081, busy := true }).withMirrorQueue [3]
/-- RPDO 1 (200h) and TPDO 1 map 1017h; TPDO 1 goes at every SYNC. -/
def wPdo : State :=
  ((((((wRun.setReg 0x1400 1 0x200).setReg 0x1400 2 0xFF).setReg 0x1600 0 1).setReg 0x1600 1 0x10170010).setReg 0x1800 1 0x180).setReg
    0x1800 2 1 |>.setReg 0x1A00 0 1 |>.setReg 0x1A00 1 0x10170010)
/-- A device that runs and holds something in every kind of store. -/
def wFull : State :=
  { ((((wRun.setSync 5 7).setSkein 24 { Skein.init with serials := 3 }).setSpindle 100 { Spindle.init with poison := [1] }).wr 0x800000000000 [1, 2]).wr 0x100 [9]
    with time := { wRun.time with seconds := 5, nanos := 6 } }
/-- The release sequence stands at `k`. -/
def wRel (k : Nat) : State := { State.reset with boot := { State.reset.boot with resetN := true, released := k } }
/-- The ROM loads from the flash: BOOT 00h. -/
def wLoading : State := { wRel 5 with boot := { (wRel 5).boot with slots := [leBytes 2 1 ++ zeros 62], slotInForce := some 0 } }
/-- BOOT_WAIT, with host memory in reach: 32 bytes at the first host page. -/
def wWait : State :=
  { (((((wRun.setReg 0x2100 1 1).setReg 0x2C10 1 0xC00000000000).setReg 0x2C10 2 32)).withXlat [(0x4000, 3)]) with
    hostMem := (List.range 32).map (fun i => (i, 7)), boot := { wRun.boot with image := [], loadAccepted := true } }
def wWaitImage : List Byte := List.replicate 32 7
/-- RUN, an image of 32 bytes in host memory, STAGE in package memory. -/
def wProgram : State :=
  { ((((wRun.setReg 0x2C10 1 0xC00000000000).setReg 0x2C10 2 32)).setReg 0x2C10 9 0x200000).withXlat [(0x4000, 3)] with
    hostMem := (List.range 32).map (fun i => (i, 7)) }
/-- Programming goes on at page 3 while the device is LOADING. -/
def wProgramLoads : State := ((wLoading.setReg 0x2C10 4 1).setReg 0x2C10 2 32)
def wProgramImage : List Byte := List.replicate 32 7
/-- A slot that R397 takes. -/
def defaultSlot : List Byte :=
  let b := leBytes 1 1 ++ leBytes 1 1 ++ zeros 4 ++ leBytes 1 5 ++ leBytes 1 3 ++ zeros 1 ++ leBytes 1 3 ++ zeros 2 ++ (List.range 10).map (fun p => BitVec.ofNat 8 p) ++ zeros 38
  b ++ leBytes 4 (crc32c b)
/-- The bytes stand at the address that 2102h:01 names. -/
def wOpt (b : List Byte) : State := (wRun.setReg 0x2102 1 0x200000).wr 0x200000 b
/-- A fresh NONCE, and ADDRESS in package memory. -/
def wAttest : State := { wRun.setReg 0x2C00 9 0x200000 with boot := { wRun.boot with nonceFresh := true } }
/-- A descriptor: opcode, and fields as (lowest bit, value). -/
def wd (op : Nat) (fs : List (Nat × Nat)) : Nat := fs.foldl (fun n x => n + x.2 * 2 ^ x.1) op
def wFly2 (w : Nat) (left : List Nat) : Flight := ⟨0x1000, w, [], false, left, [], [], 0, 0, 0, 7⟩
def wFly (w : Nat) : Flight := wFly2 w []
/-- Skein 0 runs with one descriptor in flight. -/
def wSk (s : State) (f : Flight) : State := (s.setSkein 0 { Skein.init with flights := [f], serials := 8 }).setReg 0x2440 1 1
/-- Treadle settings wait for caldera 0, whose skein 0 runs. -/
def wSettings : State := (wSk wRun (wFly 1)).withAccepted [(odKey 0x2310 1, 1)]
/-- LOAD of 2 rows of 32 bytes from 200000h to scratchpad offset 64, 32 bytes apart. -/
def wLoad : Nat := wd 1 [(208, 0x200000), (112, 2), (96, 32), (57, 64)]
def wL1 : State := (wSk wRun (wFly wLoad)).wr 0x200000 ((List.range 64).map (fun i => BitVec.ofNat 8 (i + 1)))
/-- LOAD of 2,048 bytes of the own scratchpad into A slot 0 of spindle 0. -/
def wLoadA : Nat := wd 1 [(208, 0x800000000000), (112, 1), (96, 2048), (55, 1), (12, 1)]
def wL2 : State := wSk wRun (wFly2 wLoadA [0])
/-- LOAD of one entry of queue 256 to offset 64. -/
def wQpop : Nat := wd 1 [(208, 256), (112, 1), (96, 32), (57, 64), (52, 1)]
def wQp : State :=
  ((wSk wRun (wFly wQpop)).setQueue 256 ⟨0x200000, 4, 0, true, 2, 15, 1, 0, none⟩).wr 0x2001E0 ((List.range 32).map (fun i => BitVec.ofNat 8 (i + 3)))
/-- STORE of 32 bytes to the first buffer, and to package memory. -/
def wStoreB : Nat := wd 2 [(208, 0x900000000000), (160, 1), (144, 32)]
def wStoreP : Nat := wd 2 [(208, 0x200000), (160, 1), (144, 32)]
def wMatmul : Nat := wd 3 [(38, 4), (35, 1), (70, 1), (12, 3)]
def wDrain : Nat := wd 5 [(194, 11), (185, 4), (184, 1), (12, 3)]
def wUnroll : Nat := wd 4 [(237, 0), (218, 64), (178, 0), (152, 1), (12, 1)]
/-- A map of one pixel with two channels, read by a kernel of one tap. -/
def wGeom (mode : Nat) : List Byte :=
  [1, 0, 1, 0, 2, 0, 1, 1, 0, 0, 1, 1, 1, 1, 1, 1, 0, 0, 0, 0, 1, 0, 1, 0, 0, 0, 0, 0, 1, 0, 1, 0, 0, 0, 0, 0, 1, 0, 1, 0, 2, 0, 0, 0, 2, 0, 0, 0]
    ++ [BitVec.ofNat 8 mode, 0, 0, 0, 0, BitVec.ofNat 8 (if mode = 0 then 0 else 1), 0, 0] ++ zeros 8
def wConvF : Flight := { wFly2 wUnroll [0] with data := wGeom 0 }
def wConv : State := (wSk wRun wConvF).wr 0x800000000040 [5, 6]
def wPoolW : Nat := wd 4 [(237, 0), (218, 64), (152, 1), (12, 1)]
def wPoolF (mode : Nat) : Flight := { wFly2 wPoolW [poolPart 0] with data := wGeom mode }
def wPool (mode : Nat) : State := (wSk wRun (wPoolF mode)).wr 0x800000000040 [5, 6]
/-- A table of one segment. -/
def wTable : List Byte := 1 :: zeros 383
/-- ELTWISE of four INT8 elements; CVT and TBL to and from FP32 where they need it. -/
def wElt (op : Nat) : Nat := wd 6 [(237, 0), (218, 32), (199, 64), (175, 4), (155, op)]
def wVec (w : Nat) : State := ((wSk wRun (wFly w)).wr 0x800000000000 [5, 6, 0x7F, 0x80]).wr 0x800000000020 [1, 2, 3, 4]
  |>.modSkein 0 (fun k => { k with tables := [(0, wTable)] })
def wRed (op : Nat) : Nat := wd 7 [(202, 1), (192, op), (218, 1024)]
def wTab : State := (wSk wRun (wFly (wd 8 [(234, 3)]))).wr 0x800000000000 wTable
def wOs (op : Nat) : List (Flagged Nat) :=
  let w := wElt op
  let s := wVec w
  (List.zip (s.elems 0 0 0 0 4) (List.zip (if eltUsesB w then s.elems 0 32 0 0 4 else List.replicate 4 0) (s.elems 0 64 0 0 4))).map
    (fun y => eltElem w wTable y.1 y.2.1 y.2.2)
def wOr (op : Nat) : List (Flagged Nat) := reduceOut (wRed op) ((wVec (wRed op)).elems 0 0 0 0 256)
def wAbsorb : Nat := wd 0x13 [(208, 0x200000), (176, 2), (155, 1), (152, 5)]
def wFinal : Nat := wd 0x13 [(157, 96), (155, 2), (152, 5)]
/-- WAIT for object 3 to reach 2, without and with a TIMEOUT. -/
def wWaitW : Nat := wd 0x10 [(207, 3), (224, 2)]
def wWaitT : Nat := wd 0x10 [(207, 3), (224, 2), (190, 5)]
/-- Skein 0 waits for object 3, which has reached 2. -/
def wWoken : State := (((wSk wRun { wFly wWaitW with started := true }).setReg 0x2440 1 2)).setSync 3 2
/-- Skein 9 waits for object 3 to reach 2. -/
def wWake : State :=
  ((wSk wRun (wFly (wd 0x11 [(207, 3), (224, 2)]))).setSkein 9
    { Skein.init with flights := [{ wFly (wd 0x10 [(207, 3), (224, 2)]) with started := true }] }).setReg 0x2449 1 2
def wOpenW : Nat := wd 0x14 [(237, 0x100), (217, 0x200), (213, 2)]
def wSendW : Nat := wd 0x16 [(213, 64), (193, 9), (189, 2), (169, 224)]
def wSendN : Nat := wd 0x16 [(213, 64), (199, 77), (193, 9), (189, 2), (169, 32)]
def wSendQ : Nat := wd 0x16 [(213, 64), (169, 9), (151, 1)]
/-- An INT8 instruction of one row, set 1, with INIT; its tile in slot 0. -/
def wInstr : SpInstr := ⟨0, 0, 0, 0, false, 1, 1, true, false, false, false, 0x5000, 9, 4⟩
def wTile : Tile := ⟨0, false, 0, true, zeros 4096, [], false⟩
/-- Spindle 3 with slots present and instructions queued. -/
def wSp (present : List Nat) (q : List SpInstr) : State := wRun.setSpindle 3 { Spindle.init with present := present, queue := q }
def wLanding (int48 init : Bool) : Landing := ⟨1, 2, init, int48, [(List.range 64).map (fun i => (Int.ofNat i) - 3 + (if int48 then 0 else 0x3F800003))], 0, 4⟩
def wLand (int48 init : Bool) : State := wRun.setSpindle 3 { Spindle.init with landing := [wLanding int48 init], int48 := if int48 then [1] else [] }
def wJob (fmt : Nat) : DrainJob := ⟨64, 256, 0, fmt, 1, 1, true, 4, false, 0, false⟩
def wDr (fmt : Nat) : State := wRun.setSpindle 3 { Spindle.init with drains := [wJob fmt] }
/-- A DRAIN of a poisoned set. -/
def wDrP (fmt : Nat) : State := (wDr fmt).modSpindle 3 (fun k => { k with poison := [1] })
/-- Caldera 0 alone belongs to partition p. -/
def wOne (s : State) (p : Nat) : State := s.setReg 0x2301 1 p
/-- A container of no sections at 200000h; its digest right or not. -/
def wPlanOf (b : List Byte) : State := ((wRun.setReg 0x2490 1 0x200000).setReg 0x2490 2 b.length).wr 0x200000 b
def wPlanBad : State := wPlanOf (zeros 64)
def wPlanU (s : State) : State :=
  (((s.setReg 0x2490 8 1).setReg 0x2490 4 1).setReg 0x2490 5 0).readEvents [] (s.reg 0x2490 1) (s.reg 0x2490 2)
/-- A container with one SYNC_INIT section, which sets object 5 to 9. -/
def wContainer : List Byte :=
  [0x4A, 0x4B, 0x50, 0x4C, 0, 1, 1, 0, 6, 0, 0, 0] ++ zeros 12 ++ [136, 0, 0, 0, 0, 0, 0, 0] ++ leBytes 32 0xFD378EF19B04C100CA7E54EAFEA84855C4AA149B2E2574CE67050813E62CAA1B
    ++ [7, 0, 0, 0, 0, 0, 0, 0, 128, 0, 0, 0, 0, 0, 0, 0, 8, 0, 0, 0, 0, 0, 0, 0] ++ zeros 8 ++ leBytes 32 0xA3DE2805376B149233CF014899AE9B0D4DBCC8D5B17F66D9BA83308AEA7B55C2 ++ [5, 0, 0, 0, 9, 0, 0, 0]
def wPlanGood : State := wPlanOf wContainer
/-- That container waits to be written. -/
def wPlanWrites : State := (wPlanGood.setReg 0x2490 8 1).modPlan 0 (fun k => { k with pendingBody := wContainer, pendingId := 6 })
/-- The link goes down while firmware is programmed and the device is LOADING. -/
def wPerst : State := { wLoading.setReg 0x2C10 4 1 with boot := { wLoading.boot with perstN := true } }
/-- The host's link is up. -/
def wUp (s : State) : State := s
/-- A host write of three bytes at offset 64 of scratchpad 2, where window 3 of 64 bytes lies. -/
def wRw : RemoteWrite := ⟨.host, none, 64, none, [some 1, some 2, some 3], 0, true⟩
def wWin (st : WindowState) (arrivals accepted : List RemoteWrite) : State :=
  wRun.setSkein 2 { Skein.init with windows := [(3, ⟨st, 64, 64, 1⟩)], arrivals := arrivals, accepted := accepted }
def wAcc : Access := ⟨0, 2304, .write [some 4, none, some 6] none, (0, xlatReset 0), false⟩
def wFetch : WcFetch := ⟨3, 0, (0, xlatReset 0), List.replicate 8 (zeros 32), false, false, false, false, []⟩
/-- No package page of the last bank is present. -/
def wNoPages : State := wRun.withXlat ((List.range 256).map (fun i => (0xF00 + i, 0)))
theorem wNoPages_entry_low (t : List Nat) (id : Nat) (h : id < 0xF00) (d : Nat) :
    tblGet d (t.map (fun i => (0xF00 + i, 0))) id = d := by
  induction t with
  | nil => rfl
  | cons i r ih => simp only [List.map_cons, tblGet, if_neg (show ¬ 0xF00 + i = id by omega), ih]
theorem wNoPages_unmapped : wNoPages.bankMapped 15 = false := by
  have hhi : ∀ i ∈ List.range 256, wNoPages.entry (0xF00 + i) = 0 := by decide +kernel
  refine List.any_eq_false.mpr (fun id hid hm => ?_)
  have hlt := List.mem_range.mp hid
  by_cases h : id < 0xF00
  · have he : wNoPages.entry id = xlatReset id := wNoPages_entry_low _ id h _
    rw [he] at hm
    simp [entFrame, xlatReset, hlt] at hm
    omega
  · have he := hhi (id - 0xF00) (List.mem_range.mpr (by omega))
    rw [show 0xF00 + (id - 0xF00) = id by omega] at he
    rw [he] at hm
    simp [entPresent, bit] at hm
/-- An open frame with nothing received, and a camera on port 0 whose lines are 16 pixels of 16 bits. -/
def wOpen : OpenFrame := ⟨0, 0, 5, 0, none, [], none, 0, 0, false, false, false, [], 0, []⟩
def wCam (o : Option OpenFrame) : State :=
  (((((wRun.setReg 0x2510 3 2).setReg 0x2540 1 1).setReg 0x2540 3 0x2E).setReg 0x2540 4 16).setReg 0x2540 5 4).modCamera 0 (fun k => { k with openFrame := o })
/-- A schema for port 9: RX ring of 1 KiB at offset 0, staging area at 8000h, queue 0. -/
def wSchema : List Byte := [0, 0, 9, 0] ++ zeros 16 ++ leBytes 4 0x8000 ++ zeros 4 ++ leBytes 2 1 ++ zeros 482
def wMac : State :=
  ((((wRun.setReg 0x2531 2 0x0100A8C0).setReg 0x2531 4 1).setReg 0x2531 5 1).setReg 0x2612 2 1).modDecoder 2 (fun k => { k with schema := wSchema })
/-- A datagram of four bytes, and an ARP request, for the address of MAC 1. -/
def wFrame : List Byte :=
  zeros 12 ++ [8, 0, 0x45, 0, 0, 32, 0, 0, 0, 0, 0x40, 17, 0xF9, 0x79, 0xC0, 0xA8, 0, 2, 0xC0, 0xA8, 0, 1, 0, 7, 0, 9, 0, 12, 0, 0, 1, 2, 3, 4]
def wArp : List Byte :=
  zeros 12 ++ [8, 6, 0, 1, 8, 0, 6, 4, 0, 1] ++ (List.range 10).map (fun i => BitVec.ofNat 8 (i + 1)) ++ zeros 6 ++ [0xC0, 0xA8, 0, 1]
def wSample : Sample := ⟨0, 4, 9, 1, 0, false, 0, none, none, 0, 0, 0⟩
def wDec (x : Option Sample) (ring : List (Nat × Nat × Nat)) : State := wMac.modDecoder 2 (fun k => { k with sample := x, ring := ring })
/-- The projector's queue 5 holds a point of stream `n`; stream 42 keeps a history. -/
def wPtq : Queue := ⟨0x200000, 4, 0x210, true, 1, 0, 1, 0, none⟩
def wPoint (n : Nat) : List Byte := zeros 26 ++ [BitVec.ofNat 8 n] ++ zeros 5
def wPts (n : Nat) : State :=
  (((wRun.setQueue 5 wPtq).wr 0x200000 (wPoint n)).withChains [(42, [0, 1] ++ zeros 30 ++ [7, 0, 0, 0, 0, 0, 4, 0] ++ zeros 120)])
/-- The chain of camera 1: two by two pixels, no decoder to project from. -/
def wChain : List Byte :=
  [0, 3] ++ zeros 30 ++ ([5, 0, 0, 0, 2, 0, 2, 0, 8, 1, 0, 0, 40, 0, 0, 0] ++ leBytes 8 0x400000 ++ leBytes 8 0x1000 ++ zeros 96)
    ++ ([4, 0, 0, 0, 0, 1] ++ zeros 122) ++ ([6, 0, 0, 0, 1, 0, 0, 0, 0, 0, 4, 0, 2, 0, 9, 0] ++ zeros 16 ++ leBytes 8 0x600000 ++ leBytes 8 0x700000 ++ zeros 80)
def wCf : ChainFrame := { newFrame 0 5 0 0 with lines := [([1, 2], false), ([3, 4], false)] }
def wPipe (f : ChainFrame) : State := (wRun.withChains [(1, wChain)]).modCamera 1 (fun k => { k with frames := [f] })
def wSlot : GatherSlot := ⟨1, 0, 0, 0, 0x600000, some (0, 0), false, wChain⟩
def wEntry : BatchEntry := ⟨0, 0, 0, 1, 1, 0, 0, 0x600000, 5, 7, false, []⟩
/-- Block 2 with a job of zeros in queue 8; its output is queue 9. -/
def wJobs : State :=
  ((wRun.setReg 0x2812 3 1).withBlocks [(2, zeros 44 ++ [8, 0, 9, 0] ++ zeros 976)]).setQueue 8 ⟨0x200000, 4, 0x200, true, 1, 0, 1, 0, none⟩
def wJ : Job := ⟨2, zeros 32, 0, 0, 9, false, 0, [], false, false⟩
/-- MAC 1 is the servo's upstream port. -/
def wSync : State := { (((((wRun.setReg 0x2900 0x0B 1).setReg 0x2531 4 1).setReg 0x2911 1 1).setReg 0x2911 2 1).setReg 0x2900 0x0C 1) with time := { wRun.time with seconds := 50, lockCount := 15, slewLeft := 9 } }
/-- MACs 1 and 2 are ports of the transparent clock, or of the 802.1AS relay. -/
def wPtp : State := ((((wRun.setReg 0x2531 4 1).setReg 0x2532 4 1).setReg 0x2911 1 1).setReg 0x2912 1 1)
def wAs : State :=
  ((((((wRun.setReg 0x2531 4 1).setReg 0x2532 4 1).setReg 0x2911 1 2).setReg 0x2912 1 2).setReg 0x2911 2 1).setReg 0x2911 0x0A 30).modTime
    (fun t => { t with peers := [(1, ⟨none, 3⟩), (2, ⟨some (900, 400), 0⟩)] })
/-- The slave port of the relay is the servo's upstream port. -/
def wSyncAs : State := (wAs.setReg 0x2900 0x0B 1).modTime (fun t => { t with seconds := 50 })
/-- Launch queue 2 on MAC 4, nozzles 8 to 15, from queue 6. -/
def wBody : List Byte := [0, 0, 4, 0, 8, 0, 8, 0, 6, 0, 4] ++ zeros 53
def wLaunch : State :=
  ((((((wRun.setReg 0x2A12 2 1).setReg 0x2A12 1 2).setReg 0x2A04 5 1000).setReg 0x2A04 6 1).setReg 0x2A04 7 1).modLaunch 2
    (fun k => { k with body := wBody, calendar := [(3000, [⟨9, true, false⟩])] }))
def wEvents : List LaunchEvent := [⟨9, true, false⟩]
/-- A direct event at `t` us in queue 6. -/
def wDirect (t : Nat) : List Byte := [0x30, 1, 9, 0, 0, 0, 0, 0] ++ leBytes 4 (1000 * t) ++ zeros 20
def wLq (t : Nat) : State :=
  ((wLaunch.modLaunch 2 (fun k => { k with calendar := [] })).setQueue 6 ⟨0x200000, 4, 0x222, true, 1, 0, 1, 0, none⟩).wr 0x200000 (wDirect t)
/-- Watch 2 of partition 1: object 5, one step a frame; its plan runs and frame 1 has come. -/
def wWatch : State := ((wRun.setReg 0x2B21 3 (2 ^ 127 + 2 ^ 96 + 5)).setReg 0x2491 8 3).modPlan 1 (fun k => { k with frame := 0 })
/-- Partition 1 is RETRYING with one fault pending. -/
def wPend (f : PendingFault) : State := (wRun.setReg 0x2B09 1 1).modPart 1 (fun k => { k with pending := [f] })
/-- A checkpoint record of a skein, and pair 1 with mode F16. -/
def wRec (g : Nat) : SinterRec := ⟨1, 0, 16 + g, if g = 0 then 4 else 5, 5, 3, 1, 64, 0, zeros 32⟩
def wPair (arrivals held : List SinterRec) : State := (wRun.setReg 0x2B11 2 1).setPair 1 ⟨arrivals, held⟩
/-- Caldera 2 in a reserved slot; its sweep at POSITION `v`. -/
def wSweep (on : Bool) (v : Nat) : State :=
  ((wRun.setReg 0x2B30 1 1).setReg 0x2B30 9 v).modCaldera 2 (fun k => { k with reserved := true, sweeping := on })
/-- Geyser on partition 2, in rotation over streams 4 and 5; no golden batch. -/
def wGey : State := ((wRun.setReg 0x2B3A 1 1).setReg 0x2B3A 3 48).setReg 0x2492 8 3
/-- A SELFTEST pattern of one record, and a GOLDEN pattern for partition 1 of one entry, at 200000h; the store at 1200000h. -/
def wPattern : List Byte := [0x47, 0x59, 0x53, 0x52, 2, 1, 0, 0, 5] ++ zeros 7 ++ [32] ++ zeros 47 ++ [1] ++ zeros 2451
def wStore (b : List Byte) : State :=
  { ((((wRun.setReg 0x2B40 1 0x200000).setReg 0x2B40 2 b.length).setReg 0x2B40 7 0x1200000).wr 0x200000 b) with
    boot := { wRun.boot with image := zeros 2880 } }
def wInst : State := wStore wPattern
def wGolden : List Byte :=
  [0x47, 0x59, 0x53, 0x52, 1, 1, 0, 0, 5, 0, 0, 0, 1, 0, 0, 0, 96] ++ zeros 47 ++ [1] ++ zeros 31 ++ [0, 1] ++ zeros 2482
def wInstG : State := (wStore wGolden).setReg 0x2301 1 1
/-- Queue 7 is the MGMT_QUEUE, with entry `e`; queue 8 takes replies. -/
def wMgmtE : List Byte := [0x60, 1, 0, 0, 8, 0, 0, 0] ++ leBytes 8 0x200040 ++ leBytes 4 64 ++ leBytes 4 77 ++ zeros 8
def wMgmt (e : List Byte) : State :=
  (((wRun.setReg 0x2E00 0x0E 7).setQueue 7 ⟨0x200000, 4, 0x230, true, 1, 0, 1, 0, none⟩).setQueue 8 ⟨0x201000, 4, 0, true, 0, 0, 0, 0, none⟩).wr 0x200000 e
/-- Node 4 with links 2 and 3 up; it is discovered, and node 80 lies beyond link 3; it imports pushes of partition 0 of node 77. -/
def wLinks : State :=
  { ((((((wRun.setReg 0x2E00 1 4).setReg 0x2E0A 2 2).setReg 0x2E0B 2 2).setReg 0x2E00 4 4).setReg 0x2E10 1 77).setReg 0x2E10 2 77).setReg 0x2E10 3 1
      |>.setLink 2 { Link.init with credit0 := 3, credit1 := 2 } |>.setLink 3 { Link.init with credit0 := 16, credit1 := 8 } with
    discovery := ⟨0, false, 0, [(80, 3)]⟩ }
/-- A WRITE of 32 bytes from node 77 to window 1 of skein 5. -/
def wWrite : LinkFrame := ⟨1, 1, 0, 4, 77, 0, 3, 5, 1, 64, 0, 32, 6, zeros 32⟩
/-- Frame 5 waits for its LACK on link 2, sent again `n` times. -/
def wReplay (n : Nat) : State := wLinks.modLink 2 (fun k => { k with replay := [({ wWrite with seq := 5 }, n)], txSeq := 6 })
/-- JTAG holds CONTROL. -/
def wJtag : State := { wRun with dbg := { wRun.dbg with unlock := 2 } }

/-! ### The hypotheses of the statements can be met -/

theorem hyps_RegisterWriteRefused :
    (∃ (s : State) (a : Agent) (ix : Nat) (sub : Nat) (len : Nat) (v : Nat), ¬ Admitted s a ix sub len v)
    ∧ (∃ (s : State) (a : Agent) (ix : Nat) (sub : Nat) (len : Nat) (v : Nat), odHasIndex ix = false)
    ∧ (∃ (s : State) (a : Agent) (ix : Nat) (sub : Nat) (len : Nat) (v : Nat), odHasIndex ix = true ∧ odFind ix sub = none)
    ∧ (∃ (s : State) (a : Agent) (ix : Nat) (sub : Nat) (len : Nat) (v : Nat), odHasIndex ix = true ∧ (∃ e, odFind ix sub = some e ∧ (e.acc = .const ∨ e.acc = .ro)))
    ∧ (∃ (s : State) (a : Agent) (ix : Nat) (sub : Nat) (len : Nat) (v : Nat), odHasIndex ix = true ∧ (∃ e, odFind ix sub = some e ∧ e.acc ≠ .const ∧ e.acc ≠ .ro ∧ len ≠ e.bytes))
    ∧ (∃ (s : State) (a : Agent) (ix : Nat) (sub : Nat) (len : Nat) (v : Nat), odHasIndex ix = true ∧ (∃ e, odFind ix sub = some e ∧ e.acc ≠ .const ∧ e.acc ≠ .ro ∧ len = e.bytes) ∧ s.barred (agentNo a) ix sub = true)
    ∧ (∃ (s : State) (a : Agent) (ix : Nat) (sub : Nat) (len : Nat) (v : Nat), odHasIndex ix = true ∧ (∃ e, odFind ix sub = some e ∧ e.acc = .rwIdle ∧ len = e.bytes) ∧ s.barred (agentNo a) ix sub = false ∧ s.blockIdle (agentNo a) ix = false)
    ∧ (∃ (s : State) (a : Agent) (ix : Nat) (sub : Nat) (len : Nat) (v : Nat), odHasIndex ix = true ∧ (∃ e, odFind ix sub = some e ∧ e.acc ≠ .const ∧ e.acc ≠ .ro ∧ e.acc ≠ .rwIdle ∧ len = e.bytes) ∧ s.barred (agentNo a) ix sub = false ∧ valueOk ix sub v = false) :=
  ⟨⟨wRun, .can0, 0x9999, 0, 1, 0, by decide +kernel⟩,
   ⟨wRun, .can0, 0x9999, 0, 1, 0, by decide +kernel⟩,
   ⟨wRun, .can0, 0x1017, 1, 1, 0, by decide +kernel⟩,
   ⟨wRun, .can0, 0x1018, 1, 4, 0, by decide +kernel⟩,
   ⟨wRun, .can0, 0x1017, 0, 1, 0, by decide +kernel⟩,
   ⟨wRun.setReg 0x2304 7 2, .can0, 0x2304, 1, 1, 1, by decide +kernel⟩,
   ⟨wRun.setReg 0x2440 1 1, .can0, 0x2440, 4, 8, 0, by decide +kernel⟩,
   ⟨wRun, .can0, 0x1003, 0, 1, 5, by decide +kernel⟩⟩

theorem hyps_RegisterWrite :
    (∃ (x : Nat × Nat) (s : State) (a : Agent) (v : Nat), x ∈ [(0x1017, 0), (0x2900, 9), (0x2900, 0x10), (0x2B30, 2), (0x2E00, 3), (0x2C10, 1)] ∧ Admitted s a x.1 x.2 (odBytes x.1 x.2) v)
    ∧ (∃ (x : Nat × Nat) (s : State) (a : Agent) (v : Nat), x ∈ [(0x1017, 0), (0x2900, 9), (0x2900, 0x10), (0x2B30, 2), (0x2E00, 3), (0x2C10, 1)] ∧ Admitted s a x.1 x.2 (odBytes x.1 x.2) v)
    ∧ (∃ (x : Nat × Nat) (s : State) (a : Agent) (v : Nat), x ∈ [(0x1017, 0), (0x2900, 9), (0x2900, 0x10), (0x2B30, 2), (0x2E00, 3), (0x2C10, 1)] ∧ Admitted s a x.1 x.2 (odBytes x.1 x.2) v)
    ∧ (∃ (s : State) (a : Agent) (v : Nat), Admitted s a 0x2304 7 1 v) :=
  ⟨⟨(0x1017, 0), wRun, .can0, 77, by decide +kernel⟩,
   ⟨(0x2900, 9), wRun, .mirror, 500, by decide +kernel⟩,
   ⟨(0x2C10, 1), wRun, .mirror, 512, by decide +kernel⟩,
   ⟨wRun, .can1, 2, by decide +kernel⟩⟩

theorem hyps_CommitAccepted :
    (∃ (s : State) (a : Agent), Admitted s a 0x2304 1 1 1 ∧ s.commitBreaches = [])
    ∧ (∃ (s : State) (a : Agent) (st : Nat) (ix : Nat) (sub : Nat) (page : Nat) (rest : List (Nat × Nat × Nat × Nat)), Admitted s a 0x2304 1 1 1 ∧ s.commitBreaches = (st, ix, sub, page) :: rest)
    ∧ (∃ (s : State) (a : Agent), Admitted s a 0x2304 1 1 2) :=
  ⟨⟨wRun.setReg 0x2300 3 1, .mirror, by decide +kernel⟩,
   ⟨wRun.setReg 0x2202 2 64, .mirror, 0x81, 0x2202, 0, 0, [], by decide +kernel⟩,
   ⟨wRun.setReg 0x2300 3 1, .can0, by decide +kernel⟩⟩

theorem hyps_SyncObjectAccess :
    (∃ (s : State) (a : Agent) (v : Nat), Admitted s a 0x2420 1 4 v)
    ∧ (∃ (s : State) (a : Agent) (v : Nat), Admitted s a 0x2420 2 4 v)
    ∧ (∃ (s : State) (a : Agent) (v : Nat), Admitted s a 0x2420 3 4 v) :=
  ⟨⟨wRun, .can1, 131071, by decide +kernel⟩,
   ⟨wRun, .can1, 7, by decide +kernel⟩,
   ⟨wRun.setSync 0 4294967295, .mirror, 3, by decide +kernel⟩⟩

theorem hyps_MailboxRequest :
    (∃ (s : State) (i : Fin 16) (r : Nat), s.pcieUp = true ∧ 6 ≤ s.boot.released ∧ (s.mailbox i.val).busy = false)
    ∧ (∃ (s : State) (i : Fin 16) (n : Nat), s.pcieUp = true ∧ 6 ≤ s.boot.released ∧ (s.mailbox i.val).busy = false)
    ∧ (∃ (s : State) (i : Fin 16) (r : Nat) (n : Nat), s.pcieUp = true ∧ 6 ≤ s.boot.released ∧ (s.mailbox i.val).busy = false)
    ∧ (∃ (s : State) (i : Fin 16) (v : Nat) (b : Nat) (x : Nat × Nat), s.pcieUp = true ∧ 6 ≤ s.boot.released ∧ (s.mailbox i.val).busy = false ∧ (x.2 = 4 ∨ x.2 = 8) ∧ x.1 + x.2 ≤ 32 ∧ b < 32)
    ∧ (∃ (s : State) (i : Fin 16) (v : Nat) (b : Nat) (x : Nat × Nat), s.pcieUp = true ∧ 6 ≤ s.boot.released ∧ (s.mailbox i.val).busy = false ∧ (x.2 = 4 ∨ x.2 = 8) ∧ x.1 + x.2 ≤ 32 ∧ b < 32)
    ∧ (∃ (s : State) (i : Fin 16) (n : Nat), s.pcieUp = true ∧ 6 ≤ s.boot.released ∧ (n = 4 ∨ n = 8))
    ∧ (∃ (s : State) (i : Fin 16) (w : MailboxWrite), s.pcieUp = true ∧ 6 ≤ s.boot.released ∧ (s.mailbox i.val).busy = true ∧ w ≠ .readOnly (mailboxBytes w))
    ∧ (∃ (s : State) (i : Fin 16) (w : MailboxWrite), s.pcieUp = false) :=
  ⟨⟨wRun, 3, 0x10170001, by decide +kernel⟩,
   ⟨wRun, 3, 2, by decide +kernel⟩,
   ⟨wRun, 3, 0x10170001, 2, by decide +kernel⟩,
   ⟨wRun, 3, 0x05060708, 6, (4, 4), by decide +kernel⟩,
   ⟨wRun, 15, 0x05060708, 31, (24, 8), by decide +kernel⟩,
   ⟨wRun, 3, 8, by decide +kernel⟩,
   ⟨(wRun.setMailbox 3 { Mailbox.init with busy := true }), 3, (.data 0 4 5), by decide +kernel⟩,
   ⟨State.reset, 3, (.data 0 4 5), by decide +kernel⟩⟩

theorem hyps_MailboxComplete :
    (∃ (s : State) (i : Nat) (rest : List Nat) (r : State × Nat × Nat), (s.mirrorQueue = i :: rest ∧ (s.mailbox i).busy = true ∧ (s.mailbox i).request % 4 = 1) ∧ r = (s.withMirrorQueue rest).odRead .mirror ((s.mailbox i).request / 65536) ((s.mailbox i).request / 256 % 256))
    ∧ (∃ (s : State) (i : Nat) (rest : List Nat), s.mirrorQueue = i :: rest ∧ (s.mailbox i).busy = true ∧ (s.mailbox i).request % 4 = 2 ∧ ¬ Admitted s .mirror ((s.mailbox i).request / 65536) ((s.mailbox i).request / 256 % 256) (s.mailbox i).length ((s.mailbox i).data % 256 ^ Nat.min 32 (s.mailbox i).length))
    ∧ (∃ (s : State) (i : Nat) (rest : List Nat), s.mirrorQueue = i :: rest ∧ (s.mailbox i).busy = true ∧ (s.mailbox i).request % 4 = 2 ∧ (s.mailbox i).request / 256 = 0x101700 ∧ (s.mailbox i).length = 2 ∧ Admitted s .mirror 0x1017 0 2 ((s.mailbox i).data % 65536))
    ∧ (∃ (s : State) (i : Nat) (rest : List Nat), s.mirrorQueue = i :: rest ∧ (s.mailbox i).busy = true ∧ (s.mailbox i).request % 4 ∉ [1, 2]) :=
  ⟨⟨wMail, 3, [], _, by decide +kernel, rfl⟩,
   ⟨(wMail.setMailbox 3 { wMail.mailbox 3 with request := 0x99990002 }), 3, [], by decide +kernel⟩,
   ⟨(wMail.setMailbox 3 { wMail.mailbox 3 with request := 0x10170002, length := 2, data := 0x50123 }), 3, [], by decide +kernel⟩,
   ⟨(wMail.setMailbox 3 { wMail.mailbox 3 with request := 0x10170083 }), 3, [], by decide +kernel⟩⟩

theorem hyps_NmtCommands :
    (∃ (s : State) (c : CanId), s.canLive c.val = true)
    ∧ (∃ (s : State) (c : CanId), s.canLive c.val = true)
    ∧ (∃ (s : State) (c : CanId) (i : Instr), s.canLive c.val = true ∧ i ∈ [.nmtResetNode c, .nmtResetCommunication c])
    ∧ (∃ (s : State) (c : CanId) (i : Instr), s.canLive c.val = true ∧ i ∈ [.nmtResetNode c, .nmtResetCommunication c])
    ∧ (∃ (s : State) (c : CanId), s.canLive c.val = true ∧ s.reg 0x1017 0 ≠ 0)
    ∧ (∃ (s : State) (c : CanId) (i : Instr), s.canLive c.val = false ∧ i ∈ [.nmtStartRemoteNode c, .nmtStopRemoteNode c, .nmtEnterPreOperational c, .nmtResetNode c, .nmtResetCommunication c, .heartbeat c])
    ∧ (∃ (s : State) (c : CanId), s.canLive c.val = true)
    ∧ (∃ (s : State) (c : CanId), (s.can c.val).busOff = true) :=
  ⟨⟨wRun, 1, by decide +kernel⟩,
   ⟨wRun.setReg 0x2304 7 2, 1, by decide +kernel⟩,
   ⟨wRun.setReg 0x2304 7 2, 1, (.nmtResetNode 1), by decide +kernel⟩,
   ⟨wRun.setReg 0x1017 0 2, 1, (.nmtResetCommunication 1), by decide +kernel⟩,
   ⟨wRun.setReg 0x1017 0 100, 1, by decide +kernel⟩,
   ⟨State.reset, 0, (.nmtStartRemoteNode 0), by decide +kernel⟩,
   ⟨wRun.setReg 0x2304 7 2, 1, by decide +kernel⟩,
   ⟨(wRun.modCan 1 (fun k => { k with busOff := true })), 1, by decide +kernel⟩⟩

theorem hyps_UsdoTransfers :
    (∃ (s : State) (c : CanId) (ix : Nat) (sub : Nat), s.canEnabled c.val = true ∧ s.readCheck c.val ix sub = 0 ∧ ix ≠ 0x2F01 ∧ ix ≠ 0x2F02)
    ∧ (∃ (s : State) (c : CanId) (ix : Nat) (sub : Nat), s.canEnabled c.val = true ∧ s.readCheck c.val ix sub ≠ 0)
    ∧ (∃ (s : State) (c : CanId) (ix : Nat) (sub : Nat) (len : Nat) (v : Nat), s.canEnabled c.val = true ∧ ¬ Admitted s (agentOf c.val) ix sub len v)
    ∧ (∃ (s : State) (c : CanId) (v : Nat), s.canEnabled c.val = true ∧ Admitted s (agentOf c.val) 0x1017 0 2 v)
    ∧ (∃ (s : State) (c : CanId) (ix : Nat) (sub : Nat) (len : Nat), s.canEnabled c.val = true)
    ∧ (∃ (s : State) (c : CanId) (ix : Nat) (sub : Nat) (len : Nat) (next : Bool) (toggle : Bool) (got : List Byte) (bytes : List Byte), s.canEnabled c.val = true ∧ (s.can c.val).segment = some (ix, sub, len, next, got))
    ∧ (∃ (s : State) (c : CanId) (m : UsdoMessage), s.canEnabled c.val = true ∧ (s.can c.val).segment = none ∧ m ∈ [.unsupported, .segment true [], .segment false []])
    ∧ (∃ (s : State) (c : CanId), s.canEnabled c.val = true ∧ (s.can c.val).segment ≠ none) :=
  ⟨⟨wRun.setReg 0x1017 0 100, 1, 0x1017, 0, by decide +kernel⟩,
   ⟨wRun, 1, 0x1017, 5, by decide +kernel⟩,
   ⟨wRun, 1, 0x1017, 0, 1, 5, by decide +kernel⟩,
   ⟨wRun, 1, 500, by decide +kernel⟩,
   ⟨wRun, 1, 0x1017, 0, 2, by decide +kernel⟩,
   ⟨(wRun.setSegment 1 (some (0x1017, 0, 2, true, [5]))), 1, 0x1017, 0, 2, true, true, [5], [7], by decide +kernel⟩,
   ⟨wRun, 1, .unsupported, by decide +kernel⟩,
   ⟨(wRun.setSegment 1 (some (0x1017, 0, 2, true, [5]))), 1, by decide +kernel⟩⟩

theorem hyps_ProcessDataObjects :
    (∃ (s : State) (c : CanId) (cob : Nat) (n : Nat) (data : List Byte), (s.can c.val).nmt = .operational ∧ (s.can c.val).busOff = false ∧ (List.range 4).filter (fun n => s.pdoValid (0x1400 + n) && s.reg (0x1400 + n) 1 % 2048 == cob) = [n] ∧ inRange (s.reg (0x1400 + n) 2) 1 0xF0 = true)
    ∧ (∃ (s : State) (c : CanId) (cob : Nat) (n : Nat) (data : List Byte), (s.can c.val).nmt = .operational ∧ (s.can c.val).busOff = false ∧ (List.range 4).filter (fun n => s.pdoValid (0x1400 + n) && s.reg (0x1400 + n) 1 % 2048 == cob) = [n] ∧ inRange (s.reg (0x1400 + n) 2) 1 0xF0 = false)
    ∧ (∃ (s : State) (c : CanId) (cob : Nat) (n : Nat) (data : List Byte), ((s.can c.val).nmt = .operational ∧ (s.can c.val).busOff = false ∧ (s.can c.val).waiting = [(n, data)] ∧ n < 4 ∧ (List.range 4).filter (fun n => s.pdoValid (0x1800 + n) && inRange (s.reg (0x1800 + n) 2) 1 0xF0) = [] ∧ s.pdoMap (0x1400 + n) = [0x10170010] ∧ 2 ≤ data.length ∧ Admitted s (agentOf c.val) 0x1017 0 2 (leNat (data.take 2))) ∧ cob = s.reg 0x1005 0 % 2048)
    ∧ (∃ (s : State) (c : CanId) (cob : Nat) (n : Nat), ((s.can c.val).nmt = .operational ∧ (s.can c.val).busOff = false ∧ (s.can c.val).waiting = [] ∧ n < 4 ∧ (List.range 4).filter (fun n => s.pdoValid (0x1800 + n) && inRange (s.reg (0x1800 + n) 2) 1 0xF0) = [n]) ∧ cob = s.reg 0x1005 0 % 2048)
    ∧ (∃ (s : State) (c : CanId) (n : Fin 4), (s.can c.val).nmt = .operational ∧ (s.can c.val).busOff = false ∧ s.pdoValid (0x1800 + n.val) = true ∧ 0xFE ≤ s.reg (0x1800 + n.val) 2 ∧ s.reg (0x1800 + n.val) 5 ≠ 0)
    ∧ (∃ (s : State) (c : CanId) (cob : Nat) (data : List Byte) (n : Fin 4), ((s.can c.val).nmt ≠ .operational ∨ (s.can c.val).busOff = true)) :=
  ⟨⟨wPdo.setReg 0x1400 2 1, 1, 0x200, 0, [7, 0], by decide +kernel⟩,
   ⟨wPdo, 1, 0x200, 0, [7, 1], by decide +kernel⟩,
   ⟨((wPdo.setReg 0x1800 1 0x80000000).modCan 1 (fun k => { k with waiting := [(0, [9, 0])] })), 1, _, 0, [9, 0], by decide +kernel, rfl⟩,
   ⟨wPdo.setReg 0x1800 2 3, 1, _, 0, by decide +kernel, rfl⟩,
   ⟨(wPdo.setReg 0x1800 2 0xFE).setReg 0x1800 5 10, 1, 0, by decide +kernel⟩,
   ⟨State.reset, 0, 0x200, [], 0, by decide +kernel⟩⟩

theorem hyps_PdoMappingAndErrorList :
    (∃ (s : State) (a : Agent) (ix : Nat) (v : Nat), ix ∈ [0x1600, 0x1601, 0x1602, 0x1603, 0x1A00, 0x1A01, 0x1A02, 0x1A03] ∧ Admitted s a ix 0 1 v)
    ∧ (∃ (s : State) (a : Agent) (ix : Nat) (v : Nat), ix ∈ [0x1600, 0x1601, 0x1602, 0x1603, 0x1A00, 0x1A01, 0x1A02, 0x1A03] ∧ Admitted s a ix 0 1 v)
    ∧ (∃ (s : State) (a : Agent), Admitted s a 0x1003 0 1 0) :=
  ⟨⟨wPdo.setReg 0x1600 0 0, .can0, 0x1600, 1, by decide +kernel⟩,
   ⟨wPdo.setReg 0x1600 0 0, .can0, 0x1600, 2, by decide +kernel⟩,
   ⟨wRun.errorList 0x01015000, .can0, by decide +kernel⟩⟩

theorem hyps_ResetSources :
    (∃ (s : State) (x : Instr × Nat), x ∈ [(.powerOn, 1), (.brownOut 2, 1), (.referenceClockFailure, 64), (.pllLockLost 0, 128)] ∧ (x.1 = .pllLockLost 0 → s.boot.aon = true))
    ∧ (∃ (s : State) (x : Instr × Nat), x ∈ [(.powerOn, 1), (.brownOut 2, 1), (.referenceClockFailure, 64), (.pllLockLost 0, 128)] ∧ (x.1 = .pllLockLost 0 → s.boot.aon = true))
    ∧ (∃ (s : State) (x : Instr × Nat), x ∈ [(.powerOn, 1), (.brownOut 2, 1), (.referenceClockFailure, 64), (.pllLockLost 0, 128)] ∧ (x.1 = .pllLockLost 0 → s.boot.aon = true))
    ∧ (∃ (s : State) (a : Agent) (rail : RailId) (pll : PllId) (x : Instr × Nat), x ∈ [(.watchdog, 8), (.managementLockUp, 256), (.reset a, 16), (.brownOut rail, 2 + 2 ^ (16 + rail.val)), (.pllLockLost pll, 128 + pll.val * 2 ^ 12)] ∧ (x.1 = .watchdog → s.boot.image ≠ []) ∧ (x.1 = .managementLockUp → 4 ≤ s.boot.released) ∧ (x.1 = .reset a → Admitted s a 0x2100 5 2 0x5A01) ∧ (x.1 = .brownOut rail → rail ≠ 2) ∧ (x.1 = .pllLockLost pll → pll ≠ 0 ∧ 3 ≤ s.boot.released))
    ∧ (∃ (s : State) (a : Agent) (rail : RailId) (pll : PllId) (x : Instr × Nat), x ∈ [(.watchdog, 8), (.managementLockUp, 256), (.reset a, 16), (.brownOut rail, 2 + 2 ^ (16 + rail.val)), (.pllLockLost pll, 128 + pll.val * 2 ^ 12)] ∧ (x.1 = .watchdog → s.boot.image ≠ []) ∧ (x.1 = .managementLockUp → 4 ≤ s.boot.released) ∧ (x.1 = .reset a → Admitted s a 0x2100 5 2 0x5A01) ∧ (x.1 = .brownOut rail → rail ≠ 2) ∧ (x.1 = .pllLockLost pll → pll ≠ 0 ∧ 3 ≤ s.boot.released))
    ∧ (∃ (s : State) (a : Agent) (rail : RailId) (pll : PllId) (x : Instr × Nat), x ∈ [(.watchdog, 8), (.managementLockUp, 256), (.reset a, 16), (.brownOut rail, 2 + 2 ^ (16 + rail.val)), (.pllLockLost pll, 128 + pll.val * 2 ^ 12)] ∧ (x.1 = .watchdog → s.boot.image ≠ []) ∧ (x.1 = .managementLockUp → 4 ≤ s.boot.released) ∧ (x.1 = .reset a → Admitted s a 0x2100 5 2 0x5A01) ∧ (x.1 = .brownOut rail → rail ≠ 2) ∧ (x.1 = .pllLockLost pll → pll ≠ 0 ∧ 3 ≤ s.boot.released))
    ∧ (∃ (s : State) (a : Agent) (rail : RailId) (pll : PllId) (x : Instr × Nat), x ∈ [(.watchdog, 8), (.managementLockUp, 256), (.reset a, 16), (.brownOut rail, 2 + 2 ^ (16 + rail.val)), (.pllLockLost pll, 128 + pll.val * 2 ^ 12)] ∧ (x.1 = .watchdog → s.boot.image ≠ []) ∧ (x.1 = .managementLockUp → 4 ≤ s.boot.released) ∧ (x.1 = .reset a → Admitted s a 0x2100 5 2 0x5A01) ∧ (x.1 = .brownOut rail → rail ≠ 2) ∧ (x.1 = .pllLockLost pll → pll ≠ 0 ∧ 3 ≤ s.boot.released))
    ∧ (∃ (s : State) (a : Agent) (rail : RailId) (pll : PllId) (x : Instr × Nat), x ∈ [(.watchdog, 8), (.managementLockUp, 256), (.reset a, 16), (.brownOut rail, 2 + 2 ^ (16 + rail.val)), (.pllLockLost pll, 128 + pll.val * 2 ^ 12)] ∧ (x.1 = .watchdog → s.boot.image ≠ []) ∧ (x.1 = .managementLockUp → 4 ≤ s.boot.released) ∧ (x.1 = .reset a → Admitted s a 0x2100 5 2 0x5A01) ∧ (x.1 = .brownOut rail → rail ≠ 2) ∧ (x.1 = .pllLockLost pll → pll ≠ 0 ∧ 3 ≤ s.boot.released))
    ∧ (∃ (s : State), s.boot.resetN = true)
    ∧ (∃ (s : State) (g : PinGroup), s.boot.resetN = true) :=
  ⟨⟨wFull, (.powerOn, 1), by decide +kernel⟩,
   ⟨wFull, (.brownOut 2, 1), by decide +kernel⟩,
   ⟨wFull, (.pllLockLost 0, 128), by decide +kernel⟩,
   ⟨wFull, .mirror, 3, 4, (.watchdog, 8), by decide +kernel⟩,
   ⟨wFull, .mirror, 3, 4, (.managementLockUp, 256), by decide +kernel⟩,
   ⟨wFull, .mirror, 3, 4, (.reset .mirror, 16), by decide +kernel⟩,
   ⟨wFull, .mirror, 3, 4, (.brownOut 3, 524290), by decide +kernel⟩,
   ⟨wFull, .mirror, 3, 4, (.pllLockLost 4, 16512), by decide +kernel⟩,
   ⟨wFull, by decide +kernel⟩,
   ⟨wFull, .aphy, by decide +kernel⟩⟩

theorem hyps_ReleaseSequence :
    (∃ (s : State), s.boot.resetN = false)
    ∧ (∃ (s : State), s.boot.resetN = true ∧ s.boot.pllRestarts < 3)
    ∧ (∃ (s : State), s.boot.resetN = true ∧ s.boot.pllRestarts < 3 ∧ s.boot.image ≠ [])
    ∧ (∃ (s : State), (s.boot.resetN = false ∨ 8 < s.boot.released ∨ (3 ≤ s.boot.pllRestarts ∧ s.boot.released ≠ 0) ∨ (s.boot.image = [] ∧ 6 ≤ s.boot.released)))
    ∧ (∃ (s : State) (pll : PllId), s.boot.resetN = true ∧ s.boot.pllRestarts < 3 ∧ ((pll = 0 ∧ s.boot.released = 1) ∨ (pll ≠ 0 ∧ s.boot.released = 2)))
    ∧ (∃ (s : State), s.boot.filled = false ∧ 5 ≤ s.boot.released) :=
  ⟨⟨{ wRun with boot := { wRun.boot with resetN := false, released := 0 } }, by decide +kernel⟩,
   ⟨wRel 1, by decide +kernel⟩,
   ⟨{ wRel 6 with boot := { (wRel 6).boot with image := [1] } }, by decide +kernel⟩,
   ⟨wRun, by decide +kernel⟩,
   ⟨wRel 1, 0, by decide +kernel⟩,
   ⟨wRel 6, by decide +kernel⟩⟩

theorem hyps_FirmwareBoot :
    (∃ (s : State) (image : List Byte), 4 ≤ s.boot.released ∧ s.reg 0x2100 1 = 0 ∧ s.boot.image = [] ∧ s.bootMode ≠ 1 ∧ s.reg 0x2C10 4 ≠ 1)
    ∧ (∃ (s : State) (image : List Byte) (b : List Byte) (st : Nat), (4 ≤ s.boot.released ∧ s.reg 0x2100 1 = 0 ∧ s.boot.image = [] ∧ s.reg 0x2C10 4 = 1) ∧ b = s.rd page3 (Nat.min (s.reg 0x2C10 2) 0x200000) ∧ st = (if s.badRange page3 (Nat.min (s.reg 0x2C10 2) 0x200000) then 0x88 else if field b 8 4 ≠ s.reg 0x2C10 2 then 0x87 else s.verifyImage b))
    ∧ (∃ (s : State), 4 ≤ s.boot.released ∧ s.reg 0x2100 1 = 0 ∧ s.boot.image = [] ∧ s.bootMode ≠ 1 ∧ s.reg 0x2C10 4 ≠ 1)
    ∧ (∃ (s : State) (a : Agent), Admitted s a 0x2C10 3 1 1 ∧ ((s.reg 0x2100 1 ≠ 1 ∧ s.reg 0x2100 1 ≠ 3) ∨ s.boot.loadAccepted = false))
    ∧ (∃ (s : State) (a : Agent), Admitted s a 0x2C10 3 1 1 ∧ (s.reg 0x2100 1 = 1 ∨ s.reg 0x2100 1 = 3) ∧ s.boot.loadAccepted = true ∧ (s.opStart 0 (s.reg 0x2C10 2)).imageSource (s.reg 0x2C10 1) (s.reg 0x2C10 2) = none)
    ∧ (∃ (s : State) (a : Agent) (b : List Byte), Admitted s a 0x2C10 3 1 1 ∧ (s.reg 0x2100 1 = 1 ∨ s.reg 0x2100 1 = 3) ∧ s.boot.loadAccepted = true ∧ (s.opStart 0 (s.reg 0x2C10 2)).imageSource (s.reg 0x2C10 1) (s.reg 0x2C10 2) = some b)
    ∧ (∃ (s : State) (a : Agent) (b : List Byte) (u : State × Nat), (Admitted s a 0x2C10 3 1 2 ∧ s.reg 0x2100 1 = 2 ∧ s.reg 0x2C10 4 ≠ 1 ∧ s.reg 0x2C10 9 ≠ 0 ∧ s.reg 0x2C10 9 % 0x200000 = 0 ∧ regionOf (s.reg 0x2C10 9) = .pkg ∧ s.mgmtOk true (s.reg 0x2C10 9) 0x200000 = true ∧ (s.opStart 0 (2 * s.reg 0x2C10 2)).imageSource (s.reg 0x2C10 1) (s.reg 0x2C10 2) = some b ∧ s.reg 0x2C10 2 ≤ 0x200000) ∧ u = ((s.opStart 0 (2 * s.reg 0x2C10 2)).readEvents [] (s.reg 0x2C10 1) (s.reg 0x2C10 2)).writeDev [] (s.reg 0x2C10 9) b)
    ∧ (∃ (s : State) (ok : Bool), s.reg 0x2C10 4 = 1 ∧ s.reg 0x2100 1 = 2) :=
  ⟨⟨wLoading, [1, 2, 3], by decide +kernel⟩,
   ⟨wProgramLoads, [1, 2, 3], _, _, by decide +kernel, rfl, rfl⟩,
   ⟨wLoading, by decide +kernel⟩,
   ⟨wRun, .mirror, by decide +kernel⟩,
   ⟨wWait.setReg 0x2C10 1 0, .mirror, by decide +kernel⟩,
   ⟨wWait, .mirror, wWaitImage, by decide +kernel⟩,
   ⟨wProgram, .mirror, wProgramImage, _, by decide +kernel, rfl⟩,
   ⟨wRun.setReg 0x2C10 4 1, true, by decide +kernel⟩⟩

theorem hyps_OptionAndIdentity :
    (∃ (s : State) (a : Agent) (ok : Bool) (b : List Byte), Admitted s a 0x2102 2 1 1 ∧ s.boot.lifecycle ≠ 3 ∧ s.boot.slots.length < 4 ∧ s.mgmtRead (s.reg 0x2102 1) 64 = some b)
    ∧ (∃ (s : State) (a : Agent) (ok : Bool), Admitted s a 0x2102 2 1 1 ∧ (s.boot.lifecycle = 3 ∨ 4 ≤ s.boot.slots.length))
    ∧ (∃ (s : State) (a : Agent), Admitted s a 0x2C00 0x0A 1 3)
    ∧ (∃ (s : State) (a : Agent), Admitted s a 0x2C00 0x0A 1 1 ∧ s.addressOk (128 + 64 * s.boot.log.length + 2420) = true ∧ s.boot.nonceFresh = true)
    ∧ (∃ (s : State) (a : Agent), Admitted s a 0x2C00 0x0A 1 1 ∧ (s.addressOk (128 + 64 * s.boot.log.length + 2420) = false ∨ s.boot.nonceFresh = false))
    ∧ (∃ (s : State) (a : Agent), Admitted s a 0x2C00 0x0A 1 2)
    ∧ (∃ (s : State) (a : Agent) (k : List Byte), Admitted s a 0x2C00 0x0A 1 4 ∧ s.reg 0x2C00 9 % 32 = 0 ∧ s.mgmtRead (s.reg 0x2C00 9) 1312 = some k) :=
  ⟨⟨wOpt defaultSlot, .mirror, true, defaultSlot, by decide +kernel⟩,
   ⟨{ wRun with boot := { wRun.boot with lifecycle := 3 } }, .mirror, true, by decide +kernel⟩,
   ⟨wRun.setReg 0x2C10 7 3, .mirror, by decide +kernel⟩,
   ⟨wAttest, .mirror, by decide +kernel⟩,
   ⟨wRun, .mirror, by decide +kernel⟩,
   ⟨wAttest, .mirror, by decide +kernel⟩,
   ⟨wRun.setReg 0x2C00 9 0x200000, .mirror, zeros 1312, by decide +kernel⟩⟩

theorem hyps_CalderaPower :
    (∃ (s : State) (a : Agent) (c : CalderaId), Admitted s a 0x2108 9 2 (256 * c.val) ∧ s.calderaFree c.val = true)
    ∧ (∃ (s : State) (a : Agent) (mask : Nat), Admitted s a 0x2100 6 1 mask ∧ (maskList 8 mask).all s.calderaFree = true ∧ maskList 8 mask ≠ [])
    ∧ (∃ (s : State) (a : Agent) (c : CalderaId), s.calderaFree c.val = false)
    ∧ (∃ (s : State) (a : Agent) (c : CalderaId), Admitted s a 0x2108 9 2 (256 * c.val + 1))
    ∧ (∃ (s : State) (c : CalderaId), s.reg 0x2108 (c.val + 1) = 2 ∧ (s.caldera c.val).resetting = false)
    ∧ (∃ (s : State) (c : CalderaId) (passed : Bool), (s.caldera c.val).resetting = true ∧ (s.oos c.val = true → passed = true))
    ∧ (∃ (s : State) (c : CalderaId), (s.caldera c.val).resetting = true ∧ s.oos c.val = true ∧ s.reg 0x2B00 4 = 0xFFFF)
    ∧ (∃ (s : State) (mv : List Nat) (temp : Int), 4 ≤ s.boot.released) :=
  ⟨⟨wFull, .mirror, 3, by decide +kernel⟩,
   ⟨wFull, .mirror, 0x18, by decide +kernel⟩,
   ⟨wRun.setReg 0x2440 1 1, .mirror, 0, by decide +kernel⟩,
   ⟨wRun.setReg 0x2108 4 0, .mirror, 3, by decide +kernel⟩,
   ⟨wRun.setReg 0x2108 4 2, 3, by decide +kernel⟩,
   ⟨(wRun.modCaldera 3 (fun k => { k with resetting := true })), 3, false, by decide +kernel⟩,
   ⟨((wRun.modCaldera 3 (fun k => { k with resetting := true })).setReg 0x2B00 0x0B 8), 3, by decide +kernel⟩,
   ⟨wRun, [1000, 900], 350, by decide +kernel⟩⟩

theorem hyps_StreamControl :
    (∃ (s : State) (a : Agent) (g : SkeinId), Admitted s a (0x2440 + g.val) 9 1 1 ∧ s.startOk g.val = true)
    ∧ (∃ (s : State) (a : Agent) (g : SkeinId), Admitted s a (0x2440 + g.val) 9 1 1 ∧ s.startOk g.val = false)
    ∧ (∃ (s : State) (a : Agent) (g : SkeinId), Admitted s a (0x2440 + g.val) 9 1 2 ∧ s.streamLive g.val = true)
    ∧ (∃ (s : State) (a : Agent) (g : SkeinId), Admitted s a (0x2440 + g.val) 9 1 3) :=
  ⟨⟨wRun.setReg 0x2445 4 0x200000, .can0, 5, by decide +kernel⟩,
   ⟨wRun.setReg 0x2445 1 1, .can0, 5, by decide +kernel⟩,
   ⟨wSk wRun (wFly 1), .mirror, 0, by decide +kernel⟩,
   ⟨wRun.setReg 0x2445 7 3, .can0, 5, by decide +kernel⟩⟩

theorem hyps_FetchAndDispatch :
    (∃ (s : State) (g : SkeinId), (s.streamState g.val = 1 ∨ s.streamState g.val = 2) ∧ (s.skein g.val).abandoned = false ∧ (s.skein g.val).fetched.length ≤ 56 ∧ (s.skein g.val).fetched.any (fun d => stopsFetch d.2) = false ∧ (s.skein g.val).flights.any (fun f => stopsFetch f.word) = false ∧ regionOf (s.nextFetch g.val) = .pkg ∧ s.accessStatus (some (s.skeinPart g.val)) false (s.nextFetch g.val) = 0 ∧ (s.readDev [] (s.nextFetch g.val) (32 * Nat.min 8 ((0x200000 - s.nextFetch g.val % 0x200000) / 32))).status = 0)
    ∧ (∃ (s : State) (g : SkeinId), s.streamState g.val = 1 ∧ (s.skein g.val).abandoned = false ∧ (s.skein g.val).fetched = [] ∧ (s.skein g.val).flights.any (fun f => stopsFetch f.word) = false ∧ regionOf (s.nextFetch g.val) = .pkg ∧ s.accessStatus (some (s.skeinPart g.val)) false (s.nextFetch g.val) = 0x20 ∧ s.reg 0x2220 1 = 0xFFFF)
    ∧ (∃ (s : State) (g : SkeinId) (a : Nat) (w : Nat) (rest : List (Nat × Nat)), s.streamState g.val = 1 ∧ (s.skein g.val).abandoned = false ∧ (s.skein g.val).flights.any blocksDispatch = false ∧ (s.caldera (g.val / 8)).reserved = false ∧ (s.skein g.val).flights.length < 16 ∧ (s.skein g.val).fetched = (a, w) :: rest ∧ s.breakHit g.val w = false ∧ headerStatus w = 0 ∧ (descPages w).length ≤ 32 ∧ (s.descRanges g.val w).any (fun r => (s.skein g.val).flights.any (fun f => (s.descRanges g.val f.word).any (fun x => rangesMeet x r))) = false ∧ (s.translateDesc g.val w).1 = 0 ∧ s.hostRefused w = none ∧ s.convDispatch g.val w = 0)
    ∧ (∃ (s : State) (g : SkeinId) (a : Nat) (w : Nat) (rest : List (Nat × Nat)), s.streamState g.val = 1 ∧ (s.skein g.val).abandoned = false ∧ (s.skein g.val).flights.any blocksDispatch = false ∧ (s.caldera (g.val / 8)).reserved = false ∧ (s.skein g.val).flights.length < 16 ∧ (s.skein g.val).fetched = (a, w) :: rest ∧ s.breakHit g.val w = false ∧ s.reg 0x2E30 4 = 0xFFFF ∧ headerStatus w ≠ 0)
    ∧ (∃ (s : State) (g : SkeinId), (s.streamState g.val ≠ 1 ∨ (s.skein g.val).abandoned = true ∨ (s.skein g.val).flights.any blocksDispatch = true)) :=
  ⟨⟨((wRun.wr 0x200000 (leBytes 32 0x12)).setReg 0x2440 1 1).setReg 0x2440 3 0x200000, 0, by decide +kernel⟩,
   ⟨(((wRun.withXlat [(1, 0x200002)]).setReg 0x2440 1 1).setReg 0x2440 3 0x200000), 0, by decide +kernel⟩,
   ⟨(wSk wRun (wFly 1)).modSkein 0 (fun k => { k with fetched := [(0x200000, wLoad)] }), 0, 0x200000, wLoad, [], by decide +kernel⟩,
   ⟨((wSk wRun (wFly 1)).modSkein 0 (fun k => { k with fetched := [(0x200000, 9)] })), 0, 0x200000, 9, [], by decide +kernel⟩,
   ⟨wSk wRun (wFly 0x12), 0, by decide +kernel⟩⟩

theorem hyps_EndAndFence :
    (∃ (s : State) (g : SkeinId) (i : Nat) (f : Flight), s.flightAt g.val i 0x12 = some f ∧ s.earlier g.val f.serial = [] ∧ s.spindlesQuiet g.val = true ∧ Lone s g.val f.serial = true)
    ∧ (∃ (s : State) (g : SkeinId) (i : Nat) (f : Flight) (c : Instr), c ∈ [.fence g i, .endStream g i, .endLoop g i] ∧ (s.flightAt g.val i 0x12 = some f ∨ s.flightAt g.val i 0x1F = some f) ∧ (s.earlier g.val f.serial ≠ [] ∨ s.spindlesQuiet g.val = false))
    ∧ (∃ (s : State) (g : SkeinId) (i : Nat) (f : Flight), s.flightAt g.val i 0x1F = some f ∧ bit f.word 32 = false ∧ s.earlier g.val f.serial = [] ∧ s.spindlesQuiet g.val = true ∧ (s.skein g.val).abandoned = false ∧ s.reg 0x2E30 4 = 0xFFFF ∧ s.reg (0x2330 + s.skeinPart g.val) 1 = 0xFFFF ∧ s.expectedFor (s.skeinPart g.val) g.val 2 (tagOf f.word) (s.reg (0x2440 + g.val) 8) = none)
    ∧ (∃ (s : State) (g : SkeinId) (i : Nat) (f : Flight), s.flightAt g.val i 0x1F = some f ∧ bit f.word 32 = true ∧ s.earlier g.val f.serial = [] ∧ s.spindlesQuiet g.val = true ∧ (s.skein g.val).abandoned = false ∧ s.reg (0x2330 + s.skeinPart g.val) 1 = 0xFFFF ∧ s.expectedFor (s.skeinPart g.val) g.val 2 (tagOf f.word) (s.reg (0x2440 + g.val) 8) = none) :=
  ⟨⟨wSk wRun (wFly 0x12), 0, 0, wFly 0x12, by decide +kernel⟩,
   ⟨(wSk wRun (wFly 0x12)).setSpindle 2 { Spindle.init with landing := [⟨0, 0, true, true, [], 3, 0⟩] }, 0, 0, wFly 0x12, (.fence 0 0), by decide +kernel⟩,
   ⟨wSk wRun (wFly 0x1F), 0, 0, wFly 0x1F, by decide +kernel⟩,
   ⟨((wSk wRun (wFly (wd 0x1F [(32, 1)]))).setReg 0x2440 4 0x200000), 0, 0, (wFly (wd 0x1F [(32, 1)])), by decide +kernel⟩⟩

theorem hyps_LoadAndStore :
    (∃ (s : State) (u : State) (g : SkeinId) (i : Nat) (f : Flight) (r : ReadResult), (s.flips = [] ∧ s.flightAt g.val i 1 = some f ∧ bit f.word 52 = false ∧ loadStatus g.val f.word = 0 ∧ f.data = [] ∧ loadKind f.word = 0 ∧ Lone s g.val f.serial = true ∧ (∀ e ∈ (s.caldera (g.val / 8)).lines, e.2.damage ≠ 2) ∧ u.loadRead g.val f = some r ∧ r.status = 0 ∧ r.bytes.length = loadTotal f.word) ∧ u = (if f.started then s else (s.loadLines g.val f).setFlight g.val { f with started := true }))
    ∧ (∃ (s : State) (u : State) (g : SkeinId) (i : Nat) (f : Flight) (r : ReadResult), (s.flips = [] ∧ s.flightAt g.val i 1 = some f ∧ bit f.word 52 = false ∧ loadStatus g.val f.word = 0 ∧ f.data = [] ∧ loadKind f.word ≠ 0 ∧ bit f.word 53 = false ∧ Lone s g.val f.serial = true ∧ (∀ e ∈ (s.caldera (g.val / 8)).lines, e.2.damage ≠ 2) ∧ f.left.all (fun p => !(s.spindle (4 * g.val + p / 16)).present.contains (p % 16) && !s.partTaken g.val f p) = true ∧ u.loadRead g.val f = some r ∧ r.status = 0 ∧ r.bytes.length = loadTotal f.word) ∧ u = (if f.started then s else (s.loadLines g.val f).setFlight g.val { f with started := true }))
    ∧ (∃ (s : State) (g : SkeinId) (i : Nat) (f : Flight) (q : Nat) (n : Nat) (bs : List (List Byte)), (s.flips = [] ∧ s.flightAt g.val i 1 = some f ∧ bit f.word 52 = true ∧ (n ≠ 0 ∧ loadRow f.word = 32 ∧ loadKind f.word = 0 ∧ bit f.word 53 = false ∧ bit f.word 54 = false ∧ bits f.word 75 57 % 32 = 0 ∧ bits f.word 159 128 % 32 = 0 ∧ bits f.word 95 76 % 32 = 0 ∧ spadFits (bits f.word 75 57) (spanOf (loadDstPitch f.word) n 32) = true) ∧ (s.earlier g.val f.serial).any (fun x => s.sameStore x.word f.word) = false ∧ s.queuePart q = s.skeinPart g.val ∧ (s.queue q).consumer = g.val ∧ n ≤ (s.queue q).count ∧ s.queuePeek q n = (0, bs) ∧ Lone s g.val f.serial = true) ∧ q = bits f.word 221 208 ∧ n = loadRows f.word)
    ∧ (∃ (s : State) (g : SkeinId) (i : Nat) (k : Nat) (f : Flight), s.flips = [] ∧ s.flightAt g.val i 2 = some f ∧ f.started = false ∧ storeStatus f.word = 0 ∧ bit f.word 104 = false ∧ storeRows f.word = 1 ∧ storeRow f.word = 32 ∧ s.placeFor f.pages (storeDst f.word) = .buf k ∧ f.left = [] ∧ f.status = 0 ∧ Lone s g.val f.serial = true)
    ∧ (∃ (s : State) (g : SkeinId) (i : Nat) (pa : Nat) (f : Flight), s.flips = [] ∧ s.flightAt g.val i 2 = some f ∧ f.started = false ∧ storeStatus f.word = 0 ∧ bit f.word 104 = false ∧ storeRows f.word = 1 ∧ storeRow f.word = 32 ∧ s.placeFor f.pages (storeDst f.word) = .pkg pa ∧ s.bankLate pa = false ∧ Lone s g.val f.serial = true) :=
  ⟨⟨wL1, _, 0, 0, wFly wLoad, ⟨0, 0, (List.range 64).map (fun i => BitVec.ofNat 8 (i + 1))⟩, by decide +kernel, rfl⟩,
   ⟨wL2, _, 0, 0, wFly2 wLoadA [0], ⟨0, 0, zeros 2048⟩, by decide +kernel, rfl⟩,
   ⟨wQp, 0, 0, wFly wQpop, _, _, [(List.range 32).map (fun i => BitVec.ofNat 8 (i + 3))], by decide +kernel, rfl, rfl⟩,
   ⟨((wSk wRun (wFly wStoreB)).wr 0x800000000000 [4, 5]), 0, 0, 0x900000000000, wFly wStoreB, by decide +kernel⟩,
   ⟨((wSk wRun (wFly wStoreP)).wr 0x800000000000 [4, 5]), 0, 0, 0x200000, wFly wStoreP, by decide +kernel⟩⟩

theorem hyps_SpindleDescriptors :
    (∃ (s : State) (g : SkeinId) (i : Nat) (f : Flight), s.flightAt g.val i 3 = some f ∧ matmulStatus f.word = 0 ∧ f.started = false ∧ Lone s g.val f.serial = true ∧ (∀ u ∈ spmList f.word, (s.spindle (4 * g.val + u)).queue.length + bits f.word 72 70 + 1 ≤ 4))
    ∧ (∃ (s : State) (g : SkeinId) (i : Nat) (f : Flight), s.flightAt g.val i 3 = some f ∧ matmulStatus f.word = 0 ∧ f.started = false ∧ spmList f.word ≠ [] ∧ (∀ u ∈ spmList f.word, 4 ≤ (s.spindle (4 * g.val + u)).queue.length))
    ∧ (∃ (s : State) (g : SkeinId) (i : Nat) (f : Flight), s.flips = [] ∧ s.flightAt g.val i 5 = some f ∧ f.started = false ∧ drainStatus f.word = 0 ∧ s.drainOpen g.val f = false ∧ bit f.word 183 = false)
    ∧ (∃ (s : State) (g : SkeinId) (i : Nat) (f : Flight) (q : Geom), (s.flips = [] ∧ s.flightAt g.val i 4 = some f ∧ (s.caldera (g.val / 8)).reserved = false ∧ q.mode = 0 ∧ convStatus q f.word = 0 ∧ Lone s g.val f.serial = true ∧ f.left = fillParts f.word (convSlot f.word) (if elemBits (convFmt f.word) = 16 then 2 else 1) 0 ∧ (s.skein g.val).flights.filter (fun x => x.serial = f.serial) = [f] ∧ f.left.all (fun p => !(s.spindle (4 * g.val + p / 16)).present.contains (p % 16) && !s.partTaken g.val f p) = true) ∧ q = geomOf f.data)
    ∧ (∃ (s : State) (g : SkeinId) (i : Nat) (u : Nat) (f : Flight) (q : Geom) (rest : List Nat) (x : Instr × Nat), (x ∈ [(.maxIncl g i, 1), (.maxExcl g i, 2), (.avgIncl g i, 3), (.avgExcl g i, 4)] ∧ s.flips = [] ∧ s.flightAt g.val i 4 = some f ∧ s.vectorFree g.val f = true ∧ (s.caldera (g.val / 8)).stopped = false ∧ q.mode = x.2 ∧ convStatus q f.word = 0 ∧ f.left = poolPart u :: rest ∧ u ∈ spmList f.word ∧ Lone s g.val f.serial = true) ∧ q = geomOf f.data)
    ∧ (∃ (s : State) (g : SkeinId) (i : Nat) (u : Nat) (f : Flight) (q : Geom) (rest : List Nat) (x : Instr × Nat), (x ∈ [(.maxIncl g i, 1), (.maxExcl g i, 2), (.avgIncl g i, 3), (.avgExcl g i, 4)] ∧ s.flips = [] ∧ s.flightAt g.val i 4 = some f ∧ s.vectorFree g.val f = true ∧ (s.caldera (g.val / 8)).stopped = false ∧ q.mode = x.2 ∧ convStatus q f.word = 0 ∧ f.left = poolPart u :: rest ∧ u ∈ spmList f.word ∧ Lone s g.val f.serial = true) ∧ q = geomOf f.data)
    ∧ (∃ (s : State) (g : SkeinId) (i : Nat) (u : Nat) (f : Flight) (q : Geom) (rest : List Nat) (x : Instr × Nat), (x ∈ [(.maxIncl g i, 1), (.maxExcl g i, 2), (.avgIncl g i, 3), (.avgExcl g i, 4)] ∧ s.flips = [] ∧ s.flightAt g.val i 4 = some f ∧ s.vectorFree g.val f = true ∧ (s.caldera (g.val / 8)).stopped = false ∧ q.mode = x.2 ∧ convStatus q f.word = 0 ∧ f.left = poolPart u :: rest ∧ u ∈ spmList f.word ∧ Lone s g.val f.serial = true) ∧ q = geomOf f.data)
    ∧ (∃ (s : State) (g : SkeinId) (i : Nat) (u : Nat) (f : Flight) (q : Geom) (rest : List Nat) (x : Instr × Nat), (x ∈ [(.maxIncl g i, 1), (.maxExcl g i, 2), (.avgIncl g i, 3), (.avgExcl g i, 4)] ∧ s.flips = [] ∧ s.flightAt g.val i 4 = some f ∧ s.vectorFree g.val f = true ∧ (s.caldera (g.val / 8)).stopped = false ∧ q.mode = x.2 ∧ convStatus q f.word = 0 ∧ f.left = poolPart u :: rest ∧ u ∈ spmList f.word ∧ Lone s g.val f.serial = true) ∧ q = geomOf f.data) :=
  ⟨⟨wSk wRun (wFly wMatmul), 0, 0, wFly wMatmul, by decide +kernel⟩,
   ⟨((wSk wRun (wFly wMatmul)).setSpindle 0 { Spindle.init with queue := List.replicate 4 (matmulInstr wMatmul 0 0 0) } |>.setSpindle 1 { Spindle.init with queue := List.replicate 4 (matmulInstr wMatmul 0 0 0) }), 0, 0, wFly wMatmul, by decide +kernel⟩,
   ⟨wSk wRun (wFly wDrain), 0, 0, wFly wDrain, by decide +kernel⟩,
   ⟨wConv, 0, 0, wConvF, _, by decide +kernel, rfl⟩,
   ⟨wPool 1, 0, 0, 0, wPoolF 1, _, [], (.maxIncl 0 0, 1), by decide +kernel, rfl⟩,
   ⟨wPool 2, 0, 0, 0, wPoolF 2, _, [], (.maxExcl 0 0, 2), by decide +kernel, rfl⟩,
   ⟨wPool 3, 0, 0, 0, wPoolF 3, _, [], (.avgIncl 0 0, 3), by decide +kernel, rfl⟩,
   ⟨wPool 4, 0, 0, 0, wPoolF 4, _, [], (.avgExcl 0 0, 4), by decide +kernel, rfl⟩⟩

theorem hyps_VectorDescriptors :
    (∃ (s : State) (g : SkeinId) (i : Nat) (n : Nat) (f : Flight) (x : Instr × Nat) (os : List (Flagged Nat)), (x ∈ [(.add g i, 0), (.sub g i, 1), (.mul g i, 2), (.fma g i, 3), (.min g i, 4), (.max g i, 5), (.shr g i, 6), (.cvt g i, 7), (.tbl g i, 8)] ∧ s.flips = [] ∧ s.flightAt g.val i 6 = some f ∧ bits f.word 162 155 = x.2 ∧ s.vectorFree g.val f = true ∧ eltStatus f.word = 0 ∧ (x.2 = 8 → tblGet [] (s.skein g.val).tables (bits f.word 151 149) ≠ []) ∧ Lone s g.val f.serial = true) ∧ n = bits f.word 198 175 ∧ os = (List.zip (s.elems g.val (bits f.word 255 237) (bits f.word 174 171) 0 n) (List.zip (if eltUsesB f.word then s.elems g.val (bits f.word 236 218) (bits f.word 170 167) 0 n else List.replicate n (bits f.word 148 117)) (s.elems g.val (bits f.word 217 199) (bits f.word 166 163) 0 n))).map (fun y => eltElem f.word (tblGet [] (s.skein g.val).tables (bits f.word 151 149)) y.1 y.2.1 y.2.2))
    ∧ (∃ (s : State) (g : SkeinId) (i : Nat) (n : Nat) (f : Flight) (x : Instr × Nat) (os : List (Flagged Nat)), (x ∈ [(.add g i, 0), (.sub g i, 1), (.mul g i, 2), (.fma g i, 3), (.min g i, 4), (.max g i, 5), (.shr g i, 6), (.cvt g i, 7), (.tbl g i, 8)] ∧ s.flips = [] ∧ s.flightAt g.val i 6 = some f ∧ bits f.word 162 155 = x.2 ∧ s.vectorFree g.val f = true ∧ eltStatus f.word = 0 ∧ (x.2 = 8 → tblGet [] (s.skein g.val).tables (bits f.word 151 149) ≠ []) ∧ Lone s g.val f.serial = true) ∧ n = bits f.word 198 175 ∧ os = (List.zip (s.elems g.val (bits f.word 255 237) (bits f.word 174 171) 0 n) (List.zip (if eltUsesB f.word then s.elems g.val (bits f.word 236 218) (bits f.word 170 167) 0 n else List.replicate n (bits f.word 148 117)) (s.elems g.val (bits f.word 217 199) (bits f.word 166 163) 0 n))).map (fun y => eltElem f.word (tblGet [] (s.skein g.val).tables (bits f.word 151 149)) y.1 y.2.1 y.2.2))
    ∧ (∃ (s : State) (g : SkeinId) (i : Nat) (n : Nat) (f : Flight) (x : Instr × Nat) (os : List (Flagged Nat)), (x ∈ [(.add g i, 0), (.sub g i, 1), (.mul g i, 2), (.fma g i, 3), (.min g i, 4), (.max g i, 5), (.shr g i, 6), (.cvt g i, 7), (.tbl g i, 8)] ∧ s.flips = [] ∧ s.flightAt g.val i 6 = some f ∧ bits f.word 162 155 = x.2 ∧ s.vectorFree g.val f = true ∧ eltStatus f.word = 0 ∧ (x.2 = 8 → tblGet [] (s.skein g.val).tables (bits f.word 151 149) ≠ []) ∧ Lone s g.val f.serial = true) ∧ n = bits f.word 198 175 ∧ os = (List.zip (s.elems g.val (bits f.word 255 237) (bits f.word 174 171) 0 n) (List.zip (if eltUsesB f.word then s.elems g.val (bits f.word 236 218) (bits f.word 170 167) 0 n else List.replicate n (bits f.word 148 117)) (s.elems g.val (bits f.word 217 199) (bits f.word 166 163) 0 n))).map (fun y => eltElem f.word (tblGet [] (s.skein g.val).tables (bits f.word 151 149)) y.1 y.2.1 y.2.2))
    ∧ (∃ (s : State) (g : SkeinId) (i : Nat) (n : Nat) (f : Flight) (x : Instr × Nat) (os : List (Flagged Nat)), (x ∈ [(.add g i, 0), (.sub g i, 1), (.mul g i, 2), (.fma g i, 3), (.min g i, 4), (.max g i, 5), (.shr g i, 6), (.cvt g i, 7), (.tbl g i, 8)] ∧ s.flips = [] ∧ s.flightAt g.val i 6 = some f ∧ bits f.word 162 155 = x.2 ∧ s.vectorFree g.val f = true ∧ eltStatus f.word = 0 ∧ (x.2 = 8 → tblGet [] (s.skein g.val).tables (bits f.word 151 149) ≠ []) ∧ Lone s g.val f.serial = true) ∧ n = bits f.word 198 175 ∧ os = (List.zip (s.elems g.val (bits f.word 255 237) (bits f.word 174 171) 0 n) (List.zip (if eltUsesB f.word then s.elems g.val (bits f.word 236 218) (bits f.word 170 167) 0 n else List.replicate n (bits f.word 148 117)) (s.elems g.val (bits f.word 217 199) (bits f.word 166 163) 0 n))).map (fun y => eltElem f.word (tblGet [] (s.skein g.val).tables (bits f.word 151 149)) y.1 y.2.1 y.2.2))
    ∧ (∃ (s : State) (g : SkeinId) (i : Nat) (n : Nat) (f : Flight) (x : Instr × Nat) (os : List (Flagged Nat)), (x ∈ [(.add g i, 0), (.sub g i, 1), (.mul g i, 2), (.fma g i, 3), (.min g i, 4), (.max g i, 5), (.shr g i, 6), (.cvt g i, 7), (.tbl g i, 8)] ∧ s.flips = [] ∧ s.flightAt g.val i 6 = some f ∧ bits f.word 162 155 = x.2 ∧ s.vectorFree g.val f = true ∧ eltStatus f.word = 0 ∧ (x.2 = 8 → tblGet [] (s.skein g.val).tables (bits f.word 151 149) ≠ []) ∧ Lone s g.val f.serial = true) ∧ n = bits f.word 198 175 ∧ os = (List.zip (s.elems g.val (bits f.word 255 237) (bits f.word 174 171) 0 n) (List.zip (if eltUsesB f.word then s.elems g.val (bits f.word 236 218) (bits f.word 170 167) 0 n else List.replicate n (bits f.word 148 117)) (s.elems g.val (bits f.word 217 199) (bits f.word 166 163) 0 n))).map (fun y => eltElem f.word (tblGet [] (s.skein g.val).tables (bits f.word 151 149)) y.1 y.2.1 y.2.2))
    ∧ (∃ (s : State) (g : SkeinId) (i : Nat) (n : Nat) (f : Flight) (x : Instr × Nat) (os : List (Flagged Nat)), (x ∈ [(.add g i, 0), (.sub g i, 1), (.mul g i, 2), (.fma g i, 3), (.min g i, 4), (.max g i, 5), (.shr g i, 6), (.cvt g i, 7), (.tbl g i, 8)] ∧ s.flips = [] ∧ s.flightAt g.val i 6 = some f ∧ bits f.word 162 155 = x.2 ∧ s.vectorFree g.val f = true ∧ eltStatus f.word = 0 ∧ (x.2 = 8 → tblGet [] (s.skein g.val).tables (bits f.word 151 149) ≠ []) ∧ Lone s g.val f.serial = true) ∧ n = bits f.word 198 175 ∧ os = (List.zip (s.elems g.val (bits f.word 255 237) (bits f.word 174 171) 0 n) (List.zip (if eltUsesB f.word then s.elems g.val (bits f.word 236 218) (bits f.word 170 167) 0 n else List.replicate n (bits f.word 148 117)) (s.elems g.val (bits f.word 217 199) (bits f.word 166 163) 0 n))).map (fun y => eltElem f.word (tblGet [] (s.skein g.val).tables (bits f.word 151 149)) y.1 y.2.1 y.2.2))
    ∧ (∃ (s : State) (g : SkeinId) (i : Nat) (n : Nat) (f : Flight) (x : Instr × Nat) (os : List (Flagged Nat)), (x ∈ [(.add g i, 0), (.sub g i, 1), (.mul g i, 2), (.fma g i, 3), (.min g i, 4), (.max g i, 5), (.shr g i, 6), (.cvt g i, 7), (.tbl g i, 8)] ∧ s.flips = [] ∧ s.flightAt g.val i 6 = some f ∧ bits f.word 162 155 = x.2 ∧ s.vectorFree g.val f = true ∧ eltStatus f.word = 0 ∧ (x.2 = 8 → tblGet [] (s.skein g.val).tables (bits f.word 151 149) ≠ []) ∧ Lone s g.val f.serial = true) ∧ n = bits f.word 198 175 ∧ os = (List.zip (s.elems g.val (bits f.word 255 237) (bits f.word 174 171) 0 n) (List.zip (if eltUsesB f.word then s.elems g.val (bits f.word 236 218) (bits f.word 170 167) 0 n else List.replicate n (bits f.word 148 117)) (s.elems g.val (bits f.word 217 199) (bits f.word 166 163) 0 n))).map (fun y => eltElem f.word (tblGet [] (s.skein g.val).tables (bits f.word 151 149)) y.1 y.2.1 y.2.2))
    ∧ (∃ (s : State) (g : SkeinId) (i : Nat) (n : Nat) (f : Flight) (x : Instr × Nat) (os : List (Flagged Nat)), (x ∈ [(.add g i, 0), (.sub g i, 1), (.mul g i, 2), (.fma g i, 3), (.min g i, 4), (.max g i, 5), (.shr g i, 6), (.cvt g i, 7), (.tbl g i, 8)] ∧ s.flips = [] ∧ s.flightAt g.val i 6 = some f ∧ bits f.word 162 155 = x.2 ∧ s.vectorFree g.val f = true ∧ eltStatus f.word = 0 ∧ (x.2 = 8 → tblGet [] (s.skein g.val).tables (bits f.word 151 149) ≠ []) ∧ Lone s g.val f.serial = true) ∧ n = bits f.word 198 175 ∧ os = (List.zip (s.elems g.val (bits f.word 255 237) (bits f.word 174 171) 0 n) (List.zip (if eltUsesB f.word then s.elems g.val (bits f.word 236 218) (bits f.word 170 167) 0 n else List.replicate n (bits f.word 148 117)) (s.elems g.val (bits f.word 217 199) (bits f.word 166 163) 0 n))).map (fun y => eltElem f.word (tblGet [] (s.skein g.val).tables (bits f.word 151 149)) y.1 y.2.1 y.2.2))
    ∧ (∃ (s : State) (g : SkeinId) (i : Nat) (n : Nat) (f : Flight) (x : Instr × Nat) (os : List (Flagged Nat)), (x ∈ [(.add g i, 0), (.sub g i, 1), (.mul g i, 2), (.fma g i, 3), (.min g i, 4), (.max g i, 5), (.shr g i, 6), (.cvt g i, 7), (.tbl g i, 8)] ∧ s.flips = [] ∧ s.flightAt g.val i 6 = some f ∧ bits f.word 162 155 = x.2 ∧ s.vectorFree g.val f = true ∧ eltStatus f.word = 0 ∧ (x.2 = 8 → tblGet [] (s.skein g.val).tables (bits f.word 151 149) ≠ []) ∧ Lone s g.val f.serial = true) ∧ n = bits f.word 198 175 ∧ os = (List.zip (s.elems g.val (bits f.word 255 237) (bits f.word 174 171) 0 n) (List.zip (if eltUsesB f.word then s.elems g.val (bits f.word 236 218) (bits f.word 170 167) 0 n else List.replicate n (bits f.word 148 117)) (s.elems g.val (bits f.word 217 199) (bits f.word 166 163) 0 n))).map (fun y => eltElem f.word (tblGet [] (s.skein g.val).tables (bits f.word 151 149)) y.1 y.2.1 y.2.2))
    ∧ (∃ (s : State) (g : SkeinId) (i : Nat) (f : Flight) (x : Instr × Nat) (os : List (Flagged Nat)), (x ∈ [(.reduceSum g i, 0), (.reduceMax g i, 1), (.reduceMin g i, 2)] ∧ s.flips = [] ∧ s.flightAt g.val i 7 = some f ∧ bits f.word 193 192 = x.2 ∧ s.vectorFree g.val f = true ∧ reduceStatus f.word = 0 ∧ Lone s g.val f.serial = true) ∧ os = reduceOut f.word (s.elems g.val (bits f.word 255 237) (bits f.word 201 198) 0 (256 * bits f.word 217 202)))
    ∧ (∃ (s : State) (g : SkeinId) (i : Nat) (f : Flight) (x : Instr × Nat) (os : List (Flagged Nat)), (x ∈ [(.reduceSum g i, 0), (.reduceMax g i, 1), (.reduceMin g i, 2)] ∧ s.flips = [] ∧ s.flightAt g.val i 7 = some f ∧ bits f.word 193 192 = x.2 ∧ s.vectorFree g.val f = true ∧ reduceStatus f.word = 0 ∧ Lone s g.val f.serial = true) ∧ os = reduceOut f.word (s.elems g.val (bits f.word 255 237) (bits f.word 201 198) 0 (256 * bits f.word 217 202)))
    ∧ (∃ (s : State) (g : SkeinId) (i : Nat) (f : Flight) (x : Instr × Nat) (os : List (Flagged Nat)), (x ∈ [(.reduceSum g i, 0), (.reduceMax g i, 1), (.reduceMin g i, 2)] ∧ s.flips = [] ∧ s.flightAt g.val i 7 = some f ∧ bits f.word 193 192 = x.2 ∧ s.vectorFree g.val f = true ∧ reduceStatus f.word = 0 ∧ Lone s g.val f.serial = true) ∧ os = reduceOut f.word (s.elems g.val (bits f.word 255 237) (bits f.word 201 198) 0 (256 * bits f.word 217 202)))
    ∧ (∃ (s : State) (g : SkeinId) (i : Nat) (f : Flight), s.flips = [] ∧ s.flightAt g.val i 8 = some f ∧ s.vectorFree g.val f = true ∧ bits f.word 255 237 % 32 = 0 ∧ spadFits (bits f.word 255 237) 384 = true ∧ tableOk (s.rd (spadAt g.val (bits f.word 255 237)) 384) = true ∧ Lone s g.val f.serial = true)
    ∧ (∃ (s : State) (g : SkeinId) (i : Nat) (f : Flight) (x : Instr × Nat), x ∈ [(.add g i, 0), (.sub g i, 1), (.mul g i, 2), (.fma g i, 3), (.min g i, 4), (.max g i, 5), (.shr g i, 6), (.cvt g i, 7)] ∧ s.flightAt g.val i 6 = some f ∧ bits f.word 162 155 = x.2 ∧ s.vectorFree g.val f = true ∧ eltStatus f.word = 0 ∧ s.streamLive g.val = true ∧ (eltSources f.word).any (fun r => s.badRange (spadAt g.val r.1) r.2) = true ∧ s.reg 0x2E30 4 = 0xFFFF ∧ s.reg 0x2B00 4 = 0xFFFF) :=
  ⟨⟨wVec (wElt 0), 0, 0, _, wFly (wElt 0), (.add 0 0, 0), _, by decide +kernel, rfl, rfl⟩,
   ⟨wVec (wElt 1), 0, 0, _, wFly (wElt 1), (.sub 0 0, 1), _, by decide +kernel, rfl, rfl⟩,
   ⟨wVec (wElt 2), 0, 0, _, wFly (wElt 2), (.mul 0 0, 2), _, by decide +kernel, rfl, rfl⟩,
   ⟨wVec (wElt 3), 0, 0, _, wFly (wElt 3), (.fma 0 0, 3), _, by decide +kernel, rfl, rfl⟩,
   ⟨wVec (wElt 4), 0, 0, _, wFly (wElt 4), (.min 0 0, 4), _, by decide +kernel, rfl, rfl⟩,
   ⟨wVec (wElt 5), 0, 0, _, wFly (wElt 5), (.max 0 0, 5), _, by decide +kernel, rfl, rfl⟩,
   ⟨wVec (wElt 6), 0, 0, _, wFly (wElt 6), (.shr 0 0, 6), _, by decide +kernel, rfl, rfl⟩,
   ⟨wVec (wElt 7), 0, 0, _, wFly (wElt 7), (.cvt 0 0, 7), _, by decide +kernel, rfl, rfl⟩,
   ⟨wVec (wElt 8), 0, 0, _, wFly (wElt 8), (.tbl 0 0, 8), _, by decide +kernel, rfl, rfl⟩,
   ⟨wVec (wRed 0), 0, 0, wFly (wRed 0), (.reduceSum 0 0, 0), _, by decide +kernel, rfl⟩,
   ⟨wVec (wRed 1), 0, 0, wFly (wRed 1), (.reduceMax 0 0, 1), _, by decide +kernel, rfl⟩,
   ⟨wVec (wRed 2), 0, 0, wFly (wRed 2), (.reduceMin 0 0, 2), _, by decide +kernel, rfl⟩,
   ⟨wTab, 0, 0, (wFly (wd 8 [(234, 3)])), by decide +kernel⟩,
   ⟨((wVec (wElt 0)).withFlips [(0x80000000000 * 36, 1), (0x80000000000 * 36 + 1, 2)]), 0, 0, wFly (wElt 0), (.add 0 0, 0), by decide +kernel⟩⟩

theorem hyps_DigestDescriptors :
    (∃ (s : State) (g : SkeinId) (i : Nat) (c : Nat) (f : Flight), (s.flightAt g.val i 0x13 = some f ∧ bits f.word 156 155 = 0 ∧ s.ctxFree g.val f = true ∧ Lone s g.val f.serial = true) ∧ c = bits f.word 154 152)
    ∧ (∃ (s : State) (g : SkeinId) (i : Nat) (c : Nat) (f : Flight) (r : ReadResult), (s.flightAt g.val i 0x13 = some f ∧ bits f.word 156 155 = 1 ∧ s.ctxFree g.val f = true ∧ sourceStatus g.val (bits f.word 255 208) (bits f.word 207 176) = 0 ∧ (s.ctx g.val c).isOpen = true ∧ r.status = 0 ∧ Lone s g.val f.serial = true) ∧ c = bits f.word 154 152 ∧ r = s.readDev f.pages (bits f.word 255 208) (bits f.word 207 176))
    ∧ (∃ (s : State) (g : SkeinId) (i : Nat) (c : Nat) (f : Flight), (s.flips = [] ∧ s.flightAt g.val i 0x13 = some f ∧ bits f.word 156 155 = 2 ∧ s.finalReady g.val f = true ∧ bits f.word 175 157 % 32 = 0 ∧ (s.ctx g.val c).isOpen = true ∧ Lone s g.val f.serial = true ∧ s.reg (0x2330 + s.skeinPart g.val) 1 = 0xFFFF ∧ s.expectedFor (s.skeinPart g.val) g.val 1 (tagOf f.word) (s.reg (0x2440 + g.val) 8) = none) ∧ c = bits f.word 154 152)
    ∧ (∃ (s : State) (g : SkeinId) (i : Nat) (c : Nat) (q : Nat) (f : Flight), (s.flightAt g.val i 0x13 = some f ∧ bits f.word 156 155 = 2 ∧ s.finalReady g.val f = true ∧ bits f.word 175 157 % 32 = 0 ∧ (s.ctx g.val c).isOpen = true ∧ Lone s g.val f.serial = true ∧ q ≤ 16383 ∧ s.queuePart q = s.skeinPart g.val ∧ (s.queue q).enabled = true ∧ (s.queue q).count + 2 ≤ 2 ^ (s.queue q).log2 ∧ s.streamState g.val ≠ 2 ∧ s.expectedFor (s.skeinPart g.val) g.val 1 (tagOf f.word) (s.reg (0x2440 + g.val) 8) = none) ∧ c = bits f.word 154 152 ∧ q = s.reg (0x2330 + s.skeinPart g.val) 1) :=
  ⟨⟨(wSk wRun (wFly (wd 0x13 [(152, 5)]))), 0, 0, _, (wFly (wd 0x13 [(152, 5)])), by decide +kernel, rfl⟩,
   ⟨((wSk wRun (wFly wAbsorb)).setCtx 0 5 ⟨true, [1]⟩), 0, 0, _, wFly wAbsorb, _, by decide +kernel, rfl, rfl⟩,
   ⟨(wSk wRun (wFly wFinal)).setCtx 0 5 ⟨true, [1, 2, 3]⟩, 0, 0, _, wFly wFinal, by decide +kernel, rfl⟩,
   ⟨(((wSk wRun (wFly wFinal)).setCtx 0 5 ⟨true, [1, 2, 3]⟩).setReg 0x2330 1 9).setQueue 9 ⟨0x200000, 5, 0x100, true, 0, 0, 0, 0, none⟩, 0, 0, _, _, wFly wFinal, by decide +kernel, rfl, rfl⟩⟩

theorem hyps_WaitAndSignal :
    (∃ (s : State) (g : SkeinId) (i : Nat) (f : Flight), s.flightAt g.val i 0x10 = some f ∧ f.started = false ∧ s.waitStatus g.val f.word = 0 ∧ (s.earlier g.val f.serial).any (fun x => s.sameStore x.word f.word) = false ∧ s.waitSatisfied g.val f.word = true ∧ Lone s g.val f.serial = true)
    ∧ (∃ (s : State) (g : SkeinId) (i : Nat) (f : Flight), s.flightAt g.val i 0x10 = some f ∧ f.started = false ∧ s.waitStatus g.val f.word = 0 ∧ (s.earlier g.val f.serial).any (fun x => s.sameStore x.word f.word) = false ∧ s.waitSatisfied g.val f.word = false ∧ s.streamState g.val ≠ 5)
    ∧ (∃ (s : State) (g : SkeinId) (f : Flight), s.streamState g.val = 2 ∧ (s.skein g.val).flights.find? (fun f => opOf f.word == 0x10 && f.started) = some f ∧ bits f.word 205 190 ≠ 0 ∧ (s.caldera (g.val / 8)).external.contains (.timeout g.val f.serial) = false)
    ∧ (∃ (s : State) (g : SkeinId) (i : Nat) (f : Flight) (x : Instr), x ∈ [.signalAdd g i, .signalSet g i, .signalReleaseApply g i] ∧ s.flightAt g.val i 0x11 = some f ∧ (x = .signalAdd g i → bit f.word 205 = false ∧ bit f.word 206 = false) ∧ (x = .signalSet g i → bit f.word 205 = false ∧ bit f.word 206 = true) ∧ (x = .signalReleaseApply g i → bit f.word 205 = true ∧ s.earlier g.val f.serial = []) ∧ s.syncPart (bits f.word 223 207) = s.skeinPart g.val ∧ s.streamState g.val ≠ 2 ∧ Lone s g.val f.serial = true)
    ∧ (∃ (s : State) (g : SkeinId) (i : Nat) (f : Flight) (x : Instr), x ∈ [.signalAdd g i, .signalSet g i, .signalReleaseApply g i] ∧ s.flightAt g.val i 0x11 = some f ∧ (x = .signalAdd g i → bit f.word 205 = false ∧ bit f.word 206 = false) ∧ (x = .signalSet g i → bit f.word 205 = false ∧ bit f.word 206 = true) ∧ (x = .signalReleaseApply g i → bit f.word 205 = true ∧ s.earlier g.val f.serial = []) ∧ s.syncPart (bits f.word 223 207) = s.skeinPart g.val ∧ s.streamState g.val ≠ 2 ∧ Lone s g.val f.serial = true)
    ∧ (∃ (s : State) (g : SkeinId) (i : Nat) (f : Flight) (x : Instr), x ∈ [.signalAdd g i, .signalSet g i, .signalReleaseApply g i] ∧ s.flightAt g.val i 0x11 = some f ∧ (x = .signalAdd g i → bit f.word 205 = false ∧ bit f.word 206 = false) ∧ (x = .signalSet g i → bit f.word 205 = false ∧ bit f.word 206 = true) ∧ (x = .signalReleaseApply g i → bit f.word 205 = true ∧ s.earlier g.val f.serial = []) ∧ s.syncPart (bits f.word 223 207) = s.skeinPart g.val ∧ s.streamState g.val ≠ 2 ∧ Lone s g.val f.serial = true)
    ∧ (∃ (s : State) (g : SkeinId) (i : Nat) (f : Flight) (v : Flight) (h : Nat), s.flightAt g.val i 0x11 = some f ∧ bit f.word 205 = false ∧ bit f.word 206 = false ∧ s.syncPart (bits f.word 223 207) = s.skeinPart g.val ∧ s.streamState g.val ≠ 2 ∧ Lone s g.val f.serial = true ∧ h < 64 ∧ s.skeins.map (fun k => k.1) = [g.val, h] ∧ s.streamState h = 2 ∧ (s.skein h).flights.find? (fun f => opOf f.word == 0x10 && f.started) = some v ∧ bit v.word 206 = false ∧ bits v.word 223 207 = bits f.word 223 207 ∧ syncReached ((s.sync (bits f.word 223 207) + s.signalOperand g.val f.word) % 2 ^ 32) (iterOperand (bits v.word 255 224) (s.reg (0x2440 + h) 8) (bits v.word 189 174)) = true) :=
  ⟨⟨(wSk wRun (wFly wWaitW)).setSync 3 2, 0, 0, wFly wWaitW, by decide +kernel⟩,
   ⟨(wSk wRun (wFly wWaitW)).setSync 3 1, 0, 0, wFly wWaitW, by decide +kernel⟩,
   ⟨(wSk wRun { wFly wWaitT with started := true }).setReg 0x2440 1 2, 0, { wFly wWaitT with started := true }, by decide +kernel⟩,
   ⟨((wSk wRun (wFly (wd 0x11 [(207, 3), (224, 2)]))).setSync 3 4294967295), 0, 0, (wFly (wd 0x11 [(207, 3), (224, 2)])), (.signalAdd 0 0), by decide +kernel⟩,
   ⟨(((wSk wRun (wFly (wd 0x11 [(206, 1), (207, 3), (224, 2), (189, 7)]))).setReg 0x2440 8 3)), 0, 0, (wFly (wd 0x11 [(206, 1), (207, 3), (224, 2), (189, 7)])), (.signalSet 0 0), by decide +kernel⟩,
   ⟨((wSk wRun (wFly (wd 0x11 [(205, 1), (207, 3), (224, 2)])))), 0, 0, (wFly (wd 0x11 [(205, 1), (207, 3), (224, 2)])), (.signalReleaseApply 0 0), by decide +kernel⟩,
   ⟨wWake, 0, 0, (wFly (wd 0x11 [(207, 3), (224, 2)])), { wFly (wd 0x10 [(207, 3), (224, 2)]) with started := true }, 9, by decide +kernel⟩⟩

theorem hyps_WindowsAndSend :
    (∃ (s : State) (g : SkeinId) (i : Nat) (f : Flight) (base : Nat) (size : Nat) (w : Nat), (s.flightAt g.val i 0x14 = some f ∧ base % 32 = 0 ∧ size % 32 = 0 ∧ 32 ≤ size ∧ size ≤ 0x80000 ∧ base + size ≤ 0x80000 ∧ (s.window g.val w).state = .closed ∧ (List.range 16).any (fun v => (s.window g.val v).state == .opened && decide ((s.window g.val v).base < base + size ∧ base < (s.window g.val v).base + (s.window g.val v).size)) = false ∧ Lone s g.val f.serial = true) ∧ base = bits f.word 255 237 ∧ size = bits f.word 236 217 ∧ w = bits f.word 216 213)
    ∧ (∃ (s : State) (g : SkeinId) (i : Nat) (f : Flight), s.flightAt g.val i 0x15 = some f ∧ f.started = false ∧ (s.window g.val (bits f.word 255 252)).state = .opened ∧ (List.range 16).all (fun v => (s.window g.val v).state != .closing) = true ∧ (s.skein g.val).flights.filter (fun y => y.serial = f.serial) = [f] ∧ (s.skein g.val).flights.all (fun y => y.serial == f.serial || !(opOf y.word == 0x15 && y.started)) = true ∧ Lone s g.val f.serial = true)
    ∧ (∃ (s : State) (g : SkeinId) (i : Nat) (f : Flight), s.flips = [] ∧ s.flightAt g.val i 0x16 = some f ∧ bit f.word 151 = false ∧ f.started = false ∧ sendStatus f.word = 0 ∧ s.sendLocal f.word = true ∧ sendSkein f.word ≠ g.val)
    ∧ (∃ (s : State) (g : SkeinId) (i : Nat) (l : Nat) (f : Flight), s.flips = [] ∧ s.flightAt g.val i 0x16 = some f ∧ bit f.word 151 = false ∧ f.started = false ∧ sendStatus f.word = 0 ∧ s.sendLocal f.word = false ∧ s.routeOf (sendNode f.word) = some l ∧ s.linkUp l = true ∧ (s.link l).waiting = [] ∧ (s.link l).replay.length < 32 ∧ 0 < (s.link l).credit0 ∧ bit f.word 133 = false ∧ bits f.word 188 169 % 256 + sendLen f.word ≤ 256 ∧ l < 4)
    ∧ (∃ (s : State) (g : SkeinId) (i : Nat) (q : Nat) (f : Flight), (s.flips = [] ∧ s.flightAt g.val i 0x16 = some f ∧ bit f.word 151 = true ∧ f.started = false ∧ f.status = 0 ∧ sendStatus f.word = 0 ∧ s.sendLocal f.word = true ∧ bit f.word 133 = false ∧ s.queuePart q = s.skeinPart g.val ∧ (s.queue q).enabled = true ∧ (s.queue q).count + sendLen f.word / 32 ≤ 2 ^ (s.queue q).log2 ∧ s.streamState g.val ≠ 2 ∧ Lone s g.val f.serial = true ∧ (s.earlier g.val f.serial).any (fun x => s.sameStore x.word f.word) = false) ∧ q = bits f.word 182 169) :=
  ⟨⟨((wSk wRun (wFly wOpenW)).setWindow 0 2 ⟨.closed, 0, 0, 0xFFFF⟩), 0, 0, wFly wOpenW, _, _, _, by decide +kernel, rfl, rfl, rfl⟩,
   ⟨((wSk wRun (wFly (wd 0x15 [(252, 2)]))).setWindow 0 2 ⟨.opened, 0, 64, 1⟩), 0, 0, (wFly (wd 0x15 [(252, 2)])), by decide +kernel⟩,
   ⟨((wSk wRun (wFly wSendW)).wr 0x800000000000 [1, 2]), 0, 0, wFly wSendW, by decide +kernel⟩,
   ⟨(((((wSk wRun (wFly wSendN)).setReg 0x2E00 4 4).setReg 0x2E00 9 2).setReg 0x2E0A 2 2).setLink 2 { Link.init with credit0 := 3 }), 0, 0, 2, wFly wSendN, by decide +kernel⟩,
   ⟨(wSk wRun (wFly wSendQ)).setQueue 9 ⟨0x200000, 5, 0x100, true, 0, 0, 0, 0, none⟩, 0, 0, _, wFly wSendQ, by decide +kernel, rfl⟩⟩

theorem hyps_DescriptorErrors :
    (∃ (s : State) (g : SkeinId) (i : Nat) (f : Flight), s.streamLive g.val = true ∧ s.reg 0x2E30 4 = 0xFFFF ∧ s.flightAt g.val i 1 = some f ∧ bit f.word 52 = false ∧ loadStatus g.val f.word ≠ 0)
    ∧ (∃ (s : State) (g : SkeinId) (i : Nat) (f : Flight), s.streamLive g.val = true ∧ s.reg 0x2E30 4 = 0xFFFF ∧ s.flightAt g.val i 1 = some f ∧ bit f.word 52 = true ∧ (loadRows f.word ≠ 0 ∧ loadRow f.word = 32 ∧ loadKind f.word = 0 ∧ bit f.word 53 = false ∧ bit f.word 54 = false ∧ bits f.word 75 57 % 32 = 0 ∧ bits f.word 159 128 % 32 = 0 ∧ bits f.word 95 76 % 32 = 0 ∧ spadFits (bits f.word 75 57) (spanOf (loadDstPitch f.word) (loadRows f.word) 32) = true) ∧ (s.earlier g.val f.serial).any (fun x => s.sameStore x.word f.word) = false)
    ∧ (∃ (s : State) (g : SkeinId) (i : Nat) (f : Flight), s.streamLive g.val = true ∧ s.reg 0x2E30 4 = 0xFFFF ∧ s.flightAt g.val i 2 = some f ∧ f.started = false ∧ storeStatus f.word ≠ 0)
    ∧ (∃ (s : State) (g : SkeinId) (i : Nat) (f : Flight), s.streamLive g.val = true ∧ s.reg 0x2E30 4 = 0xFFFF)
    ∧ (∃ (s : State) (g : SkeinId) (i : Nat) (f : Flight), s.streamLive g.val = true ∧ s.reg 0x2E30 4 = 0xFFFF)
    ∧ (∃ (s : State) (g : SkeinId) (i : Nat) (f : Flight), s.streamLive g.val = true ∧ s.reg 0x2E30 4 = 0xFFFF)
    ∧ (∃ (s : State) (g : SkeinId) (a : Nat) (w : Nat) (rest : List (Nat × Nat)), s.streamState g.val = 1 ∧ s.reg 0x2E30 4 = 0xFFFF ∧ (s.skein g.val).abandoned = false ∧ (s.skein g.val).flights.any blocksDispatch = false ∧ (s.caldera (g.val / 8)).reserved = false ∧ (s.skein g.val).flights.length < 16 ∧ (s.skein g.val).fetched = (a, w) :: rest ∧ s.breakHit g.val w = false ∧ headerStatus w = 0 ∧ (s.descRanges g.val w).any (fun r => (s.skein g.val).flights.any (fun f => (s.descRanges g.val f.word).any (fun x => rangesMeet x r))) = false ∧ opOf w = 4 ∧ s.convDispatch g.val w ≠ 0 ∧ s.convDispatch g.val w ≠ 0x30)
    ∧ (∃ (s : State) (g : SkeinId) (i : Nat) (f : Flight) (x : Instr × Nat), s.streamLive g.val = true ∧ s.reg 0x2E30 4 = 0xFFFF ∧ s.vectorFree g.val f = true)
    ∧ (∃ (s : State) (g : SkeinId) (i : Nat) (f : Flight), s.streamLive g.val = true ∧ s.reg 0x2E30 4 = 0xFFFF ∧ s.flightAt g.val i 0x13 = some f ∧ s.ctxFree g.val f = true ∧ (s.ctx g.val (bits f.word 154 152)).isOpen = false)
    ∧ (∃ (s : State) (g : SkeinId) (i : Nat) (f : Flight), s.streamLive g.val = true ∧ s.reg 0x2E30 4 = 0xFFFF)
    ∧ (∃ (s : State) (g : SkeinId) (i : Nat) (f : Flight), s.streamLive g.val = true ∧ s.reg 0x2E30 4 = 0xFFFF) :=
  ⟨⟨wSk wRun (wFly 1), 0, 0, wFly 1, by decide +kernel⟩,
   ⟨wSk wRun (wFly wQpop), 0, 0, wFly wQpop, by decide +kernel⟩,
   ⟨wSk wRun (wFly 2), 0, 0, wFly 2, by decide +kernel⟩,
   ⟨wSk wRun (wFly 3), 0, 0, wFly 3, by decide +kernel⟩,
   ⟨(wSk wRun (wFly (wd 0x10 [(206, 1)]))), 0, 0, (wFly (wd 0x10 [(206, 1)])), by decide +kernel⟩,
   ⟨wSk wRun (wFly 0x14), 0, 0, wFly 0x14, by decide +kernel⟩,
   ⟨(wSk wRun (wFly 1)).modSkein 0 (fun k => { k with fetched := [(0x200000, wUnroll)] }), 0, 0x200000, wUnroll, [], by decide +kernel⟩,
   ⟨(wSk wRun (wFly (wd 6 [(155, 2)]))), 0, 0, (wFly (wd 6 [(155, 2)])), (.mul 0 0, 2), by decide +kernel⟩,
   ⟨wSk wRun (wFly wFinal), 0, 0, wFly wFinal, by decide +kernel⟩,
   ⟨wSk wRun (wFly (wd 0x10 [(206, 1)])), 0, 0, wFly (wd 0x10 [(206, 1)]), by decide +kernel⟩,
   ⟨wSk wRun (wFly 0x14), 0, 0, wFly 0x14, by decide +kernel⟩⟩

theorem hyps_SpindlePlanes :
    (∃ (s : State) (u : SpindleId) (i : SpInstr), s.flips = [] ∧ (s.spindle u.val).wanted = some i ∧ (s.spindle u.val).shadowBusy = false ∧ tileFor (s.spindle u.val).shadow i = false ∧ (s.spindle u.val).bPresent i = true ∧ s.held u.val = false ∧ s.oos (u.val / 32) = false)
    ∧ (∃ (s : State) (u : SpindleId), s.held u.val = false)
    ∧ (∃ (s : State) (u : SpindleId) (i : SpInstr), (s.spindle u.val).wanted = some i ∧ (s.spindle u.val).bPresent i = false)
    ∧ (∃ (s : State) (u : SpindleId) (i : SpInstr) (rest : List SpInstr), (s.spindle u.val).queue = i :: rest ∧ s.issueReady u.val i = true ∧ s.guardOk u.val (instrSteps i) = true)
    ∧ (∃ (s : State) (u : SpindleId) (i : SpInstr) (rest : List SpInstr), (s.spindle u.val).queue = i :: rest ∧ i.init = false ∧ (s.spindle u.val).tagOk i = false ∧ s.streamLive (u.val / 4) = true ∧ s.reg 0x2E30 4 = 0xFFFF) :=
  ⟨⟨wSp [8] [wInstr], 3, wInstr, by decide +kernel⟩,
   ⟨((wSp [8] [wInstr]).modSpindle 3 (fun k => { k with shadowBusy := true })), 3, by decide +kernel⟩,
   ⟨wSp [] [wInstr], 3, wInstr, by decide +kernel⟩,
   ⟨((wSp [0, 8] [wInstr]).modSpindle 3 (fun k => { k with shadow := some wTile, poison := [1] })), 3, wInstr, [], by decide +kernel⟩,
   ⟨(wSp [0, 8] [{ wInstr with init := false }]).setReg 0x2440 1 1, 3, { wInstr with init := false }, [], by decide +kernel⟩⟩

theorem hyps_SpindleResults :
    (∃ (s : State) (u : SpindleId) (l : Landing) (rest : List Landing), s.flips = [] ∧ (s.spindle u.val).landing = l :: rest ∧ l.steps = 0 ∧ l.set < 4 ∧ l.row < 64 ∧ l.blocks.all (fun b => b.length == 64) = true ∧ (s.skein (u.val / 4)).abandoned = false)
    ∧ (∃ (s : State) (u : SpindleId) (l : Landing) (rest : List Landing), (s.spindle u.val).landing = l :: rest ∧ l.steps ≠ 0)
    ∧ (∃ (s : State) (u : SpindleId) (j : DrainJob) (rest : List DrainJob), (s.spindle u.val).drains = j :: rest ∧ s.drainReady u.val j = true ∧ s.guardOk u.val (drainSteps j) = true ∧ (s.drainUnchecked u.val j = true → ∀ v ∈ s.drainUnits u.val j, s.drainAgrees v j = true) ∧ (s.spindle u.val).poison.contains j.set = false)
    ∧ (∃ (s : State) (u : SpindleId) (j : DrainJob) (rest : List DrainJob) (f : Flight), (s.spindle u.val).drains = j :: rest ∧ s.drainReady u.val j = true ∧ s.guardOk u.val (drainSteps j) = true ∧ s.drainUnchecked u.val j = true ∧ (s.drainUnits u.val j).all (fun v => s.drainAgrees v j) = false ∧ (s.skein (u.val / 4)).flights.find? (fun f => f.serial == j.serial) = some f ∧ s.streamLive (u.val / 4) = true ∧ s.reg 0x2E30 4 = 0xFFFF)
    ∧ (∃ (s : State) (u : SpindleId) (j : DrainJob) (rest : List DrainJob) (f : Flight), (s.spindle u.val).drains = j :: rest ∧ s.drainReady u.val j = true ∧ s.guardOk u.val (drainSteps j) = true ∧ (s.drainUnchecked u.val j = true → ∀ v ∈ s.drainUnits u.val j, s.drainAgrees v j = true) ∧ (s.spindle u.val).poison.contains j.set = true ∧ (s.skein (u.val / 4)).abandoned = false ∧ (s.skein (u.val / 4)).flights = [f] ∧ f.serial = j.serial ∧ opOf f.word = 5 ∧ f.started = true ∧ s.reg 0x2E30 4 = 0xFFFF ∧ f.status = 0 ∧ f.left = [u.val % 4] ∧ s.streamLive (u.val / 4) = true) :=
  ⟨⟨wLand true true, 3, wLanding true true, [], by decide +kernel⟩,
   ⟨(wRun.setSpindle 3 { Spindle.init with landing := [{ wLanding true true with steps := 2 }] }), 3, { wLanding true true with steps := 2 }, [], by decide +kernel⟩,
   ⟨wDr 8, 3, wJob 8, [], by decide +kernel⟩,
   ⟨wSk (wDr 11) { wFly2 wDrain [3] with serial := 4, started := true, unacked := 1 }, 3, wJob 11, [], { wFly2 wDrain [3] with serial := 4, started := true, unacked := 1 }, by decide +kernel⟩,
   ⟨wSk (wDrP 8) { wFly2 wDrain [3] with serial := 4, started := true }, 3, wJob 8, [], { wFly2 wDrain [3] with serial := 4, started := true }, by decide +kernel⟩⟩

theorem hyps_TreadleTicks :
    (∃ (s : State) (p : PartId) (late : Nat), (s.reg (0x2310 + p.val) 4 ≤ (s.plan p.val).tick ∨ (s.plan p.val).startDue = true))
    ∧ (∃ (s : State) (p : PartId) (late : Nat), (s.reg (0x2310 + p.val) 4 ≤ (s.plan p.val).tick ∨ (s.plan p.val).startDue = true))
    ∧ (∃ (s : State) (p : PartId) (late : Nat), s.reg (0x2310 + p.val) 2 ≠ 0 ∧ (s.plan p.val).tick < s.reg (0x2310 + p.val) 4 ∧ (s.plan p.val).startDue = false)
    ∧ (∃ (s : State) (p : PartId) (late : Nat) (c : CalderaId) (u : SpindleId), s.reg (0x2310 + p.val) 2 = 0 ∧ s.partCalderas p.val = [c.val] ∧ (s.plan p.val).tick < s.reg (0x2310 + p.val) 4 ∧ (s.plan p.val).startDue = false ∧ bit late c.val = false ∧ s.gateOpen c.val = true ∧ u.val / 32 = c.val)
    ∧ (∃ (s : State) (p : PartId) (late : Nat) (c : CalderaId), s.reg (0x2310 + p.val) 2 = 0 ∧ s.partCalderas p.val = [c.val] ∧ (s.plan p.val).tick < s.reg (0x2310 + p.val) 4 ∧ (s.plan p.val).startDue = false ∧ bit late c.val = true ∧ s.oos c.val = false ∧ s.reg (0x2320 + c.val) 5 < 0xFFFF ∧ s.reg (0x2320 + c.val) 9 < 0xFFFFFFFF)
    ∧ (∃ (s : State) (c : CalderaId) (u : SpindleId), s.reg (0x2310 + s.calderaPart c.val) 2 ≠ 0 ∧ s.gateOpen c.val = true ∧ u.val / 32 = c.val)
    ∧ (∃ (s : State) (c : CalderaId), s.reg (0x2310 + s.calderaPart c.val) 2 = 0) :=
  ⟨⟨wRun.modPlan 0 (fun k => { k with tick := 4000000000 }), 0, 3, by decide +kernel⟩,
   ⟨wRun.modPlan 0 (fun k => { k with startDue := true }), 0, 3, by decide +kernel⟩,
   ⟨wRun.setReg 0x2310 2 1, 0, 3, by decide +kernel⟩,
   ⟨wOne (wSp [0, 8] []) 1 |>.modSpindle 3 (fun k => { k with active := some wTile, running := some (wInstr, 0) }), 1, 0, 0, 3, by decide +kernel⟩,
   ⟨wOne wRun 1, 1, 1, 0, by decide +kernel⟩,
   ⟨((wSp [0, 8] []).setReg 0x2310 2 1 |>.modSpindle 3 (fun k => { k with active := some wTile, running := some ({ wInstr with m := 1, relA := true }, 0) })), 0, 3, by decide +kernel⟩,
   ⟨wRun, 0, by decide +kernel⟩⟩

theorem hyps_TreadleFrames :
    (∃ (s : State) (p : PartId), (([1, 3, 5].all (fun i => s.reg (0x2310 + p.val) (i + 1) == s.acc (0x2310 + p.val) i)) = true ∨ (s.partCalderas p.val).all s.calderaIdle = true))
    ∧ (∃ (s : State) (p : PartId), ([1, 3, 5].all (fun i => s.reg (0x2310 + p.val) (i + 1) == s.acc (0x2310 + p.val) i)) = false ∧ (s.partCalderas p.val).all s.calderaIdle = false)
    ∧ (∃ (s : State) (p : PartId), s.planRuns p.val = true ∧ (s.plan p.val).tick < s.reg (0x2310 + p.val) 4)
    ∧ (∃ (s : State) (p : PartId), s.reg (0x2310 + p.val) 2 ≠ 0 ∧ s.partState p.val ≠ 2 ∧ s.safety.warnings = [] ∧ (s.planRuns p.val = false ∨ s.reg (0x2310 + p.val) 4 ≤ (s.plan p.val).tick))
    ∧ (∃ (s : State) (p : PartId), s.reg (0x2310 + p.val) 2 = 0 ∧ (s.planRuns p.val = false ∨ s.reg (0x2310 + p.val) 4 ≤ (s.plan p.val).tick))
    ∧ (∃ (s : State) (c : CalderaId), bit (s.reg (0x2320 + c.val) 2) (s.slotNow (s.calderaPart c.val)) = true)
    ∧ (∃ (s : State) (c : CalderaId), bit (s.reg (0x2320 + c.val) 2) (s.slotNow (s.calderaPart c.val)) = false)
    ∧ (∃ (s : State) (c : CalderaId), (∀ i < 8, Settled s (8 * c.val + i) = true))
    ∧ (∃ (s : State) (c : CalderaId) (n : Nat) (refresh : Bool), s.reg (0x2310 + s.calderaPart c.val) 2 = 0 ∧ s.ticksUp (s.calderaPart c.val) (s.reg (0x2310 + s.calderaPart c.val) 0x0A) + s.reg (0x2320 + c.val) 5 < s.ticksUp (s.calderaPart c.val) n ∧ s.reg (0x2320 + c.val) (if refresh then 7 else 8) < 0xFFFFFFFF)
    ∧ (∃ (s : State) (c : CalderaId) (n : Nat) (refresh : Bool), s.reg (0x2310 + s.calderaPart c.val) 2 = 0 ∧ s.ticksUp (s.calderaPart c.val) (s.reg (0x2310 + s.calderaPart c.val) 0x0A) + s.reg (0x2320 + c.val) 5 < s.ticksUp (s.calderaPart c.val) n ∧ s.reg (0x2320 + c.val) (if refresh then 7 else 8) < 0xFFFFFFFF)
    ∧ (∃ (s : State) (c : CalderaId) (n : Nat) (refresh : Bool), (s.reg (0x2310 + s.calderaPart c.val) 2 ≠ 0 ∨ s.ticksUp (s.calderaPart c.val) n ≤ s.ticksUp (s.calderaPart c.val) (s.reg (0x2310 + s.calderaPart c.val) 0x0A) + s.reg (0x2320 + c.val) 5))
    ∧ (∃ (s : State) (c : CalderaId) (n : Nat) (refresh : Bool), (s.reg (0x2310 + s.calderaPart c.val) 2 ≠ 0 ∨ s.ticksUp (s.calderaPart c.val) n ≤ s.ticksUp (s.calderaPart c.val) (s.reg (0x2310 + s.calderaPart c.val) 0x0A) + s.reg (0x2320 + c.val) 5)) :=
  ⟨⟨wRun, 0, by decide +kernel⟩,
   ⟨wSettings, 0, by decide +kernel⟩,
   ⟨wRun.setReg 0x2490 8 3, 0, by decide +kernel⟩,
   ⟨(wRun.setReg 0x2310 2 1).setReg 0x2321 5 7, 0, by decide +kernel⟩,
   ⟨wRun.setReg 0x2321 5 7, 0, by decide +kernel⟩,
   ⟨wRun.setReg 0x2323 2 1, 3, by decide +kernel⟩,
   ⟨wRun, 3, by decide +kernel⟩,
   ⟨wSk wRun (wFly wLoad), 0, by decide +kernel⟩,
   ⟨wRun, 3, 5000, true, by decide +kernel⟩,
   ⟨wRun, 3, 5000, false, by decide +kernel⟩,
   ⟨wRun, 3, 1200, true, by decide +kernel⟩,
   ⟨wRun.setReg 0x2310 2 1, 0, 5000, false, by decide +kernel⟩⟩

theorem hyps_ExternalEvents :
    (∃ (s : State) (c : CalderaId) (rest : List External), (s.caldera c.val).external = .stop :: rest)
    ∧ (∃ (s : State) (c : CalderaId) (i : Nat) (rest : List External), (s.caldera c.val).external = .releaseStop :: rest ∧ i < 8)
    ∧ (∃ (s : State) (c : CalderaId) (g : SkeinId) (f : Flight) (rest : List External), (s.caldera c.val).external = .wake g.val :: rest ∧ s.streamState g.val = 2 ∧ (s.skein g.val).flights.find? (fun f => opOf f.word == 0x10 && f.started) = some f)
    ∧ (∃ (s : State) (c : CalderaId) (g : SkeinId) (n : Nat) (f : Flight) (rest : List External), (s.caldera c.val).external = .timeout g.val n :: rest ∧ s.streamState g.val = 2 ∧ (s.skein g.val).flights.find? (fun f => opOf f.word == 0x10 && f.started && f.serial == n) = some f ∧ s.waitSatisfied g.val f.word = false ∧ s.reg 0x2E30 4 = 0xFFFF)
    ∧ (∃ (s : State) (c : CalderaId) (g : SkeinId) (xid : Nat) (st : Nat) (f : Flight) (rest : List External), (s.caldera c.val).external = .ack g.val xid st :: rest ∧ (s.skein g.val).flights.find? (fun f => opOf f.word == 0x16 && f.started && f.xid == xid && decide (0 < f.unacked)) = some f)
    ∧ (∃ (s : State) (c : CalderaId), (s.caldera c.val).external = []) :=
  ⟨⟨((wRun.setReg 0x2441 1 2 |>.setReg 0x2447 1 4).modCaldera 0 (fun k => { k with external := [.stop, .releaseStop] })), 0, [.releaseStop], by decide +kernel⟩,
   ⟨((wRun.setReg 0x2441 1 5 |>.setReg 0x2447 1 4).modCaldera 0 (fun k => { k with external := [.releaseStop], stopped := true }) |>.modSkein 1 (fun k => { k with recorded := 1 })), 0, 1, [], by decide +kernel⟩,
   ⟨wWoken.modCaldera 0 (fun k => { k with external := [.wake 0, .stop] }), 0, 0, { wFly wWaitW with started := true }, [.stop], by decide +kernel⟩,
   ⟨(((wSk wRun { wFly wWaitT with started := true }).setReg 0x2440 1 2)).modCaldera 0 (fun k => { k with external := [.timeout 0 7] }), 0, 0, 7, { wFly wWaitT with started := true }, [], by decide +kernel⟩,
   ⟨(wSk wRun { wFly wSendN with started := true, unacked := 2, xid := 6 }).modCaldera 0 (fun k => { k with external := [.ack 0 6 0x22] }), 0, 0, 6, 0x22, { wFly wSendN with started := true, unacked := 2, xid := 6 }, [], by decide +kernel⟩,
   ⟨wRun, 0, by decide +kernel⟩⟩

theorem hyps_PlanCommands :
    (∃ (s : State) (a : Agent) (p : PartId), Admitted s a (0x2490 + p.val) 3 1 1 ∧ (s.reg (0x2490 + p.val) 8 = 0 ∨ s.reg (0x2490 + p.val) 8 = 4) ∧ (s.container p.val).1 ∈ [0x82, 0x88, 0x8B])
    ∧ (∃ (s : State) (a : Agent) (p : PartId), Admitted s a (0x2490 + p.val) 3 1 1 ∧ (s.reg (0x2490 + p.val) 8 = 0 ∨ s.reg (0x2490 + p.val) 8 = 4) ∧ (s.container p.val).1 = 0x8C)
    ∧ (∃ (s : State) (u : State) (a : Agent) (p : PartId) (b : List Byte) (r : LoadResult), (Admitted s a (0x2490 + p.val) 3 1 1 ∧ (s.reg (0x2490 + p.val) 8 = 0 ∨ s.reg (0x2490 + p.val) 8 = 4) ∧ s.container p.val = (0, b)) ∧ u = ((((s.setReg (0x2490 + p.val) 8 1).setReg (0x2490 + p.val) 4 1).setReg (0x2490 + p.val) 5 0).readEvents [] (s.reg (0x2490 + p.val) 1) (s.reg (0x2490 + p.val) 2)) ∧ r = u.planCheck p.val b)
    ∧ (∃ (s : State) (u : State) (a : Agent) (p : PartId) (b : List Byte) (r : LoadResult), (Admitted s a (0x2490 + p.val) 3 1 1 ∧ (s.reg (0x2490 + p.val) 8 = 0 ∨ s.reg (0x2490 + p.val) 8 = 4) ∧ s.container p.val = (0, b)) ∧ u = ((((s.setReg (0x2490 + p.val) 8 1).setReg (0x2490 + p.val) 4 1).setReg (0x2490 + p.val) 5 0).readEvents [] (s.reg (0x2490 + p.val) 1) (s.reg (0x2490 + p.val) 2)) ∧ r = u.planCheck p.val b)
    ∧ (∃ (s : State) (u : State) (p : PartId) (broken : Option Nat) (r : LoadResult), s.reg (0x2490 + p.val) 8 = 1 ∧ (s.plan p.val).pendingStatus = 0 ∧ s.planWrite p.val (s.plan p.val).pendingBody broken = (u, r))
    ∧ (∃ (s : State) (u : State) (p : PartId) (broken : Option Nat) (r : LoadResult), s.reg (0x2490 + p.val) 8 = 1 ∧ (s.plan p.val).pendingStatus = 0 ∧ s.planWrite p.val (s.plan p.val).pendingBody broken = (u, r))
    ∧ (∃ (s : State) (p : PartId) (broken : Option Nat), s.reg (0x2490 + p.val) 8 = 1 ∧ (s.plan p.val).pendingStatus ≠ 0)
    ∧ (∃ (s : State) (p : PartId) (broken : Option Nat), s.reg (0x2490 + p.val) 8 ≠ 1)
    ∧ (∃ (s : State) (a : Agent) (p : PartId), Admitted s a (0x2490 + p.val) 3 1 2 ∧ s.reg (0x2490 + p.val) 8 = 2 ∧ s.safetyOk p.val = true ∧ (∀ c < 8, bit (s.plan p.val).calderaMask c = true → s.oos c = false))
    ∧ (∃ (s : State) (p : PartId), (s.plan p.val).starting = true ∧ (s.plan p.val).startDue = true ∧ s.reg (0x2490 + p.val) 8 = 3 ∧ (s.plan p.val).streams.all (fun e => decide (e.1 < 64)) = true)
    ∧ (∃ (s : State) (p : PartId), ((s.plan p.val).starting = false ∨ (s.plan p.val).startDue = false))
    ∧ (∃ (s : State) (a : Agent) (p : PartId), Admitted s a (0x2490 + p.val) 3 1 3 ∧ s.unloadOk p.val = true)
    ∧ (∃ (s : State) (a : Agent) (p : PartId) (c : Instr) (v : Nat), (c, v) ∈ [(.planLoad a p, 1), (.activate a p, 2), (.unload a p, 3)] ∧ Admitted s a (0x2490 + p.val) 3 1 v ∧ (v = 1 → s.reg (0x2490 + p.val) 8 ≠ 0 ∧ s.reg (0x2490 + p.val) 8 ≠ 4) ∧ (v = 2 → s.reg (0x2490 + p.val) 8 ≠ 2 ∨ s.safetyOk p.val = false ∨ ∃ c < 8, bit (s.plan p.val).calderaMask c = true ∧ s.oos c = true) ∧ (v = 3 → s.unloadOk p.val = false))
    ∧ (∃ (s : State) (a : Agent) (p : PartId) (c : Instr) (v : Nat), (c, v) ∈ [(.planLoad a p, 1), (.activate a p, 2), (.unload a p, 3)] ∧ Admitted s a (0x2490 + p.val) 3 1 v ∧ (v = 1 → s.reg (0x2490 + p.val) 8 ≠ 0 ∧ s.reg (0x2490 + p.val) 8 ≠ 4) ∧ (v = 2 → s.reg (0x2490 + p.val) 8 ≠ 2 ∨ s.safetyOk p.val = false ∨ ∃ c < 8, bit (s.plan p.val).calderaMask c = true ∧ s.oos c = true) ∧ (v = 3 → s.unloadOk p.val = false))
    ∧ (∃ (s : State) (a : Agent) (p : PartId) (c : Instr) (v : Nat), (c, v) ∈ [(.planLoad a p, 1), (.activate a p, 2), (.unload a p, 3)] ∧ Admitted s a (0x2490 + p.val) 3 1 v ∧ (v = 1 → s.reg (0x2490 + p.val) 8 ≠ 0 ∧ s.reg (0x2490 + p.val) 8 ≠ 4) ∧ (v = 2 → s.reg (0x2490 + p.val) 8 ≠ 2 ∨ s.safetyOk p.val = false ∨ ∃ c < 8, bit (s.plan p.val).calderaMask c = true ∧ s.oos c = true) ∧ (v = 3 → s.unloadOk p.val = false)) :=
  ⟨⟨wRun, .can0, 0, by decide +kernel⟩,
   ⟨(wPlanOf (zeros 64)).withFlips [(36 * 0x20000, 1), (36 * 0x20000 + 1, 1)], .can0, 0, by decide +kernel⟩,
   ⟨wPlanBad, _, .can0, 0, zeros 64, _, by decide +kernel, rfl, rfl⟩,
   ⟨wPlanGood, _, .can0, 0, wContainer, _, by decide +kernel, rfl, rfl⟩,
   ⟨wPlanWrites, (wPlanWrites.planWrite 0 (wPlanWrites.plan 0).pendingBody none).1, 0, none, (wPlanWrites.planWrite 0 (wPlanWrites.plan 0).pendingBody none).2, by decide +kernel⟩,
   ⟨wPlanWrites, (wPlanWrites.planWrite 0 (wPlanWrites.plan 0).pendingBody (some 0)).1, 0, some 0, (wPlanWrites.planWrite 0 (wPlanWrites.plan 0).pendingBody (some 0)).2, by decide +kernel⟩,
   ⟨(wRun.setReg 0x2490 8 1).modPlan 0 (fun k => { k with pendingStatus := 0x85, pendingDetail := 3, calderaMask := 4 }), 0, none, by decide +kernel⟩,
   ⟨wRun, 0, some 3, by decide +kernel⟩,
   ⟨((wRun.setReg 0x2490 8 2).setReg 0x2811 1 1 |>.setReg 0x2612 1 1).modPlan 0 (fun k => { k with blocks := [1], decoders := [2] }), .can0, 0, by decide +kernel⟩,
   ⟨(wRun.setReg 0x2490 8 3).setReg 0x2445 4 0x2000 |>.modPlan 0 (fun k => { k with starting := true, startDue := true, streams := [(5, 1), (6, 0)] }), 0, by decide +kernel⟩,
   ⟨wRun.modPlan 0 (fun k => { k with starting := true }), 0, by decide +kernel⟩,
   ⟨((((wRun.setReg 0x2490 8 3).setReg 0x2490 4 0x8A).setQueue 7 ⟨0x200000, 4, 0, true, 2, 15, 1, 0, none⟩).modPlan 0 (fun k => { k with queues := [7], streams := [(5, 1)], launches := [1] })), .can0, 0, by decide +kernel⟩,
   ⟨wRun.setReg 0x2490 8 2, .can0, 0, (.planLoad .can0 0), 1, by decide +kernel⟩,
   ⟨wRun, .can0, 0, (.activate .can0 0), 2, by decide +kernel⟩,
   ⟨wRun, .can0, 0, (.unload .can0 0), 3, by decide +kernel⟩⟩

theorem hyps_QueueStore :
    (∃ (s : State) (a : Agent) (q : Nat), (Admitted s a 0x2410 5 1 1 ∧ (s.queue q).enabled = false ∧ (s.queue q).consumer ≠ 0xFFFF ∧ s.ringOk (s.queuePart q) (s.queue q).ringBase (s.queue q).log2 = true) ∧ q = s.sel (agentNo a) 0x2410)
    ∧ (∃ (s : State) (a : Agent) (q : Nat), (Admitted s a 0x2410 5 1 1 ∧ (s.queue q).enabled = false ∧ ((s.queue q).consumer = 0xFFFF ∨ s.ringOk (s.queuePart q) (s.queue q).ringBase (s.queue q).log2 = false)) ∧ q = s.sel (agentNo a) 0x2410)
    ∧ (∃ (s : State) (a : Agent) (q : Nat), Admitted s a 0x2410 5 1 0 ∧ q = s.sel (agentNo a) 0x2410)
    ∧ (∃ (s : State) (src : Producer) (q : Nat) (es : List (List Byte)), es ≠ [] ∧ q ≤ 16383 ∧ (producerPart src = none ∨ producerPart src = some (s.queuePart q)) ∧ (s.queue q).enabled = true ∧ (s.queue q).count + es.length ≤ 2 ^ (s.queue q).log2)
    ∧ (∃ (s : State) (src : Producer) (q : Nat) (pa : Nat) (e : List Byte), s.flips = [] ∧ q ≤ 16383 ∧ (producerPart src = none ∨ producerPart src = some (s.queuePart q)) ∧ (s.queue q).enabled = true ∧ (s.queue q).count < 2 ^ (s.queue q).log2 ∧ s.place (ringAddr (s.queue q) (s.queue q).tail) = .pkg pa ∧ s.bankLate pa = false)
    ∧ (∃ (s : State) (src : Producer) (q : Nat) (es : List (List Byte)), es ≠ [] ∧ q ≤ 16383 ∧ (producerPart src = none ∨ producerPart src = some (s.queuePart q)) ∧ (s.queue q).enabled = true ∧ 2 ^ (s.queue q).log2 < (s.queue q).count + es.length)
    ∧ (∃ (s : State) (src : Producer) (q : Nat) (es : List (List Byte)), ((s.queue q).enabled = false ∨ 16383 < q ∨ (producerPart src ≠ none ∧ producerPart src ≠ some (s.queuePart q))))
    ∧ (∃ (s : State) (q : Nat) (n : Nat), q ≤ 16383 ∧ n ≤ (s.queue q).count)
    ∧ (∃ (s : State) (q : Nat) (n : Nat), (16383 < q ∨ (s.queue q).count < n))
    ∧ (∃ (s : State) (q : Nat) (n : Nat), (16383 < q ∨ (s.queue q).count < n)) :=
  ⟨⟨((wRun.setQueue 7 ⟨0x200000, 4, 0, false, 0, 0, 0, 0, none⟩).withSelects [(agentKey 0 0x2410 1, 7)]), .can0, _, by decide +kernel, rfl⟩,
   ⟨wRun, .can0, _, by decide +kernel, rfl⟩,
   ⟨(wRun.setQueue 0 ⟨0x200000, 4, 0x100, true, 2, 3, 5, 1, some 4⟩), .can0, _, by decide +kernel, rfl⟩,
   ⟨(wRun.setQueue 300 ⟨0x200000, 4, 0x100, true, 2, 3, 15, 1, some 4⟩), .block, 300, [[1, 2], [3]], by decide +kernel⟩,
   ⟨(wRun.setQueue 300 ⟨0x200000, 4, 0x100, true, 2, 3, 15, 1, some 4⟩), .host, 300, 0x2001E0, [1, 2], by decide +kernel⟩,
   ⟨(wRun.setQueue 300 ⟨0x200000, 4, 0x100, true, 16, 3, 3, 1, some 4⟩), .host, 300, [[1]], by decide +kernel⟩,
   ⟨wRun, .host, 300, [[1]], by decide +kernel⟩,
   ⟨(wRun.setQueue 300 ⟨0x200000, 4, 0x100, true, 2, 15, 1, 1, none⟩), 300, 2, by decide +kernel⟩,
   ⟨wRun, 300, 1, by decide +kernel⟩,
   ⟨wRun, 16384, 0, by decide +kernel⟩⟩

theorem hyps_Doorbells :
    (∃ (s : State) (u : State) (q : Nat) (v : Nat), (s.pcieUp = true ∧ q ≤ 16383 ∧ s.hostWritePending = false ∧ bits v 63 56 = 0 ∧ (regionOf (bits v 47 0) = .pkg ∨ regionOf (bits v 47 0) = .host) ∧ bits v 47 0 % 32 = 0 ∧ (s.rangeStatus none false (bits v 47 0) (32 * (bits v 55 48 + 1))).1 = 0 ∧ ((s.bumpBy 0x2E30 0x0B 8).outsideRead (bits v 47 0) (32 * (bits v 55 48 + 1))).2.status = 0 ∧ (u.queue q).enabled = true ∧ (u.queue q).count + (bits v 55 48 + 1) ≤ 2 ^ (u.queue q).log2) ∧ u = ((s.bumpBy 0x2E30 0x0B 8).outsideRead (bits v 47 0) (32 * (bits v 55 48 + 1))).1)
    ∧ (∃ (s : State) (q : Nat) (n : Nat) (v : Nat) (st : Nat), s.pcieUp = true ∧ q ≤ 16383 ∧ s.hostWritePending = false ∧ s.reg 0x2E30 8 < 0xFFFFFFFF ∧ ((n ≠ 8 ∧ st = 0x17) ∨ (n = 8 ∧ bits v 63 56 ≠ 0 ∧ st = 0x11) ∨ (n = 8 ∧ bits v 63 56 = 0 ∧ regionOf (bits v 47 0) ≠ .pkg ∧ regionOf (bits v 47 0) ≠ .host ∧ st = 0x25) ∨ (n = 8 ∧ bits v 63 56 = 0 ∧ (regionOf (bits v 47 0) = .pkg ∨ regionOf (bits v 47 0) = .host) ∧ bits v 47 0 % 32 = 0 ∧ (s.rangeStatus none false (bits v 47 0) (32 * (bits v 55 48 + 1))).1 = st ∧ st ≠ 0 ∧ st < 256)))
    ∧ (∃ (s : State) (q : Nat) (v : Nat), s.pcieUp = true ∧ q ≤ 16383 ∧ s.hostWritePending = false ∧ bits v 55 21 = 0 ∧ bits v 63 56 ≠ 1 ∧ bits v 63 56 ≤ 0x20 ∧ (s.queue q).consumer = 0x100 ∧ bits v 20 0 ≤ (s.queue q).count)
    ∧ (∃ (s : State) (q : Nat) (n : Nat) (v : Nat) (st : Nat), s.pcieUp = true ∧ q ≤ 16383 ∧ s.hostWritePending = false ∧ s.reg 0x2E30 8 < 0xFFFFFFFF ∧ ((n ≠ 8 ∧ st = 0x17) ∨ (n = 8 ∧ (bits v 55 21 ≠ 0 ∨ bits v 63 56 = 1 ∨ 0x20 < bits v 63 56) ∧ st = 0x11) ∨ (n = 8 ∧ bits v 55 21 = 0 ∧ bits v 63 56 ≠ 1 ∧ bits v 63 56 ≤ 0x20 ∧ (s.queue q).consumer ≠ 0x100 ∧ st = 0x28) ∨ (n = 8 ∧ bits v 55 21 = 0 ∧ bits v 63 56 ≠ 1 ∧ bits v 63 56 ≤ 0x20 ∧ (s.queue q).consumer = 0x100 ∧ (s.queue q).count < bits v 20 0 ∧ st = 0x27)))
    ∧ (∃ (s : State) (n : Nat) (v : Nat), s.pcieUp = true ∧ n ≤ 131071 ∧ s.hostWritePending = false)
    ∧ (∃ (s : State) (n : Nat) (v : Nat), s.pcieUp = true ∧ n ≤ 131071 ∧ s.hostWritePending = false ∧ s.reg 0x2E30 8 < 0xFFFFFFFF) :=
  ⟨⟨(wUp (wRun.setQueue 300 ⟨0x200000, 4, 0x100, true, 2, 3, 15, 1, none⟩)), _, 300, 2 ^ 48 + 0x400000, by decide +kernel, rfl⟩,
   ⟨wUp wRun, 300, 4, 0, 0x17, by decide +kernel⟩,
   ⟨(wUp (wRun.setQueue 300 ⟨0x200000, 4, 0x100, true, 2, 15, 1, 1, none⟩)), 300, 5 * 2 ^ 56 + 2, by decide +kernel⟩,
   ⟨wUp wRun, 300, 4, 0, 0x17, by decide +kernel⟩,
   ⟨wUp (wRun.setSync 9 0xFFFFFFFF), 9, 3, by decide +kernel⟩,
   ⟨wUp wRun, 9, 3, by decide +kernel⟩⟩

theorem hyps_HostAccess :
    (∃ (s : State) (b : Bool) (off : Nat) (len : Nat) (da : Nat), s.flips = [] ∧ s.pcieUp = true ∧ barAddr b off = some da ∧ (pieces da len).all (fun p => s.outsideReadStatus p == 0) = true)
    ∧ (∃ (s : State) (b : Bool) (off : Nat) (len : Nat) (da : Nat), s.pcieUp = true ∧ barAddr b off = some da ∧ 0 < len ∧ s.outsideStatus false da ≠ 0 ∧ s.outsideStatus false da ≠ 0x30 ∧ s.reg 0x2E30 6 < 0xFFFFFFFF)
    ∧ (∃ (s : State) (c : Instr) (b : Bool) (off : Nat) (len : Nat) (bs : List (Option Byte)), c ∈ [.hostMemoryRead b off len, .hostMemoryWrite b off bs] ∧ s.pcieUp = true ∧ barAddr b off = none ∧ s.reg 0x2E30 6 < 0xFFFFFFFF)
    ∧ (∃ (s : State) (c : Instr) (b : Bool) (off : Nat) (len : Nat) (bs : List (Option Byte)), c ∈ [.hostMemoryRead b off len, .hostMemoryWrite b off bs] ∧ s.pcieUp = true ∧ barAddr b off = none ∧ s.reg 0x2E30 6 < 0xFFFFFFFF)
    ∧ (∃ (s : State) (b : Bool) (off : Nat) (da : Nat) (pa : Nat) (bs : List (Option Byte)), s.pcieUp = true ∧ barAddr b off = some da ∧ pieces da bs.length = [(da, bs.length)] ∧ s.outsideStatus true da = 0 ∧ s.place da = .pkg pa ∧ s.bankLate pa = false)
    ∧ (∃ (s : State) (b : Bool) (off : Nat) (da : Nat) (k : Nat) (bs : List Byte), s.flips = [] ∧ s.pcieUp = true ∧ barAddr b off = some da ∧ pieces da bs.length = [(da, bs.length)] ∧ s.outsideStatus true da = 0 ∧ (s.place da = .lstore k ∨ s.place da = .buf k ∨ (s.place da = .spad k ∧ s.streamIdle (spadSkein da) = true)))
    ∧ (∃ (s : State) (b : Bool) (off : Nat) (da : Nat) (bs : List (Option Byte)), s.pcieUp = true ∧ barAddr b off = some da ∧ regionOf da = .spad ∧ (pieces da bs.length).all (fun p => s.outsideStatus true p.1 == 0) = true ∧ s.streamIdle (spadSkein da) = false)
    ∧ (∃ (s : State) (b : Bool) (off : Nat) (da : Nat) (bs : List (Option Byte)), s.pcieUp = true ∧ barAddr b off = some da ∧ bs ≠ [] ∧ s.outsideStatus true da ≠ 0 ∧ s.reg 0x2E30 6 < 0xFFFFFFFF) :=
  ⟨⟨((wUp wRun).wr 0x400000 [1, 2, 3]), false, 0x400001, 40, 0x400001, by decide +kernel⟩,
   ⟨((wUp wRun).withXlat [(2, 0x400002)]), false, 0x400000, 40, 0x400000, by decide +kernel⟩,
   ⟨wUp wRun, (.hostMemoryRead true 0x5000000 8), true, 0x5000000, 8, [], by decide +kernel⟩,
   ⟨wUp wRun, (.hostMemoryWrite true 0x5000000 [none]), true, 0x5000000, 8, [none], by decide +kernel⟩,
   ⟨wUp wRun, false, 0x400004, 0x400004, 0x400004, [some 1, none, some 3], by decide +kernel⟩,
   ⟨wUp wRun, true, 0x20, 0x800000000020, 0x800000000020, [7, 8], by decide +kernel⟩,
   ⟨(wUp wRun).setReg 0x2440 1 1, true, 0x20, 0x800000000020, [some 4], by decide +kernel⟩,
   ⟨(wUp wRun).setReg 0x2440 1 1, true, 0x2000020, 0x810000000020, [some 4], by decide +kernel⟩⟩

theorem hyps_Bar0Requests :
    (∃ (s : State) (w : Bool) (off : Nat) (n : Nat), (n = 4 ∨ n = 8) ∧ off % n = 0)
    ∧ (∃ (s : State) (w : Bool) (off : Nat) (n : Nat), s.pcieUp = true ∧ ¬ ((n = 4 ∨ n = 8) ∧ off % n = 0) ∧ off < 2 ^ 48) :=
  ⟨⟨wUp wRun, true, 8, 8, by decide +kernel⟩,
   ⟨wUp wRun, true, 4, 8, by decide +kernel⟩⟩

theorem hyps_Endpoint :
    (∃ (s : State) (v : Nat) (w : Nat), 6 ≤ s.boot.released ∧ s.boot.perstN = true ∧ s.pcieUp = false ∧ (v = 1 ∨ v = 2 ∨ v = 3) ∧ (w = 1 ∨ w = 2 ∨ w = 4))
    ∧ (∃ (s : State) (m : Bool) (d : Bool), s.pcieUp = true)
    ∧ (∃ (s : State) (g : SkeinId) (i : Nat) (f : Flight), (s.skein g.val).flights[i]? = some f ∧ (descPages f.word).any (fun id => decide (0x4000 ≤ id)) = true ∧ opOf f.word ≠ 2 ∧ isControl f.word = false ∧ s.streamLive g.val = true ∧ s.reg 0x2E30 4 = 0xFFFF ∧ s.reg 0x2B00 5 < 0xFFFFFFFF)
    ∧ (∃ (s : State) (e : EngineId) (i : Nat) (j : Job), s.engine e.val = some j ∧ j.finished = false ∧ (jobAddresses j.entry)[i]?.any (fun da => regionOf da == .host) = true ∧ s.reg 0x2B00 5 < 0xFFFFFFFF)
    ∧ (∃ (s : State), s.boot.perstN = true ∧ (s.reg 0x2100 1 ≠ 0 ∨ s.reg 0x2C10 4 ≠ 1))
    ∧ (∃ (s : State), s.boot.perstN = true ∧ s.reg 0x2100 1 = 0 ∧ s.reg 0x2C10 4 = 1) :=
  ⟨⟨{ (wRun.setReg 0x2E30 1 0) with boot := { wRun.boot with perstN := true } }, 3, 4, by decide +kernel⟩,
   ⟨wUp wRun, true, false, by decide +kernel⟩,
   ⟨(wSk wRun (wFly (wd 1 [(208, 0xC00000000000), (112, 1), (96, 32)]))), 0, 0, (wFly (wd 1 [(208, 0xC00000000000), (112, 1), (96, 32)])), by decide +kernel⟩,
   ⟨wJobs.withEngines [(1, { wJ with entry := zeros 8 ++ leBytes 8 0xC00000000000 ++ zeros 16 })], 1, 0, { wJ with entry := zeros 8 ++ leBytes 8 0xC00000000000 ++ zeros 16 }, by decide +kernel⟩,
   ⟨(wMail.withMsixTable [(4, 2 ^ 96)]).setReg 0x2304 7 3, by decide +kernel⟩,
   ⟨wPerst, by decide +kernel⟩⟩

theorem hyps_RemoteWrites :
    (∃ (s : State) (g : SkeinId) (r : RemoteWrite) (rest : List RemoteWrite), (s.skein g.val).arrivals = r :: rest ∧ r.sender = .host ∧ (s.judgeWrite g.val r).1 ≠ 0 ∧ s.reg (0x2240 + g.val) (s.judgeWrite g.val r).2 < 0xFFFFFFFF ∧ s.reg 0x2E30 6 < 0xFFFFFFFF)
    ∧ (∃ (s : State) (g : SkeinId) (r : RemoteWrite) (rest : List RemoteWrite) (x : Nat × Nat), (s.skein g.val).arrivals = r :: rest ∧ r.bytes ≠ [] ∧ (s.judgeWrite g.val r).1 = 0 ∧ s.writeWindow g.val r = some x ∧ ((s.skein g.val).accepted.map (fun y => y.bytes.length)).foldl (· + ·) 0 + r.bytes.length ≤ 4096)
    ∧ (∃ (s : State) (g : SkeinId) (r : RemoteWrite) (rest : List RemoteWrite), (s.skein g.val).arrivals = r :: rest ∧ r.bytes ≠ [] ∧ (s.judgeWrite g.val r).1 = 0 ∧ 4096 < ((s.skein g.val).accepted.map (fun y => y.bytes.length)).foldl (· + ·) 0 + r.bytes.length)
    ∧ (∃ (s : State) (g : SkeinId) (r : RemoteWrite) (rest : List RemoteWrite) (w : Nat) (bs : List Byte), s.flips = [] ∧ (s.skein g.val).accepted = r :: rest ∧ r.sender = .host ∧ r.win = some w ∧ r.bytes = bs.map some ∧ (List.range 16).all (fun v => (s.window g.val v).state != .closing) = true)
    ∧ (∃ (s : State) (g : SkeinId) (r : RemoteWrite) (rest : List RemoteWrite) (w : Nat), (s.skein g.val).accepted = r :: rest ∧ r.sender = .host ∧ r.win = some w ∧ w < 16 ∧ (s.window g.val w).state = .closing) :=
  ⟨⟨wWin .closed [wRw] [], 2, wRw, [], by decide +kernel⟩,
   ⟨wWin .opened [wRw] [], 2, wRw, [], (3, 0), by decide +kernel⟩,
   ⟨(wWin .opened [wRw] [{ wRw with bytes := List.replicate 4095 none }]), 2, wRw, [], by decide +kernel⟩,
   ⟨(wWin .opened [] [{ wRw with win := some 3, off := 4 }]), 2, { wRw with win := some 3, off := 4 }, [], 3, [1, 2, 3], by decide +kernel⟩,
   ⟨(wWin .closing [] [{ wRw with win := some 3, off := 4 }]), 2, { wRw with win := some 3, off := 4 }, [], 3, by decide +kernel⟩⟩

theorem hyps_ChannelSlots :
    (∃ (s : State) (q : ChannelId), s.boot.filled = true ∧ (s.channel q.val).busy = 0 ∧ s.rankOwner (bitRev6 (s.channel q.val).slot) = none)
    ∧ (∃ (s : State) (q : ChannelId) (p : Nat), s.boot.filled = true ∧ (s.channel q.val).busy = 0 ∧ s.rankOwner (bitRev6 (s.channel q.val).slot) = some p ∧ (s.channel q.val).queue.any (fun a => a.part == p) = false)
    ∧ (∃ (s : State) (q : ChannelId) (a : Access) (bs : List (Option Byte)), s.boot.filled = true ∧ (s.channel q.val).busy = 0 ∧ s.flips = [] ∧ (s.rankOwner (bitRev6 (s.channel q.val).slot)).bind (fun p => (s.channel q.val).queue.find? (fun x => x.part == p)) = some a ∧ a.kind = .write bs none ∧ s.scrubPending = none)
    ∧ (∃ (s : State) (q : ChannelId), s.boot.filled = true ∧ (s.channel q.val).busy ≠ 0 ∧ s.rankOwner (bitRev6 (s.channel q.val).slot) = none)
    ∧ (∃ (s : State) (q : ChannelId), (s.channel q.val).busy = 0)
    ∧ (∃ (s : State) (u : Nat), s.reg 0x2230 1 ≠ 0 ∧ s.boot.filled = true ∧ s.scrubPending = none ∧ s.scrubNext (s.reg 0x2230 6) = some u ∧ s.scrubSlot (channelOf u) = true ∧ u + 32 < 0x200000000 ∧ s.reg 0x2238 1 ≤ 0xFFFFFFFF ∧ s.badRange u 32 = false ∧ (codewords u 32).all (fun c => s.codeAt c != .uncorrectable) = true)
    ∧ (∃ (s : State) (u : Nat), s.reg 0x2230 1 ≠ 0 ∧ s.boot.filled = true ∧ s.scrubPending = none ∧ s.scrubNext (s.reg 0x2230 6) = some u ∧ s.scrubSlot (channelOf u) = false)
    ∧ (∃ (s : State) (u : Nat), s.scrubPending = some u ∧ s.bankState (bankOf u) ≠ 2)
    ∧ (∃ (s : State) (u : Nat), s.scrubPending = some u ∧ s.bankState (bankOf u) = 2 ∧ s.scrubSlot (channelOf u) = false)
    ∧ (∃ (s : State) (u : Nat), s.scrubPending = some u ∧ s.bankState (bankOf u) = 2 ∧ s.scrubSlot (channelOf u) = true) :=
  ⟨⟨(wRun.setReg 0x2203 1 0 |>.setChannel 9 ⟨63, [], 0⟩), 9, by decide +kernel⟩,
   ⟨wRun, 9, 0, by decide +kernel⟩,
   ⟨wRun.setChannel 9 ⟨5, [{ wAcc with part := 1 }, wAcc, { wAcc with pa := 96 }], 0⟩, 9, wAcc, [some 4, none, some 6], by decide +kernel⟩,
   ⟨(wRun.setReg 0x2203 1 0 |>.setChannel 9 ⟨63, [], 22⟩), 9, by decide +kernel⟩,
   ⟨wRun, 9, by decide +kernel⟩,
   ⟨wRun.setReg 0x2230 1 1, 0, by decide +kernel⟩,
   ⟨(wRun.setReg 0x2230 1 1).setChannel 0 { Channel.init with busy := 3 }, 0, by decide +kernel⟩,
   ⟨{ wRun.setReg 0x2290 1 0 with scrubPending := some 64 }, 64, by decide +kernel⟩,
   ⟨{ wRun.setChannel (channelOf 64) { Channel.init with busy := 3 } with scrubPending := some 64 }, 64, by decide +kernel⟩,
   ⟨{ (wRun.withFlips [(36 * 4 + 5, 3)]).wr 64 [9, 8, 7] with scrubPending := some 64 }, 64, by decide +kernel⟩⟩

theorem hyps_BanksAndCaches :
    (∃ (s : State) (a : Agent) (c : CalderaId), Admitted s a (0x2280 + c.val) 6 1 1)
    ∧ (∃ (s : State) (c : CalderaId) (f : WcFetch), (s.caldera c.val).fetches.find? (fun x => decide (8 ≤ x.units.length)) = some f ∧ f.bad = false ∧ f.refused = false)
    ∧ (∃ (s : State) (c : CalderaId) (f : WcFetch), (s.caldera c.val).fetches.find? (fun x => decide (8 ≤ x.units.length)) = some f ∧ f.refused = true ∧ f.bad = false)
    ∧ (∃ (s : State) (a : Agent) (b : BankId) (c : Instr) (v : Nat), (c, v) ∈ [(.bankOff a b, 0), (.bankRetain a b, 1)] ∧ Admitted s a 0x2290 0x11 2 (256 * b.val + v) ∧ s.bankState b.val = 2 ∧ s.bankMapped b.val = false)
    ∧ (∃ (s : State) (a : Agent) (b : BankId) (c : Instr) (v : Nat), (c, v) ∈ [(.bankOff a b, 0), (.bankRetain a b, 1)] ∧ Admitted s a 0x2290 0x11 2 (256 * b.val + v) ∧ s.bankState b.val = 2 ∧ s.bankMapped b.val = false)
    ∧ (∃ (s : State) (a : Agent) (b : BankId), Admitted s a 0x2290 0x11 2 (256 * b.val + 2) ∧ (s.bankState b.val = 0 ∨ s.bankState b.val = 1))
    ∧ (∃ (s : State) (a : Agent) (b : BankId) (c : Instr) (v : Nat), (c, v) ∈ [(.bankOff a b, 0), (.bankRetain a b, 1), (.bankOn a b, 2)] ∧ Admitted s a 0x2290 0x11 2 (256 * b.val + v) ∧ (v ≠ 2 → s.bankState b.val ≠ 2 ∨ s.bankMapped b.val = true) ∧ (v = 2 → s.bankState b.val ≠ 0 ∧ s.bankState b.val ≠ 1))
    ∧ (∃ (s : State) (a : Agent) (b : BankId) (c : Instr) (v : Nat), (c, v) ∈ [(.bankOff a b, 0), (.bankRetain a b, 1), (.bankOn a b, 2)] ∧ Admitted s a 0x2290 0x11 2 (256 * b.val + v) ∧ (v ≠ 2 → s.bankState b.val ≠ 2 ∨ s.bankMapped b.val = true) ∧ (v = 2 → s.bankState b.val ≠ 0 ∧ s.bankState b.val ≠ 1))
    ∧ (∃ (s : State) (a : Agent) (b : BankId) (c : Instr) (v : Nat), (c, v) ∈ [(.bankOff a b, 0), (.bankRetain a b, 1), (.bankOn a b, 2)] ∧ Admitted s a 0x2290 0x11 2 (256 * b.val + v) ∧ (v ≠ 2 → s.bankState b.val ≠ 2 ∨ s.bankMapped b.val = true) ∧ (v = 2 → s.bankState b.val ≠ 0 ∧ s.bankState b.val ≠ 1))
    ∧ (∃ (s : State) (b : BankId), s.flips = [] ∧ s.bankState b.val = 3 ∧ s.channels.all (fun c => c.2.queue.all (fun a => bankOf a.pa != b.val)) = true)
    ∧ (∃ (s : State) (b : BankId), s.flips = [] ∧ s.bankState b.val = 4) :=
  ⟨⟨wRun.modCaldera 2 (fun k => { k with lines := [(4, ⟨[], 0, 0⟩)], fetches := [{ wFetch with units := [] }] }), .can0, 2, by decide +kernel⟩,
   ⟨wRun.modCaldera 2 (fun k => { k with fetches := [wFetch] }), 2, wFetch, by decide +kernel⟩,
   ⟨wRun.modCaldera 2 (fun k => { k with fetches := [{ wFetch with refused := true }] }), 2, { wFetch with refused := true }, by decide +kernel⟩,
   ⟨wNoPages, .can0, 15, (.bankOff .can0 15), 0, by decide +kernel, by decide +kernel, by decide +kernel, wNoPages_unmapped⟩,
   ⟨wNoPages, .can0, 15, (.bankRetain .can0 15), 1, by decide +kernel, by decide +kernel, by decide +kernel, wNoPages_unmapped⟩,
   ⟨wRun.setReg 0x2290 4 0, .can0, 3, by decide +kernel⟩,
   ⟨wRun, .can0, 3, (.bankOff .can0 3), 0, by decide +kernel⟩,
   ⟨wRun, .can0, 3, (.bankRetain .can0 3), 1, by decide +kernel⟩,
   ⟨wRun, .can0, 3, (.bankOn .can0 3), 2, by decide +kernel⟩,
   ⟨wRun.setReg 0x2290 4 3, 3, by decide +kernel⟩,
   ⟨((wRun.setReg 0x2290 4 4).withBankTargets [(3, 1)] |>.wr 0x60000000 [1]), 3, by decide +kernel⟩⟩

theorem hyps_CameraFrames :
    (∃ (s : State) (p : PortId), s.portUp p.val = false ∧ 7 ≤ s.boot.released)
    ∧ (∃ (s : State) (p : PortId), s.portUp p.val = true ∧ s.reg (0x2510 + p.val) 0x0A < 0xFFFFFFFF ∧ (portStreams p.val).all (fun n => !s.camOn n && (s.camera n).openFrame.isNone) = true)
    ∧ (∃ (s : State) (p : PortId) (n : CamId), s.portUp p.val = true ∧ (portStreams p.val).filter s.camOn = [n.val] ∧ s.reg 0x2B00 5 < 0xFFFFFFFF)
    ∧ (∃ (s : State) (p : PortId) (vc : Fin 16) (k : Nat) (c : Instr), c ∈ [.frameStart p ⟨vc, .none⟩ k, .frameEnd p ⟨vc, .none⟩, .lineStart p ⟨vc, .none⟩ k, .lineEnd p ⟨vc, .none⟩] ∧ s.portUp p.val = true ∧ s.streamOn p.val vc.val = none ∧ s.reg (0x2510 + p.val) 9 < 0xFFFFFFFF)
    ∧ (∃ (s : State) (p : PortId) (vc : Fin 16) (k : Nat) (c : Instr), c ∈ [.frameStart p ⟨vc, .none⟩ k, .frameEnd p ⟨vc, .none⟩, .lineStart p ⟨vc, .none⟩ k, .lineEnd p ⟨vc, .none⟩] ∧ s.portUp p.val = true ∧ s.streamOn p.val vc.val = none ∧ s.reg (0x2510 + p.val) 9 < 0xFFFFFFFF)
    ∧ (∃ (s : State) (p : PortId) (vc : Fin 16) (k : Nat) (sub : Nat) (d : PacketDamage) (c : Instr), (d, sub) ∈ [(.header, 6), (.overrun, 8)] ∧ c ∈ [.frameStart p ⟨vc, d⟩ k, .frameEnd p ⟨vc, d⟩, .lineStart p ⟨vc, d⟩ k, .lineEnd p ⟨vc, d⟩, .unmappedPacket ⟨p, d⟩] ∧ s.portUp p.val = true ∧ s.reg (0x2510 + p.val) sub < 0xFFFFFFFF)
    ∧ (∃ (s : State) (p : PortId) (vc : Fin 16) (k : Nat) (sub : Nat) (d : PacketDamage) (c : Instr), (d, sub) ∈ [(.header, 6), (.overrun, 8)] ∧ c ∈ [.frameStart p ⟨vc, d⟩ k, .frameEnd p ⟨vc, d⟩, .lineStart p ⟨vc, d⟩ k, .lineEnd p ⟨vc, d⟩, .unmappedPacket ⟨p, d⟩] ∧ s.portUp p.val = true ∧ s.reg (0x2510 + p.val) sub < 0xFFFFFFFF)
    ∧ (∃ (s : State) (p : PortId) (vc : Fin 16) (n : Nat) (k : Nat), s.portUp p.val = true ∧ s.streamOn p.val vc.val = some n)
    ∧ (∃ (s : State) (p : PortId), s.portUp p.val = true ∧ s.reg (0x2510 + p.val) 9 < 0xFFFFFFFF)
    ∧ (∃ (s : State) (p : PortId) (vc : Fin 16) (k : Nat) (n : Nat), s.portUp p.val = true ∧ s.streamOn p.val vc.val = some n ∧ s.chain n = [] ∧ (s.camera n).openFrame = none)
    ∧ (∃ (s : State) (p : PortId) (vc : Fin 16) (k : Nat) (n : Nat) (o : OpenFrame), s.portUp p.val = true ∧ s.streamOn p.val vc.val = some n ∧ (s.camera n).openFrame = some o)
    ∧ (∃ (s : State) (p : PortId) (vc : Fin 16) (n : Nat) (o : OpenFrame), s.portUp p.val = true ∧ s.streamOn p.val vc.val = some n ∧ (s.camera n).openFrame = some o)
    ∧ (∃ (s : State) (n : CamId) (o : OpenFrame), (s.camera n.val).openFrame = some o)
    ∧ (∃ (s : State) (p : PortId) (vc : Fin 16) (k : Nat) (n : Nat) (o : OpenFrame), s.portUp p.val = true ∧ s.streamOn p.val vc.val = some n ∧ (s.camera n).openFrame = some o ∧ s.reg (0x2540 + n) 6 = 1)
    ∧ (∃ (s : State) (p : PortId) (vc : Fin 16) (n : Nat), s.streamOn p.val vc.val = some n)
    ∧ (∃ (s : State) (p : PortId) (vc : Fin 16) (n : Nat) (o : OpenFrame) (bs : List Byte), s.portUp p.val = true ∧ s.streamOn p.val vc.val = some n ∧ dimMode s = false ∧ (s.camera n).openFrame = some o ∧ (s.camera n).frames = [] ∧ s.reg (0x2540 + n) 6 = 0 ∧ o.next < s.camH n ∧ bs.length = s.camW n * rawBits (s.reg (0x2540 + n) 3) / 8)
    ∧ (∃ (s : State) (p : PortId) (vc : Fin 16) (n : Nat) (sub : Nat) (cause : Nat) (o : OpenFrame) (bs : List Byte) (d : PacketDamage), (d, sub, cause) ∈ [(.crc, 7, 2), (.header, 6, 1), (.overrun, 8, 6)] ∧ s.portUp p.val = true ∧ s.streamOn p.val vc.val = some n ∧ n < 40 ∧ dimMode s = false ∧ (s.camera n).openFrame = some o ∧ (s.camera n).frames = [] ∧ s.reg (0x2540 + n) 6 = 0 ∧ o.next < s.camH n ∧ s.reg (0x2510 + p.val) sub < 0xFFFFFFFF ∧ s.reg (0x2540 + n) 0x0D < 0xFFFFFFFF)
    ∧ (∃ (s : State) (p : PortId) (vc : Fin 16) (n : Nat) (sub : Nat) (cause : Nat) (o : OpenFrame) (bs : List Byte) (d : PacketDamage), (d, sub, cause) ∈ [(.crc, 7, 2), (.header, 6, 1), (.overrun, 8, 6)] ∧ s.portUp p.val = true ∧ s.streamOn p.val vc.val = some n ∧ n < 40 ∧ dimMode s = false ∧ (s.camera n).openFrame = some o ∧ (s.camera n).frames = [] ∧ s.reg (0x2540 + n) 6 = 0 ∧ o.next < s.camH n ∧ s.reg (0x2510 + p.val) sub < 0xFFFFFFFF ∧ s.reg (0x2540 + n) 0x0D < 0xFFFFFFFF)
    ∧ (∃ (s : State) (p : PortId) (vc : Fin 16) (n : Nat) (ty : Nat) (bs : List Byte), s.portUp p.val = true ∧ s.streamOn p.val vc.val = some n ∧ ty ≠ s.reg (0x2540 + n) 3 ∧ s.reg (0x2510 + p.val) 9 < 0xFFFFFFFF)
    ∧ (∃ (s : State) (n : CamId), s.camOn n.val = true ∧ s.reg (0x2540 + n.val) 0x0A ≠ 0 ∧ s.chain n.val = [] ∧ s.reg 0x2B00 5 < 0xFFFFFFFF)
    ∧ (∃ (s : State) (a : Agent) (n : CamId), Admitted s a (0x2540 + n.val) 1 1 1 ∧ s.camOn n.val = false ∧ (portStreams (n.val / 4)).any (fun m => m != n.val && s.camOn m && s.reg (0x2540 + m) 2 == s.reg (0x2540 + n.val) 2) = false ∧ (s.reg (0x2490 + s.streamPart n.val) 8 = 2 ∨ s.reg (0x2490 + s.streamPart n.val) 8 = 3) ∧ (s.plan (s.streamPart n.val)).chains.contains n.val = true ∧ s.reg (0x2540 + n.val) 0x0B = 0xFFFF)
    ∧ (∃ (s : State) (a : Agent) (n : CamId), Admitted s a (0x2540 + n.val) 1 1 1 ∧ s.camOn n.val = false ∧ (s.plan (s.streamPart n.val)).chains.contains n.val = false)
    ∧ (∃ (s : State) (a : Agent) (n : CamId), Admitted s a (0x2540 + n.val) 1 1 0 ∧ s.camOn n.val = true) :=
  ⟨⟨wRun, 4, by decide +kernel⟩,
   ⟨wRun.setReg 0x2514 3 2, 4, by decide +kernel⟩,
   ⟨wCam (some wOpen), 0, 0, by decide +kernel⟩,
   ⟨wCam none, 0, 5, 1, .frameStart 0 ⟨5, .none⟩ 1, by decide +kernel⟩,
   ⟨wCam none, 0, 5, 1, .lineEnd 0 ⟨5, .none⟩, by decide +kernel⟩,
   ⟨wCam none, 0, 5, 1, 6, .header, .frameEnd 0 ⟨5, .header⟩, by decide +kernel⟩,
   ⟨wCam none, 0, 5, 1, 8, .overrun, .unmappedPacket ⟨0, .overrun⟩, by decide +kernel⟩,
   ⟨wCam none, 0, 0, 0, 1, by decide +kernel⟩,
   ⟨wCam none, 0, by decide +kernel⟩,
   ⟨wCam none, 0, 0, 65537, 0, by decide +kernel⟩,
   ⟨wCam (some wOpen), 0, 0, 7, 0, wOpen, by decide +kernel⟩,
   ⟨wCam (some wOpen), 0, 0, 0, wOpen, by decide +kernel⟩,
   ⟨wCam (some wOpen), 0, wOpen, by decide +kernel⟩,
   ⟨(wCam (some wOpen)).setReg 0x2540 6 1, 0, 0, 3, 0, wOpen, by decide +kernel⟩,
   ⟨wCam none, 0, 0, 0, by decide +kernel⟩,
   ⟨wCam (some wOpen), 0, 0, 0, wOpen, zeros 32, by decide +kernel⟩,
   ⟨wCam (some wOpen), 0, 0, 0, 7, 2, wOpen, [], .crc, by decide +kernel⟩,
   ⟨wCam (some wOpen), 0, 0, 0, 8, 6, wOpen, [], .overrun, by decide +kernel⟩,
   ⟨wCam (some wOpen), 0, 0, 0, 0x12, [], by decide +kernel⟩,
   ⟨(wCam none).setReg 0x2540 0x0A 5000, 0, by decide +kernel⟩,
   ⟨((wRun.setReg 0x2490 8 3).modPlan 0 (fun k => { k with chains := [3] })), .can0, 3, by decide +kernel⟩,
   ⟨wRun, .can0, 3, by decide +kernel⟩,
   ⟨wCam (some wOpen), .can0, 0, by decide +kernel⟩⟩

theorem hyps_RangeReception :
    (∃ (s : State) (m : PtpPort) (ok : Bool) (bs : List Byte), m.val < 4 ∧ (s.mac m.val 5 ≠ 1 ∨ s.mac m.val 4 ≠ 1))
    ∧ (∃ (s : State) (m : PtpPort) (ok : Bool) (bs : List Byte), 4 ≤ m.val)
    ∧ (∃ (s : State) (m : PtpPort) (bs : List Byte), m.val < 4 ∧ s.mac m.val 5 = 1 ∧ s.mac m.val 4 = 1 ∧ s.mac m.val 7 < 0xFFFFFFFF)
    ∧ (∃ (s : State) (m : PtpPort) (bs : List Byte), m.val < 4 ∧ s.mac m.val 5 = 1 ∧ s.mac m.val 4 = 1 ∧ 14 ≤ bs.length ∧ bs.length ≤ 9018 ∧ beField bs 12 2 ∉ [0x8100, 0x0800, 0x0806, 0x88F7] ∧ s.mac m.val 8 < 0xFFFFFFFF)
    ∧ (∃ (s : State) (m : PtpPort) (d : DecoderId) (bs : List Byte) (ip : List Byte) (u : List Byte), (m.val < 4 ∧ s.mac m.val 5 = 1 ∧ s.mac m.val 4 = 1 ∧ 14 ≤ bs.length ∧ bs.length ≤ 9018 ∧ beField bs 12 2 = 0x0800 ∧ isPtpUdp ip = false ∧ beField ip 0 1 = 0x45 ∧ 20 ≤ beField ip 2 2 ∧ beField ip 2 2 ≤ ip.length ∧ ipSumOk (ipSum (ip.take 20)) = true ∧ beField ip 9 1 = 17 ∧ beField ip 16 4 = s.macIpv4 m.val ∧ s.macIpv4 m.val ≠ 0 ∧ beField ip 6 2 % 0x4000 = 0 ∧ s.macSlot m.val (beField u 2 2) (beField ip 12 4) none = some d.val ∧ udpOk (beField ip 12 4) (beField ip 16 4) u = true ∧ s.decOn d.val = true ∧ beField u 4 2 ≤ 65515 ∧ ringUsed (s.decoder d.val) + (beField u 4 2 - 8) ≤ ringSize (s.decoder d.val)) ∧ ip = bs.drop 14 ∧ u = (ip.take (beField ip 2 2)).drop 20)
    ∧ (∃ (s : State) (m : PtpPort) (bs : List Byte), m.val < 4 ∧ s.mac m.val 5 = 1 ∧ s.mac m.val 4 = 1 ∧ 14 ≤ bs.length ∧ bs.length ≤ 9018 ∧ beField bs 12 2 = 0x0806 ∧ s.mac m.val 2 ≠ 0 ∧ beField bs 14 2 = 1 ∧ beField bs 16 2 = 0x800 ∧ beField bs 20 2 = 1 ∧ beField bs 38 4 = s.macIpv4 m.val)
    ∧ (∃ (s : State) (d : DecoderId), (s.decoder d.val).reassembly.isSome = true ∧ s.mac (d.val / 2) 9 < 0xFFFFFFFF)
    ∧ (∃ (s : State) (m : RangeMac), 7 ≤ s.boot.released)
    ∧ (∃ (s : State) (m : RangeMac), s.mac m.val 5 = 1 ∧ s.mac m.val 0x0B < 0xFFFFFFFF ∧ s.decOn (2 * m.val) = false ∧ s.decOn (2 * m.val + 1) = false)
    ∧ (∃ (s : State) (m : RangeMac), s.mac m.val 5 = 1 ∧ s.mac m.val 0x0B < 0xFFFFFFFF ∧ s.decOn (2 * m.val) = true ∧ s.decOn (2 * m.val + 1) = false ∧ s.reg 0x2B00 5 < 0xFFFFFFFF)
    ∧ (∃ (s : State) (d : DecoderId) (x : Nat × Nat × Nat) (rest : List (Nat × Nat × Nat)), (s.decoder d.val).ring = x :: rest ∧ s.decOn d.val = true ∧ (s.decoder d.val).sample = none)
    ∧ (∃ (s : State) (d : DecoderId) (x : Sample) (bs : List Byte) (r : Decoded), ((s.decoder d.val).sample = some x ∧ x.decoded = false ∧ s.samplePayload d.val x = some bs) ∧ r = decodeSample (s.sampleEnv d.val x) bs)
    ∧ (∃ (s : State) (d : DecoderId) (x : Sample) (r : Decoded), ((s.decoder d.val).sample = some x ∧ x.decoded = false ∧ s.samplePayload d.val x = none ∧ s.reg 0x2B00 5 < 0xFFFFFFFF) ∧ r = decodeUpTo (s.sampleEnv d.val x) (s.samplePrefix d.val x) (s.samplePrefix d.val x).length)
    ∧ (∃ (s : State) (d : DecoderId) (x : Sample) (pts : List (List Byte)), (s.decoder d.val).sample = some x ∧ x.decoded = true ∧ endCause (s.decoder d.val) x = 0 ∧ s.staged d.val x.points = some pts ∧ gapMarker d.val (s.decoder d.val) x = [] ∧ pts ≠ [] ∧ gapOf (s.decoder d.val) x = 0 ∧ (s.outerPush (field (s.decoder d.val).schema 16 2) pts).2 = 0)
    ∧ (∃ (s : State) (d : DecoderId) (x : Sample) (pts : List (List Byte)), (s.decoder d.val).sample = some x ∧ x.decoded = true ∧ endCause (s.decoder d.val) x = 0 ∧ s.staged d.val x.points = some pts ∧ gapMarker d.val (s.decoder d.val) x = [] ∧ pts ≠ [] ∧ (s.queue (field (s.decoder d.val).schema 16 2)).enabled = false)
    ∧ (∃ (s : State) (d : DecoderId) (x : Sample) (off : Nat), (s.decoder d.val).sample = some x ∧ s.reg (0x2610 + d.val) 0x0C < 0xFFFFFFFF ∧ s.reg (0x2610 + d.val) 6 < 0xFFFFFFFF) :=
  ⟨⟨wRun, 2, true, [], by decide +kernel⟩,
   ⟨wRun, 4, true, zeros 60, by decide +kernel⟩,
   ⟨wMac, 1, [], by decide +kernel⟩,
   ⟨wMac, 1, zeros 60, by decide +kernel⟩,
   ⟨wMac, 1, 2, wFrame, _, _, by decide +kernel, rfl, rfl⟩,
   ⟨wMac, 1, wArp, by decide +kernel⟩,
   ⟨(wRun.modDecoder 3 (fun k => { k with reassembly := some ⟨1, 2, [], none, 3⟩ })), 3, by decide +kernel⟩,
   ⟨wRun, 3, by decide +kernel⟩,
   ⟨wRun.setReg 0x2531 5 1, 1, by decide +kernel⟩,
   ⟨wMac, 1, by decide +kernel⟩,
   ⟨(wDec none [(0, 4, 9)]), 2, (0, 4, 9), [], by decide +kernel⟩,
   ⟨wDec (some wSample) [], 2, wSample, zeros 4, _, by decide +kernel, rfl⟩,
   ⟨(wDec (some wSample) []).withFlips [(36 * (bufferBase / 16) + 5, 3), (36 * (bufferBase / 16) + 6, 3)], 2, wSample, _, by decide +kernel, rfl⟩,
   ⟨(wDec (some { wSample with decoded := true, points := 1 }) [] |>.setQueue 0 ⟨0x200000, 4, 0x210, true, 0, 0, 0, 0, none⟩), 2, { wSample with decoded := true, points := 1 }, [zeros 32], by decide +kernel⟩,
   ⟨(wDec (some { wSample with decoded := true, points := 1 }) []), 2, { wSample with decoded := true, points := 1 }, [zeros 32], by decide +kernel⟩,
   ⟨wDec (some wSample) [], 2, wSample, 1, by decide +kernel⟩⟩

theorem hyps_PipelineWork :
    (∃ (s : State), s.queues.any (fun q => q.2.consumer == 0x210) = false)
    ∧ (∃ (s : State) (q : Nat × Queue) (e : List Byte) (d : DecoderId), s.queues.find? (fun q => q.2.consumer == 0x210 && q.2.enabled && decide (0 < q.2.count)) = some q ∧ s.queue q.1 = q.2 ∧ s.queuePeek q.1 1 = (0, [e]) ∧ field e 26 1 = 40 + d.val ∧ hasStage (s.chain (40 + d.val)) 7 = true)
    ∧ (∃ (s : State) (q : Nat × Queue) (e : List Byte), s.queues.find? (fun q => q.2.consumer == 0x210 && q.2.enabled && decide (0 < q.2.count)) = some q ∧ s.queue q.1 = q.2 ∧ s.queuePeek q.1 1 = (0, [e]) ∧ field e 26 1 < 40 ∧ s.reg 0x2700 6 < 0xFFFFFFFF)
    ∧ (∃ (s : State) (n : CamId) (f : ChainFrame) (r : List Nat × Nat × Bool), (s.camera n.val).frames = [f] ∧ f.projection = 1 ∧ s.lanes.length < 8 ∧ s.lanes.contains n.val = false ∧ s.laneTurn n.val f = true ∧ s.projectFrame n.val f = some r)
    ∧ (∃ (s : State) (n : CamId) (f : ChainFrame), (s.camera n.val).frames = [f] ∧ f.projection = 1 ∧ s.lanes.contains n.val = false)
    ∧ (∃ (s : State) (n : CamId) (f : ChainFrame), (s.camera n.val).frames = [f] ∧ f.projection = 2)
    ∧ (∃ (s : State) (n : CamId) (k : Fin 4) (f : ChainFrame) (f' : ChainFrame), ((s.camera n.val).frames = [f] ∧ rowReady (s.chain n.val) f k.val = true ∧ stripeReady (s.chain n.val) f' k.val = false ∧ f.tiles = none ∧ f.formed = false ∧ f.pushed = false) ∧ f' = { f with rows := f.rows.set k.val (f.rows.getD k.val 0 + 1) })
    ∧ (∃ (s : State) (n : CamId) (k : Fin 4) (f : ChainFrame) (f' : ChainFrame), ((s.camera n.val).frames = [f] ∧ rowReady (s.chain n.val) f k.val = true ∧ stripeReady (s.chain n.val) f' k.val = true ∧ k.val ≠ 0 ∧ stripeReady (s.chain n.val) { f' with released := f'.released.set k.val (f'.released.getD k.val 0 + 1) } k.val = false ∧ f.tiles = none ∧ f.formed = false ∧ f.pushed = false) ∧ f' = { f with rows := f.rows.set k.val (f.rows.getD k.val 0 + 1) })
    ∧ (∃ (s : State) (e : Fin 8) (g : GatherSlot) (rest : List GatherSlot), s.gatherQueue = g :: rest ∧ s.gatherBusy.any (fun x => x.1 == e.val) = false)
    ∧ (∃ (s : State) (e : Fin 8) (g : GatherSlot), s.gatherBusy.find? (fun x => x.1 == e.val) = some (e.val, g))
    ∧ (∃ (s : State) (n : CamId) (e : BatchEntry) (rest : List BatchEntry), (s.camera n.val).entries = e :: rest ∧ s.entryReady n.val e = true ∧ (s.outerPush e.queue [batchBytes n.val e]).2 = 0)
    ∧ (∃ (s : State) (n : CamId) (e : BatchEntry) (rest : List BatchEntry), (s.camera n.val).entries = e :: rest ∧ (s.entryReady n.val e = false ∨ (s.queue e.queue).enabled = false))
    ∧ (∃ (s : State) (n : CamId) (e : BatchEntry), (s.camera n.val).entries.find? (fun e => s.entryReady n.val e && !e.late) = some e ∧ s.reg 0x2B00 5 < 0xFFFFFFFF) :=
  ⟨⟨wRun, by decide +kernel⟩,
   ⟨wPts 42, (5, wPtq), wPoint 42, 2, by decide +kernel⟩,
   ⟨wPts 3, (5, wPtq), wPoint 3, by decide +kernel⟩,
   ⟨wPipe { wCf with projection := 1 }, 1, { wCf with projection := 1 }, ([255], 0, false), by decide +kernel⟩,
   ⟨(wPipe { wCf with projection := 1 }).withLanes [2, 3, 4, 5, 6, 7, 8, 9], 1, { wCf with projection := 1 }, by decide +kernel⟩,
   ⟨((wPipe { wCf with projection := 2, projected := 5, marked := true }).withLanes [1]), 1, { wCf with projection := 2, projected := 5, marked := true }, by decide +kernel⟩,
   ⟨wPipe wCf, 1, 0, wCf, { wCf with rows := [1, 0, 0, 0] }, by decide +kernel, by decide +kernel⟩,
   ⟨(wPipe { wCf with rows := [2, 0, 0, 0] }), 1, 1, { wCf with rows := [2, 0, 0, 0] }, { wCf with rows := [2, 1, 0, 0] }, by decide +kernel, by decide +kernel⟩,
   ⟨(wPipe wCf).withGatherQueue [wSlot], 3, wSlot, [], by decide +kernel⟩,
   ⟨(((wPipe wCf).withGatherBusy [(3, wSlot)]).modCamera 1 (fun k => { k with entries := [wEntry] })), 3, wSlot, by decide +kernel⟩,
   ⟨(((wPipe wCf).setQueue 7 ⟨0x200000, 4, 0, true, 0, 0, 0, 0, none⟩).modCamera 1 (fun k => { k with entries := [{ wEntry with slotsLeft := 0 }] })), 1, { wEntry with slotsLeft := 0 }, [], by decide +kernel⟩,
   ⟨(wPipe wCf).modCamera 1 (fun k => { k with entries := [wEntry] }), 1, wEntry, [], by decide +kernel⟩,
   ⟨((wPipe wCf).setQueue 7 ⟨0x200000, 4, 0, true, 16, 0, 0, 0, none⟩).modCamera 1 (fun k => { k with entries := [wEntry, { wEntry with slotsLeft := 0, batch := 1 }] }), 1, { wEntry with slotsLeft := 0, batch := 1 }, by decide +kernel⟩⟩

theorem hyps_PostProcessorJobs :
    (∃ (s : State) (e : EngineId) (b : Nat) (x : List (List Byte)), s.engine e.val = none ∧ s.nextJobBlock = some b ∧ s.queuePeek (blkIn (s.block b)) 1 = (0, x))
    ∧ (∃ (s : State) (e : EngineId) (j : Job), s.engine e.val = some j ∧ j.finished = false)
    ∧ (∃ (s : State) (e : EngineId) (j : Job), s.engine e.val = some j ∧ j.finished = true ∧ s.engines.any (fun x => x.2.outQueue == j.outQueue && decide (x.2.order < j.order)) = false ∧ (s.outerPush j.outQueue j.records).2 = 0)
    ∧ (∃ (s : State) (e : EngineId) (j : Job), s.engine e.val = some j ∧ (j.finished = false ∨ s.engines.any (fun x => x.2.outQueue == j.outQueue && decide (x.2.order < j.order)) = true ∨ (s.queue j.outQueue).enabled = false))
    ∧ (∃ (s : State) (e : EngineId) (j : Job), s.engine e.val = some j ∧ j.block < 16 ∧ s.reg 0x2B00 5 < 0xFFFFFFFF ∧ s.reg 0x2800 4 < 0xFFFFFFFF ∧ s.reg (0x2810 + j.block) 9 < 0xFFFFFFFF) :=
  ⟨⟨wJobs, 1, 2, [zeros 32], by decide +kernel⟩,
   ⟨wJobs.setEngine 1 wJ, 1, wJ, by decide +kernel⟩,
   ⟨((wJobs.setEngine 1 { wJ with finished := true, records := [zeros 32] }).setQueue 9 ⟨0x200000, 4, 0, true, 0, 0, 0, 0, none⟩), 1, { wJ with finished := true, records := [zeros 32] }, by decide +kernel⟩,
   ⟨wJobs.setEngine 1 wJ, 1, wJ, by decide +kernel⟩,
   ⟨wJobs.setEngine 1 wJ, 1, wJ, by decide +kernel⟩⟩

theorem hyps_TimebaseAndServo :
    (∃ (s : State) (a : Agent), Admitted s a 0x2900 8 1 1 ∧ s.launchOn = false ∧ s.reg 0x2900 0x0E < 0xFFFFFFFF)
    ∧ (∃ (s : State) (a : Agent), Admitted s a 0x2900 8 1 1 ∧ s.launchOn = true)
    ∧ (∃ (s : State) (a : Agent), Admitted s a 0x2900 8 1 2)
    ∧ (∃ (s : State) (a : Agent), Admitted s a 0x2900 8 1 3)
    ∧ (∃ (s : State) (m : PtpPort) (origin : Int) (rate : Int) (off : Int), (s.reg 0x2900 0x0B = 1 ∧ s.upstream m.val = true ∧ (0x81, 0) ∉ s.safety.warnings ∧ (s.ptpMode m.val ≠ 2 ∨ s.asCapable m.val = true) ∧ (s.launchOn = true ∨ off.natAbs ≤ s.reg 0x2900 0x10)) ∧ off = s.syncOffset m.val origin rate)
    ∧ (∃ (s : State) (m : PtpPort) (origin : Int) (rate : Int) (off : Int), (s.reg 0x2900 0x0B = 1 ∧ s.upstream m.val = true ∧ (0x81, 0) ∉ s.safety.warnings ∧ (s.ptpMode m.val ≠ 2 ∨ s.asCapable m.val = true) ∧ (s.launchOn = true ∨ off.natAbs ≤ s.reg 0x2900 0x10)) ∧ off = s.syncOffset m.val origin rate)
    ∧ (∃ (s : State) (m : PtpPort) (origin : Int) (rate : Int) (off : Int), (s.reg 0x2900 0x0B = 1 ∧ s.upstream m.val = true ∧ (0x81, 0) ∉ s.safety.warnings ∧ (s.ptpMode m.val ≠ 2 ∨ s.asCapable m.val = true) ∧ s.launchOn = false ∧ s.reg 0x2900 0x10 < off.natAbs ∧ s.reg 0x2900 0x0E < 0xFFFFFFFF) ∧ off = s.syncOffset m.val origin rate)
    ∧ (∃ (s : State) (m : PtpPort) (d : Nat) (origin : Int) (rate : Int), (s.reg 0x2900 0x0B ≠ 1 ∨ s.upstream m.val = false ∨ d ≠ s.reg (0x2910 + m.val) 3 ∨ (s.ptpMode m.val = 2 ∧ s.asCapable m.val = false)))
    ∧ (∃ (s : State) (m : PtpPort) (d : Nat) (origin : Int) (rate : Int), (s.reg 0x2900 0x0B ≠ 1 ∨ s.upstream m.val = false ∨ d ≠ s.reg (0x2910 + m.val) 3 ∨ (s.ptpMode m.val = 2 ∧ s.asCapable m.val = false)))
    ∧ (∃ (s : State) (m : PtpPort) (e : Egress) (r : Option Int), s.reg 0x2900 0x0B = 1 ∧ s.upstream m.val = true ∧ s.ptpMode m.val = 1 ∧ s.reg (0x2A00 + m.val) 9 < 0xFFFFFFFF)
    ∧ (∃ (s : State) (m : PtpPort) (e : Egress) (r : Option Int), s.reg 0x2900 0x0B = 1 ∧ s.upstream m.val = true ∧ s.ptpMode m.val = 1 ∧ s.reg (0x2A00 + m.val) 9 < 0xFFFFFFFF)
    ∧ (∃ (s : State) (m : PtpPort) (e : Egress) (r : Option Int), (s.reg 0x2900 0x0B ≠ 1 ∨ s.upstream m.val = false ∨ s.ptpMode m.val ≠ 1))
    ∧ (∃ (s : State), s.reg 0x2900 0x0B = 1 ∧ s.reg 0x2900 0x0C ≠ 3 ∧ s.reg 0x2B00 8 < 0xFFFFFFFF)
    ∧ (∃ (s : State), (s.reg 0x2900 0x0B ≠ 1 ∨ s.reg 0x2900 0x0C = 3))
    ∧ (∃ (s : State), s.reg 0x2900 0x0C = 3 ∧ s.reg 0x2B00 0x0A ≠ 0 ∧ s.reg 0x2B00 5 < 0xFFFFFFFF)
    ∧ (∃ (s : State), (s.reg 0x2900 0x0C ≠ 3 ∨ s.reg 0x2B00 0x0A = 0)) :=
  ⟨⟨(wRun.setReg 0x2900 5 70).setReg 0x2900 6 9, .can0, by decide +kernel⟩,
   ⟨wRun.setReg 0x2A12 2 1, .can0, by decide +kernel⟩,
   ⟨wRun.setReg 0x2900 7 (2 ^ 64 - 5), .can0, by decide +kernel⟩,
   ⟨wSync, .can0, by decide +kernel⟩,
   ⟨wSync, 1, 50000000007, 0, _, by decide +kernel, rfl⟩,
   ⟨wSyncAs, 1, 50000000007, 5, _, by decide +kernel, rfl⟩,
   ⟨wSync, 1, 57000000000, 0, _, by decide +kernel, rfl⟩,
   ⟨wSync, 2, 0, 5, 0, by decide +kernel⟩,
   ⟨wAs.setReg 0x2900 0x0B 1, 2, 0, 5, 0, by decide +kernel⟩,
   ⟨wSync, 1, ⟨65536, false⟩, some 50000000900, by decide +kernel⟩,
   ⟨wSync, 1, ⟨65536, true⟩, none, by decide +kernel⟩,
   ⟨wRun, 1, ⟨65536, false⟩, some 9, by decide +kernel⟩,
   ⟨wSync, by decide +kernel⟩,
   ⟨wRun, by decide +kernel⟩,
   ⟨(wSync.setReg 0x2900 0x0C 3).setReg 0x2B00 0x0A 60, by decide +kernel⟩,
   ⟨wSync, by decide +kernel⟩⟩

theorem hyps_PtpAndTriggers :
    (∃ (s : State) (m : PtpPort) (o : PtpPort) (msg : PtpMessage) (es : List Egress), s.macOn m.val = true ∧ s.ptpTaken m.val msg = true ∧ s.ptpMode m.val = 1 ∧ ((egressOf es o.val).held = false ∨ o.val < 4) ∧ s.clockPorts m.val = [o.val] ∧ (msg.kind = .syncOneStep ∨ msg.kind = .delayReq))
    ∧ (∃ (s : State) (m : PtpPort) (o : PtpPort) (msg : PtpMessage) (es : List Egress), s.macOn m.val = true ∧ s.ptpTaken m.val msg = true ∧ s.ptpMode m.val = 1 ∧ ((egressOf es o.val).held = false ∨ o.val < 4) ∧ s.clockPorts m.val = [o.val] ∧ (msg.kind = .syncOneStep ∨ msg.kind = .delayReq))
    ∧ (∃ (s : State) (m : PtpPort) (o : PtpPort) (msg : PtpMessage) (es : List Egress), s.macOn m.val = true ∧ s.ptpTaken m.val msg = true ∧ s.ptpMode m.val = 1 ∧ ((egressOf es o.val).held = false ∨ o.val < 4) ∧ s.clockPorts m.val = [o.val] ∧ msg.kind = .syncTwoStep)
    ∧ (∃ (s : State) (m : PtpPort) (o : PtpPort) (msg : PtpMessage) (es : List Egress) (p : PtpPending), s.macOn m.val = true ∧ s.ptpTaken m.val msg = true ∧ s.ptpMode m.val = 1 ∧ ((egressOf es o.val).held = false ∨ o.val < 4) ∧ s.clockPorts m.val = [o.val] ∧ msg.kind = .followUp ∧ s.ptpPending.find? (fun p => p.out == o.val && p.sourcePort == msg.sourcePort && p.sequenceId == msg.sequenceId && p.domain == msg.domain && decide (s.time.cycles ≤ p.tIn + 100000000)) = some p)
    ∧ (∃ (s : State) (m : PtpPort) (o : PtpPort) (msg : PtpMessage) (es : List Egress), s.macOn m.val = true ∧ s.ptpTaken m.val msg = true ∧ s.ptpMode m.val = 1 ∧ ((egressOf es o.val).held = false ∨ o.val < 4) ∧ s.clockPorts m.val = [o.val] ∧ msg.kind = .followUp ∧ s.ptpPending.any (fun p => p.out == o.val && p.sourcePort == msg.sourcePort && p.sequenceId == msg.sequenceId && p.domain == msg.domain && decide (s.time.cycles ≤ p.tIn + 100000000)) = false ∧ s.reg (0x2910 + o.val) 0x0B < 0xFFFFFFFF)
    ∧ (∃ (s : State) (m : PtpPort) (o : PtpPort) (msg : PtpMessage) (es : List Egress), s.macOn m.val = true ∧ s.ptpTaken m.val msg = true ∧ s.ptpMode m.val = 1 ∧ ((egressOf es o.val).held = false ∨ o.val < 4) ∧ s.clockPorts m.val = [o.val] ∧ msg.kind = .followUp ∧ s.ptpPending.any (fun p => p.out == o.val && p.sourcePort == msg.sourcePort && p.sequenceId == msg.sequenceId && p.domain == msg.domain && decide (s.time.cycles ≤ p.tIn + 100000000)) = false ∧ s.reg (0x2910 + o.val) 0x0B < 0xFFFFFFFF)
    ∧ (∃ (s : State) (m : PtpPort) (o : PtpPort) (msg : PtpMessage) (es : List Egress), s.macOn m.val = true ∧ s.ptpTaken m.val msg = true ∧ s.ptpMode m.val = 1 ∧ ((egressOf es o.val).held = false ∨ o.val < 4) ∧ s.clockPorts m.val = [o.val] ∧ (msg.kind = .general ∨ msg.kind = .announce))
    ∧ (∃ (s : State) (m : PtpPort) (o : PtpPort) (msg : PtpMessage) (es : List Egress), s.macOn m.val = true ∧ s.ptpTaken m.val msg = true ∧ s.ptpMode m.val = 1 ∧ ((egressOf es o.val).held = false ∨ o.val < 4) ∧ s.clockPorts m.val = [o.val] ∧ (msg.kind = .general ∨ msg.kind = .announce))
    ∧ (∃ (s : State) (m : PtpPort) (o : PtpPort) (msg : PtpMessage) (es : List Egress), s.macOn m.val = true ∧ s.ptpTaken m.val msg = true ∧ s.ptpMode m.val = 1 ∧ (egressOf es o.val).held = true ∧ 4 ≤ o.val ∧ s.clockPorts m.val = [o.val] ∧ (msg.kind = .general ∨ msg.kind = .announce) ∧ s.reg (0x2A00 + o.val) 9 < 0xFFFFFFFF)
    ∧ (∃ (s : State) (m : PtpPort) (o : PtpPort) (msg : PtpMessage) (es : List Egress), s.macOn m.val = true ∧ s.ptpTaken m.val msg = true ∧ s.ptpMode m.val = 2 ∧ msg.domain = 0 ∧ msg.kind = .announce ∧ s.upstream m.val = true ∧ ((egressOf es o.val).held = false ∨ o.val < 4) ∧ (List.range 6).filter (fun o => o ≠ m.val && s.macOn o && s.ptpMode o == 2 && s.reg (0x2910 + o) 2 == 0) = [o.val])
    ∧ (∃ (s : State) (m : PtpPort) (msg : PtpMessage) (es : List Egress), s.macOn m.val = true ∧ s.ptpTaken m.val msg = true ∧ s.ptpMode m.val = 2 ∧ msg.domain = 0 ∧ msg.kind = .pdelay ∧ ((egressOf es m.val).held = false ∨ m.val < 4))
    ∧ (∃ (s : State) (m : PtpPort) (msg : PtpMessage) (es : List Egress), s.macOn m.val = true ∧ s.ptpTaken m.val msg = true ∧ s.ptpMode m.val = 2 ∧ msg.domain = 0 ∧ (msg.kind = .syncTwoStep ∨ msg.kind = .followUp) ∧ s.upstream m.val = true)
    ∧ (∃ (s : State) (m : PtpPort) (msg : PtpMessage) (es : List Egress), s.macOn m.val = true ∧ (s.ptpTaken m.val msg = false ∨ (s.ptpMode m.val = 1 ∧ msg.kind = .pdelay) ∨ s.ptpMode m.val = 0 ∨ (s.ptpMode m.val = 2 ∧ msg.domain ≠ 0) ∨ (s.ptpMode m.val = 2 ∧ (msg.kind = .general ∨ msg.kind = .syncOneStep ∨ msg.kind = .delayReq)) ∨ (s.ptpMode m.val = 2 ∧ s.upstream m.val = false ∧ msg.kind ≠ .pdelay)) ∧ s.reg (0x2910 + m.val) 0x0B < 0xFFFFFFFF)
    ∧ (∃ (s : State) (m : PtpPort) (msg : PtpMessage) (es : List Egress), s.macOn m.val = true ∧ (s.ptpTaken m.val msg = false ∨ (s.ptpMode m.val = 1 ∧ msg.kind = .pdelay) ∨ s.ptpMode m.val = 0 ∨ (s.ptpMode m.val = 2 ∧ msg.domain ≠ 0) ∨ (s.ptpMode m.val = 2 ∧ (msg.kind = .general ∨ msg.kind = .syncOneStep ∨ msg.kind = .delayReq)) ∨ (s.ptpMode m.val = 2 ∧ s.upstream m.val = false ∧ msg.kind ≠ .pdelay)) ∧ s.reg (0x2910 + m.val) 0x0B < 0xFFFFFFFF)
    ∧ (∃ (s : State) (m : PtpPort) (msg : PtpMessage) (es : List Egress), s.macOn m.val = true ∧ (s.ptpTaken m.val msg = false ∨ (s.ptpMode m.val = 1 ∧ msg.kind = .pdelay) ∨ s.ptpMode m.val = 0 ∨ (s.ptpMode m.val = 2 ∧ msg.domain ≠ 0) ∨ (s.ptpMode m.val = 2 ∧ (msg.kind = .general ∨ msg.kind = .syncOneStep ∨ msg.kind = .delayReq)) ∨ (s.ptpMode m.val = 2 ∧ s.upstream m.val = false ∧ msg.kind ≠ .pdelay)) ∧ s.reg (0x2910 + m.val) 0x0B < 0xFFFFFFFF)
    ∧ (∃ (s : State) (m : PtpPort) (msg : PtpMessage) (es : List Egress), s.macOn m.val = true ∧ (s.ptpTaken m.val msg = false ∨ (s.ptpMode m.val = 1 ∧ msg.kind = .pdelay) ∨ s.ptpMode m.val = 0 ∨ (s.ptpMode m.val = 2 ∧ msg.domain ≠ 0) ∨ (s.ptpMode m.val = 2 ∧ (msg.kind = .general ∨ msg.kind = .syncOneStep ∨ msg.kind = .delayReq)) ∨ (s.ptpMode m.val = 2 ∧ s.upstream m.val = false ∧ msg.kind ≠ .pdelay)) ∧ s.reg (0x2910 + m.val) 0x0B < 0xFFFFFFFF)
    ∧ (∃ (s : State) (m : PtpPort) (msg : PtpMessage) (es : List Egress), s.macOn m.val = false)
    ∧ (∃ (s : State) (m : PtpPort) (e : Egress), s.macOn m.val = true ∧ s.ptpMode m.val = 2 ∧ (e.held = false ∨ m.val < 4))
    ∧ (∃ (s : State) (m : PtpPort) (e : Egress) (a : PdelayAnswer), s.macOn m.val = true ∧ s.ptpMode m.val = 2 ∧ (e.held = false ∨ m.val < 4) ∧ (∀ l, (s.peer m.val).last = some l → s.egressAt m.val e + a.back ≤ l.2))
    ∧ (∃ (s : State) (m : PtpPort) (e : Egress) (a : PdelayAnswer) (l : Int × Int), s.macOn m.val = true ∧ s.ptpMode m.val = 2 ∧ (e.held = false ∨ m.val < 4) ∧ (s.peer m.val).last = some l ∧ l.2 < s.egressAt m.val e + a.back)
    ∧ (∃ (s : State) (m : PtpPort) (e : Egress) (a : Option PdelayAnswer), (s.macOn m.val = false ∨ s.ptpMode m.val ≠ 2))
    ∧ (∃ (s : State) (m : PtpPort) (o : PtpPort) (c : Int) (r : Int) (es : List Egress), s.upstream m.val = true ∧ s.ptpMode m.val = 2 ∧ s.asCapable m.val = true ∧ (s.masterPorts m.val).filter s.asCapable = [o.val] ∧ ((egressOf es o.val).held = false ∨ o.val < 4))
    ∧ (∃ (s : State) (m : PtpPort) (c : Int) (r : Int) (es : List Egress), (s.upstream m.val = false ∨ s.ptpMode m.val ≠ 2 ∨ s.asCapable m.val = false))
    ∧ (∃ (s : State) (p : PortId) (v : Fin 4), bit (s.reg (0x2920 + p.val) 1) v.val = true)
    ∧ (∃ (s : State) (p : PortId) (v : Fin 4), bit (s.reg (0x2920 + p.val) 1) v.val = false) :=
  ⟨⟨wPtp, 1, 2, ⟨⟨.syncOneStep, 1, 2, 0, 10, false, 0⟩, 2, 1⟩, wOuts, by decide +kernel⟩,
   ⟨wPtp, 1, 2, ⟨⟨.delayReq, 1, 2, 0, 10, false, 0⟩, 2, 1⟩, wOuts.set 2 ⟨65536, true⟩, by decide +kernel⟩,
   ⟨wPtp, 1, 2, ⟨⟨.syncTwoStep, 1, 2, 0, 10, false, 0⟩, 2, 1⟩, wOuts, by decide +kernel⟩,
   ⟨wPtp.withPtpPending [⟨2, 1, 2, 0, 77, 5⟩], 1, 2, ⟨⟨.followUp, 1, 2, 0, 10, false, 0⟩, 2, 1⟩, wOuts, ⟨2, 1, 2, 0, 77, 5⟩, by decide +kernel⟩,
   ⟨wPtp.withPtpPending [⟨2, 1, 3, 0, 77, 5⟩], 1, 2, ⟨⟨.followUp, 1, 2, 0, 10, false, 0⟩, 2, 1⟩, wOuts, by decide +kernel⟩,
   ⟨{ wPtp.withPtpPending [⟨2, 1, 2, 0, 77, 5⟩] with time := { wPtp.time with cycles := 100000006 } }, 1, 2, ⟨⟨.followUp, 1, 2, 0, 10, false, 0⟩, 2, 1⟩, wOuts, by decide +kernel⟩,
   ⟨wPtp, 1, 2, ⟨⟨.general, 1, 2, 0, 10, false, 0⟩, 2, 1⟩, wOuts, by decide +kernel⟩,
   ⟨wPtp, 1, 2, ⟨⟨.announce, 1, 2, 0, 10, false, 0⟩, 2, 1⟩, wOuts, by decide +kernel⟩,
   ⟨(wPtp.setReg 0x2A04 6 1).setReg 0x2914 1 1 |>.setReg 0x2532 4 0, 1, 4, ⟨⟨.general, 1, 2, 0, 10, false, 0⟩, 2, 1⟩, wOuts.set 4 ⟨65536, true⟩, by decide +kernel⟩,
   ⟨wAs, 1, 2, ⟨⟨.announce, 1, 2, 0, 10, false, 0⟩, 2, 1⟩, wOuts, by decide +kernel⟩,
   ⟨wAs, 1, ⟨⟨.pdelay, 1, 2, 0, 10, false, 0⟩, 2, 1⟩, wOuts, by decide +kernel⟩,
   ⟨wAs, 1, ⟨⟨.syncTwoStep, 1, 2, 0, 10, false, 0⟩, 2, 1⟩, wOuts, by decide +kernel⟩,
   ⟨wPtp, 1, ⟨⟨.pdelay, 1, 2, 0, 10, false, 0⟩, 2, 1⟩, wOuts, by decide +kernel⟩,
   ⟨wPtp, 1, ⟨⟨.general, 1, 2, 0, 10, false, 0⟩, 1, 1⟩, wOuts, by decide +kernel⟩,
   ⟨wPtp, 1, ⟨⟨.general, 1, 2, 0, 10, true, 0⟩, 2, 1⟩, wOuts, by decide +kernel⟩,
   ⟨wAs, 2, ⟨⟨.announce, 1, 2, 0, 10, false, 0⟩, 2, 1⟩, wOuts, by decide +kernel⟩,
   ⟨wPtp, 5, ⟨⟨.general, 1, 2, 0, 10, false, 0⟩, 2, 1⟩, wOuts, by decide +kernel⟩,
   ⟨wAs, 1, ⟨65536, false⟩, by decide +kernel⟩,
   ⟨wAs, 1, ⟨65536, false⟩, ⟨1000, 1400, 500⟩, by decide +kernel⟩,
   ⟨wAs, 2, ⟨131072, false⟩, ⟨1000, 1400, 500⟩, (900, 400), by decide +kernel⟩,
   ⟨wPtp, 1, ⟨65536, false⟩, none, by decide +kernel⟩,
   ⟨wAs, 1, 2, 100, 5, wOuts, by decide +kernel⟩,
   ⟨wAs, 2, 100, 5, wOuts, by decide +kernel⟩,
   ⟨wRun.setReg 0x2923 1 4, 3, 2, by decide +kernel⟩,
   ⟨wRun.setReg 0x2923 1 4, 3, 1, by decide +kernel⟩⟩

theorem hyps_LaunchQueues :
    (∃ (s : State) (l : LaunchId), (s.reg (0x2A10 + l.val) 2 ≠ 1 ∨ (s.queue (lqIn (s.launch l.val).body)).enabled = false ∨ (s.queue (lqIn (s.launch l.val).body)).consumer ≠ 0x220 + l.val ∨ (s.queue (lqIn (s.launch l.val).body)).count = 0 ∨ s.mapNext ≠ some l.val))
    ∧ (∃ (s : State) (l : LaunchId) (q : Nat) (e : List Byte) (at_ : Int), (s.mapNext = some l.val ∧ s.queuePeek q 1 = (0, [e]) ∧ field e 0 1 = 0x30 ∧ field e 1 1 ≤ 1 ∧ lqFirst (s.launch l.val).body ≤ field e 2 2 ∧ field e 2 2 < lqFirst (s.launch l.val).body + lqCount (s.launch l.val).body ∧ s.insertCheck l.val at_ = 0) ∧ q = lqIn (s.launch l.val).body ∧ at_ = s.gridNear (s.launch l.val).body (fullNs s.time.seconds (field e 8 8)))
    ∧ (∃ (s : State) (l : LaunchId) (q : Nat) (e : List Byte) (at_ : Int), (s.mapNext = some l.val ∧ s.queuePeek q 1 = (0, [e]) ∧ field e 0 1 = 0x30 ∧ field e 1 1 ≤ 1 ∧ lqFirst (s.launch l.val).body ≤ field e 2 2 ∧ field e 2 2 < lqFirst (s.launch l.val).body + lqCount (s.launch l.val).body ∧ at_ < s.now + 20000 ∧ s.reg (0x2A10 + l.val) 7 < 0xFFFFFFFF) ∧ q = lqIn (s.launch l.val).body ∧ at_ = s.gridNear (s.launch l.val).body (fullNs s.time.seconds (field e 8 8)))
    ∧ (∃ (s : State) (l : LaunchId) (m : OutMac) (at_ : Nat) (p : Nat) (es : List LaunchEvent) (rest : List (Nat × List LaunchEvent)) (k : LaunchQ) (forced : Bool) (state : Nat), (s.reg (0x2A10 + l.val) 2 = 1 ∧ s.flips = [] ∧ (s.launch l.val).calendar = (at_, es) :: rest ∧ maxOnNozzles k at_ = [] ∧ lqMac (s.launch l.val).body = 4 + m.val ∧ s.reg (0x2A04 + m.val) 6 = 1 ∧ s.reg (0x2A04 + m.val) 7 = 1) ∧ k = applyEvents at_ es { s.launch l.val with calendar := rest } ∧ p = s.launchPart l.val ∧ forced = (field (s.launch l.val).body 12 1 == 1 && !s.valid p) ∧ state = (if forced then 0 else holdState k))
    ∧ (∃ (s : State) (l : LaunchId), ((s.launch l.val).calendar = [] ∨ s.reg (0x2A10 + l.val) 2 ≠ 1))
    ∧ (∃ (s : State) (l : LaunchId) (m : OutMac) (p : Nat) (forced : Bool) (state : Nat), (s.reg (0x2A10 + l.val) 2 = 1 ∧ (s.launch l.val).calendar.head?.any (fun e => decide (e.1 ≤ s.gridNext (s.launch l.val).body)) = false ∧ lqMac (s.launch l.val).body = 4 + m.val ∧ s.reg (0x2A04 + m.val) 6 = 1 ∧ s.reg (0x2A04 + m.val) 7 = 1) ∧ p = s.launchPart l.val ∧ forced = (field (s.launch l.val).body 12 1 == 1 && !s.valid p) ∧ state = (if forced then 0 else holdState (s.launch l.val)))
    ∧ (∃ (s : State) (l : LaunchId), (s.reg (0x2A10 + l.val) 2 ≠ 1 ∨ (s.launch l.val).calendar.head?.any (fun e => decide (e.1 ≤ s.gridNext (s.launch l.val).body)) = true))
    ∧ (∃ (s : State) (l : LaunchId), (s.reg (0x2A10 + l.val) 2 ≠ 1 ∨ (s.launch l.val).calendar.head?.any (fun e => decide (e.1 ≤ s.gridNext (s.launch l.val).body)) = true))
    ∧ (∃ (s : State) (a : Agent) (l : LaunchId), Admitted s a (0x2A10 + l.val) 2 1 1 ∧ s.reg (0x2A10 + l.val) 2 ≠ 1 ∧ s.reg (0x2A10 + l.val) 1 ≠ 0 ∧ s.planHeld (s.launchPart l.val) = true ∧ s.reg (0x2A00 + lqMac (s.launch l.val).body) 6 = 1 ∧ (∀ j, j < 8 → j ≠ l.val → s.reg (0x2A10 + j) 2 = 1 → lqMac (s.launch j).body = lqMac (s.launch l.val).body → lqSubslot (s.launch j).body ≠ lqSubslot (s.launch l.val).body ∧ (lqFirst (s.launch j).body + lqCount (s.launch j).body ≤ lqFirst (s.launch l.val).body ∨ lqFirst (s.launch l.val).body + lqCount (s.launch l.val).body ≤ lqFirst (s.launch j).body)))
    ∧ (∃ (s : State) (a : Agent) (l : LaunchId) (j : LaunchId), Admitted s a (0x2A10 + l.val) 2 1 1 ∧ s.reg (0x2A10 + l.val) 2 ≠ 1 ∧ (s.reg (0x2A10 + l.val) 1 = 0 ∨ s.planHeld (s.launchPart l.val) = false ∨ s.reg (0x2A00 + lqMac (s.launch l.val).body) 6 ≠ 1 ∨ (j ≠ l ∧ s.reg (0x2A10 + j.val) 2 = 1 ∧ lqMac (s.launch j.val).body = lqMac (s.launch l.val).body ∧ lqSubslot (s.launch j.val).body = lqSubslot (s.launch l.val).body)))
    ∧ (∃ (s : State) (a : Agent) (l : LaunchId) (j : LaunchId), Admitted s a (0x2A10 + l.val) 2 1 1 ∧ s.reg (0x2A10 + l.val) 2 ≠ 1 ∧ (s.reg (0x2A10 + l.val) 1 = 0 ∨ s.planHeld (s.launchPart l.val) = false ∨ s.reg (0x2A00 + lqMac (s.launch l.val).body) 6 ≠ 1 ∨ (j ≠ l ∧ s.reg (0x2A10 + j.val) 2 = 1 ∧ lqMac (s.launch j.val).body = lqMac (s.launch l.val).body ∧ lqSubslot (s.launch j.val).body = lqSubslot (s.launch l.val).body)))
    ∧ (∃ (s : State) (a : Agent) (l : LaunchId) (m : OutMac), Admitted s a (0x2A10 + l.val) 2 1 0 ∧ s.reg (0x2A10 + l.val) 2 = 1 ∧ lqMac (s.launch l.val).body = 4 + m.val ∧ s.reg (0x2A04 + m.val) 6 = 1 ∧ s.reg (0x2A04 + m.val) 7 = 1)
    ∧ (∃ (s : State) (a : Agent) (v : Nat), Admitted s a 0x2A01 1 4 v)
    ∧ (∃ (s : State) (m : OutMac), s.reg (0x2A04 + m.val) 7 = 1 ∧ s.reg (0x2A04 + m.val) 0x0A < 0xFFFFFFFF ∧ (List.range 8).all (fun l => s.reg (0x2A10 + l) 2 != 1 || lqMac (s.launch l).body != 4 + m.val) = true)
    ∧ (∃ (s : State) (m : OutMac) (l : LaunchId), s.reg (0x2A04 + m.val) 7 = 1 ∧ s.reg 0x2B00 5 < 0xFFFFFFFF ∧ s.launchPart l.val < 8 ∧ s.reg (0x2A04 + m.val) 0x0A < 0xFFFFFFFF ∧ (List.range 8).filter (fun l => s.reg (0x2A10 + l) 2 == 1 && lqMac (s.launch l).body == 4 + m.val) = [l.val])
    ∧ (∃ (s : State) (m : OutMac), s.reg (0x2A04 + m.val) 7 ≠ 1)
    ∧ (∃ (s : State) (m : OutMac), 9 ≤ s.boot.released)
    ∧ (∃ (s : State) (m : OutMac), s.boot.released < 9) :=
  ⟨⟨wRun, 2, by decide +kernel⟩,
   ⟨wLq 3000, 2, _, wDirect 3000, _, by decide +kernel, rfl, rfl⟩,
   ⟨wLq 1, 2, _, wDirect 1, _, by decide +kernel, rfl, rfl⟩,
   ⟨wLaunch, 2, 0, 3000, _, wEvents, [], _, _, _, by decide +kernel, rfl, rfl, rfl, rfl⟩,
   ⟨wRun, 2, by decide +kernel⟩,
   ⟨wLaunch, 2, 0, _, _, _, by decide +kernel, rfl, rfl, rfl⟩,
   ⟨wRun, 2, by decide +kernel⟩,
   ⟨wLaunch.modLaunch 2 (fun k => { k with calendar := [(0, wEvents)] }), 2, by decide +kernel⟩,
   ⟨(wLaunch.setReg 0x2A12 2 0).setReg 0x2A12 1 1 |>.setReg 0x2490 8 2, .can0, 2, by decide +kernel, by decide +kernel, by decide +kernel, by decide +kernel, by decide +kernel, by decide +kernel⟩,
   ⟨wRun, .can0, 2, 2, by decide +kernel⟩,
   ⟨((wLaunch.setReg 0x2A13 1 2).setReg 0x2490 8 2).modLaunch 3 (fun k => { k with body := wBody }), .can0, 3, 2, by decide +kernel⟩,
   ⟨wLaunch, .can0, 2, 0, by decide +kernel⟩,
   ⟨wRun, .can0, 5000, by decide +kernel⟩,
   ⟨wRun.setReg 0x2A05 7 1, 1, by decide +kernel⟩,
   ⟨wLaunch, 0, 2, by decide +kernel⟩,
   ⟨wRun, 0, by decide +kernel⟩,
   ⟨wRun, 0, by decide +kernel⟩,
   ⟨State.reset, 0, by decide +kernel⟩⟩

theorem hyps_FaultsAndWarnings :
    (∃ (s : State) (code : Nat) (src : Nat) (det : Nat) (p : PartId), 0 < code ∧ code ≤ 0x18 ∧ code ≠ 0x12 ∧ code ≠ 0x17 ∧ code ≠ 0x18 ∧ ((code ≠ 1 ∧ code ≠ 0x0F ∧ code ≠ 0x15) ∨ src ≠ 0xFFFF) ∧ s.reg 0x2B00 5 < 0xFFFFFFFF ∧ s.reg (0x2B08 + p.val) 7 < 0xFFFFFFFF)
    ∧ (∃ (s : State) (code : Nat) (src : Nat) (det : Nat) (p : PartId), (code = 0x12 ∨ code = 0x17 ∨ code = 0x18 ∨ (code ∈ [1, 0x0F, 0x15] ∧ src = 0xFFFF)) ∧ s.reg 0x2B00 5 < 0xFFFFFFFF)
    ∧ (∃ (s : State) (code : Nat) (src : Nat) (det : Nat) (p : PartId), (code = 0x12 ∨ code = 0x17 ∨ code = 0x18 ∨ (code ∈ [1, 0x0F, 0x15] ∧ src = 0xFFFF)) ∧ s.reg 0x2B00 5 < 0xFFFFFFFF)
    ∧ (∃ (s : State) (src : Nat) (det : Nat) (p : PartId) (u : SpindleId) (r : SpInstr × Nat), src ≠ 0xFFFF ∧ s.reg 0x2B00 5 < 0xFFFFFFFF ∧ (s.spindle u.val).running = some r ∧ (s.spindle u.val).poison.contains r.1.set = false)
    ∧ (∃ (s : State) (src : Nat) (det : Nat) (i : Nat) (p : PartId) (g : SkeinId) (f : Flight), (s.skein g.val).flights[i]? = some f ∧ s.streamLive g.val = true ∧ s.reg 0x2E30 4 = 0xFFFF ∧ s.skeinPart g.val < 8 ∧ s.reg 0x2B00 5 < 0xFFFFFFFF)
    ∧ (∃ (s : State) (src : Nat) (det : Nat) (p : PartId) (e : EngineId) (j : Job), s.engine e.val = some j ∧ s.reg 0x2B00 5 < 0xFFFFFFFF)
    ∧ (∃ (s : State) (src : Nat) (det : Nat) (off : Nat) (p : PartId) (d : DecoderId) (x : Sample), (s.decoder d.val).sample = some x ∧ x.decoded = false ∧ s.streamPart (40 + d.val) < 8 ∧ s.reg 0x2B00 5 < 0xFFFFFFFF)
    ∧ (∃ (s : State) (src : Nat) (det : Nat) (c : Nat) (p : PartId) (a : Agent), (a, c) ∈ [(Agent.can0, 0), (Agent.can1, 1)] ∧ src ≠ 0xFFFF ∧ s.canEnabled c = true ∧ s.reg 0x2B00 5 < 0xFFFFFFFF)
    ∧ (∃ (s : State) (src : Nat) (det : Nat) (i : Nat) (rest : List Nat) (p : PartId), s.mirrorQueue = i :: rest ∧ src ≠ 0xFFFF ∧ s.reg 0x2B00 5 < 0xFFFFFFFF)
    ∧ (∃ (s : State) (code : Nat) (src : Nat) (det : Nat) (p : PartId) (u : FaultUnit), (code = 0 ∨ 0x18 < code))
    ∧ (∃ (s : State) (code : Nat) (src : Nat) (det : Nat) (p : PartId) (u : FaultUnit), (code = 0 ∨ 0x18 < code))
    ∧ (∃ (s : State) (code : Nat) (src : Nat) (det : Nat) (p : PartId), (code = 0x80 ∨ code = 0x81 ∨ code = 0x82) ∧ s.reg 0x2B00 8 < 0xFFFFFFFF)
    ∧ (∃ (s : State) (code : Nat) (src : Nat) (det : Nat) (p : PartId), code ∉ [0x80, 0x81, 0x82])
    ∧ (∃ (s : State), s.boot.image ≠ [])
    ∧ (∃ (s : State), s.boot.image = [])
    ∧ (∃ (s : State), s.safety.refreshed = true ∧ s.reg 0x2B00 5 < 0xFFFFFFFF)
    ∧ (∃ (s : State), s.safety.refreshed = false)
    ∧ (∃ (s : State) (p : PartId) (w : Fin 8) (v : Nat), (bit v 127 = true ∧ s.watchOn p.val = true ∧ bits v 119 116 ≤ (s.plan p.val).frame ∧ syncReached (s.sync (bits v 16 0)) (watchTarget v (tblGet 0 (s.part p.val).bases w.val) (s.plan p.val).frame) = false ∧ s.reg (0x2B20 + p.val) 9 < 0xFFFFFFFF ∧ s.reg 0x2B00 5 < 0xFFFFFFFF) ∧ v = s.reg (0x2B20 + p.val) (w.val + 1))
    ∧ (∃ (s : State) (p : PartId) (w : Fin 8) (v : Nat), (bit v 127 = false ∨ s.watchOn p.val = false ∨ (s.plan p.val).frame < bits v 119 116 ∨ syncReached (s.sync (bits v 16 0)) (watchTarget v (tblGet 0 (s.part p.val).bases w.val) (s.plan p.val).frame) = true) ∧ v = s.reg (0x2B20 + p.val) (w.val + 1))
    ∧ (∃ (s : State), s.reg 0x2B00 5 < 0xFFFFFFFF) :=
  ⟨⟨wRun, 6, 3, 5, 2, by decide +kernel⟩,
   ⟨wRun.setReg 0x2B0B 1 3, 0x18, 3, 5, 2, by decide +kernel⟩,
   ⟨wRun, 1, 0xFFFF, 9, 2, by decide +kernel⟩,
   ⟨(wSp [0, 8] []).modSpindle 3 (fun k => { k with running := some (wInstr, 0) }), 0, 9, 1, 3, (wInstr, 0), by decide +kernel⟩,
   ⟨wSk wRun (wFly wLoad), 0, 9, 0, 1, 0, wFly wLoad, by decide +kernel⟩,
   ⟨wJobs.withEngines [(1, wJ)], 2, 9, 1, 1, wJ, by decide +kernel⟩,
   ⟨wDec (some wSample) [], 2, 9, 1, 1, 2, wSample, by decide +kernel⟩,
   ⟨wRun, 4, 9, 1, 1, .can1, by decide +kernel⟩,
   ⟨wMail, 4, 9, 3, [], 1, by decide +kernel⟩,
   ⟨wRun, 0x80, 1, 1, 0, .none, by decide +kernel⟩,
   ⟨wRun, 0, 1, 1, 0, .spindle 3, by decide +kernel⟩,
   ⟨wRun, 0x82, 3, 9, 1, by decide +kernel⟩,
   ⟨wRun, 3, 3, 9, 1, by decide +kernel⟩,
   ⟨wRun, by decide +kernel⟩,
   ⟨State.reset, by decide +kernel⟩,
   ⟨(wRun.modSafety (fun k => { k with refreshed := true })), by decide +kernel⟩,
   ⟨wRun, by decide +kernel⟩,
   ⟨wWatch, 1, 2, _, by decide +kernel, rfl⟩,
   ⟨wWatch.setSync 5 1, 1, 2, _, by decide +kernel, rfl⟩,
   ⟨wRun, by decide +kernel⟩⟩

theorem hyps_RetriesAndRecovery :
    (∃ (s : State) (p : PartId) (ok : Bool), (s.part p.val).pending.any s.retryDue = false)
    ∧ (∃ (s : State) (p : PartId) (f : PendingFault) (ok : Bool), (s.part p.val).pending = [f] ∧ s.retryDue f = true ∧ isRetried f.code = true ∧ (if retriedByWork f then f.verdict = some true else ok = true) ∧ s.ninth f = false ∧ s.partState p.val = 1 ∧ (s.part p.val).lasting = false ∧ s.reg 0x2B00 6 < 0xFFFFFFFF)
    ∧ (∃ (s : State) (p : PartId) (f : PendingFault) (ok : Bool), (s.part p.val).pending = [f] ∧ s.retryDue f = true ∧ isRetried f.code = true ∧ (if retriedByWork f then f.verdict = some true else ok = true) ∧ s.ninth f = false ∧ s.partState p.val = 1 ∧ (s.part p.val).lasting = false ∧ s.reg 0x2B00 6 < 0xFFFFFFFF)
    ∧ (∃ (s : State) (p : PartId) (f : PendingFault) (ok : Bool), (s.part p.val).pending = [f] ∧ s.retryDue f = true ∧ isRetried f.code = true ∧ (s.ninth f = true ∨ (if retriedByWork f then f.verdict ≠ some true else ok = false)) ∧ s.partState p.val = 1 ∧ faultCalderas f = [] ∧ s.reg 0x2B00 7 < 0xFFFFFFFF)
    ∧ (∃ (s : State) (p : PartId) (f : PendingFault) (ok : Bool), (s.part p.val).pending = [f] ∧ s.retryDue f = true ∧ isRetried f.code = true ∧ (s.ninth f = true ∨ (if retriedByWork f then f.verdict ≠ some true else ok = false)) ∧ s.partState p.val = 1 ∧ faultCalderas f = [] ∧ s.reg 0x2B00 7 < 0xFFFFFFFF)
    ∧ (∃ (s : State) (p : PartId) (f : PendingFault) (c : CalderaId) (ok : Bool), (s.part p.val).pending = [f] ∧ s.retryDue f = true ∧ isRetried f.code = true ∧ (s.ninth f = true ∨ (if retriedByWork f then f.verdict ≠ some true else ok = false)) ∧ c.val ∈ faultCalderas f ∧ s.oos c.val = false ∧ s.reg 0x2B00 7 < 0xFFFFFFFF)
    ∧ (∃ (s : State) (p : PartId) (f : PendingFault) (c : CalderaId) (ok : Bool), (s.part p.val).pending = [f] ∧ s.retryDue f = true ∧ isRetried f.code = true ∧ (s.ninth f = true ∨ (if retriedByWork f then f.verdict ≠ some true else ok = false)) ∧ c.val ∈ faultCalderas f ∧ s.oos c.val = false ∧ s.reg 0x2B00 7 < 0xFFFFFFFF)
    ∧ (∃ (s : State) (p : PartId) (f : PendingFault), (s.part p.val).pending = [f] ∧ isRetried f.code = false ∧ s.stillHolds f = false ∧ s.partState p.val = 1 ∧ (s.part p.val).lasting = false)
    ∧ (∃ (s : State) (p : PartId) (f : PendingFault) (ok : Bool), (s.part p.val).pending = [f] ∧ isRetried f.code = false ∧ (ok = false ∨ s.stillHolds f = true) ∧ (List.range 8).all (fun q => (s.part q).pending != [] || (s.partState q != 1 && (s.partState q != 2 || !(s.part q).lasting))) = true)
    ∧ (∃ (s : State) (p : PartId) (f : PendingFault) (ok : Bool), (s.part p.val).pending = [f] ∧ isRetried f.code = false ∧ (ok = false ∨ s.stillHolds f = true) ∧ (List.range 8).all (fun q => (s.part q).pending != [] || (s.partState q != 1 && (s.partState q != 2 || !(s.part q).lasting))) = true)
    ∧ (∃ (s : State) (a : Agent) (p : PartId), Admitted s a (0x2B08 + p.val) 4 1 1 ∧ s.partState p.val = 2)
    ∧ (∃ (s : State) (a : Agent) (p : PartId), Admitted s a (0x2B08 + p.val) 4 1 1 ∧ s.partState p.val ≠ 2)
    ∧ (∃ (s : State) (k : PairId), (s.pair k.val).arrivals = [])
    ∧ (∃ (s : State) (k : PairId), (s.pair k.val).arrivals ≠ [] ∧ s.pairBroken k.val = true ∧ s.reg (0x2B10 + k.val) 7 + (s.pair k.val).held.length + (s.pair k.val).arrivals.length < 0xFFFFFFFF)
    ∧ (∃ (s : State) (k : PairId) (r : SinterRec) (rest : List SinterRec), (s.pair k.val).arrivals = r :: rest ∧ s.pairBroken k.val = false ∧ (s.reg (0x2B10 + k.val) 2 = 0 ∨ (s.reg (0x2B10 + k.val) 2 = 4 ∧ r.ctx ≠ 6)) ∧ s.reg 0x2B00 5 < 0xFFFFFFFF ∧ s.skeinPart r.skein < 8)
    ∧ (∃ (s : State) (k : PairId) (r : SinterRec) (rest : List SinterRec), (s.pair k.val).arrivals = r :: rest ∧ s.pairBroken k.val = false ∧ s.reg (0x2B10 + k.val) 2 ≠ 0 ∧ (s.reg (0x2B10 + k.val) 2 = 4 → r.ctx = 6) ∧ s.tagMasked k.val r.tag = true ∧ s.reg (0x2B10 + k.val) 7 < 0xFFFFFFFF)
    ∧ (∃ (s : State) (k : PairId) (r : SinterRec) (rest : List SinterRec), (s.pair k.val).arrivals = r :: rest ∧ s.pairBroken k.val = false ∧ s.reg (0x2B10 + k.val) 2 ≠ 0 ∧ (s.reg (0x2B10 + k.val) 2 = 4 → r.ctx = 6) ∧ s.tagMasked k.val r.tag = false ∧ (s.pair k.val).held.any (fun h => isPartner r h) = false ∧ (s.pair k.val).held.length < 256)
    ∧ (∃ (s : State) (k : PairId) (r : SinterRec) (h : SinterRec) (rest : List SinterRec) (hs : List SinterRec), (s.pair k.val).arrivals = r :: rest ∧ s.pairBroken k.val = false ∧ s.reg (0x2B10 + k.val) 2 ≠ 0 ∧ (s.reg (0x2B10 + k.val) 2 = 4 → r.ctx = 6) ∧ s.tagMasked k.val r.tag = false ∧ (s.pair k.val).held.any (fun h => isPartner r h) = false ∧ (s.pair k.val).held = h :: hs ∧ 255 ≤ hs.length ∧ s.reg (0x2B10 + k.val) 6 < 0xFFFFFFFF ∧ s.reg 0x2B00 5 < 0xFFFFFFFF ∧ s.skeinPart h.skein < 8)
    ∧ (∃ (s : State) (k : PairId) (r : SinterRec) (h : SinterRec) (rest : List SinterRec), (s.pair k.val).arrivals = r :: rest ∧ s.pairBroken k.val = false ∧ s.reg (0x2B10 + k.val) 2 ≠ 0 ∧ (s.reg (0x2B10 + k.val) 2 = 4 → r.ctx = 6) ∧ s.tagMasked k.val r.tag = false ∧ (s.pair k.val).held.find? (fun h => isPartner r h) = some h ∧ sameFields r h = true ∧ r.flags % 16 = h.flags % 16)
    ∧ (∃ (s : State) (k : PairId) (r : SinterRec) (h : SinterRec) (rest : List SinterRec), (s.pair k.val).arrivals = r :: rest ∧ s.pairBroken k.val = false ∧ s.reg (0x2B10 + k.val) 2 ≠ 0 ∧ (s.reg (0x2B10 + k.val) 2 = 4 → r.ctx = 6) ∧ s.tagMasked k.val r.tag = false ∧ (s.pair k.val).held.find? (fun h => isPartner r h) = some h ∧ (sameFields r h = false ∨ r.flags % 16 ≠ h.flags % 16) ∧ s.reg (0x2B10 + k.val) 5 < 0xFFFFFFFF ∧ s.reg 0x2B00 5 < 0xFFFFFFFF ∧ s.skeinPart r.skein < 8)
    ∧ (∃ (s : State) (k : PairId) (h : SinterRec) (rest : List SinterRec), (s.pair k.val).held = h :: rest ∧ s.pairBroken k.val = false ∧ s.reg (0x2B10 + k.val) 6 < 0xFFFFFFFF ∧ s.reg 0x2B00 5 < 0xFFFFFFFF ∧ s.skeinPart h.skein < 8)
    ∧ (∃ (s : State) (k : PairId), (s.pair k.val).held ≠ [] ∧ s.pairBroken k.val = true ∧ s.reg (0x2B10 + k.val) 7 + (s.pair k.val).held.length + (s.pair k.val).arrivals.length < 0xFFFFFFFF)
    ∧ (∃ (s : State) (k : PairId), (s.pair k.val).held = []) :=
  ⟨⟨wRun, 1, true, by decide +kernel⟩,
   ⟨wPend ⟨3, 7, 9, 4, false, 0, 0, none⟩, 1, ⟨3, 7, 9, 4, false, 0, 0, none⟩, true, by decide +kernel⟩,
   ⟨wPend ⟨6, 7, 9, 4, false, 0, 0, some true⟩, 1, ⟨6, 7, 9, 4, false, 0, 0, some true⟩, false, by decide +kernel⟩,
   ⟨wPend ⟨3, 7, 9, 4, false, 0, 0, none⟩, 1, ⟨3, 7, 9, 4, false, 0, 0, none⟩, false, by decide +kernel⟩,
   ⟨wPend ⟨0x14, 7, 9, 4, false, 0, 0, some false⟩, 1, ⟨0x14, 7, 9, 4, false, 0, 0, some false⟩, true, by decide +kernel⟩,
   ⟨wPend ⟨9, 7, 9, 4, false, 0, 0, some false⟩, 1, ⟨9, 7, 9, 4, false, 0, 0, some false⟩, 7, true, by decide +kernel⟩,
   ⟨(wPend ⟨0x15, 7, 9, 4, false, 0, 0, none⟩).modCaldera 7 (fun k => { k with reserved := true }), 1, ⟨0x15, 7, 9, 4, false, 0, 0, none⟩, 7, false, by decide +kernel⟩,
   ⟨wPend ⟨7, 7, 9, 4, false, 0, 0, none⟩, 1, ⟨7, 7, 9, 4, false, 0, 0, none⟩, by decide +kernel⟩,
   ⟨wPend ⟨0x13, 7, 9, 4, false, 0, 0, none⟩, 1, ⟨0x13, 7, 9, 4, false, 0, 0, none⟩, true, by decide +kernel⟩,
   ⟨wPend ⟨0x0A, 7, 9, 4, false, 0, 0, none⟩, 1, ⟨0x0A, 7, 9, 4, false, 0, 0, none⟩, false, by decide +kernel⟩,
   ⟨wRun.setReg 0x2B0A 1 2, .can0, 2, by decide +kernel⟩,
   ⟨wRun, .can0, 2, by decide +kernel⟩,
   ⟨wRun, 1, by decide +kernel⟩,
   ⟨{ wPair [wRec 8] [wRec 0] with dbg := { (wPair [] []).dbg with broken := [2] } }, 1, by decide +kernel⟩,
   ⟨(wPair [wRec 8] []).setReg 0x2B11 2 0, 1, wRec 8, [], by decide +kernel⟩,
   ⟨(wPair [wRec 8] []).setReg 0x2B11 0x0B 5, 1, wRec 8, [], by decide +kernel⟩,
   ⟨wPair [wRec 8] [], 1, wRec 8, [], by decide +kernel⟩,
   ⟨wPair [wRec 8] (List.replicate 256 { wRec 0 with tag := 9 }), 1, wRec 8, { wRec 0 with tag := 9 }, [], List.replicate 255 { wRec 0 with tag := 9 }, by decide +kernel⟩,
   ⟨wPair [wRec 8] [wRec 0], 1, wRec 8, wRec 0, [], by decide +kernel⟩,
   ⟨(wPair [{ wRec 8 with bytes := 7 }] [wRec 0]), 1, { wRec 8 with bytes := 7 }, wRec 0, [], by decide +kernel⟩,
   ⟨wPair [] [wRec 0], 1, wRec 0, [], by decide +kernel⟩,
   ⟨{ wPair [] [wRec 0] with dbg := { (wPair [] []).dbg with broken := [2] } }, 1, by decide +kernel⟩,
   ⟨wRun, 1, by decide +kernel⟩⟩

theorem hyps_SelftestAndGeyser :
    (∃ (s : State) (c : CalderaId) (ok : Bool), (s.reg 0x2B30 1 = 0 ∨ s.oos c.val = true ∨ (s.caldera c.val).reserved = false ∨ s.elementFits c.val = false))
    ∧ (∃ (s : State) (c : CalderaId) (ok : Bool), (s.reg 0x2B30 1 = 0 ∨ s.oos c.val = true ∨ (s.caldera c.val).reserved = false ∨ s.elementFits c.val = false))
    ∧ (∃ (s : State) (c : CalderaId), s.reg 0x2B30 1 ≠ 0 ∧ s.oos c.val = false ∧ (s.caldera c.val).reserved = true ∧ s.elementFits c.val = true ∧ (s.caldera c.val).sweeping = false)
    ∧ (∃ (s : State) (c : CalderaId) (v : Nat), (s.reg 0x2B30 1 ≠ 0 ∧ s.oos c.val = false ∧ (s.caldera c.val).reserved = true ∧ s.elementFits c.val = true ∧ (s.caldera c.val).sweeping = true ∧ v % 2 ^ 24 + 1 < itemElements (v / 2 ^ 24)) ∧ v = s.reg 0x2B30 (c.val + 7))
    ∧ (∃ (s : State) (c : CalderaId) (v : Nat), (s.reg 0x2B30 1 ≠ 0 ∧ s.oos c.val = false ∧ (s.caldera c.val).reserved = true ∧ s.elementFits c.val = true ∧ (s.caldera c.val).sweeping = true ∧ v % 2 ^ 24 + 1 = itemElements (v / 2 ^ 24) ∧ v / 2 ^ 24 < 4) ∧ v = s.reg 0x2B30 (c.val + 7))
    ∧ (∃ (s : State) (c : CalderaId), s.reg 0x2B30 1 ≠ 0 ∧ s.oos c.val = false ∧ (s.caldera c.val).reserved = true ∧ s.elementFits c.val = true ∧ (s.caldera c.val).sweeping = true ∧ s.reg 0x2B30 (c.val + 7) = 4 * 2 ^ 24 + 4799 ∧ (0x82, c.val) ∉ s.safety.warnings)
    ∧ (∃ (s : State) (c : CalderaId), s.reg 0x2B30 1 ≠ 0 ∧ s.oos c.val = false ∧ (s.caldera c.val).reserved = true ∧ s.elementFits c.val = true ∧ s.reg 0x2B30 4 < 0xFFFFFFFF ∧ s.reg 0x2B00 5 < 0xFFFFFFFF ∧ s.calderaPart c.val < 8)
    ∧ (∃ (s : State) (c : CalderaId), (s.caldera c.val).sweeping = true ∧ (s.caldera c.val).sweepLate = false ∧ s.reg 0x2B30 5 < 0xFFFFFFFF ∧ s.calderaPart c.val < 8)
    ∧ (∃ (s : State) (c : CalderaId), ((s.caldera c.val).sweeping = false ∨ (s.caldera c.val).sweepLate = true))
    ∧ (∃ (s : State) (p : PartId), (s.reg (0x2B38 + p.val) 1 = 0 ∨ s.reg (0x2490 + p.val) 8 ≠ 3 ∨ (s.plan p.val).starting = true))
    ∧ (∃ (s : State) (p : PartId) (n : Nat), (s.reg (0x2B38 + p.val) 1 ≠ 0 ∧ s.reg (0x2490 + p.val) 8 = 3 ∧ (s.plan p.val).starting = false ∧ ((s.part p.val).geyserCount = 0 ∨ (s.geyserEntries p.val).all (entryMatched (s.part p.val)) = true) ∧ s.inBlanking n = true) ∧ n = nextStream (s.reg (0x2B38 + p.val) 3) (s.reg (0x2B38 + p.val) 0x0B))
    ∧ (∃ (s : State) (p : PartId) (n : Nat), (s.reg (0x2B38 + p.val) 1 ≠ 0 ∧ s.reg (0x2490 + p.val) 8 = 3 ∧ (s.plan p.val).starting = false ∧ ((s.part p.val).geyserCount = 0 ∨ (s.geyserEntries p.val).all (entryMatched (s.part p.val)) = true) ∧ s.inBlanking n = false ∧ s.reg (0x2B38 + p.val) 9 < 0xFFFFFFFF ∧ s.reg (0x2B38 + p.val) 0x0A < 0xFF ∧ s.reg 0x2B00 5 < 0xFFFFFFFF) ∧ n = nextStream (s.reg (0x2B38 + p.val) 3) (s.reg (0x2B38 + p.val) 0x0B))
    ∧ (∃ (s : State) (a : Agent) (b : List Byte) (k : List Byte) (n : Nat), (Admitted s a 0x2B40 3 1 1 ∧ s.mgmtRead (s.reg 0x2B40 1) n = some b ∧ patternHeader b n = 0 ∧ field b 4 1 = 2 ∧ s.patternKeyNow = some k ∧ s.reg 0x2B40 5 < field b 8 4 ∧ (vectorsOf b).all vectorOk = true ∧ s.storeOk n = true ∧ (s.writeDev [] (s.reg 0x2B40 7) b).2 = 0) ∧ n = s.reg 0x2B40 2)
    ∧ (∃ (s : State) (a : Agent) (b : List Byte) (k : List Byte) (n : Nat) (p : Nat) (at_ : Nat), (Admitted s a 0x2B40 3 1 1 ∧ s.mgmtRead (s.reg 0x2B40 1) n = some b ∧ patternHeader b n = 0 ∧ field b 4 1 = 1 ∧ s.patternKeyNow = some k ∧ s.patternSeq 1 p < field b 8 4 ∧ slice b 24 32 = leBytes 32 (s.reg (0x2490 + p) 7) ∧ s.reg (0x2B38 + p) 0x0D + 80 ≤ field b 16 4 ∧ s.goldenBodyOk b (s.reg (0x2B38 + p) 0x0D) p = true ∧ s.storeOk n = true ∧ (s.writeDev [] at_ b).2 = 0) ∧ n = s.reg 0x2B40 2 ∧ p = field b 12 1 ∧ at_ = s.reg 0x2B40 7 + patternArea * p)
    ∧ (∃ (s : State) (a : Agent) (b : List Byte), Admitted s a 0x2B40 3 1 1 ∧ s.mgmtRead (s.reg 0x2B40 1) (s.reg 0x2B40 2) = some b ∧ patternHeader b (s.reg 0x2B40 2) ≠ 0)
    ∧ (∃ (s : State) (a : Agent), Admitted s a 0x2B40 3 1 1 ∧ s.mgmtRead (s.reg 0x2B40 1) (s.reg 0x2B40 2) = none)
    ∧ (∃ (s : State) (q : Nat), (16383 < q ∨ s.queuePart q ≠ 0 ∨ (s.queue q).consumer ≠ 0x230 ∨ (s.queue q).enabled = false ∨ (s.queue q).count = 0) ∧ q = s.reg 0x2E00 0x0E)
    ∧ (∃ (s : State) (q : Nat) (e : List Byte), (q ≤ 16383 ∧ s.queuePart q = 0 ∧ (s.queue q).consumer = 0x230 ∧ (s.queue q).enabled = true ∧ (s.queue q).count ≠ 0 ∧ s.queuePeek q 1 = (0, [e]) ∧ mgmtEntryOk e = false ∧ s.reg 0x2E00 0x0F < 0xFFFFFFFF) ∧ q = s.reg 0x2E00 0x0E)
    ∧ (∃ (s : State) (q : Nat) (e : List Byte) (r : State × Nat), (q ≤ 16383 ∧ s.queuePart q = 0 ∧ (s.queue q).consumer = 0x230 ∧ (s.queue q).enabled = true ∧ (s.queue q).count ≠ 0 ∧ s.queuePeek q 1 = (0, [e]) ∧ mgmtEntryOk e = true ∧ (field e 2 2 = 0 ∨ field e 2 2 = s.nodeId) ∧ r.1.queuePart (field e 4 2) = 0) ∧ q = s.reg 0x2E00 0x0E ∧ r = (s.queueDrop q 1).install (field e 8 8) (field e 16 4)) :=
  ⟨⟨wRun, 1, true, by decide +kernel⟩,
   ⟨(wSweep true 3).modPlan 0 (fun k => { k with tick := (wRun.reg 0x2310 4) / 64 - 5 }), 2, true, by decide +kernel⟩,
   ⟨wSweep false 0, 2, by decide +kernel⟩,
   ⟨wSweep true (2 ^ 25 + 4), 2, _, by decide +kernel, rfl⟩,
   ⟨wSweep true (2 ^ 25 + 159), 2, _, by decide +kernel, rfl⟩,
   ⟨wSweep true (4 * 2 ^ 24 + 4799), 2, by decide +kernel⟩,
   ⟨wSweep true (2 ^ 25 + 4), 2, by decide +kernel⟩,
   ⟨wSweep true (2 ^ 25 + 4), 2, by decide +kernel⟩,
   ⟨wRun, 2, by decide +kernel⟩,
   ⟨wRun, 2, by decide +kernel⟩,
   ⟨wGey, 2, _, by decide +kernel, rfl⟩,
   ⟨((wGey.modCamera 4 (fun k => { k with openFrame := some wOpen })).setReg 0x2B3A 0x0A 2), 2, _, by decide +kernel, rfl⟩,
   ⟨wInst, .can0, wPattern, zeros 1312, _, by decide +kernel, rfl⟩,
   ⟨wInstG, .can0, wGolden, zeros 1312, _, _, _, by decide +kernel, rfl, rfl, rfl⟩,
   ⟨(wRun.setReg 0x2B40 1 0x200000).setReg 0x2B40 2 64, .can0, zeros 64, by decide +kernel⟩,
   ⟨(wRun.setReg 0x2B40 1 0x800000000000).setReg 0x2B40 2 64, .can0, by decide +kernel⟩,
   ⟨wRun, _, by decide +kernel, rfl⟩,
   ⟨wMgmt (zeros 32), _, zeros 32, by decide +kernel, rfl⟩,
   ⟨wMgmt wMgmtE, _, wMgmtE, _, by decide +kernel, rfl, rfl⟩⟩

theorem hyps_LinkTransport :
    (∃ (s : State) (l : LinkId) (pn : Nat) (pl : Nat), s.reg (0x2E08 + l.val) 1 ≠ 0 ∧ s.linkState l.val = 1 ∧ s.reg 0x2E00 4 = 0)
    ∧ (∃ (s : State) (l : LinkId), s.linkState l.val = 1)
    ∧ (∃ (s : State) (l : LinkId) (pn : Nat) (pl : Nat) (c : Instr), c ∈ [.linkTrained l pn pl, .linkGivenUp l] ∧ s.linkState l.val ≠ 1)
    ∧ (∃ (s : State) (l : LinkId) (ok : Bool) (f : LinkFrame) (a : Nat) (b : Nat) (c : Instr), c ∈ [.dataFrameReceived l ok f, .credit l a b] ∧ s.linkUp l.val = false)
    ∧ (∃ (s : State) (l : LinkId) (f : LinkFrame), s.linkUp l.val = true ∧ s.reg (0x2E08 + l.val) 7 < 0xFFFFFFFF)
    ∧ (∃ (s : State) (l : LinkId) (f : LinkFrame), s.linkUp l.val = true ∧ f.seq ≠ (s.link l.val).rxSeq)
    ∧ (∃ (s : State) (l : LinkId) (f : LinkFrame), s.linkUp l.val = true ∧ f.seq = (s.link l.val).rxSeq ∧ frameWellFormed f = false ∧ s.reg (0x2E08 + l.val) 0x0B < 0xFFFFFFFF)
    ∧ (∃ (s : State) (l : LinkId) (f : LinkFrame), s.linkUp l.val = true ∧ f.seq = (s.link l.val).rxSeq ∧ frameWellFormed f = true ∧ f.type = 1 ∧ f.dst = s.nodeId ∧ f.dstSkein < 64)
    ∧ (∃ (s : State) (l : LinkId) (f : LinkFrame) (q : Nat), (s.linkUp l.val = true ∧ f.seq = (s.link l.val).rxSeq ∧ frameWellFormed f = true ∧ f.type = 2 ∧ bit f.flags 3 = false ∧ f.dst = s.nodeId ∧ f.src ≠ s.nodeId ∧ s.importOk (s.queuePart q) f.src f.srcPart = true ∧ (s.queue q).enabled = true ∧ (s.queue q).count + f.len / 32 ≤ 2 ^ (s.queue q).log2) ∧ q = f.off % 16384)
    ∧ (∃ (s : State) (l : LinkId) (f : LinkFrame) (p : Nat), (s.linkUp l.val = true ∧ f.seq = (s.link l.val).rxSeq ∧ frameWellFormed f = true ∧ f.type = 2 ∧ bit f.flags 3 = false ∧ f.dst = s.nodeId ∧ f.src ≠ s.nodeId ∧ p < 8 ∧ s.importOk p f.src f.srcPart = false ∧ s.reg (0x2E10 + p) 4 < 0xFFFFFFFF) ∧ p = s.queuePart (f.off % 16384))
    ∧ (∃ (s : State) (l : LinkId) (f : LinkFrame) (n : Nat), (s.linkUp l.val = true ∧ f.seq = (s.link l.val).rxSeq ∧ frameWellFormed f = true ∧ f.type = 2 ∧ bit f.flags 3 = true ∧ f.dst = s.nodeId ∧ f.src ≠ s.nodeId ∧ (s.skein f.dstSkein).openXids = [] ∧ (s.skein f.dstSkein).refusedXids = [] ∧ s.importOk (s.syncPart n) f.src f.srcPart = true) ∧ n = f.off % 2 ^ 17)
    ∧ (∃ (s : State) (l : LinkId) (m : LinkId) (f : LinkFrame), s.linkUp l.val = true ∧ f.seq = (s.link l.val).rxSeq ∧ frameWellFormed f = true ∧ (f.type = 1 ∨ f.type = 2 ∨ f.type = 4) ∧ f.dst ≠ s.nodeId ∧ s.routeOf f.dst = some m.val ∧ s.linkUp m.val = true ∧ l ≠ m ∧ (s.link m.val).canSend f = true ∧ (s.link m.val).waiting = [])
    ∧ (∃ (s : State) (l : LinkId) (q : Nat) (i : Nat), replayPlace (s.link l.val) q = some i ∧ (s.link l.val).waiting = [])
    ∧ (∃ (s : State) (l : LinkId) (q : Nat) (c : Instr), c ∈ [.lack l q, .lnak l q] ∧ replayPlace (s.link l.val) q = none)
    ∧ (∃ (s : State) (l : LinkId) (q : Nat) (i : Nat) (n : Nat) (c : Instr) (f : LinkFrame) (rest : List (LinkFrame × Nat)), (c, i) ∈ [(.replayTimeout l, 0), (.lnak l q, (replayPlace (s.link l.val) q).getD 0)] ∧ (replayPlace (s.link l.val) q).isSome = true ∧ (s.link l.val).replay.drop i = (f, n) :: rest ∧ n < 3 ∧ (∀ x ∈ rest, x.2 < 3) ∧ s.reg (0x2E08 + l.val) 8 + rest.length + 1 < 0xFFFFFFFF)
    ∧ (∃ (s : State) (l : LinkId) (q : Nat) (i : Nat) (n : Nat) (c : Instr) (f : LinkFrame) (rest : List (LinkFrame × Nat)), (c, i) ∈ [(.replayTimeout l, 0), (.lnak l q, (replayPlace (s.link l.val) q).getD 0)] ∧ (replayPlace (s.link l.val) q).isSome = true ∧ (s.link l.val).replay.drop i = (f, n) :: rest ∧ n < 3 ∧ (∀ x ∈ rest, x.2 < 3) ∧ s.reg (0x2E08 + l.val) 8 + rest.length + 1 < 0xFFFFFFFF)
    ∧ (∃ (s : State) (l : LinkId) (q : Nat) (i : Nat) (n : Nat) (c : Instr) (f : LinkFrame) (rest : List (LinkFrame × Nat)), (c, i) ∈ [(.replayTimeout l, 0), (.lnak l q, (replayPlace (s.link l.val) q).getD 0)] ∧ (replayPlace (s.link l.val) q).isSome = true ∧ (s.link l.val).replay.drop i = (f, n) :: rest ∧ (3 ≤ n ∨ (∃ x ∈ rest, 3 ≤ x.2)) ∧ s.reg (0x2E08 + l.val) 1 ≠ 0 ∧ s.reg (0x2E08 + l.val) 9 < 0xFFFFFFFF)
    ∧ (∃ (s : State) (l : LinkId) (q : Nat) (i : Nat) (n : Nat) (c : Instr) (f : LinkFrame) (rest : List (LinkFrame × Nat)), (c, i) ∈ [(.replayTimeout l, 0), (.lnak l q, (replayPlace (s.link l.val) q).getD 0)] ∧ (replayPlace (s.link l.val) q).isSome = true ∧ (s.link l.val).replay.drop i = (f, n) :: rest ∧ (3 ≤ n ∨ (∃ x ∈ rest, 3 ≤ x.2)) ∧ s.reg (0x2E08 + l.val) 1 ≠ 0 ∧ s.reg (0x2E08 + l.val) 9 < 0xFFFFFFFF)
    ∧ (∃ (s : State) (l : LinkId) (a : Nat) (b : Nat), s.linkUp l.val = true ∧ (s.link l.val).waiting = [])
    ∧ (∃ (s : State) (l : LinkId) (a : Nat) (b : Nat) (f : LinkFrame), s.linkUp l.val = true ∧ (s.link l.val).waiting = [f] ∧ onVc0 f = true ∧ 0 < a ∧ (s.link l.val).replay.length < 32)
    ∧ (∃ (s : State) (g : SkeinId) (xid : Nat) (st : Nat) (f : Flight), f ∈ (s.skein g.val).flights ∧ opOf f.word = 0x16 ∧ f.started = true ∧ f.xid = xid ∧ 0 < f.unacked)
    ∧ (∃ (s : State) (g : SkeinId) (xid : Nat) (st : Nat), (s.skein g.val).flights.any (fun f => opOf f.word == 0x16 && f.started && f.xid == xid && decide (0 < f.unacked)) = false) :=
  ⟨⟨(wRun.setReg 0x2E0A 2 1).setReg 0x2E00 4 0, 2, 7, 1, by decide +kernel⟩,
   ⟨wRun.setReg 0x2E0A 2 1, 2, by decide +kernel⟩,
   ⟨wRun, 2, 7, 1, (.linkTrained 2 7 1), by decide +kernel⟩,
   ⟨wRun, 2, true, wWrite, 1, 1, (.credit 2 1 1), by decide +kernel⟩,
   ⟨wLinks, 2, wWrite, by decide +kernel⟩,
   ⟨wLinks, 2, { wWrite with seq := 5 }, by decide +kernel⟩,
   ⟨wLinks, 2, { wWrite with len := 7 }, by decide +kernel⟩,
   ⟨wLinks, 2, wWrite, by decide +kernel⟩,
   ⟨(wLinks.setQueue 9 ⟨0x200000, 4, 0, true, 0, 0, 0, 0, none⟩), 2, { wWrite with type := 2, off := 9, src := 77 }, _, by decide +kernel, rfl⟩,
   ⟨wLinks, 2, { wWrite with type := 2, off := 9, src := 78 }, _, by decide +kernel, rfl⟩,
   ⟨wLinks, 2, { wWrite with type := 2, off := 9, src := 77, flags := 9, len := 0, payload := [] }, _, by decide +kernel, rfl⟩,
   ⟨wLinks, 2, 3, { wWrite with dst := 80 }, by decide +kernel⟩,
   ⟨wReplay 0, 2, 5, 0, by decide +kernel⟩,
   ⟨wReplay 0, 2, 9, (.lnak 2 9), by decide +kernel⟩,
   ⟨wReplay 2, 2, 5, 0, 2, (.replayTimeout 2), { wWrite with seq := 5 }, [], by decide +kernel⟩,
   ⟨wReplay 2, 2, 5, 0, 2, (.lnak 2 5), { wWrite with seq := 5 }, [], by decide +kernel⟩,
   ⟨wReplay 3, 2, 5, 0, 3, (.lnak 2 5), { wWrite with seq := 5 }, [], by decide +kernel⟩,
   ⟨(wReplay 2).modLink 2 (fun k => { k with replay := k.replay ++ [({ wWrite with seq := 6 }, 3)], txSeq := 7 }), 2, 5, 0, 2, (.replayTimeout 2), { wWrite with seq := 5 }, [({ wWrite with seq := 6 }, 3)], by decide +kernel⟩,
   ⟨wLinks, 2, 3, 9, by decide +kernel⟩,
   ⟨(wLinks.modLink 2 (fun k => { k with waiting := [wWrite], credit0 := 0 })), 2, 1, 0, wWrite, by decide +kernel⟩,
   ⟨wSk wRun { wFly wSendN with started := true, unacked := 2, xid := 5 }, 0, 5, 0, { wFly wSendN with started := true, unacked := 2, xid := 5 }, by decide +kernel⟩,
   ⟨wRun, 0, 5, 0, by decide +kernel⟩⟩

theorem hyps_Discovery :
    (∃ (s : State) (a : Agent), Admitted s a 0x2E00 2 1 1 ∧ s.nodeId ≠ 0)
    ∧ (∃ (s : State) (a : Agent), Admitted s a 0x2E00 2 1 1 ∧ s.nodeId = 0)
    ∧ (∃ (s : State) (a : Agent), Admitted s a 0x2E00 2 1 2)
    ∧ (∃ (s : State) (l : LinkId) (n : Nat) (root : Nat) (depth : Nat) (run : Nat) (par : Bool), (s.linkUp l.val = false ∨ s.nodeId = 0))
    ∧ (∃ (s : State) (l : LinkId) (n : Nat) (root : Nat) (depth : Nat) (par : Bool), s.linkUp l.val = true ∧ s.nodeId ≠ 0 ∧ (s.reg 0x2E00 4 = 1 ∨ s.reg 0x2E00 4 = 2) ∧ s.lowerOffer root (depth + 1) n l.val = true)
    ∧ (∃ (s : State) (l : LinkId) (n : Nat) (root : Nat) (depth : Nat) (par : Bool), s.linkUp l.val = true ∧ s.nodeId ≠ 0 ∧ (s.reg 0x2E00 4 = 1 ∨ s.reg 0x2E00 4 = 2) ∧ s.lowerOffer root (depth + 1) n l.val = false)
    ∧ (∃ (s : State) (l : LinkId) (n : Nat) (root : Nat) (depth : Nat) (par : Bool), s.linkUp l.val = true ∧ s.nodeId ≠ 0 ∧ s.reg 0x2E00 4 = 3 ∧ (s.lowerOffer root (depth + 1) n l.val = true ∨ (s.link l.val).child ≠ par))
    ∧ (∃ (s : State) (l : LinkId) (n : Nat) (root : Nat) (depth : Nat) (run : Nat) (par : Bool), s.linkUp l.val = true ∧ s.nodeId ≠ 0 ∧ runAhead run (s.reg 0x2E00 6) = true)
    ∧ (∃ (s : State), (s.reg 0x2E00 4 = 1 ∨ s.reg 0x2E00 4 = 2) ∧ allLinks.any (fun l => s.linkState l == 1) = false ∧ allLinks.any (fun l => (s.link l).child && (s.link l).counted.isNone) = true)
    ∧ (∃ (s : State), (s.reg 0x2E00 4 = 1 ∨ s.reg 0x2E00 4 = 2) ∧ allLinks.any (fun l => s.linkState l == 1) = false ∧ allLinks.all (fun l => !(s.link l).child && (s.link l).counted.isNone) = true ∧ s.discovery.countSent = false ∧ 4 ≤ s.reg 0x2E00 9 ∧ s.nodeId < 16384)
    ∧ (∃ (s : State), ((s.reg 0x2E00 4 ≠ 1 ∧ s.reg 0x2E00 4 ≠ 2) ∨ allLinks.any (fun l => s.linkState l == 1) = true))
    ∧ (∃ (s : State) (l : LinkId) (b : Nat) (dup : Nat) (d : Nat), s.discovering = true ∧ (s.link l.val).child = true)
    ∧ (∃ (s : State) (l : LinkId) (b : Nat) (dup : Nat) (d : Nat) (run : Nat), (run % 2 ^ 16 ≠ s.reg 0x2E00 6 ∨ s.discovering = false ∨ (s.link l.val).child = false))
    ∧ (∃ (s : State) (l : LinkId) (n : Nat) (d : Nat) (r : Nat) (dup : Nat), s.reg 0x2E00 4 = 3 ∧ s.discovery.countSent = true ∧ s.reg 0x2E00 9 = l.val)
    ∧ (∃ (s : State) (l : LinkId) (n : Nat) (d : Nat) (r : Nat) (dup : Nat), (s.reg 0x2E00 4 ≠ 3 ∨ s.discovery.countSent = false ∨ s.reg 0x2E00 9 ≠ l.val)) :=
  ⟨⟨wLinks, .can0, by decide +kernel⟩,
   ⟨wRun, .can0, by decide +kernel⟩,
   ⟨wLinks, .can0, by decide +kernel⟩,
   ⟨wRun, 1, 5, 3, 0, 1, true, by decide +kernel⟩,
   ⟨(wLinks.setReg 0x2E00 4 1).setReg 0x2E00 7 9, 2, 5, 3, 0, true, by decide +kernel⟩,
   ⟨(wLinks.setReg 0x2E00 4 1).setReg 0x2E00 7 2, 2, 5, 3, 0, true, by decide +kernel⟩,
   ⟨(wLinks.setReg 0x2E00 4 3).setReg 0x2E00 7 9, 2, 5, 3, 0, true, by decide +kernel⟩,
   ⟨wLinks, 2, 5, 3, 0, 9, true, by decide +kernel⟩,
   ⟨((wLinks.setReg 0x2E00 4 1).modLink 2 (fun k => { k with child := true })), by decide +kernel⟩,
   ⟨wLinks.setReg 0x2E00 4 1, by decide +kernel⟩,
   ⟨wRun, by decide +kernel⟩,
   ⟨((wLinks.setReg 0x2E00 4 3).modLink 2 (fun k => { k with child := true })), 2, 8, 0, 0, by decide +kernel⟩,
   ⟨wRun, 2, 8, 0, 0, 0, by decide +kernel⟩,
   ⟨{ (wLinks.setReg 0x2E00 4 3).setReg 0x2E00 9 2 with discovery := ⟨0, true, 0, []⟩ }, 2, 9, 3, 0, 0, by decide +kernel⟩,
   ⟨wRun, 2, 9, 3, 0, 0, by decide +kernel⟩⟩

theorem hyps_DebugPortCommands :
    (∃ (s : State) (ad : Nat) (m : Nat) (v : Nat) (need : Nat) (u : List Byte) (r : Bool) (c : Instr), (c, need) ∈ [(.dbgMemRead ad, 1), (.dbgMemWrite ad u, 2), (.dbgStop m r, 2), (.dbgGrant v, 2), (.dbgReset, 2)] ∧ s.dbgLevel < need)
    ∧ (∃ (s : State) (ad : Nat) (m : Nat) (v : Nat) (need : Nat) (u : List Byte) (r : Bool) (c : Instr), (c, need) ∈ [(.dbgMemRead ad, 1), (.dbgMemWrite ad u, 2), (.dbgStop m r, 2), (.dbgGrant v, 2), (.dbgReset, 2)] ∧ s.dbgLevel < need)
    ∧ (∃ (s : State) (r : List Byte) (sig : List Byte), s.reg 0x2100 1 = 2 ∧ sig.length = 2420 ∧ s.dbgLevel ≤ field r 4 1)
    ∧ (∃ (s : State) (r : List Byte) (sig : List Byte), (s.reg 0x2100 1 ≠ 2 ∨ sig.length ≠ 2420 ∨ field r 4 1 < s.dbgLevel))
    ∧ (∃ (s : State) (ad : Nat) (da : Nat) (r : State × ReadResult), (1 ≤ s.dbgLevel ∧ s.flips = [] ∧ r.2.status = 0) ∧ da = ad / 32 * 32 ∧ r = s.outsideRead da 32)
    ∧ (∃ (s : State) (ad : Nat) (st : Nat), (1 ≤ s.dbgLevel ∧ s.flips = [] ∧ st ≠ 0) ∧ st = (s.outsideRead (ad / 32 * 32) 32).2.status)
    ∧ (∃ (s : State) (ad : Nat) (da : Nat) (u : List Byte) (r : State × Nat × Nat), (2 ≤ s.dbgLevel ∧ r.2.1 = 0) ∧ da = ad / 32 * 32 ∧ r = s.outsideWrite .debug da ((slice u 0 32).map some))
    ∧ (∃ (s : State) (da : Nat) (k : Nat) (u : List Byte), 2 ≤ s.dbgLevel ∧ da % 32 = 0 ∧ regionOf da = .buf ∧ s.outsideStatus true da = 0 ∧ u.length = 32 ∧ s.place da = .buf k)
    ∧ (∃ (s : State) (m : Nat), 2 ≤ s.dbgLevel ∧ s.stopRefused = false)
    ∧ (∃ (s : State) (m : Nat) (r : Bool), 2 ≤ s.dbgLevel ∧ ((r = false ∧ s.stopRefused = true) ∨ (r = true ∧ s.reg 0x2D10 3 ≠ 2)))
    ∧ (∃ (s : State) (m : Nat), 2 ≤ s.dbgLevel ∧ s.reg 0x2D10 3 = 2)
    ∧ (∃ (s : State) (v : Nat), 2 ≤ s.dbgLevel ∧ v ≤ 1)
    ∧ (∃ (s : State) (v : Nat), 2 ≤ s.dbgLevel ∧ 1 < v)
    ∧ (∃ (s : State), 2 ≤ s.dbgLevel) :=
  ⟨⟨wRun, 64, 3, 1, 2, [], true, .dbgReset, by decide +kernel⟩,
   ⟨wRun, 64, 3, 1, 1, [], true, (.dbgMemRead 64), by decide +kernel⟩,
   ⟨wRun, zeros 64, zeros 2420, by decide +kernel⟩,
   ⟨wRun, zeros 64, [], by decide +kernel⟩,
   ⟨(wJtag.wr 0x200008 [5, 6]), 0x20000F, _, _, by decide +kernel, rfl, rfl⟩,
   ⟨wJtag, 0xFFFFFFFFFFFF, _, by decide +kernel, rfl⟩,
   ⟨wJtag, 0x200020, _, [1, 2, 3], _, by decide +kernel, rfl, rfl⟩,
   ⟨wJtag, 0x900000000000, 0x900000000000, List.replicate 32 7, by decide +kernel⟩,
   ⟨wJtag, 6, by decide +kernel⟩,
   ⟨wJtag.setReg 0x2D10 3 1, 6, false, by decide +kernel⟩,
   ⟨(wJtag.setReg 0x2D10 3 2).setReg 0x2D10 4 6, 0, by decide +kernel⟩,
   ⟨wJtag, 1, by decide +kernel⟩,
   ⟨wJtag, 2, by decide +kernel⟩,
   ⟨{ wFull with boot := { wFull.boot with lifecycle := 1 } }, by decide +kernel⟩⟩

theorem hyps_StopsTraceAndCounters :
    (∃ (s : State) (a : Agent), Admitted s a 0x2D10 1 1 1 ∧ s.stopRefused = false)
    ∧ (∃ (s : State) (a : Agent), Admitted s a 0x2D10 1 1 2 ∧ s.stopRefused = false ∧ s.reg 0x2D10 2 ≠ 0)
    ∧ (∃ (s : State) (a : Agent) (x : Instr × Nat), x ∈ [(.globalStop a, 1), (.partitionStop a, 2)] ∧ Admitted s a 0x2D10 1 1 x.2 ∧ (s.stopRefused = true ∨ (x.2 = 2 ∧ s.reg 0x2D10 2 = 0)))
    ∧ (∃ (s : State) (a : Agent) (x : Instr × Nat), x ∈ [(.globalStop a, 1), (.partitionStop a, 2)] ∧ Admitted s a 0x2D10 1 1 x.2 ∧ (s.stopRefused = true ∨ (x.2 = 2 ∧ s.reg 0x2D10 2 = 0)))
    ∧ (∃ (s : State), s.reg 0x2D10 3 = 1 ∧ s.cutReady = true)
    ∧ (∃ (s : State), (s.reg 0x2D10 3 ≠ 1 ∨ s.cutReady = false))
    ∧ (∃ (s : State) (a : Agent) (cs : List Nat), (Admitted s a 0x2D10 1 1 3 ∧ s.reg 0x2D10 3 = 2 ∧ cs ≠ []) ∧ cs = (List.range 8).filter (fun c => bit (s.reg 0x2D10 4) c && !s.oos c))
    ∧ (∃ (s : State) (a : Agent), Admitted s a 0x2D10 1 1 3 ∧ s.reg 0x2D10 3 ≠ 2)
    ∧ (∃ (s : State), s.reg 0x2D20 1 ≠ 0 ∧ s.dbg.fifo.length < 4088 ∧ s.dbg.lostSince = 0)
    ∧ (∃ (s : State), s.reg 0x2D20 1 ≠ 0 ∧ 4088 ≤ s.dbg.fifo.length ∧ s.dbg.fifo.length < 4096)
    ∧ (∃ (s : State), s.reg 0x2D20 1 ≠ 0 ∧ 4096 ≤ s.dbg.fifo.length ∧ s.reg 0x2D20 0x0A < 0xFFFFFFFF)
    ∧ (∃ (s : State), s.reg 0x2D20 1 = 0)
    ∧ (∃ (s : State) (a : Agent), Admitted s a 0x2D60 1 1 1)
    ∧ (∃ (s : State) (a : Agent), Admitted s a 0x2D60 1 1 0) :=
  ⟨⟨wRun.setReg 0x2B00 0x0B 4, .can0, by decide +kernel⟩,
   ⟨(wRun.setReg 0x2D10 2 2).setReg 0x2304 1 1, .can0, by decide +kernel⟩,
   ⟨wRun.setReg 0x2D10 3 2, .can0, (.globalStop .can0, 1), by decide +kernel⟩,
   ⟨wRun, .can0, (.partitionStop .can0, 2), by decide +kernel⟩,
   ⟨wRun.setReg 0x2D10 3 1, by decide +kernel⟩,
   ⟨wRun, by decide +kernel⟩,
   ⟨(wRun.setReg 0x2D10 3 2).setReg 0x2D10 4 6, .can0, _, by decide +kernel, rfl⟩,
   ⟨wRun, .can0, by decide +kernel⟩,
   ⟨wRun, by decide +kernel⟩,
   ⟨{ wRun with dbg := { wRun.dbg with fifo := List.replicate 4088 [] } }, by decide +kernel⟩,
   ⟨{ wRun with dbg := { wRun.dbg with fifo := List.replicate 4096 [] } }, by decide +kernel⟩,
   ⟨wRun.setReg 0x2D20 1 0, by decide +kernel⟩,
   ⟨wRun.setReg 0x2D00 3 1, .can0, by decide +kernel⟩,
   ⟨wRun.setReg 0x2D00 3 1, .can0, by decide +kernel⟩⟩

/-- StepTakesTheFrontCommand and ResetLeaves: an empty queue with the always-on domain released; firmware that runs. -/
theorem hyps_idle_and_watchdog :
    (∃ s : State, s.pending = [] ∧ s.boot.aon = true ∧ s.reg 0x2900 4 = 0 ∧ s.time.slewLeft = 0 ∧ s.time.nanos = 999999999
      ∧ s.time.frac < 2 ^ 48 ∧ s.boot.image ≠ [])
    ∧ (∃ s : State, s.pending = [] ∧ s.boot.aon = false) :=
  ⟨⟨{ wRun with time := { wRun.time with nanos := 999999999 } }, by decide +kernel⟩, ⟨State.reset, by decide +kernel⟩⟩

/-- StepKeepsInvariant: a state that meets the invariant and takes a command. -/
theorem hyps_StepKeepsInvariant : ∃ s t : State, Invariant s ∧ step s = .next t :=
  ⟨{ wRun.setSync 5 7 with pending := [.perstNRise] }, _, ⟨by decide +kernel, by decide +kernel, fun n => by
    show (wRun.setSync 5 7).sync n < 2 ^ 32
    by_cases h : n = 5
    · subst h; decide +kernel
    · rw [State.sync_setSync_ne _ _ h]; exact (by decide : 0 < 2 ^ 32)⟩, rfl⟩

/-- SymbolCode: one and two damaged symbols, at the ends of their ranges. -/
theorem hyps_SymbolCode :
    (State.reset.withFlips [(36 * 5 + 35, 15)]).flips.filter (fun e => e.1 / 36 == 5) = [(36 * 5 + 35, 15)]
    ∧ (State.reset.withFlips [(36 * 5, 1), (36 * 5 + 35, 15)]).flips.filter (fun e => e.1 / 36 == 5) = [(36 * 5, 1), (36 * 5 + 35, 15)]
    ∧ 80 ≤ 16 * 5 + 15 ∧ 16 * 5 < 80 + 1 := by decide +kernel

/-- WhatChangesTheTimebase: a command that changes it, and one that changes the translations. -/
theorem hyps_WhatChangesTheTimebase :
    (∃ (s t : State), exec .powerOn s = .next t ∧ t.time ≠ s.time) ∧ (∃ (s t : State), exec .powerOn s = .next t ∧ t.xlat ≠ s.xlat) :=
  ⟨⟨wFull, _, rfl, by decide +kernel⟩, ⟨wRun.withXlat [(7, 0)], _, rfl, by decide +kernel⟩⟩

/-- R111: additions wrap modulo 2^32; the object counts up from FFFF_FFFEh by 3. -/
theorem test_R111_wraps :
    (match exec (.syncAddWrite .can1 3) (wRun.setSync 0 0xFFFFFFFE) with
      | .next t => t.sync 0
      | _ => 7) = 1 := by decide +kernel

end Sys2Proof.Tests
end

section
/-! PROOFS. What a part of the state that an operation keeps says of registers, units and bytes; updates of one unit. -/
namespace Sys2Proof.Safety

open Machine

/-! ### Reading a state through the parts that are the same -/

theorem Only.reg {ps : List Part} {s t : State} (h : Only ps s t) (hp : .dict ∉ ps) (ix sub : Nat) :
    t.reg ix sub = s.reg ix sub := by
  have e : t.dict = s.dict := h .dict hp
  rw [State.reg, e, State.reg]

theorem Only.skein {ps : List Part} {s t : State} (h : Only ps s t) (hp : .skeins ∉ ps) (g : Nat) :
    t.skein g = s.skein g := by
  have e : t.skeins = s.skeins := h .skeins hp
  rw [State.skein, e, State.skein]

theorem Only.spindle {ps : List Part} {s t : State} (h : Only ps s t) (hp : .spindles ∉ ps) (u : Nat) :
    t.spindle u = s.spindle u := by
  have e : t.spindles = s.spindles := h .spindles hp
  rw [State.spindle, e, State.spindle]

theorem Only.byteAt {ps : List Part} {s t : State} (h : Only ps s t) (hm : .mem ∉ ps) (hf : .flips ∉ ps) (x : Nat) :
    t.byteAt x = s.byteAt x := by
  have em : t.mem = s.mem := h .mem hm
  have ef : t.flips = s.flips := h .flips hf
  have ec : t.codeAt (x / 16) = s.codeAt (x / 16) := by rw [State.codeAt, ef, State.codeAt]
  have es : t.seenErrors (x / 16) = s.seenErrors (x / 16) := by rw [State.seenErrors, ef, ec, State.seenErrors]
  rw [State.byteAt, em, ef, es, State.byteAt]

/-- Whether a pending fault waits for its retry is a matter of the safety state alone. -/
theorem Unretried.of_safety {s t : State} {code src : Nat} (h : Unretried s code src) (e : t.safety = s.safety) :
    Unretried t code src := by
  simpa only [Unretried, State.part, e] using h

theorem KeptBut.trans {α : Type} {f : State → Nat → α} {ns : List Nat} {s t u : State} (h : KeptBut f ns s t)
    (k : KeptBut f ns t u) : KeptBut f ns s u := fun n hn => (k n hn).trans (h n hn)

theorem KeptBut.of_eq {α : Type} {f : State → Nat → α} {ns : List Nat} {s t : State} (h : ∀ n, f t n = f s n) :
    KeptBut f ns s t := fun n _ => h n

end Sys2Proof.Safety

namespace Sys2Proof.Machine

open Sys2Proof.Safety

@[simp] theorem State.spindle_modSpindle (s : State) (u : Nat) (f : Spindle → Spindle) :
    (s.modSpindle u f).spindle u = f (s.spindle u) := s.spindle_setSpindle u _

theorem State.spindle_modSpindle_ne (s : State) {u v : Nat} (f : Spindle → Spindle) (h : v ≠ u) :
    (s.modSpindle u f).spindle v = s.spindle v := s.spindle_setSpindle_ne _ h

@[simp] theorem State.skein_modSkein (s : State) (g : Nat) (f : Skein → Skein) :
    (s.modSkein g f).skein g = f (s.skein g) := s.skein_setSkein g _

theorem State.skein_modSkein_ne (s : State) {g h : Nat} (f : Skein → Skein) (hn : h ≠ g) :
    (s.modSkein g f).skein h = s.skein h := s.skein_setSkein_ne _ hn

theorem State.setSpindle_keptBut (s : State) (u : Nat) (k : Spindle) : KeptBut State.spindle [u] s (s.setSpindle u k) :=
  fun _ hn => s.spindle_setSpindle_ne k (by simpa using hn)

theorem State.modSpindle_keptBut (s : State) (u : Nat) (f : Spindle → Spindle) :
    KeptBut State.spindle [u] s (s.modSpindle u f) := s.setSpindle_keptBut u _

theorem State.modSkein_keptBut (s : State) (g : Nat) (f : Skein → Skein) :
    KeptBut State.skein [g] s (s.modSkein g f) :=
  fun _ hn => s.skein_modSkein_ne f (by simpa using hn)

/-- One update of each spindle of a list leaves the others alone. -/
theorem State.spindle_forEach_modSpindle_of_not_mem (f : Spindle → Spindle) {l : List Nat} {v : Nat} (hv : v ∉ l) (s : State) :
    (forEach l s (fun s u => s.modSpindle u f)).spindle v = s.spindle v := by
  induction l generalizing s with
  | nil => rfl
  | cons u r ih =>
    obtain ⟨hu, hr⟩ := not_or.mp fun h => hv (List.mem_cons.mpr h)
    exact (ih hr _).trans (s.spindle_modSpindle_ne f hu)

/-- Each spindle of a list without repetition takes the update once. -/
theorem State.spindle_forEach_modSpindle_of_mem (f : Spindle → Spindle) {l : List Nat} (hl : l.Nodup) {v : Nat} (hv : v ∈ l)
    (s : State) : (forEach l s (fun s u => s.modSpindle u f)).spindle v = f (s.spindle v) := by
  induction l generalizing s with
  | nil => exact absurd hv List.not_mem_nil
  | cons u r ih =>
    obtain ⟨hu, hr⟩ := List.nodup_cons.mp hl
    by_cases e : v = u
    · subst e
      exact (State.spindle_forEach_modSpindle_of_not_mem f hu _).trans (s.spindle_modSpindle v f)
    · exact (ih hr ((List.mem_cons.mp hv).resolve_left e) _).trans
        (congrArg f (s.spindle_modSpindle_ne f e))

end Sys2Proof.Machine
end

section
/-! PROOFS. Memory none of whose codewords is damaged: a write is read back, and no read changes anything. -/
namespace Sys2Proof.Machine

open Sys2Proof.Safety

/-! ### Bytes and rows of values -/

@[simp] theorem leBytes_length (n v : Nat) : (leBytes n v).length = n := by
  induction n generalizing v with
  | zero => rfl
  | succ n ih => simp [leBytes, ih]

theorem flatten_leBytes_length {α : Type} (n : Nat) (f : α → Nat) (l : List α) :
    (l.map (fun v => leBytes n (f v))).flatten.length = l.length * n := by
  induction l with
  | nil => rw [List.map_nil, List.flatten_nil, List.length_nil, List.length_nil, Nat.zero_mul]
  | cons v r ih =>
    rw [List.map_cons, List.flatten_cons, List.length_append, leBytes_length, ih, List.length_cons, Nat.succ_mul, Nat.add_comm]

/-! ### Reads and writes -/

section
variable {s : State} (h : s.flips = [])
include h

theorem State.byteAt_undamaged (x : Nat) : s.byteAt x = rdByte s.mem x := if_pos h

theorem State.rd_undamaged (a n : Nat) : s.rd a n = rdBytes s.mem a n := by
  simp [State.rd, rdBytes, State.byteAt_undamaged h]

theorem State.put_undamaged (a : Nat) (bs : List Byte) : s.put a bs = s.wr a bs := if_pos h

theorem State.flips_put_undamaged (a : Nat) (bs : List Byte) : (s.put a bs).flips = [] := by
  rw [State.put_undamaged h]; exact h

theorem State.put_moves_undamaged (a : Nat) (bs : List Byte) : Moves [.mem] s (s.put a bs) := by
  rw [State.put_undamaged h]; exact State.wr_moves

theorem State.rd_put_self (a : Nat) {n : Nat} {bs : List Byte} (hn : bs.length = n) : (s.put a bs).rd a n = bs := by
  rw [State.rd_undamaged (State.flips_put_undamaged h a bs), State.put_undamaged h, ← hn]
  exact rdBytes_wrBytes s.mem a bs

theorem State.byteAt_put_outside {a x : Nat} {bs : List Byte} (hx : ¬ (a ≤ x ∧ x < a + bs.length)) :
    (s.put a bs).byteAt x = s.byteAt x := by
  rw [State.byteAt_undamaged (State.flips_put_undamaged h a bs), State.byteAt_undamaged h, State.put_undamaged h]
  exact rdByte_wrBytes_outside s.mem a x bs hx

theorem State.badRange_undamaged (a n : Nat) : s.badRange a n = false := by simp [State.badRange, h]

theorem State.storeRead_undamaged (u a n : Nat) : s.storeRead u a n = (s, s.rd a n) := by
  simp [State.storeRead, State.correctedIn, h]

theorem State.accBad_undamaged (u q i : Nat) (int48 : Bool) : s.accBad u q i int48 = false := by
  simp [State.accBad, State.badRange_undamaged h]

theorem State.accRead_undamaged (u q i : Nat) (int48 : Bool) : s.accRead u q i int48 = s := by
  simp [State.accRead, State.storeRead_undamaged h]

end

/-- Bytes that read the same give the same record. -/
theorem State.rd_congr {s t : State} {a n : Nat} (h : ∀ i < n, t.byteAt (a + i) = s.byteAt (a + i)) : t.rd a n = s.rd a n :=
  List.map_congr_left fun i hi => h i (List.mem_range.mp hi)

end Sys2Proof.Machine
end

section
/-! PROOFS. Rows of an accumulator set (R46, R64, R65, R77): what a row holds after it was written, and how a landing row is
formed. -/
namespace Sys2Proof.Machine

open Sys2Proof.Safety

theorem State.accRow_length (s : State) (u q i : Nat) (int48 : Bool) : (s.accRow u q i int48).length = 64 := by
  cases int48 <;> simp [State.accRow, unpack]

/-- Combining a row of `n` values with rows of `n` values in turn gives `n` values. -/
theorem foldl_zipWith_length {α β : Type} (f : α → β → α) {n : Nat} (blocks : List (List β)) (hb : ∀ b ∈ blocks, b.length = n)
    (acc : List α) (ha : acc.length = n) : (blocks.foldl (List.zipWith f) acc).length = n := by
  induction blocks generalizing acc with
  | nil => exact ha
  | cons b r ih =>
    refine ih (fun x hx => hb x (List.mem_cons_of_mem _ hx)) _ ?_
    rw [List.length_zipWith, ha, hb b List.mem_cons_self, Nat.min_self]

theorem landRow_length (int48 start : Bool) {n : Nat} {old : List Int} (ho : old.length = n) {blocks : List (List Int)}
    (hb : ∀ b ∈ blocks, b.length = n) : (landRow int48 start old blocks).length = n := by
  cases blocks with
  | nil => simpa [landRow] using ho
  | cons b r =>
    refine foldl_zipWith_length _ r (fun x hx => hb x (List.mem_cons_of_mem _ hx)) _ ?_
    have first := hb b List.mem_cons_self
    cases start <;> simp [ho, first]

/-- The side array lies behind every row of the local stores. -/
theorem accAt_row_below_sideBase {u q i : Nat} (hu : u < 256) (hq : q < 4) (hi : i < 64) : accAt u q i + 256 ≤ sideBase := by
  simp only [accAt, storeBase, sideBase]
  omega

section
variable {s : State} (h : s.flips = []) {u q i : Nat} {vs : List Int}

include h in
theorem State.flips_accWrite (u q i : Nat) (int48 : Bool) (vs : List Int) : (s.accWrite u q i int48 vs).flips = [] := by
  cases int48
  · exact State.flips_put_undamaged h _ _
  · exact State.flips_put_undamaged (State.flips_put_undamaged h _ _) _ _

include h in
theorem State.accWrite_moves_undamaged (u q i : Nat) (int48 : Bool) (vs : List Int) :
    Moves [.mem] s (s.accWrite u q i int48 vs) := by
  cases int48
  · exact State.put_moves_undamaged h _ _
  · exact (State.put_moves_undamaged (State.flips_put_undamaged h _ _) _ _).after rfl (State.put_moves_undamaged h _ _)

include h in
/-- Every byte outside the row, and for INT48 outside its upper halves, stays. -/
theorem State.byteAt_accWrite_outside (int48 : Bool) (hv : vs.length = 64) {x : Nat}
    (hx : ¬ (accAt u q i ≤ x ∧ x < accAt u q i + 256))
    (hy : ¬ (int48 = true ∧ sideAt u q i ≤ x ∧ x < sideAt u q i + 128)) :
    (s.accWrite u q i int48 vs).byteAt x = s.byteAt x := by
  have row : (s.put (accAt u q i) (vs.map (fun v => leBytes 4 (enc 48 v % 2 ^ 32))).flatten).byteAt x = s.byteAt x :=
    State.byteAt_put_outside h (by rwa [flatten_leBytes_length, hv])
  cases int48 with
  | false => exact row
  | true =>
    refine (State.byteAt_put_outside (State.flips_put_undamaged h _ _) ?_).trans row
    rw [flatten_leBytes_length, hv]
    exact fun hs => hy ⟨rfl, hs⟩

include h in
/-- The upper halves of an INT48 row read back. -/
theorem State.rd_side_accWrite (hv : vs.length = 64) :
    (s.accWrite u q i true vs).rd (sideAt u q i) 128 = (vs.map (fun v => leBytes 2 (enc 48 v / 2 ^ 32))).flatten :=
  State.rd_put_self (State.flips_put_undamaged h _ _) _ (by rw [flatten_leBytes_length, hv])

include h in
/-- The row reads back: its upper halves are stored elsewhere. -/
theorem State.rd_row_accWrite (int48 : Bool) (hu : u < 256) (hq : q < 4) (hi : i < 64) (hv : vs.length = 64) :
    (s.accWrite u q i int48 vs).rd (accAt u q i) 256 = (vs.map (fun v => leBytes 4 (enc 48 v % 2 ^ 32))).flatten := by
  have row := State.rd_put_self h (accAt u q i) (n := 256)
    (bs := (vs.map (fun v => leBytes 4 (enc 48 v % 2 ^ 32))).flatten) (by rw [flatten_leBytes_length, hv])
  cases int48 with
  | false => exact row
  | true =>
    refine (State.rd_congr fun k hk => State.byteAt_put_outside (State.flips_put_undamaged h _ _) ?_).trans row
    have below := accAt_row_below_sideBase hu hq hi
    have side : sideBase ≤ sideAt u q i := by unfold sideAt; omega
    omega

end

end Sys2Proof.Machine
end

section
/-! PROOFS. The registers of a stream: their widths, its STATE, and its arithmetic flags. -/
namespace Sys2Proof.Machine

open Sys2Proof.Safety

/-! Widths of POSITION, TAG and FLAGS of the 64 streams (R89). -/

theorem position_width : ∀ g < 64, 256 ^ odBytes (0x2440 + g) 3 = 2 ^ 64 := by decide +kernel

theorem tag_width : ∀ g < 64, 256 ^ odBytes (0x2440 + g) 6 = 2 ^ 16 := by decide +kernel

theorem flags_width : ∀ g < 64, 256 ^ odBytes (0x2440 + g) 7 = 2 ^ 8 := by decide +kernel

/-- A register seen through the store of one with another subindex. -/
theorem State.reg_setReg_sub_ne (s : State) {ix sub x y : Nat} (v : Nat) (hs : sub < 256) (hy : y < 256) (h : y ≠ sub) :
    (s.setReg ix sub v).reg x y = s.reg x y :=
  s.reg_setReg_ne v (odKey_ne hs hy fun e => h (Prod.mk.inj e).2)

theorem State.reg_traceSkein (s : State) (b ty g d16 d64 : Nat) {x y : Nat} (hy : y < 256) (h : (x, y) ∉ traceRegs) :
    (s.traceSkein b ty g d16 d64).reg x y = s.reg x y :=
  RegsKept.refl.traceSkein (List.Subset.refl _) x y hy h

theorem State.reg_setStreamState_state (s : State) (g : Nat) {st : Nat} (h : st < 256) :
    (s.setStreamState g st).reg (0x2440 + g) 1 = st := by
  rw [State.setStreamState, State.reg_traceSkein _ _ _ _ _ _ (by decide) (by simp [traceRegs]), State.reg_setReg_byte _ _ _ _ h]

theorem State.reg_setStreamState_ne (s : State) (g st : Nat) {x y : Nat} (hy : y < 256) (h : (x, y) ∉ stateRegs g) :
    (s.setStreamState g st).reg x y = s.reg x y :=
  RegsKept.refl.setStreamState (List.Subset.refl _) x y hy h

/-! ### Arithmetic flags (R62) -/

theorem State.addFlags_keptRegs (s : State) (g n fl : Nat) : RegsKept [(0x2440 + g, 7)] s (s.addFlags g n fl) := by
  unfold State.addFlags
  split
  · exact RegsKept.refl
  · exact (RegsKept.refl.setReg (by decide) List.mem_cons_self).modSkein

theorem State.reg_addFlags_flags (s : State) {g : Nat} (hg : g < 64) (n fl : Nat) :
    (s.addFlags g n fl).reg (0x2440 + g) 7
      = if fl = 0 then s.reg (0x2440 + g) 7 else (s.reg (0x2440 + g) 7 ||| fl) % 2 ^ 8 := by
  unfold State.addFlags
  split
  · rfl
  · refine (s.reg_setReg (0x2440 + g) 7 _).trans ?_
    rw [flags_width g hg]

theorem State.abandoned_addFlags (s : State) (g n fl : Nat) :
    ((s.addFlags g n fl).skein g).abandoned = (s.skein g).abandoned := by
  unfold State.addFlags
  split
  · rfl
  · rw [State.skein_modSkein]
    split <;> rfl

/-- Only an abandoned stream ends when its work is done. -/
theorem State.settleAbandon_of_not_abandoned {s : State} {g : Nat} (h : (s.skein g).abandoned = false) :
    s.settleAbandon g = s := if_neg fun hc => by simp [h] at hc

end Sys2Proof.Machine
end

section
/-! PROOFS. The end of a stream with a status that raises no fault, where no stream-event queue is set (R126, R331, R431). -/
namespace Sys2Proof.Machine

open Sys2Proof.Safety

/-- A fault of this source that waits for no retry: nothing ages. -/
theorem State.ageFault_of_unretried {s : State} {code src : Nat} (h : Unretried s code src) (done ok : Bool) :
    s.ageFault code src done ok = s := by
  refine forEach_ind (P := fun u => u = s) (fun u p hp hu => ?_) rfl
  have none_of : ¬ (s.part p).pending.any (fun f => f.code == code && f.source == src && f.verdict == none) = true := by
    intro ha
    obtain ⟨f, hf, hc⟩ := List.any_eq_true.mp ha
    simp only [Bool.and_eq_true, beq_iff_eq] at hc
    exact h p (List.mem_range.mp hp) f hf hc.1.1 hc.1.2
  subst hu
  exact if_neg none_of

/-- What is left of a skein whose stream ended with a status. -/
def Skein.ended (k : Skein) (status : Nat) : Skein :=
  { k with flights := k.flights.filter (fun f => !isControl f.word), fetched := [], haltPage := none, abandoned := false,
           violations := k.violations + b2n (status == 0x22) }

/-- STATUS, POSITION, TAG and STATE of a stream that ends, before anything is reported. -/
def State.endMarked (s : State) (g status addr tag : Nat) : State :=
  ((((s.setReg (0x2440 + g) 2 status).setReg (0x2440 + g) 3 addr).setReg (0x2440 + g) 6 tag).modSkein g
    (fun k => k.ended status)).setStreamState g (if status < 0x10 then 0 else 4)

theorem State.endMarked_moves (s : State) (g status addr tag : Nat) :
    Moves [.dict, .skeins, .dbg] s (s.endMarked g status addr tag) :=
  State.setStreamState_moves.after rfl <| State.modSkein_moves.after rfl <| State.setReg_moves.after rfl <|
    State.setReg_moves.after rfl <| State.setReg_moves.after rfl Moves.refl

theorem State.endMarked_keptRegs (s : State) (g status addr tag : Nat) :
    RegsKept (endRegs g) s (s.endMarked g status addr tag) :=
  ((((RegsKept.refl.setReg (by decide) (by simp [endRegs])).setReg (by decide) (by simp [endRegs])).setReg (by decide)
    (by simp [endRegs])).modSkein).setStreamState (List.subset_append_right _ _)

theorem State.skein_endMarked (s : State) (g status addr tag : Nat) :
    (s.endMarked g status addr tag).skein g = (s.skein g).ended status := by
  rw [State.endMarked, State.setStreamState_moves.only.skein (by decide), State.skein_modSkein]
  rfl

theorem State.endMarked_keptSkeins (s : State) (g status addr tag : Nat) :
    KeptBut State.skein [g] s (s.endMarked g status addr tag) :=
  (State.modSkein_keptBut (((s.setReg (0x2440 + g) 2 status).setReg (0x2440 + g) 3 addr).setReg (0x2440 + g) 6 tag) g _).trans
    (KeptBut.of_eq fun n => State.setStreamState_moves.only.skein (by decide) n)

theorem State.reg_endMarked_state (s : State) (g addr tag : Nat) {status : Nat} (h : 0x10 ≤ status) :
    (s.endMarked g status addr tag).reg (0x2440 + g) 1 = 4 := by
  rw [State.endMarked, if_neg (by omega)]
  exact State.reg_setStreamState_state _ g (by decide)

theorem State.reg_endMarked_status (s : State) (g addr tag : Nat) {status : Nat} (h : status < 256) :
    (s.endMarked g status addr tag).reg (0x2440 + g) 2 = status := by
  rw [State.endMarked, State.reg_setStreamState_ne _ _ _ (by decide) (by simp [stateRegs, traceRegs])]
  calc (((s.setReg (0x2440 + g) 2 status).setReg (0x2440 + g) 3 addr).setReg (0x2440 + g) 6 tag).reg (0x2440 + g) 2
    _ = ((s.setReg (0x2440 + g) 2 status).setReg (0x2440 + g) 3 addr).reg (0x2440 + g) 2 :=
        State.reg_setReg_sub_ne _ _ (by decide) (by decide) (by decide)
    _ = (s.setReg (0x2440 + g) 2 status).reg (0x2440 + g) 2 :=
        State.reg_setReg_sub_ne _ _ (by decide) (by decide) (by decide)
    _ = status := State.reg_setReg_byte _ _ _ _ h

theorem State.reg_endMarked_position (s : State) {g : Nat} (hg : g < 64) (status addr tag : Nat) :
    (s.endMarked g status addr tag).reg (0x2440 + g) 3 = addr % 2 ^ 64 := by
  rw [State.endMarked, State.reg_setStreamState_ne _ _ _ (by decide) (by simp [stateRegs, traceRegs])]
  calc (((s.setReg (0x2440 + g) 2 status).setReg (0x2440 + g) 3 addr).setReg (0x2440 + g) 6 tag).reg (0x2440 + g) 3
    _ = ((s.setReg (0x2440 + g) 2 status).setReg (0x2440 + g) 3 addr).reg (0x2440 + g) 3 :=
        State.reg_setReg_sub_ne _ _ (by decide) (by decide) (by decide)
    _ = addr % 2 ^ 64 := by rw [State.reg_setReg, position_width g hg]

theorem State.reg_endMarked_tag (s : State) {g : Nat} (hg : g < 64) (status addr tag : Nat) :
    (s.endMarked g status addr tag).reg (0x2440 + g) 6 = tag % 2 ^ 16 := by
  rw [State.endMarked, State.reg_setStreamState_ne _ _ _ (by decide) (by simp [stateRegs, traceRegs])]
  refine (State.reg_setReg ((s.setReg (0x2440 + g) 2 status).setReg (0x2440 + g) 3 addr) (0x2440 + g) 6 tag).trans ?_
  rw [tag_width g hg]

/-- The fault that the end of a stream with this status raises (R331). -/
def State.endAlarm (s : State) (g status : Nat) : State :=
  if status = 0x32 ∨ status = 0x42 then s.raise 0x13 (some (s.skeinPart g)) g status
  else if status = 0x31 then s.raiseKey 1 (some (s.skeinPart g)) g status (1 + g / 8) else s

/-- The entry for the host, where a stream-event queue is set (R431). -/
def State.endReport (s : State) (g : Nat) : State :=
  if s.reg 0x2E30 4 = 0xFFFF then s
  else s.pushNamed (s.reg 0x2E30 4) (some 0x100) none (s.streamEntry g) 0x2E30 5

/-- The end of a stream in its four steps. -/
theorem State.endStream_eq (s : State) (g status addr tag : Nat) :
    s.endStream g status addr tag =
      (((s.endMarked g status addr tag).endAlarm g status).ageFault 6 g true false).endReport g := rfl

theorem State.endAlarm_quiet (s : State) (g : Nat) {status : Nat} (h : status ∉ [0x31, 0x32, 0x42]) :
    s.endAlarm g status = s := by
  obtain ⟨h31, h32, h42⟩ : status ≠ 0x31 ∧ status ≠ 0x32 ∧ status ≠ 0x42 := by simpa using h
  rw [State.endAlarm, if_neg (not_or.mpr ⟨h32, h42⟩), if_neg h31]

/-- Where no stream-event queue is set and the status is of no fault, what remains is the judgement of retries. -/
theorem State.endStream_quiet {s : State} {g status addr tag : Nat} (hst : status ∉ [0x31, 0x32, 0x42])
    (hq : s.reg 0x2E30 4 = 0xFFFF) :
    s.endStream g status addr tag = (s.endMarked g status addr tag).ageFault 6 g true false := by
  have kept : ((s.endMarked g status addr tag).ageFault 6 g true false).reg 0x2E30 4 = 0xFFFF := by
    rw [State.ageFault_moves.only.reg (by decide),
      s.endMarked_keptRegs g status addr tag 0x2E30 4 (by decide) (by simp [endRegs, stateRegs, traceRegs]), hq]
  rw [State.endStream_eq, State.endAlarm_quiet _ g hst]
  exact if_pos kept

end Sys2Proof.Machine
end

section
/-! PROOFS. A descriptor ends its stream in ERROR (R126). -/
namespace Sys2Proof.Safety

open Machine

/-- Stream `g` has ended in ERROR with status `st` at descriptor `f`: the descriptor and those that only the sequencer
completes have left, and nothing else has changed but the retries of the stream's own pending faults. -/
structure StreamFailed (s t : State) (g : Nat) (f : Flight) (st : Nat) : Prop where
  moves : Moves [.dict, .skeins, .safety, .dbg] s t
  regs : RegsKept (endRegs g) s t
  safety : Unretried s 6 g → t.safety = s.safety
  state : t.reg (0x2440 + g) 1 = 4
  status : t.reg (0x2440 + g) 2 = st
  position : t.reg (0x2440 + g) 3 = f.addr % 2 ^ 64
  tag : t.reg (0x2440 + g) 6 = tagOf f.word
  skein : t.skein g =
    { s.skein g with flights := (s.skein g).flights.filter (fun x => x.serial ≠ f.serial) }.ended st
  others : KeptBut State.skein [g] s t

end Sys2Proof.Safety

namespace Sys2Proof.Machine

open Sys2Proof.Safety

theorem State.fail_live {s : State} {g : Nat} (h : s.streamLive g = true) (f : Flight) (st : Nat) :
    s.fail g f st = (s.dropFlight g f.serial).endStream g st f.addr (tagOf f.word) := if_pos h

/-- A descriptor of a live stream that fails with a status of no fault. -/
theorem State.fail_streamFailed {s : State} {g : Nat} (hg : g < 64) (hl : s.streamLive g = true) (hq : s.reg 0x2E30 4 = 0xFFFF)
    (f : Flight) {st : Nat} (hst : st ∉ [0x31, 0x32, 0x42]) (hlo : 0x10 ≤ st) (hhi : st < 256) :
    StreamFailed s (s.fail g f st) g f st := by
  have e : s.fail g f st =
      ((s.dropFlight g f.serial).endMarked g st f.addr (tagOf f.word)).ageFault 6 g true false :=
    (State.fail_live hl f st).trans (State.endStream_quiet hst hq)
  have drop : Moves [.skeins] s (s.dropFlight g f.serial) := State.dropFlight_moves
  have mark := (s.dropFlight g f.serial).endMarked_moves g st f.addr (tagOf f.word)
  have age : Moves [.safety] _ (s.fail g f st) := e ▸ State.ageFault_moves
  have reg (ix sub : Nat) : (s.fail g f st).reg ix sub
      = ((s.dropFlight g f.serial).endMarked g st f.addr (tagOf f.word)).reg ix sub := age.only.reg (by decide) ix sub
  have skein (n : Nat) : (s.fail g f st).skein n
      = ((s.dropFlight g f.serial).endMarked g st f.addr (tagOf f.word)).skein n := age.only.skein (by decide) n
  exact
    { moves := age.after rfl (mark.after rfl (drop.after rfl Moves.refl))
      regs := ((RegsKept.refl.of_moves drop (by decide)).trans
        ((s.dropFlight g f.serial).endMarked_keptRegs g st f.addr (tagOf f.word))).of_moves age (by decide)
      safety := fun hu => by
        have same : ((s.dropFlight g f.serial).endMarked g st f.addr (tagOf f.word)).safety = s.safety :=
          mark.only .safety (by decide)
        rw [e, State.ageFault_of_unretried (hu.of_safety same), same]
      state := (reg _ _).trans (State.reg_endMarked_state _ _ _ _ hlo)
      status := (reg _ _).trans (State.reg_endMarked_status _ _ _ _ hhi)
      position := (reg _ _).trans (State.reg_endMarked_position _ hg _ _ _)
      tag := (reg _ _).trans ((State.reg_endMarked_tag _ hg _ _ _).trans (Nat.mod_eq_of_lt (Nat.mod_lt _ (by decide))))
      skein := by rw [skein, State.skein_endMarked, State.dropFlight, State.skein_modSkein]
      others := (s.modSkein_keptBut g _).trans
        (((s.dropFlight g f.serial).endMarked_keptSkeins g st f.addr (tagOf f.word)).trans (KeptBut.of_eq skein)) }

/-! ### After updates of skeins and spindles -/

/-- A failure after updates that leave the registers alone. -/
theorem State.fail_after_units {s u : State} (m : Moves [.skeins, .spindles] s u) {g : Nat} (hg : g < 64)
    (hl : s.streamLive g = true) (hq : s.reg 0x2E30 4 = 0xFFFF) (f : Flight) {st : Nat} (hst : st ∉ [0x31, 0x32, 0x42])
    (hlo : 0x10 ≤ st) (hhi : st < 256) : StreamFailed u (u.fail g f st) g f st := by
  have reg := m.only.reg (by decide)
  refine State.fail_streamFailed hg ?_ ((reg _ _).trans hq) f hst hlo hhi
  simpa only [State.streamLive, State.streamState, reg] using hl

end Sys2Proof.Machine

namespace Sys2Proof.Safety

open Machine

/-- What the updates and the failure together change. -/
theorem StreamFailed.after_units {s u t : State} {g : Nat} {f : Flight} {st : Nat} (h : StreamFailed u t g f st)
    (m : Moves [.skeins, .spindles] s u) :
    Only [.dict, .skeins, .spindles, .safety, .dbg] s t ∧ RegsKept (endRegs g) s t
      ∧ (Unretried s 6 g → t.safety = s.safety) := by
  have same : u.safety = s.safety := m.only .safety (by decide)
  exact ⟨(h.moves.after rfl (m.after rfl Moves.refl)).only, (RegsKept.refl.of_moves m (by decide)).trans h.regs,
    fun hu => (h.safety (hu.of_safety same)).trans same⟩

end Sys2Proof.Safety
end

section
/-! PROOFS. RESULT_LAND (R46, R72, R77): the oldest row due reaches its set. -/
namespace Sys2Proof.Machine

open Sys2Proof.Safety

/-- The values that a landing row leaves in its set, with the flags of the additions. -/
def State.landed (s : State) (u : Nat) (l : Landing) : List (Flagged Int) :=
  landRow l.int48 l.init (s.accRow u l.set l.row l.int48) l.blocks

/-- Flags of a list of results together. -/
def flagsOf (vs : List (Flagged Int)) : Nat := vs.foldl (fun (n : Nat) v => n ||| v.2) 0

theorem State.landed_length (s : State) (u : Nat) {l : Landing} (h : l.blocks.all (fun b => b.length == 64) = true) :
    (s.landed u l).length = 64 :=
  landRow_length _ _ (s.accRow_length u l.set l.row l.int48) (by simpa using h)

theorem doResultLand_not_due {s : State} {u : Nat} {l : Landing} {rest : List Landing} (hl : (s.spindle u).landing = l :: rest)
    (hs : l.steps ≠ 0) : doResultLand u s = s := by
  simp [doResultLand, hl, hs]

/-- The oldest result leaves the spindle, and its row is written. -/
def State.landRowWritten (s : State) (u : Nat) (l : Landing) (rest : List Landing) : State :=
  (s.modSpindle u (fun k => { k with landing := rest })).accWrite u l.set l.row l.int48 ((s.landed u l).map (·.1))

/-- The stream takes the flags of the additions as well. -/
def State.landResult (s : State) (u : Nat) (l : Landing) (rest : List Landing) : State :=
  (s.landRowWritten u l rest).addFlags (u / 4) l.serial (flagsOf (s.landed u l))

/-- Raising flags is the last thing a landing does. -/
theorem State.landResult_moves_flags (s : State) (u : Nat) (l : Landing) (rest : List Landing) :
    Moves [.dict, .skeins] (s.landRowWritten u l rest) (s.landResult u l rest) := State.addFlags_moves

theorem State.rd_landResult (s : State) (u : Nat) (l : Landing) (rest : List Landing) (a n : Nat) :
    (s.landResult u l rest).rd a n = (s.landRowWritten u l rest).rd a n :=
  State.rd_congr fun _ _ => (s.landResult_moves_flags u l rest).only.byteAt (by decide) (by decide) _

section
variable {s : State} (hf : s.flips = []) {u : Nat} {l : Landing} (rest : List Landing)
include hf

theorem State.landRowWritten_moves_write (u : Nat) (l : Landing) :
    Moves [.mem] (s.modSpindle u (fun k => { k with landing := rest })) (s.landRowWritten u l rest) :=
  State.accWrite_moves_undamaged (s := s.modSpindle u _) hf _ _ _ _ _

theorem State.landRowWritten_moves (u : Nat) (l : Landing) : Moves [.mem, .spindles] s (s.landRowWritten u l rest) :=
  (State.landRowWritten_moves_write hf rest u l).after rfl (State.modSpindle_moves.after rfl Moves.refl)

theorem State.landResult_moves (u : Nat) (l : Landing) :
    Moves [.dict, .mem, .skeins, .spindles] s (s.landResult u l rest) :=
  (s.landResult_moves_flags u l rest).after rfl ((State.landRowWritten_moves hf rest u l).after rfl Moves.refl)

theorem State.landResult_keptRegs (u : Nat) (l : Landing) :
    RegsKept [(0x2440 + u / 4, 7)] s (s.landResult u l rest) :=
  (RegsKept.refl.of_moves (State.landRowWritten_moves hf rest u l) (by decide)).trans (State.addFlags_keptRegs _ _ _ _)

/-- Of the spindles, a landing touches only the list of results on their way. -/
theorem State.spindle_landResult (u : Nat) (l : Landing) (n : Nat) :
    (s.landResult u l rest).spindle n = (s.modSpindle u (fun k => { k with landing := rest })).spindle n :=
  ((s.landResult_moves_flags u l rest).only.spindle (by decide) n).trans
    ((State.landRowWritten_moves_write hf rest u l).only.spindle (by decide) n)

theorem State.reg_landResult_flags (hg : u / 4 < 64) (l : Landing) :
    (s.landResult u l rest).reg (0x2440 + u / 4) 7 = if flagsOf (s.landed u l) = 0 then s.reg (0x2440 + u / 4) 7
      else (s.reg (0x2440 + u / 4) 7 ||| flagsOf (s.landed u l)) % 2 ^ 8 := by
  rw [State.landResult, State.reg_addFlags_flags _ hg, (State.landRowWritten_moves hf rest u l).only.reg (by decide)]

theorem State.rd_row_landResult (hu : u < 256) (hq : l.set < 4) (hi : l.row < 64)
    (hb : l.blocks.all (fun b => b.length == 64) = true) :
    (s.landResult u l rest).rd (accAt u l.set l.row) 256
      = ((s.landed u l).map (fun v => leBytes 4 (enc 48 v.1 % 2 ^ 32))).flatten := by
  rw [State.rd_landResult]
  refine (State.rd_row_accWrite (s := s.modSpindle u _) hf l.int48 hu hq hi ?_).trans ?_
  · rw [List.length_map, s.landed_length u hb]
  · rw [List.map_map, Function.comp_def]

theorem State.rd_side_landResult (h48 : l.int48 = true) (hb : l.blocks.all (fun b => b.length == 64) = true) :
    (s.landResult u l rest).rd (sideAt u l.set l.row) 128
      = ((s.landed u l).map (fun v => leBytes 2 (enc 48 v.1 / 2 ^ 32))).flatten := by
  rw [State.rd_landResult, State.landRowWritten, h48]
  refine (State.rd_side_accWrite (s := s.modSpindle u _) hf ?_).trans ?_
  · rw [List.length_map, s.landed_length u hb]
  · rw [List.map_map, Function.comp_def]

theorem State.byteAt_landResult_outside (hb : l.blocks.all (fun b => b.length == 64) = true) {x : Nat}
    (hx : ¬ (accAt u l.set l.row ≤ x ∧ x < accAt u l.set l.row + 256))
    (hy : ¬ (l.int48 = true ∧ sideAt u l.set l.row ≤ x ∧ x < sideAt u l.set l.row + 128)) :
    (s.landResult u l rest).byteAt x = s.byteAt x :=
  ((s.landResult_moves_flags u l rest).only.byteAt (by decide) (by decide) x).trans
    (State.byteAt_accWrite_outside (s := s.modSpindle u _) hf l.int48 (by rw [List.length_map, s.landed_length u hb]) hx hy)

/-- Without damage nothing is corrected or poisoned, and a stream that is not abandoned goes on. -/
theorem doResultLand_due (hl : (s.spindle u).landing = l :: rest) (hs : l.steps = 0)
    (ha : (s.skein (u / 4)).abandoned = false) : doResultLand u s = s.landResult u l rest := by
  have undamaged : (s.modSpindle u (fun k => { k with landing := rest })).flips = [] := hf
  have live : ((s.landResult u l rest).skein (u / 4)).abandoned = false := by
    rw [State.landResult, State.abandoned_addFlags, (State.landRowWritten_moves hf rest u l).only.skein (by decide), ha]
  rw [← State.settleAbandon_of_not_abandoned live]
  simp only [doResultLand, hl, hs, State.accBad_undamaged undamaged, State.accRead_undamaged undamaged, ite_self, Bool.and_false,
    Bool.false_eq_true, if_false, ne_eq, not_true]
  rfl

end

end Sys2Proof.Machine
end

section
/-! PROOFS. DRAIN_BEGIN (R80, R81, R104): a head drain begins, is refused, or is over at a poisoned set. -/
namespace Sys2Proof.Machine

open Sys2Proof.Safety

/-- What DRAIN_BEGIN makes of a head drain that may begin. -/
theorem doDrainBegin_ready {s : State} {u : Nat} {j : DrainJob} {rest : List DrainJob} (hd : (s.spindle u).drains = j :: rest)
    (hr : s.drainReady u j = true) (hg : s.guardOk u (drainSteps j) = true) :
    doDrainBegin u s =
      if s.drainUnchecked u j = true ∧ ¬ (s.drainUnits u j).all (fun v => s.drainAgrees v j) = true then s.drainRefused u j
      else if (s.spindle u).poison.contains j.set = true then (s.drainChecked u j).drainOver u j 0x30
      else (s.drainChecked u j).setSpindle u { s.spindle u with drains := { j with begun := true } :: rest } := by
  simp only [doDrainBegin, hd, hr, hg, not_true, or_self, if_false]

/-- The checks pass, or were made before. -/
theorem drainChecks_pass {s : State} {u : Nat} {j : DrainJob}
    (h : s.drainUnchecked u j = true → ∀ v ∈ s.drainUnits u j, s.drainAgrees v j = true) :
    ¬ (s.drainUnchecked u j = true ∧ ¬ (s.drainUnits u j).all (fun v => s.drainAgrees v j) = true) :=
  fun hc => hc.2 (List.all_eq_true.mpr (h hc.1))

theorem State.drainUnits_nodup (s : State) (u : Nat) (j : DrainJob) : (s.drainUnits u j).Nodup :=
  (List.Pairwise.map (4 * (u / 4) + ·) (fun _ _ hne e => hne (Nat.add_left_cancel e)) List.nodup_range).filter _

/-- The drain's descriptor leaves every spindle that it names. -/
def State.drainWithdrawn (s : State) (u : Nat) (j : DrainJob) : State :=
  forEach (s.drainUnits u j) s (fun s v =>
    s.modSpindle v (fun k => { k with drains := k.drains.filter (fun x => x.serial != j.serial) }))

theorem State.drainWithdrawn_moves (s : State) (u : Nat) (j : DrainJob) : Moves [.spindles] s (s.drainWithdrawn u j) :=
  Moves.forEach (fun _ _ => State.modSpindle_moves) Moves.refl

section
variable {s : State} {u : Nat} {j : DrainJob} {rest : List DrainJob} {f : Flight} (hd : (s.spindle u).drains = j :: rest)
  (hr : s.drainReady u j = true) (hg : s.guardOk u (drainSteps j) = true)
include hd hr hg

theorem doDrainBegin_begins (hc : s.drainUnchecked u j = true → ∀ v ∈ s.drainUnits u j, s.drainAgrees v j = true)
    (hp : (s.spindle u).poison.contains j.set = false) :
    doDrainBegin u s = (s.drainChecked u j).setSpindle u { s.spindle u with drains := { j with begun := true } :: rest } := by
  rw [doDrainBegin_ready hd hr hg, if_neg (drainChecks_pass hc), if_neg (Bool.eq_false_iff.mp hp)]

theorem doDrainBegin_refuses (hc : s.drainUnchecked u j = true)
    (ha : (s.drainUnits u j).all (fun v => s.drainAgrees v j) = false)
    (hf : (s.skein (u / 4)).flights.find? (fun f => f.serial == j.serial) = some f) :
    doDrainBegin u s = (s.drainWithdrawn u j).fail (u / 4) f 0x15 := by
  rw [doDrainBegin_ready hd hr hg, if_pos ⟨hc, Bool.eq_false_iff.mp ha⟩]
  simp only [State.drainRefused, hf, State.drainWithdrawn]

end

/-! ### The part of a drain on one spindle is over -/

/-- The drain leaves the spindle, and its descriptor notes the part with its status. -/
def State.drainPartOver (s : State) (u : Nat) (j : DrainJob) (status : Nat) : State :=
  (s.modSpindle u (fun k => { k with drains := k.drains.filter (fun x => x.serial != j.serial) })).modSkein (u / 4)
    (fun k => { k with flights := k.flights.map (fun f =>
      if f.serial = j.serial ∧ opOf f.word = 5 then
        { f with left := f.left.filter (· != u % 4), status := if f.status = 0 then status else f.status } else f) })

theorem State.drainOver_eq (s : State) (u : Nat) (j : DrainJob) (status : Nat) :
    s.drainOver u j status = (s.drainPartOver u j status).settle (u / 4) := rfl

theorem State.drainPartOver_moves (s : State) (u : Nat) (j : DrainJob) (status : Nat) :
    Moves [.skeins, .spindles] s (s.drainPartOver u j status) :=
  State.modSkein_moves.after rfl (State.modSpindle_moves.after rfl Moves.refl)

/-- A lone DRAIN all of whose parts are done and one of which failed ends its stream, and nothing is left to settle. -/
theorem State.settle_lone_drain_failed {s : State} {g : Nat} {f : Flight} {st : Nat} (hfl : (s.skein g).flights = [f])
    (hop : opOf f.word = 5) (hs : f.started = true) (hle : f.left = []) (hun : f.unacked = 0) (hst : f.status = st) (h0 : st ≠ 0)
    (ha : ((s.fail g f st).skein g).abandoned = false) : s.settle g = s.fail g f st := by
  have flight : s.settleFlight g f = s.fail g f st := by
    simp [State.settleFlight, hop, hs, hle, hun, hst, h0]
  rw [State.settle, hfl, List.foldl_cons, List.foldl_nil, flight, State.settleAbandon_of_not_abandoned ha]

/-- The head drain of a poisoned set, its checks made, is over on its spindle. -/
def State.drainPoisoned (s : State) (u : Nat) (j : DrainJob) : State := (s.drainChecked u j).drainPartOver u j 0x30

theorem State.drainPoisoned_moves (s : State) (u : Nat) (j : DrainJob) : Moves [.skeins, .spindles] s (s.drainPoisoned u j) :=
  (State.drainPartOver_moves _ u j 0x30).after rfl (State.drainChecked_moves.after rfl Moves.refl)

theorem State.drains_drainPoisoned (s : State) (u : Nat) (j : DrainJob) :
    ((s.drainPoisoned u j).spindle u).drains = (s.spindle u).drains.filter (fun x => x.serial ≠ j.serial) := by
  have left : ((s.drainPoisoned u j).spindle u).drains = (s.spindle u).drains.filter (fun x => x.serial != j.serial) := by
    rw [State.drainPoisoned, State.drainPartOver, State.modSkein_moves.only.spindle (by decide), State.spindle_modSpindle,
      State.drainChecked_moves.only.spindle (by decide)]
  exact left.trans (List.filter_congr fun x _ => Bool.eq_iff_iff.mpr (by simp only [bne_iff_ne, decide_eq_true_eq]))

theorem State.drainPoisoned_keptSpindles (s : State) (u : Nat) (j : DrainJob) :
    KeptBut State.spindle [u] s (s.drainPoisoned u j) :=
  (KeptBut.of_eq (t := s.drainChecked u j) (State.drainChecked_moves.only.spindle (by decide))).trans
    (((s.drainChecked u j).modSpindle_keptBut u _).trans (KeptBut.of_eq (State.modSkein_moves.only.spindle (by decide))))

/-- A DRAIN whose last part is over with 30h. -/
def Flight.drainPoisoned (f : Flight) : Flight := { f with unacked := 0, left := [], status := 0x30 }

theorem State.flights_drainPoisoned {s : State} {u : Nat} {j : DrainJob} {f : Flight} (hfl : (s.skein (u / 4)).flights = [f])
    (hser : f.serial = j.serial) (hop : opOf f.word = 5) (hst : f.status = 0) (hle : f.left = [u % 4]) :
    ((s.drainPoisoned u j).skein (u / 4)).flights = [f.drainPoisoned] := by
  simp [State.drainPoisoned, State.drainPartOver, State.drainChecked, State.modSpindle, Flight.drainPoisoned, hfl, hser, hop, hst,
    hle]

theorem doDrainBegin_poisoned {s : State} {u : Nat} {j : DrainJob} {rest : List DrainJob} {f : Flight} (hu : u / 4 < 64)
    (hd : (s.spindle u).drains = j :: rest) (hr : s.drainReady u j = true) (hg : s.guardOk u (drainSteps j) = true)
    (hc : s.drainUnchecked u j = true → ∀ v ∈ s.drainUnits u j, s.drainAgrees v j = true)
    (hp : (s.spindle u).poison.contains j.set = true) (hfl : (s.skein (u / 4)).flights = [f]) (hser : f.serial = j.serial)
    (hop : opOf f.word = 5) (hs : f.started = true) (hst : f.status = 0) (hle : f.left = [u % 4])
    (hl : s.streamLive (u / 4) = true) (hq : s.reg 0x2E30 4 = 0xFFFF) :
    doDrainBegin u s = (s.drainPoisoned u j).fail (u / 4) f.drainPoisoned 0x30 := by
  have failed := State.fail_after_units (s.drainPoisoned_moves u j) hu hl hq
    f.drainPoisoned (st := 0x30) (by decide) (by decide) (by decide)
  rw [doDrainBegin_ready hd hr hg, if_neg (drainChecks_pass hc), if_pos hp, State.drainOver_eq]
  exact State.settle_lone_drain_failed (State.flights_drainPoisoned hfl hser hop hst hle) hop hs rfl rfl rfl
    (by decide) (congrArg Skein.abandoned failed.skein)

/-- Settles O33, clause by clause: each command's next state is first written as one expression, of which the laws of the
row's write and of a stream's failure then say what holds and what stays. -/
theorem spindleResults : Obligations.SpindleResults := by
  unfold Obligations.SpindleResults
  refine ⟨?land, ?wait, ?begins, ?refuses, ?poisoned⟩
  case land =>
    intro s u l rest hf hl hs hq hi hb ha
    have hu : u.val / 4 < 64 := by omega
    have spindle := State.spindle_landResult hf rest u l
    refine ⟨_, congrArg Host.Outcome.next (doResultLand_due hf rest hl hs ha), ⟨?_, ?_, ?_, ?_, ?_, ?_⟩,
      (State.landResult_moves hf rest u l).only, State.landResult_keptRegs hf rest u l⟩
    · exact (spindle u).trans (s.spindle_modSpindle u _)
    · exact State.rd_row_landResult hf rest u.isLt hq hi hb
    · exact fun h48 => State.rd_side_landResult hf rest h48 hb
    · exact fun x hx hy => State.byteAt_landResult_outside hf rest hb hx hy
    · exact State.reg_landResult_flags hf rest hu l
    · exact (s.modSpindle_keptBut u _).trans (KeptBut.of_eq spindle)
  case wait => exact fun s u l rest hl hs => congrArg Host.Outcome.next (doResultLand_not_due hl hs)
  case begins =>
    intro s u j rest hd hr hg hc hp
    have check : Moves [.skeins] s (s.drainChecked u j) := State.drainChecked_moves
    have e := doDrainBegin_begins hd hr hg hc hp
    have begun : Moves [.skeins, .spindles] s (doDrainBegin u s) :=
      e ▸ State.setSpindle_moves.after rfl (check.after rfl Moves.refl)
    rw [e] at begun
    refine ⟨_, congrArg Host.Outcome.next e,
      ⟨State.spindle_setSpindle _ _ _, ?_, ?_, ?_⟩, begun.only, RegsKept.refl.of_moves begun (by decide)⟩
    · exact (KeptBut.of_eq (check.only.spindle (by decide))).trans (State.setSpindle_keptBut _ _ _)
    · rw [State.skein_setSpindle, State.drainChecked, State.skein_modSkein]
    · exact (s.modSkein_keptBut (u / 4) _).trans (KeptBut.of_eq (State.setSpindle_moves.only.skein (by decide)))
  case refuses =>
    intro s u j rest f hd hr hg hc ha hf hl hq
    have withdraw : Moves [.skeins, .spindles] s (s.drainWithdrawn u j) := (s.drainWithdrawn_moves u j).mono rfl
    have failed := State.fail_after_units withdraw (by omega) hl hq f (st := 0x15) (by decide) (by decide) (by decide)
    obtain ⟨only, regs, safety⟩ := failed.after_units withdraw
    have spindle := failed.moves.only.spindle (by decide)
    have skein := (s.drainWithdrawn_moves u j).only.skein (by decide)
    refine ⟨_, congrArg Host.Outcome.next (doDrainBegin_refuses hd hr hg hc ha hf),
      ⟨?_, ?_, failed.state, failed.status, failed.position, ?_, safety, ?_⟩, only, regs⟩
    · exact fun v hv => (spindle v).trans (State.spindle_forEach_modSpindle_of_mem _ (s.drainUnits_nodup u j) hv s)
    · exact fun v hv => (spindle v).trans (State.spindle_forEach_modSpindle_of_not_mem _ hv s)
    · rw [failed.skein, skein]; rfl
    · exact (KeptBut.of_eq skein).trans failed.others
  case poisoned =>
    intro s u j rest f hd hr hg hc hp _ hfl hser hop hs hq hst hle hl
    have hu : u.val / 4 < 64 := by omega
    have part := s.drainPoisoned_moves u j
    have failed := State.fail_after_units part hu hl hq f.drainPoisoned (st := 0x30) (by decide) (by decide) (by decide)
    obtain ⟨only, regs, safety⟩ := failed.after_units part
    have spindle := failed.moves.only.spindle (by decide)
    refine ⟨_, congrArg Host.Outcome.next (doDrainBegin_poisoned hu hd hr hg hc hp hfl hser hop hs hst hle hl hq),
      ⟨safety, ?_, ?_, failed.state, failed.position, failed.status⟩, only, regs⟩
    · rw [spindle, State.drains_drainPoisoned]
    · exact (s.drainPoisoned_keptSpindles u j).trans (KeptBut.of_eq spindle)

end Sys2Proof.Machine
end

section
/-! PROOFS. What reset leaves: no spindle holds anything, no byte is set, and no codeword is damaged (R67, R392). -/
namespace Sys2Proof.Machine

open Sys2Proof.Safety

/-! ### A state whose tables are empty -/

theorem State.spindle_of_empty {s : State} (h : s.spindles = []) (u : Nat) : s.spindle u = Spindle.init := by
  rw [State.spindle, h]
  rfl

theorem State.byteAt_of_empty {s : State} (hf : s.flips = []) (hm : s.mem = []) (x : Nat) : s.byteAt x = 0 := by
  rw [State.byteAt_undamaged hf, hm]
  rfl

theorem State.codeAt_undamaged {s : State} (h : s.flips = []) (cw : Nat) : s.codeAt cw = .clean := by
  simp [State.codeAt, h]

/-! ### Every reset of the whole device but that of the debug port empties them -/

theorem State.resetTo_empties (s : State) {cls : ResetClass} (h : cls ≠ .debug) (cause : Nat) :
    (s.resetTo cls cause).spindles = [] ∧ (s.resetTo cls cause).mem = [] ∧ (s.resetTo cls cause).flips = [] := by
  cases cls with
  | power => exact ⟨rfl, rfl, rfl⟩
  | device => exact ⟨rfl, rfl, rfl⟩
  | debug => exact absurd rfl h

/-- Settles O4: the reset state lists no byte and no synchronisation object, and its time is zero. -/
theorem resetMeetsInvariant : Obligations.ResetMeetsInvariant :=
  { memory := rfl
    nanos := (by decide : 0 < 1000000000)
    syncs := fun _ => (by decide : 0 < 2 ^ 32) }

/-- Settles O3: whatever leaves no spindle, no byte and no damage leaves what is asked for, and each of the resets does. -/
theorem resetLeaves : Obligations.ResetLeaves := by
  unfold Obligations.ResetLeaves
  intro clear
  have clear_of_empty : ∀ t : State, t.spindles = [] ∧ t.mem = [] ∧ t.flips = [] → clear t := by
    rintro t ⟨hs, hm, hf⟩
    refine ⟨fun u => ?_, fun x _ _ => ⟨State.byteAt_of_empty hf hm x, State.codeAt_undamaged hf _⟩⟩
    rw [State.spindle_of_empty hs]
    exact ⟨rfl, rfl, rfl⟩
  refine ⟨clear_of_empty _ ⟨rfl, rfl, rfl⟩, fun s => ?powerOn, fun s hi => ?watchdog⟩
  case powerOn =>
    exact ⟨s.resetTo .power 1, rfl, clear_of_empty _ (s.resetTo_empties (by decide) 1)⟩
  case watchdog =>
    have runs : doWatchdog s = s.resetTo .device 8 := if_neg hi
    exact ⟨s.resetTo .device 8, congrArg Host.Outcome.next runs, clear_of_empty _ (s.resetTo_empties (by decide) 8)⟩

end Sys2Proof.Machine
end

section
/-! PROOFS. The end of a stream without an alarm, of whichever descriptor, and what it leaves (R126, R331, R431). -/
namespace Sys2Proof.Safety

open Machine

/-- Stream `g` has ended in ERROR with status `st` at an address and a tag, and nothing else has changed but the retries of
its own pending faults. -/
structure StreamEnded (s t : State) (g st addr tag : Nat) : Prop where
  moves : Moves [.dict, .skeins, .safety, .dbg] s t
  regs : RegsKept (endRegs g) s t
  safety : Unretried s 6 g → t.safety = s.safety
  state : t.reg (0x2440 + g) 1 = 4
  status : t.reg (0x2440 + g) 2 = st
  position : t.reg (0x2440 + g) 3 = addr % 2 ^ 64
  tag : t.reg (0x2440 + g) 6 = tag % 2 ^ 16
  skein : t.skein g = (s.skein g).ended st
  others : KeptBut State.skein [g] s t

end Sys2Proof.Safety

namespace Sys2Proof.Machine

open Sys2Proof.Safety

theorem State.endStream_streamEnded {s : State} {g : Nat} (hg : g < 64) (hq : s.reg 0x2E30 4 = 0xFFFF) {st : Nat}
    (hst : st ∉ [0x31, 0x32, 0x42]) (hlo : 0x10 ≤ st) (hhi : st < 256) (addr tag : Nat) :
    StreamEnded s (s.endStream g st addr tag) g st addr tag := by
  have e : s.endStream g st addr tag = (s.endMarked g st addr tag).ageFault 6 g true false := State.endStream_quiet hst hq
  have mark := s.endMarked_moves g st addr tag
  have age : Moves [.safety] (s.endMarked g st addr tag) (s.endStream g st addr tag) := e ▸ State.ageFault_moves
  have reg := age.only.reg (by decide)
  have skein := age.only.skein (by decide)
  exact
    { moves := age.after rfl (mark.after rfl Moves.refl)
      regs := (s.endMarked_keptRegs g st addr tag).of_moves age (by decide)
      safety := fun hu => by
        have same : (s.endMarked g st addr tag).safety = s.safety := mark.only .safety (by decide)
        rw [e, State.ageFault_of_unretried (hu.of_safety same), same]
      state := (reg _ _).trans (State.reg_endMarked_state _ _ _ _ hlo)
      status := (reg _ _).trans (State.reg_endMarked_status _ _ _ _ hhi)
      position := (reg _ _).trans (State.reg_endMarked_position _ hg _ _ _)
      tag := (reg _ _).trans (State.reg_endMarked_tag _ hg _ _ _)
      skein := (skein g).trans (s.skein_endMarked g st addr tag)
      others := (s.endMarked_keptSkeins g st addr tag).trans (KeptBut.of_eq skein) }

end Sys2Proof.Machine
end

section
/-! PROOFS. The shadow plane and the issue of an instruction (R70, R73 to R75, R83). -/
namespace Sys2Proof.Machine

open Sys2Proof.Safety

/-! ### SHADOW_LOAD_START and SHADOW_LOAD_COMPLETE -/

/-- The tile that a shadow load of an instruction's B block brings, of undamaged slots. -/
def State.shadowTile (s : State) (u : Nat) (i : SpInstr) : Tile :=
  ⟨i.bSlot, i.column, i.fmtB, true, s.rd (slotAt u (8 + i.bSlot)) (4096 * pairSlots i.fmtB),
    if isBlockCode i.fmtB then s.rd (slotAt u 15 + 128 * i.bSlot) 128 else [], false⟩

theorem doShadowLoadStart_loads {s : State} {u : Nat} {i : SpInstr} (hf : s.flips = []) (hw : (s.spindle u).wanted = some i)
    (hb : (s.spindle u).shadowBusy = false) (ht : tileFor (s.spindle u).shadow i = false)
    (hp : (s.spindle u).bPresent i = true) (hh : s.held u = false) (ho : s.oos (u / 32) = false) :
    doShadowLoadStart u s
      = s.setSpindle u { s.spindle u with shadowBusy := true, shadow := some (s.shadowTile u i) } := by
  cases hc : isBlockCode i.fmtB <;>
    simp [doShadowLoadStart, State.shadowTile, hw, hb, ht, hp, hh, ho, hc, State.badRange_undamaged hf,
      State.storeRead_undamaged hf]

theorem doShadowLoadStart_absent {s : State} {u : Nat} {i : SpInstr} (hw : (s.spindle u).wanted = some i)
    (hp : (s.spindle u).bPresent i = false) : doShadowLoadStart u s = s := by
  simp [doShadowLoadStart, hw, hp]

/-! ### INSTRUCTION_ISSUE -/

theorem State.tagFits_of_issueReady {s : State} {u : Nat} {i : SpInstr} (h : s.issueReady u i = true) :
    i.init = true ∨ (s.spindle u).tagOk i = true := by
  simp only [State.issueReady, Bool.and_eq_true, Bool.or_eq_true] at h
  obtain ⟨⟨⟨⟨-, fits⟩, -⟩, -⟩, -⟩ := h
  exact fits

theorem doInstructionIssue_issues {s : State} {u : Nat} {i : SpInstr} {rest : List SpInstr} (hq : (s.spindle u).queue = i :: rest)
    (hr : s.issueReady u i = true) (hg : s.guardOk u (instrSteps i) = true) :
    doInstructionIssue u s = s.setSpindle u ((s.spindle u).issue i) := by
  have fits : ¬ (¬ i.init = true ∧ ¬ (s.spindle u).tagOk i = true) := fun hn =>
    (State.tagFits_of_issueReady hr).elim hn.1 hn.2
  simp only [doInstructionIssue, hq]
  rw [if_neg fits, if_pos ⟨hr, hg⟩]

theorem doInstructionIssue_refuses {s : State} {u : Nat} {i : SpInstr} {rest : List SpInstr} (hq : (s.spindle u).queue = i :: rest)
    (hi : i.init = false) (ht : (s.spindle u).tagOk i = false) (hl : s.streamLive (u / 4) = true) :
    doInstructionIssue u s = ((s.setSpindle u { s.spindle u with queue := rest }).endStream (u / 4) 0x14 i.addr i.tag).settleAbandon
      (u / 4) := by
  have live : (s.setSpindle u { s.spindle u with queue := rest }).streamLive (u / 4) = true := hl
  simp only [doInstructionIssue, hq]
  rw [if_pos ⟨Bool.eq_false_iff.mp hi, Bool.eq_false_iff.mp ht⟩, if_pos live]

/-! What the issue makes of a spindle, field by field. -/

theorem Spindle.issue_eq (k : Spindle) (i : SpInstr) :
    k.issue i = { k with
      queue := k.queue.tail
      running := some (i, 0)
      active := if tileFor k.active i then k.active else k.shadow
      shadow := if tileFor k.active i then k.shadow else none
      poison := if i.init then k.poison.filter (· != i.set) else k.poison
      int48 := if i.init then k.int48.filter (· != i.set) ++ (if pairInt i.fmtA i.fmtB then [i.set] else []) else k.int48 } := by
  unfold Spindle.issue
  cases tileFor k.active i <;> cases i.init <;> rfl

theorem Spindle.issue_rest (k : Spindle) (i : SpInstr) :
    (k.issue i).running = some (i, 0) ∧ (k.issue i).queue = k.queue.tail ∧ (k.issue i).present = k.present
      ∧ (k.issue i).landing = k.landing ∧ (k.issue i).drains = k.drains := by
  rw [Spindle.issue_eq]
  exact ⟨rfl, rfl, rfl, rfl, rfl⟩

/-- The planes stay where the tile is in the active one, and swap where it waits in the shadow plane. -/
theorem Spindle.issue_planes (k : Spindle) (i : SpInstr) :
    (tileFor k.active i = true → (k.issue i).active = k.active ∧ (k.issue i).shadow = k.shadow)
      ∧ (tileFor k.active i = false → (k.issue i).active = k.shadow ∧ (k.issue i).shadow = none) := by
  rw [Spindle.issue_eq]
  constructor <;> intro h <;> simp [h]

/-- INIT clears the poison bit of the set and gives it the tag of the pair. -/
theorem Spindle.issue_init (k : Spindle) {i : SpInstr} (h : i.init = true) :
    (k.issue i).poison.contains i.set = false ∧ (k.issue i).int48.contains i.set = pairInt i.fmtA i.fmtB := by
  rw [Spindle.issue_eq]
  cases hp : pairInt i.fmtA i.fmtB <;> simp [h]

/-- The flags of other sets stay, and without INIT those of every set. -/
theorem Spindle.issue_otherSets (k : Spindle) {i : SpInstr} {q : Nat} (h : q ≠ i.set ∨ i.init = false) :
    (k.issue i).poison.contains q = k.poison.contains q ∧ (k.issue i).int48.contains q = k.int48.contains q := by
  rw [Spindle.issue_eq]
  cases hi : i.init with
  | false => exact ⟨rfl, rfl⟩
  | true =>
    have hq : q ≠ i.set := h.resolve_right (by simp [hi])
    cases pairInt i.fmtA i.fmtB <;> simp [hq]

/-- Settles O32, clause by clause: each command's next state is one expression, whose laws say what holds and what stays. -/
theorem spindlePlanes : Obligations.SpindlePlanes := by
  unfold Obligations.SpindlePlanes
  refine ⟨?loads, ?loaded, ?absent, ?issues, ?refuses⟩
  case loads =>
    intro s u i hf hw hb ht hp hh ho
    exact ⟨_, congrArg Host.Outcome.next (doShadowLoadStart_loads hf hw hb ht hp hh ho),
      ⟨s.spindle_setSpindle _ _, s.setSpindle_keptBut _ _⟩, State.setSpindle_moves.only, RegsKept.refl.setSpindle⟩
  case loaded =>
    intro s u hh
    have done : doShadowLoadComplete u s = s.modSpindle u (fun k => { k with shadowBusy := false }) :=
      if_neg (Bool.eq_false_iff.mp hh)
    exact ⟨_, congrArg Host.Outcome.next done, ⟨s.spindle_modSpindle _ _, s.modSpindle_keptBut _ _⟩,
      State.modSpindle_moves.only, RegsKept.refl.modSpindle⟩
  case absent => exact fun s u i hw hp => congrArg Host.Outcome.next (doShadowLoadStart_absent hw hp)
  case issues =>
    intro s u i rest hq hr hg
    refine ⟨_, congrArg Host.Outcome.next (doInstructionIssue_issues hq hr hg), ?_, State.setSpindle_moves.only,
      RegsKept.refl.setSpindle⟩
    dsimp only
    rw [State.spindle_setSpindle]
    obtain ⟨running, queue, present, landing, drains⟩ := (s.spindle u).issue_rest i
    obtain ⟨stay, swap⟩ := (s.spindle u).issue_planes i
    exact ⟨running, queue.trans (congrArg List.tail hq), present, landing, drains, stay, swap, (s.spindle u).issue_init,
      fun _ => (s.spindle u).issue_otherSets, s.setSpindle_keptBut _ _⟩
  case refuses =>
    intro s u i rest hq hi ht hl he
    have hu : u.val / 4 < 64 := by omega
    have part : Moves [.spindles] s (s.setSpindle u { s.spindle u with queue := rest }) := State.setSpindle_moves
    have ended := State.endStream_streamEnded (s := s.setSpindle u { s.spindle u with queue := rest }) hu he (st := 0x14)
      (by decide) (by decide) (by decide) i.addr i.tag
    have spindle := ended.moves.only.spindle (by decide)
    have skein := part.only.skein (by decide)
    have rested := State.settleAbandon_of_not_abandoned (congrArg Skein.abandoned ended.skein)
    refine ⟨_, congrArg Host.Outcome.next ((doInstructionIssue_refuses hq hi ht hl).trans rested),
      ⟨ended.safety, ended.state, ended.status, ended.position, ended.tag, ?_, ?_, ?_⟩,
      (ended.moves.after rfl (part.after rfl Moves.refl)).only, (RegsKept.refl.of_moves part (by decide)).trans ended.regs⟩
    · exact (spindle u).trans (s.spindle_setSpindle _ _)
    · exact (s.setSpindle_keptBut u _).trans (KeptBut.of_eq spindle)
    · exact (KeptBut.of_eq skein).trans ended.others

end Sys2Proof.Machine
end

section
/-! PROOFS. What the work of streams and spindles leaves to the treadle: its registers, and what each caldera notes of its
handshake (R210 to R218). -/
namespace Sys2Proof.Machine

/-- What a caldera notes of its handshake: it is late, and the frame had an overrun (R218, R309). -/
def State.handshake (s : State) (c : Nat) : Bool × Bool := ((s.caldera c).handshakeLate, (s.caldera c).overrunSeen)

end Sys2Proof.Machine

namespace Sys2Proof.Safety

open Machine

/-! ### The handshakes of the calderas -/

/-- No caldera notes anything else of its handshake. -/
abbrev HandshakesKept (s t : State) : Prop := KeptBut State.handshake [] s t

theorem HandshakesKept.refl {s : State} : HandshakesKept s s := KeptBut.of_eq fun _ => rfl

theorem HandshakesKept.of_moves {ps : List Part} {s t : State} (m : Moves ps s t) (hc : .calderas ∉ ps) : HandshakesKept s t :=
  KeptBut.of_eq fun c => by
    have e : t.calderas = s.calderas := m.only .calderas hc
    rw [State.handshake, State.handshake, State.caldera, e, State.caldera]

theorem HandshakesKept.setCaldera (s : State) {c : Nat} {k : Caldera}
    (h : (k.handshakeLate, k.overrunSeen) = s.handshake c) : HandshakesKept s (s.setCaldera c k) :=
  KeptBut.of_eq fun n => by
    by_cases e : n = c
    · subst e
      rw [State.handshake, State.caldera_setCaldera, h]
    · rw [State.handshake, State.caldera_setCaldera_ne _ _ e, State.handshake]

theorem HandshakesKept.invalidate (s : State) (a n : Nat) : HandshakesKept s (s.invalidate a n) := by
  refine forEach_ind (P := HandshakesKept s) (fun u c _ hu => ?_) HandshakesKept.refl
  dsimp only
  split
  · exact hu
  · refine hu.trans (KeptBut.trans (HandshakesKept.setCaldera u ?_)
      (HandshakesKept.of_moves State.bumpSatBy_moves (by decide)))
    rfl

theorem HandshakesKept.writePkg (s : State) (a : Nat) (bs : List Byte) : HandshakesKept s (s.writePkg a bs) := by
  have written : HandshakesKept s ((s.put a bs).invalidate a bs.length) :=
    (HandshakesKept.of_moves State.put_moves (by decide)).trans (HandshakesKept.invalidate _ _ _)
  unfold State.writePkg
  dsimp only
  split
  · split
    · exact written.trans (HandshakesKept.of_moves State.withScrubPending_moves (by decide))
    · exact written
  · exact written

theorem HandshakesKept.writePiece (s : State) (p : Place) (bs : List Byte) : HandshakesKept s (s.writePiece p bs).1 := by
  unfold State.writePiece
  cases p with
  | pkg a =>
    dsimp only
    split <;> dsimp only
    · exact HandshakesKept.of_moves State.lateRefusal_moves (by decide)
    · exact HandshakesKept.writePkg s a bs
  | host b =>
    dsimp only
    split
    · exact HandshakesKept.of_moves State.hostWrite_moves (by decide)
    · exact HandshakesKept.refl
  | buf k | spad k | lstore k =>
    dsimp only
    exact HandshakesKept.of_moves State.put_moves (by decide)
  | unmapped => exact HandshakesKept.refl

theorem HandshakesKept.ringWrite (s : State) (k : Queue) (n : Nat) (es : List (List Byte)) :
    HandshakesKept s (s.ringWrite k n es) := by
  induction es generalizing s n with
  | nil => exact HandshakesKept.refl
  | cons e r ih => exact (HandshakesKept.writePiece s _ _).trans (ih _ _)

theorem HandshakesKept.queuePut (s : State) (who : Option Nat) (q : Nat) (es : List (List Byte)) :
    HandshakesKept s (s.queuePut who q es).1 := by
  unfold State.queuePut
  dsimp only
  split
  · exact HandshakesKept.refl
  · split
    · exact HandshakesKept.refl
    · split
      · exact HandshakesKept.refl
      · split
        · exact HandshakesKept.of_moves State.setQueue_moves (by decide)
        · exact (HandshakesKept.ringWrite s _ _ _).trans (HandshakesKept.of_moves (ps := [.dict, .queues, .out])
            (State.sendArmed_moves.after rfl (State.count_moves.after rfl (State.setQueue_moves.after rfl Moves.refl)))
            (by decide))

theorem HandshakesKept.crossAll (s : State) : HandshakesKept s s.crossAll := by
  refine forEach_ind (P := HandshakesKept s) (fun u g _ hu => hu.trans ?_) HandshakesKept.refl
  unfold State.crossWake
  split
  · split
    · exact HandshakesKept.setCaldera u rfl
    · exact HandshakesKept.refl
  · exact HandshakesKept.refl

theorem HandshakesKept.outerPush (s : State) (q : Nat) (es : List (List Byte)) : HandshakesKept s (s.outerPush q es).1 := by
  have put := HandshakesKept.queuePut s none q es
  unfold State.outerPush
  dsimp only
  split
  · exact put.trans (HandshakesKept.crossAll _)
  · exact put

/-! ### The treadle's registers and the handshakes -/

/-- Registers outside the treadles and the gates (2310h to 232Fh). -/
def OffTreadles (rs : List (Nat × Nat)) : Prop := ∀ r ∈ rs, r.1 < 0x2310 ∨ 0x2330 ≤ r.1

/-- The registers of the treadles and the gates, and the handshakes, are what they were. -/
structure TreadleKept (s t : State) : Prop where
  regs : ∀ ix sub, 0x2310 ≤ ix → ix < 0x2330 → sub < 256 → t.reg ix sub = s.reg ix sub
  handshakes : HandshakesKept s t

theorem TreadleKept.refl {s : State} : TreadleKept s s := ⟨fun _ _ _ _ _ => rfl, HandshakesKept.refl⟩

theorem TreadleKept.trans {s t u : State} (h : TreadleKept s t) (k : TreadleKept t u) : TreadleKept s u :=
  ⟨fun ix sub hl hh hs => (k.regs ix sub hl hh hs).trans (h.regs ix sub hl hh hs), h.handshakes.trans k.handshakes⟩

theorem TreadleKept.of_regs {rs : List (Nat × Nat)} {s t : State} (h : RegsKept rs s t) (ho : OffTreadles rs)
    (hk : HandshakesKept s t) : TreadleKept s t :=
  ⟨fun ix sub _ _ hs => h ix sub hs fun hm => by have := ho _ hm; omega, hk⟩

theorem TreadleKept.of_regs_moves {ps : List Part} {rs : List (Nat × Nat)} {s t : State} (h : RegsKept rs s t)
    (ho : OffTreadles rs) (m : Moves ps s t) (hc : .calderas ∉ ps) : TreadleKept s t :=
  TreadleKept.of_regs h ho (HandshakesKept.of_moves m hc)

theorem TreadleKept.of_moves {ps : List Part} {s t : State} (m : Moves ps s t) (hd : .dict ∉ ps) (hc : .calderas ∉ ps) :
    TreadleKept s t := TreadleKept.of_regs_moves (rs := []) (RegsKept.refl.of_moves m hd) nofun m hc

theorem TreadleKept.foldl {α : Type} {s t : State} {l : List α} {f : State → α → State} (hf : ∀ u a, TreadleKept u (f u a))
    (h : TreadleKept s t) : TreadleKept s (l.foldl f t) := by
  induction l generalizing t with
  | nil => exact h
  | cons a r ih => exact ih (h.trans (hf t a))

theorem TreadleKept.forEach {s t : State} {l : List Nat} {f : State → Nat → State} (hf : ∀ u a, TreadleKept u (f u a))
    (h : TreadleKept s t) : TreadleKept s (Machine.forEach l t f) := TreadleKept.foldl hf h

section
variable (s : State) {ix sub : Nat} (hs : sub < 256) (hx : ix < 0x2310 ∨ 0x2330 ≤ ix)
include hs hx

theorem TreadleKept.setReg (v : Nat) : TreadleKept s (s.setReg ix sub v) :=
  TreadleKept.of_regs_moves (rs := [(ix, sub)]) (RegsKept.refl.setReg hs List.mem_cons_self)
    (by simpa [OffTreadles] using hx) State.setReg_moves (by decide)

theorem TreadleKept.bumpBy (n : Nat) : TreadleKept s (s.bumpBy ix sub n) := TreadleKept.setReg s hs hx _

theorem TreadleKept.bumpSatBy (n : Nat) : TreadleKept s (s.bumpSatBy ix sub n) := TreadleKept.setReg s hs hx _

theorem TreadleKept.bumpSat : TreadleKept s (s.bumpSat ix sub) := TreadleKept.bumpSatBy s hs hx 1

end

/-! ### Pushes and alarms -/

theorem TreadleKept.outerPush (s : State) (q : Nat) (es : List (List Byte)) : TreadleKept s (s.outerPush q es).1 :=
  TreadleKept.of_regs (RegsKept.refl.outerPush (List.Subset.refl _)) (by unfold OffTreadles; decide)
    (HandshakesKept.outerPush s q es)

theorem TreadleKept.pushNamed (s : State) (q : Nat) (consumer part : Option Nat) (e : List Byte) {ix sub : Nat}
    (hs : sub < 256) (hx : ix < 0x2310 ∨ 0x2330 ≤ ix) : TreadleKept s (s.pushNamed q consumer part e ix sub) := by
  have push := TreadleKept.outerPush s q [e]
  unfold State.pushNamed
  dsimp only
  split
  · exact TreadleKept.bumpSat s hs hx
  · split
    · exact push
    · exact push.trans (TreadleKept.bumpSat _ hs hx)

theorem TreadleKept.logPush (s : State) (code res part src det st : Nat) :
    TreadleKept s (s.logPush code res part src det st) := by
  unfold State.logPush
  dsimp only
  split
  · exact TreadleKept.bumpSat s (by decide) (by decide)
  · split
    · exact (TreadleKept.outerPush s _ _).trans (TreadleKept.of_moves State.withSafety_moves (by decide) (by decide))
    · exact (TreadleKept.outerPush s _ _).trans (TreadleKept.bumpSat _ (by decide) (by decide))

theorem TreadleKept.emcy (s : State) (err code cls part src : Nat) : TreadleKept s (s.emcy err code cls part src) :=
  TreadleKept.of_regs_moves (rs := (List.range 9).map (fun i => (0x1003, i)))
    (RegsKept.refl.emcy fun i hi => List.mem_map.mpr ⟨i, List.mem_range.mpr hi, rfl⟩) (by unfold OffTreadles; decide)
    State.emcy_moves (by decide)

theorem TreadleKept.latch (s : State) (code p src det key : Nat) (b : Bool) :
    TreadleKept s (s.latch code p src det key b) :=
  TreadleKept.of_regs_moves (rs := [1, 5, 6, 7].map (fun i => (0x2B08 + p, i)))
    (RegsKept.refl.latch fun _ hi => List.mem_map_of_mem hi)
    (fun r hr => by obtain ⟨i, -, rfl⟩ := List.mem_map.mp hr; dsimp only; omega) State.latch_moves (by decide)

theorem TreadleKept.raiseKey (s : State) (code : Nat) (scope : Option Nat) (src det key : Nat) :
    TreadleKept s (s.raiseKey code scope src det key) :=
  (TreadleKept.forEach (fun u p => TreadleKept.latch u code p src det key _) TreadleKept.refl).trans <|
    (TreadleKept.bumpSat _ (by decide) (by decide)).trans <| (TreadleKept.emcy _ _ _ _ _ _).trans <|
      (TreadleKept.logPush _ _ _ _ _ _ _).trans <|
        TreadleKept.of_regs_moves (RegsKept.refl.trace (List.Subset.refl _)) (by unfold OffTreadles; decide) State.trace_moves
          (by decide)

theorem TreadleKept.raise (s : State) (code : Nat) (scope : Option Nat) (src det : Nat) :
    TreadleKept s (s.raise code scope src det) := TreadleKept.raiseKey s code scope src det 0

/-! ### Streams and their descriptors -/

theorem TreadleKept.endMarked (s : State) (g st addr tag : Nat) : TreadleKept s (s.endMarked g st addr tag) :=
  TreadleKept.of_regs_moves (s.endMarked_keptRegs g st addr tag)
    (by simp [OffTreadles, endRegs, stateRegs, traceRegs]; omega) (s.endMarked_moves g st addr tag) (by decide)

theorem TreadleKept.endStream (s : State) (g st addr tag : Nat) : TreadleKept s (s.endStream g st addr tag) := by
  have alarm (u : State) : TreadleKept u (u.endAlarm g st) := by
    unfold State.endAlarm
    split
    · exact TreadleKept.raise u _ _ _ _
    · split
      · exact TreadleKept.raiseKey u _ _ _ _ _
      · exact TreadleKept.refl
  have report (u : State) : TreadleKept u (u.endReport g) := by
    unfold State.endReport
    split
    · exact TreadleKept.refl
    · exact TreadleKept.pushNamed u _ _ _ _ (by decide) (by decide)
  rw [State.endStream_eq]
  exact (((TreadleKept.endMarked s g st addr tag).trans (alarm _)).trans
    (TreadleKept.of_moves State.ageFault_moves (by decide) (by decide))).trans (report _)

theorem TreadleKept.dropFlight (s : State) (g n : Nat) : TreadleKept s (s.dropFlight g n) :=
  TreadleKept.of_moves State.dropFlight_moves (by decide) (by decide)

theorem TreadleKept.fail (s : State) (g : Nat) (f : Flight) (st : Nat) : TreadleKept s (s.fail g f st) := by
  unfold State.fail
  dsimp only
  split
  · exact (TreadleKept.dropFlight s g _).trans (TreadleKept.endStream _ _ _ _ _)
  · exact TreadleKept.dropFlight s g _

theorem TreadleKept.failAt (s : State) (g : Nat) (f : Flight) (st addr : Nat) : TreadleKept s (s.failAt g f st addr) := by
  have noted : TreadleKept s (if s.streamLive g then s.setReg (0x2440 + g) 5 addr else s) := by
    split
    · exact TreadleKept.setReg s (by decide) (by omega) _
    · exact TreadleKept.refl
  have failed := noted.trans (TreadleKept.fail _ g f st)
  unfold State.failAt
  dsimp only
  split
  · split
    · exact failed.trans (TreadleKept.raise _ _ _ _ _)
    · exact failed.trans (TreadleKept.raise _ _ _ _ _)
  · exact failed

theorem TreadleKept.readEvents (s : State) (held : List (Nat × Nat)) (da n : Nat) : TreadleKept s (s.readEvents held da n) :=
  TreadleKept.of_regs_moves (RegsKept.refl.readEvents (List.Subset.refl _)) (by unfold OffTreadles; decide)
    State.readEvents_moves (by decide)

theorem TreadleKept.absorbDg (s : State) (g c : Nat) (f : Flight) : TreadleKept s (s.absorbDg g c f) := by
  have read (l : List (Nat × Nat)) : TreadleKept s (l.foldl (fun s r => s.readEvents f.pages r.1 r.2) s) :=
    TreadleKept.foldl (fun u r => TreadleKept.readEvents u _ _ _) TreadleKept.refl
  unfold State.absorbDg
  dsimp only
  split
  · exact (read _).trans (TreadleKept.failAt _ _ _ _ _)
  · exact ((read _).trans (TreadleKept.of_moves State.setCtx_moves (by decide) (by decide))).trans
      (TreadleKept.dropFlight _ _ _)

theorem TreadleKept.settleFlight (s : State) (g : Nat) (f : Flight) : TreadleKept s (s.settleFlight g f) := by
  unfold State.settleFlight
  split
  · exact TreadleKept.refl
  · split
    · exact TreadleKept.fail s _ _ _
    · split
      · split
        · exact TreadleKept.refl
        · exact TreadleKept.absorbDg s _ _ _
      · exact TreadleKept.dropFlight s _ _

theorem TreadleKept.settleAbandon (s : State) (g : Nat) : TreadleKept s (s.settleAbandon g) := by
  unfold State.settleAbandon
  split
  · exact TreadleKept.endStream s _ _ _ _
  · exact TreadleKept.refl

theorem TreadleKept.settle (s : State) (g : Nat) : TreadleKept s (s.settle g) := by
  have each (l : List Flight) : TreadleKept s (l.foldl (fun s f => s.settleFlight g f) s) :=
    TreadleKept.foldl (fun u f => TreadleKept.settleFlight u g f) TreadleKept.refl
  exact (each _).trans (TreadleKept.settleAbandon _ g)

end Sys2Proof.Safety
end

section
/-! PROOFS. A step of the array, of the drains and of the results on their way, as one spindle sees it (R76, R77, R80). -/
namespace Sys2Proof.Safety

open Machine

/-- Work of spindle `u`: no other spindle changes, nothing of the treadle does, and of its own state `p` stays. -/
structure WorkOf {α : Type} (p : Spindle → α) (u : Nat) (s t : State) : Prop where
  treadle : TreadleKept s t
  others : KeptBut State.spindle [u] s t
  own : p (t.spindle u) = p (s.spindle u)

section
variable {α : Type} {p : Spindle → α} {u : Nat} {s t v : State}

theorem WorkOf.refl : WorkOf p u s s := ⟨TreadleKept.refl, KeptBut.of_eq fun _ => rfl, rfl⟩

/-- Then work that touches no spindle. -/
theorem WorkOf.after {ps : List Part} (h : WorkOf p u s t) (k : TreadleKept t v) (m : Moves ps t v) (hs : .spindles ∉ ps) :
    WorkOf p u s v :=
  ⟨h.treadle.trans k, h.others.trans (KeptBut.of_eq (m.only.spindle hs)), (congrArg p (m.only.spindle hs u)).trans h.own⟩

theorem WorkOf.modSpindle {f : Spindle → Spindle} (h : WorkOf p u s t) (hf : ∀ k, p (f k) = p k) :
    WorkOf p u s (t.modSpindle u f) :=
  ⟨h.treadle.trans (TreadleKept.of_moves State.modSpindle_moves (by decide) (by decide)),
    h.others.trans (t.modSpindle_keptBut u f), by rw [State.spindle_modSpindle, hf, h.own]⟩

end

/-! ### Reads of the own store, flags and poison -/

theorem TreadleKept.storeRead (s : State) (u a n : Nat) : TreadleKept s (s.storeRead u a n).1 := by
  unfold State.storeRead
  dsimp only
  split
  · exact TreadleKept.refl
  · exact (TreadleKept.of_moves State.heal_moves (by decide) (by decide)).trans
      (TreadleKept.bumpSatBy _ (by omega) (by omega) _)

theorem TreadleKept.accRead (s : State) (u q i : Nat) (int48 : Bool) : TreadleKept s (s.accRead u q i int48) := by
  cases int48
  · exact TreadleKept.storeRead s u _ _
  · exact (TreadleKept.storeRead s u _ _).trans (TreadleKept.storeRead _ u _ _)

theorem TreadleKept.addFlags (s : State) (g n fl : Nat) : TreadleKept s (s.addFlags g n fl) :=
  TreadleKept.of_regs_moves (s.addFlags_keptRegs g n fl) (fun r hr => by rw [List.mem_singleton.mp hr]; dsimp only; omega)
    State.addFlags_moves (by decide)

section
variable {α : Type} {p : Spindle → α} {u : Nat} {s t : State}

theorem WorkOf.storeRead (h : WorkOf p u s t) (a n : Nat) : WorkOf p u s (t.storeRead u a n).1 :=
  h.after (TreadleKept.storeRead t u a n) State.storeRead_moves (by decide)

theorem WorkOf.addFlags (h : WorkOf p u s t) (g n fl : Nat) : WorkOf p u s (t.addFlags g n fl) :=
  h.after (TreadleKept.addFlags t g n fl) State.addFlags_moves (by decide)

theorem WorkOf.poisonSet (h : WorkOf p u s t) (hp : ∀ k l, p { k with poison := l } = p k) (q a : Nat) :
    WorkOf p u s (t.poisonSet u q a) :=
  (h.modSpindle fun k => hp k _).after (TreadleKept.raise _ _ _ _ _) State.raise_moves (by decide)

end

/-! ### The operations of a step -/

/-- A row of sums starts on its way to its set. -/
theorem WorkOf.sends {u : Nat} {s t : State} (h : WorkOf Spindle.running u s t) (l : Landing) :
    WorkOf Spindle.running u s (t.modSpindle u (fun k => { k with landing := k.landing ++ [l] })) :=
  h.modSpindle fun _ => rfl

/-- A completed A row sends its sums on their way; the instruction goes on. -/
theorem WorkOf.rowDone (s : State) (u : Nat) (i : SpInstr) (r : Nat) : WorkOf Spindle.running u s (s.rowDone u i r) := by
  have readA : WorkOf Spindle.running u s (s.storeRead u (slotAt u i.aSlot + r * pairRowBytes i.fmtA i.fmtB)
      (pairRowBytes i.fmtA i.fmtB)).1 := WorkOf.refl.storeRead _ _
  unfold State.rowDone
  dsimp only
  generalize s.storeRead u (slotAt u i.aSlot + r * pairRowBytes i.fmtA i.fmtB) (pairRowBytes i.fmtA i.fmtB) = x at readA ⊢
  have read : WorkOf Spindle.running u s
      (if isBlockCode i.fmtA then x.1.storeRead u (slotAt u 7 + 128 * i.aSlot) 128 else (x.1, [])).1 := by
    split
    · exact readA.storeRead _ _
    · exact readA
  generalize (if isBlockCode i.fmtA then x.1.storeRead u (slotAt u 7 + 128 * i.aSlot) 128 else (x.1, [])) = y at read ⊢
  have free : WorkOf Spindle.running u s (y.1.withFreeUsed (y.1.freeUsed + 64)) :=
    read.after (TreadleKept.of_moves State.withFreeUsed_moves (by decide) (by decide)) State.withFreeUsed_moves (by decide)
  split
  · split
    · exact (free.sends _).poisonSet (fun _ _ => rfl) _ _
    · exact WorkOf.modSpindle (free.sends _) fun _ => rfl
  · split
    · exact read
    · exact (read.sends _).addFlags _ _ _

/-- What of a spindle a drain leaves alone. -/
def notDrained (k : Spindle) : Option (SpInstr × Nat) × List Landing := (k.running, k.landing)

section
variable {u : Nat} {s t : State}

theorem WorkOf.drainOver (h : WorkOf notDrained u s t) (j : DrainJob) (st : Nat) :
    WorkOf notDrained u s (t.drainOver u j st) := by
  rw [State.drainOver_eq]
  have left : WorkOf notDrained u s
      (t.modSpindle u (fun k => { k with drains := k.drains.filter (fun x => x.serial != j.serial) })) :=
    h.modSpindle fun _ => rfl
  have part : WorkOf notDrained u s (t.drainPartOver u j st) :=
    left.after (TreadleKept.of_moves State.modSkein_moves (by decide) (by decide)) State.modSkein_moves (by decide)
  exact part.after (TreadleKept.settle _ _) State.settle_moves (by decide)

theorem WorkOf.drainStep (s : State) (u : Nat) : WorkOf notDrained u s (s.drainStep u) := by
  unfold State.drainStep
  split
  · exact WorkOf.refl
  · rename_i j rest _
    dsimp only
    generalize (s.spindle u).int48.contains j.set = int48
    have read : WorkOf notDrained u s (s.accRead u j.set j.row int48) :=
      WorkOf.refl.after (TreadleKept.accRead s _ _ _ _) State.accRead_moves (by decide)
    have row (a : Nat) (bs : List Byte) (fl : Nat) :
        WorkOf notDrained u s (((s.accRead u j.set j.row int48).put a bs).addFlags (u / 4) j.serial fl) :=
      (read.after (TreadleKept.of_moves State.put_moves (by decide) (by decide)) State.put_moves (by decide)).addFlags _ _ _
    split
    · exact WorkOf.refl
    · split
      · exact WorkOf.refl.modSpindle fun _ => rfl
      · split
        · exact WorkOf.drainOver (WorkOf.refl.poisonSet (fun _ _ => rfl) _ _) _ _
        · split
          · exact (row _ _ _).drainOver _ _
          · exact (row _ _ _).modSpindle fun _ => rfl

end

end Sys2Proof.Safety

namespace Sys2Proof.Machine

open Sys2Proof.Safety

/-! ### Results on their way -/

/-- Results one step nearer. -/
def nearer (ls : List Landing) : List Landing := ls.map (fun l => { l with steps := l.steps - 1 })

theorem State.landStep_eq (s : State) (u : Nat) :
    s.landStep u = if (s.spindle u).landing = [] then s else s.modSpindle u (fun k => { k with landing := nearer k.landing }) := rfl

theorem State.landStep_keptBut (s : State) (u : Nat) : KeptBut State.spindle [u] s (s.landStep u) := by
  rw [State.landStep_eq]
  split
  · exact KeptBut.of_eq fun _ => rfl
  · exact s.modSpindle_keptBut u _

theorem State.spindle_landStep (s : State) (u : Nat) :
    (s.landStep u).spindle u = { s.spindle u with landing := nearer (s.spindle u).landing } := by
  rw [State.landStep_eq]
  split
  · next h => rw [h, nearer, List.map_nil, ← h]
  · exact s.spindle_modSpindle u _

/-! ### The array -/

/-- An instruction after one more step: it goes on, or has retired. -/
def oneStepOn (x : SpInstr × Nat) : Option (SpInstr × Nat) := if x.2 + 1 < instrSteps x.1 then some (x.1, x.2 + 1) else none

theorem State.arrayStep_idle {s : State} {u : Nat} (h : (s.spindle u).running = none) : s.arrayStep u = (s, false) := by
  simp only [State.arrayStep, h]

/-- The row that a step completes, where it completes one. -/
def State.rowStepped (s : State) (u : Nat) (x : SpInstr × Nat) : State :=
  if (x.2 + 1) % pairSteps x.1.fmtA = 0 then s.rowDone u x.1 (x.2 / pairSteps x.1.fmtA) else s

theorem State.rowStepped_work (s : State) (u : Nat) (x : SpInstr × Nat) : WorkOf Spindle.running u s (s.rowStepped u x) := by
  unfold State.rowStepped
  split
  · exact WorkOf.rowDone s u _ _
  · exact WorkOf.refl

theorem State.arrayStep_running {s : State} {u : Nat} {x : SpInstr × Nat} (h : (s.spindle u).running = some x) :
    s.arrayStep u = ((s.rowStepped u x).modSpindle u (fun k =>
      if x.2 + 1 < instrSteps x.1 then { k with running := some (x.1, x.2 + 1) } else k.retire x.1), true) := by
  simp only [State.arrayStep, h]
  rfl

theorem State.arrayStep_kept (s : State) (u : Nat) :
    TreadleKept s (s.arrayStep u).1 ∧ KeptBut State.spindle [u] s (s.arrayStep u).1 := by
  cases h : (s.spindle u).running with
  | none =>
    rw [State.arrayStep_idle h]
    exact ⟨TreadleKept.refl, KeptBut.of_eq fun _ => rfl⟩
  | some x =>
    have row := s.rowStepped_work u x
    rw [State.arrayStep_running h]
    dsimp only
    exact ⟨row.treadle.trans (TreadleKept.of_moves State.modSpindle_moves (by decide) (by decide)),
      row.others.trans (State.modSpindle_keptBut _ u _)⟩

theorem State.running_arrayStep {s : State} {u : Nat} {x : SpInstr × Nat} (h : (s.spindle u).running = some x) :
    ((s.arrayStep u).1.spindle u).running = oneStepOn x := by
  rw [State.arrayStep_running h, State.spindle_modSpindle, oneStepOn]
  split <;> rfl

/-! ### One operation at each of a list of spindles -/

section
variable {f : State → Nat → State} (hf : ∀ s u, KeptBut State.spindle [u] s (f s u)) {l : List Nat} {v : Nat}
include hf

theorem State.spindle_forEach_of_not_mem (hv : v ∉ l) (s : State) : (forEach l s f).spindle v = s.spindle v := by
  induction l generalizing s with
  | nil => rfl
  | cons u r ih =>
    obtain ⟨hu, hr⟩ := not_or.mp fun h => hv (List.mem_cons.mpr h)
    exact (ih hr _).trans (hf s u v (by simpa using hu))

/-- A spindle of the list meets the operation once, as it was. -/
theorem State.spindle_forEach_of_mem (hl : l.Nodup) (hv : v ∈ l) (s : State) :
    ∃ t : State, t.spindle v = s.spindle v ∧ (forEach l s f).spindle v = (f t v).spindle v := by
  induction l generalizing s with
  | nil => exact absurd hv List.not_mem_nil
  | cons u r ih =>
    obtain ⟨hu, hr⟩ := List.nodup_cons.mp hl
    by_cases e : v = u
    · subst e
      exact ⟨s, rfl, State.spindle_forEach_of_not_mem hf hu _⟩
    · obtain ⟨t, ht, hs⟩ := ih hr ((List.mem_cons.mp hv).resolve_left e) (f s u)
      exact ⟨t, ht.trans (hf s u v (by simpa using e)), hs⟩

end

/-! ### One step of a caldera -/

/-- Spindles of a caldera. -/
def calderaSpindles (c : Nat) : List Nat := (List.range 32).map (fun i => 32 * c + i)

theorem calderaSpindles_nodup (c : Nat) : (calderaSpindles c).Nodup :=
  List.Pairwise.map (32 * c + ·) (fun _ _ hne e => hne (Nat.add_left_cancel e)) List.nodup_range

theorem mem_calderaSpindles {c n : Nat} : n ∈ calderaSpindles c ↔ n / 32 = c := by
  simp only [calderaSpindles, List.mem_map, List.mem_range]
  constructor
  · rintro ⟨i, hi, rfl⟩
    omega
  · exact fun h => ⟨n % 32, by omega, by omega⟩

/-- Results, array and drains of a caldera's spindles take one step. -/
def State.spindlesStepped (s : State) (c : Nat) : State :=
  forEach (calderaSpindles c) (forEach (calderaSpindles c) (forEach (calderaSpindles c) s State.landStep)
    (fun s u => (s.arrayStep u).1)) State.drainStep

/-- The counters of array steps, `k` of them at this step, and what is then complete. -/
def State.stepCounted (s : State) (c k : Nat) : State :=
  forEach ((List.range 8).map (fun i => 8 * c + i))
    (if k = 0 then s else (s.bump (0x2D40 + c) 0x29).bumpBy (0x2D40 + c) 0x2A k) State.settle

theorem State.calderaStep_eq (s : State) (c : Nat) :
    ∃ k, s.calderaStep c = ((s.spindlesStepped c).bump (0x2320 + c) 4).stepCounted c k := by
  have array (us : List Nat) (r : State × Nat) :
      (us.foldl (fun (r : State × Nat) u => let t := r.1.arrayStep u; (t.1, r.2 + b2n t.2)) r).1
        = forEach us r.1 (fun s u => (s.arrayStep u).1) :=
    (List.foldl_hom Prod.fst fun _ _ => rfl).symm
  refine ⟨((calderaSpindles c).foldl (fun (r : State × Nat) u => let t := r.1.arrayStep u; (t.1, r.2 + b2n t.2))
    (forEach (calderaSpindles c) s State.landStep, 0)).2, ?_⟩
  rw [State.spindlesStepped, ← array (calderaSpindles c) (forEach (calderaSpindles c) s State.landStep, 0)]
  rfl

theorem State.stepCounted_moves (s : State) (c k : Nat) :
    Moves [.dict, .mem, .flips, .hostMem, .queues, .skeins, .calderas, .scrubPending, .safety, .dbg, .out] s
      (s.stepCounted c k) :=
  Moves.forEach (fun _ _ => State.settle_moves) <| Moves.ite Moves.refl <|
    State.bumpBy_moves.after rfl (State.bump_moves.after rfl Moves.refl)

theorem State.stepCounted_treadleKept (s : State) (c k : Nat) : TreadleKept s (s.stepCounted c k) := by
  refine TreadleKept.forEach (fun u g => TreadleKept.settle u g) ?_
  split
  · exact TreadleKept.refl
  · exact (TreadleKept.bumpBy s (by decide) (by omega) 1).trans (TreadleKept.bumpBy _ (by decide) (by omega) k)

theorem State.spindlesStepped_treadleKept (s : State) (c : Nat) : TreadleKept s (s.spindlesStepped c) :=
  TreadleKept.forEach (fun u n => (WorkOf.drainStep u n).treadle) <|
    TreadleKept.forEach (fun u n => (u.arrayStep_kept n).1) <|
      TreadleKept.forEach (fun _ _ => TreadleKept.of_moves State.landStep_moves (by decide) (by decide)) TreadleKept.refl

/-- Nothing of another caldera's spindles moves. -/
theorem State.spindle_spindlesStepped_other (s : State) {c n : Nat} (h : n / 32 ≠ c) :
    (s.spindlesStepped c).spindle n = s.spindle n := by
  have hn : n ∉ calderaSpindles c := mt mem_calderaSpindles.mp h
  calc (s.spindlesStepped c).spindle n
    _ = _ := State.spindle_forEach_of_not_mem (fun t u => (WorkOf.drainStep t u).others) hn _
    _ = _ := State.spindle_forEach_of_not_mem (fun t u => (t.arrayStep_kept u).2) hn _
    _ = s.spindle n := State.spindle_forEach_of_not_mem State.landStep_keptBut hn _

/-- A spindle of the caldera: its results come nearer, then its array takes its step, and its drain touches neither. -/
theorem State.spindle_spindlesStepped_own (s : State) {c n : Nat} (h : n / 32 = c) :
    ∃ t : State, t.spindle n = { s.spindle n with landing := nearer (s.spindle n).landing }
      ∧ notDrained ((s.spindlesStepped c).spindle n) = notDrained ((t.arrayStep n).1.spindle n) := by
  have hn : n ∈ calderaSpindles c := mem_calderaSpindles.mpr h
  have nodup := calderaSpindles_nodup c
  obtain ⟨t₁, h₁, land⟩ := State.spindle_forEach_of_mem State.landStep_keptBut nodup hn s
  obtain ⟨t₂, h₂, array⟩ := State.spindle_forEach_of_mem (fun t u => (t.arrayStep_kept u).2) nodup hn
    (forEach (calderaSpindles c) s State.landStep)
  obtain ⟨t₃, h₃, drain⟩ := State.spindle_forEach_of_mem (fun t u => (WorkOf.drainStep t u).others) nodup hn
    (forEach (calderaSpindles c) (forEach (calderaSpindles c) s State.landStep) (fun s u => (s.arrayStep u).1))
  refine ⟨t₂, ?_, ?_⟩
  · rw [h₂, land, State.spindle_landStep, h₁]
  · rw [State.spindlesStepped, drain, (WorkOf.drainStep t₃ n).own, h₃, array]

end Sys2Proof.Machine
end

section
/-! PROOFS. TREADLE_TICK and STEP_HANDSHAKE_COMPLETE (R76, R216 to R218): the release of a step, and an overrun. -/
namespace Sys2Proof.Safety

open Machine

theorem Only.plan {ps : List Part} {s t : State} (h : Only ps s t) (hp : .plans ∉ ps) (p : Nat) : t.plan p = s.plan p := by
  have e : t.plans = s.plans := h .plans hp
  rw [State.plan, e, State.plan]

/-- From `s` to `t` caldera `c` has taken one step. -/
structure StepReleased (s t : State) (c : Nat) : Prop where
  steps : t.reg (0x2320 + c) 4 = (s.reg (0x2320 + c) 4 + 1) % 2 ^ 64
  handshakes : HandshakesKept s t
  running : ∀ n x, n / 32 = c → (s.spindle n).running = some x → (t.spindle n).running = oneStepOn x
  idle : ∀ n, n / 32 = c → (s.spindle n).running = none →
    (t.spindle n).running = none ∧ (t.spindle n).landing = nearer (s.spindle n).landing
  others : ∀ n, n / 32 ≠ c → t.spindle n = s.spindle n

/-- Changes before and after the step that concern neither the count nor spindles nor handshakes. -/
theorem StepReleased.between {s s' t' t : State} {c : Nat} (h : StepReleased s' t' c)
    (hreg : s'.reg (0x2320 + c) 4 = s.reg (0x2320 + c) 4) (hsp : ∀ n, s'.spindle n = s.spindle n) (hk : HandshakesKept s s')
    (treg : t.reg (0x2320 + c) 4 = t'.reg (0x2320 + c) 4) (tsp : ∀ n, t.spindle n = t'.spindle n) (tk : HandshakesKept t' t) :
    StepReleased s t c :=
  { steps := by rw [treg, h.steps, hreg]
    handshakes := (hk.trans h.handshakes).trans tk
    running := fun n x hn hx => by rw [tsp]; exact h.running n x hn (by rwa [hsp])
    idle := fun n hn hx => by rw [tsp, ← hsp]; exact h.idle n hn (by rwa [hsp])
    others := fun n hn => by rw [tsp, h.others n hn, hsp] }

end Sys2Proof.Safety

namespace Sys2Proof.Machine

open Sys2Proof.Safety

/-! Widths of STEPS, SLIP and OVERRUNS of the eight gates (R216), and of the count of faults (R332). -/

theorem steps_width : ∀ c < 8, 256 ^ odBytes (0x2320 + c) 4 = 2 ^ 64 := by decide +kernel

theorem slip_width : ∀ c < 8, 256 ^ odBytes (0x2320 + c) 5 = 2 ^ 16 := by decide +kernel

theorem overruns_width : ∀ c < 8, 256 ^ odBytes (0x2320 + c) 9 = 2 ^ 32 := by decide +kernel

theorem faultCount_width : 256 ^ odBytes 0x2B00 5 = 2 ^ 32 := by decide +kernel

/-- A saturating counter below its end counts. -/
theorem State.reg_bumpSat (s : State) {ix sub w : Nat} (hw : 256 ^ odBytes ix sub = w) (h : s.reg ix sub + 1 < w) :
    (s.bumpSat ix sub).reg ix sub = s.reg ix sub + 1 := by
  have below : Nat.min (s.reg ix sub + 1) (w - 1) = s.reg ix sub + 1 := Nat.min_eq_left (by omega)
  rw [State.bumpSat, State.bumpSatBy, State.reg_setReg, hw, below, Nat.mod_eq_of_lt h]

theorem State.reg_bumpSat_ne (s : State) {ix sub x y : Nat} (hs : sub < 256) (hy : y < 256) (h : (x, y) ≠ (ix, sub)) :
    (s.bumpSat ix sub).reg x y = s.reg x y := s.reg_setReg_ne _ (odKey_ne hs hy h)

theorem State.reg_bump_ne (s : State) {ix sub x y : Nat} (hs : sub < 256) (hy : y < 256) (h : (x, y) ≠ (ix, sub)) :
    (s.bump ix sub).reg x y = s.reg x y := s.reg_setReg_ne _ (odKey_ne hs hy h)

theorem State.modPlan_keptBut (s : State) (p : Nat) (f : Plan → Plan) : KeptBut State.plan [p] s (s.modPlan p f) :=
  fun _ hn => s.plan_setPlan_ne _ (by simpa using hn)

/-! ### A step of the caldera -/

theorem State.calderaStep_released (s : State) {c : Nat} (hc : c < 8) : StepReleased s (s.calderaStep c) c := by
  obtain ⟨k, e⟩ := s.calderaStep_eq c
  have work := s.spindlesStepped_treadleKept c
  have counted := ((s.spindlesStepped c).bump (0x2320 + c) 4).stepCounted_treadleKept c k
  have spindle (n : Nat) : (s.calderaStep c).spindle n = (s.spindlesStepped c).spindle n := by
    rw [e, (State.stepCounted_moves _ c k).only.spindle (by decide), State.bump_moves.only.spindle (by decide)]
  exact
    { steps := by
        rw [e, counted.regs _ 4 (by omega) (by omega) (by decide), State.bump, State.bumpBy, State.reg_setReg, steps_width c hc,
          work.regs _ 4 (by omega) (by omega) (by decide)]
      handshakes := by
        rw [e]
        exact (work.handshakes.trans (HandshakesKept.of_moves State.bump_moves (by decide))).trans counted.handshakes
      running := fun n x hn hx => by
        obtain ⟨t, ht, same⟩ := s.spindle_spindlesStepped_own hn
        obtain ⟨running, -⟩ := Prod.mk.inj same
        rw [spindle, running]
        exact State.running_arrayStep ((congrArg Spindle.running ht).trans hx)
      idle := fun n hn hx => by
        obtain ⟨t, ht, same⟩ := s.spindle_spindlesStepped_own hn
        rw [State.arrayStep_idle ((congrArg Spindle.running ht).trans hx), ht] at same
        obtain ⟨running, landing⟩ := Prod.mk.inj same
        rw [spindle]
        exact ⟨running.trans hx, landing⟩
      others := fun n hn => (spindle n).trans (s.spindle_spindlesStepped_other hn) }

/-! ### The gate -/

theorem State.gateOpen_congr {s t : State} {c : Nat} (hs : ∀ n, t.spindle n = s.spindle n) (ho : t.oos c = s.oos c)
    (hr : (t.caldera c).reserved = (s.caldera c).reserved) (hst : (t.caldera c).stopped = (s.caldera c).stopped) :
    t.gateOpen c = s.gateOpen c := by
  simp only [State.gateOpen, State.calderaBusy, hs, ho, hr, hst]

/-- What the guard holds back is counted. -/
def State.holdCounted (s : State) (c : Nat) : State := if s.guardHolds c then s.bump (0x2320 + c) 0x0B else s

theorem State.holdCounted_moves (s : State) (c : Nat) : Moves [.dict] s (s.holdCounted c) :=
  Moves.ite State.bump_moves Moves.refl

theorem State.reg_holdCounted (s : State) (c : Nat) {x y : Nat} (hy : y < 256) (h : (x, y) ≠ (0x2320 + c, 0x0B)) :
    (s.holdCounted c).reg x y = s.reg x y := by
  unfold State.holdCounted
  split
  · exact s.reg_bump_ne (by decide) hy h
  · rfl

/-- The mark of a stop that is over goes with the first tick after it. -/
def Caldera.ticked (k : Caldera) : Caldera := if k.stopped then k else { k with stopMark := false }

theorem State.releaseStep_open {s : State} {c : Nat} (hc : c < 8) (h : s.gateOpen c = true) :
    s.releaseStep c = ((s.holdCounted c).calderaStep c).modCaldera c Caldera.ticked := by
  have caldera : (s.holdCounted c).caldera c = s.caldera c := by
    rw [State.caldera, (s.holdCounted_moves c).only .calderas (by decide), State.caldera]
  have oos : (s.holdCounted c).oos c = s.oos c := by
    rw [State.oos, s.reg_holdCounted c (by decide) (fun e => by have := (Prod.mk.inj e).1; omega), State.oos]
  have still : (s.holdCounted c).gateOpen c = true :=
    (State.gateOpen_congr ((s.holdCounted_moves c).only.spindle (by decide)) oos (congrArg Caldera.reserved caldera)
      (congrArg Caldera.stopped caldera)).trans h
  exact congrArg (fun t : State => t.modCaldera c Caldera.ticked) (if_pos still)

theorem State.releaseStep_released {s : State} {c : Nat} (hc : c < 8) (h : s.gateOpen c = true) :
    StepReleased s (s.releaseStep c) c := by
  have ticked (k : Caldera) : (k.ticked.handshakeLate, k.ticked.overrunSeen) = (k.handshakeLate, k.overrunSeen) := by
    unfold Caldera.ticked
    split <;> rfl
  rw [State.releaseStep_open hc h]
  exact ((s.holdCounted c).calderaStep_released hc).between (s.reg_holdCounted c (by decide) (by simp))
    ((s.holdCounted_moves c).only.spindle (by decide)) (HandshakesKept.of_moves (s.holdCounted_moves c) (by decide))
    (State.reg_setCaldera _ _ _ _ _) (State.spindle_setCaldera _ _ _) (HandshakesKept.setCaldera _ (ticked _))

/-! ### A tick at one caldera -/

/-- A tick whose handshake has completed releases a step. -/
theorem State.tickCaldera_prompt {s : State} {c : Nat} (h : s.gateOpen c = true) :
    s.tickCaldera c false = (s.modCaldera c (fun k => { k with handshakeLate := false })).releaseStep c := by
  have works : ¬ (s.oos c = true ∧ ¬ s.calderaBusy c = true) := by
    rintro ⟨ho, hb⟩
    simp [State.gateOpen, ho, hb] at h
  exact (if_neg works).trans (if_neg (by decide))

theorem State.gateOpen_handshake (s : State) (c : Nat) (b : Bool) :
    (s.modCaldera c (fun k => { k with handshakeLate := b })).gateOpen c = s.gateOpen c := by
  have caldera : (s.modCaldera c (fun k => { k with handshakeLate := b })).caldera c
      = { s.caldera c with handshakeLate := b } := s.caldera_setCaldera c _
  exact State.gateOpen_congr (fun _ => rfl) rfl (by rw [caldera]) (by rw [caldera])

/-- A tick whose handshake has not completed is noted, and SLIP counts it. -/
def State.overrun (s : State) (c : Nat) : State :=
  (s.modCaldera c (fun k => { k with handshakeLate := true, overrunSeen := true })).bumpSat (0x2320 + c) 5

/-- The first overrun of a row is counted as one, and raises fault 09h. -/
def State.overrunRaised (s : State) (c : Nat) : State :=
  ((s.bumpSat (0x2320 + c) 9).ageFault 9 c false false).raise 9 (some (s.calderaPart c)) c 0

theorem State.tickCaldera_late {s : State} {c : Nat} (h : s.oos c = false) :
    s.tickCaldera c true = if (s.caldera c).handshakeLate then s.overrun c else (s.overrun c).overrunRaised c := by
  have serves : ¬ (s.oos c = true ∧ ¬ s.calderaBusy c = true) := fun hn => by simp [h] at hn
  have tick : s.tickCaldera c true
      = if (!(s.caldera c).handshakeLate) = true then (s.overrun c).overrunRaised c else s.overrun c :=
    (if_neg serves).trans (if_pos rfl)
  rw [tick]
  cases (s.caldera c).handshakeLate <;> rfl

theorem State.overrun_moves (s : State) (c : Nat) : Moves [.dict, .calderas] s (s.overrun c) :=
  State.bumpSat_moves.after rfl (State.modCaldera_moves.after rfl Moves.refl)

theorem State.overrun_keptRegs (s : State) (c : Nat) : RegsKept [(0x2320 + c, 5)] s (s.overrun c) :=
  RegsKept.refl.modCaldera.bumpSat (by decide) List.mem_cons_self

theorem State.handshake_overrun (s : State) (c : Nat) : (s.overrun c).handshake c = (true, true) := by
  have caldera : (s.overrun c).caldera c = { s.caldera c with handshakeLate := true, overrunSeen := true } :=
    s.caldera_setCaldera c _
  rw [State.handshake, caldera]

theorem State.reg_overrun_slip (s : State) {c : Nat} (hc : c < 8) (h : s.reg (0x2320 + c) 5 < 0xFFFF) :
    (s.overrun c).reg (0x2320 + c) 5 = s.reg (0x2320 + c) 5 + 1 :=
  State.reg_bumpSat (s.modCaldera c _) (slip_width c hc) (Nat.add_lt_add_right h 1)

/-! ### The alarm of an overrun -/

/-- An alarm counts itself once. -/
theorem State.reg_raise_count (s : State) (code : Nat) (scope : Option Nat) (src det : Nat) (h : s.reg 0x2B00 5 < 0xFFFFFFFF) :
    (s.raise code scope src det).reg 0x2B00 5 = s.reg 0x2B00 5 + 1 := by
  have latched : (forEach (scopeList scope) s (fun s p => s.latch code p src det 0 (scope == none))).reg 0x2B00 5
      = s.reg 0x2B00 5 := by
    refine forEach_ind (P := fun u => u.reg 0x2B00 5 = s.reg 0x2B00 5) (fun u p _ hu => ?_) rfl
    refine (RegsKept.latch (rs := [1, 5, 6, 7].map (fun i => (0x2B08 + p, i))) RegsKept.refl
      (fun _ hi => List.mem_map_of_mem hi) 0x2B00 5 (by decide) ?_).trans hu
    simp only [List.mem_map, Prod.mk.injEq, not_exists, not_and]
    omega
  have counted := State.reg_bumpSat (forEach (scopeList scope) s (fun s p => s.latch code p src det 0 (scope == none)))
    faultCount_width (by rw [latched]; exact Nat.add_lt_add_right h 1)
  have tail (u : State) (err cls res part st b ty sr d16 : Nat) :
      (((u.emcy err code cls part src).logPush code res part src det st).trace b ty sr d16 det).reg 0x2B00 5 = u.reg 0x2B00 5 :=
    RegsKept.alarmTail (rs := (0x2B00, 9) :: (List.range 9).map (fun i => (0x1003, i)) ++ outerRegs ++ traceRegs) RegsKept.refl
      (by decide) (by decide) (by decide) (by decide) 0x2B00 5 (by decide) (by decide)
  exact (tail _ _ _ _ _ _ _ _ _ _).trans (counted.trans (congrArg (· + 1) latched))

theorem State.overrunRaised_moves (s : State) (c : Nat) :
    Moves [.dict, .mem, .flips, .hostMem, .queues, .calderas, .scrubPending, .safety, .dbg, .out] s (s.overrunRaised c) :=
  State.raise_moves.after rfl (State.ageFault_moves.after rfl (State.bumpSat_moves.after rfl Moves.refl))

theorem State.overrunRaised_keptRegs (s : State) {c : Nat} (hp : s.calderaPart c < 8) :
    RegsKept ((0x2320 + c, 9) :: alarmRegs) s (s.overrunRaised c) :=
  ((RegsKept.refl.bumpSat (by decide) List.mem_cons_self).of_moves State.ageFault_moves (by decide)).raise
    (fun p hs => by cases hs; exact hp) (List.subset_cons_self _ _)

theorem State.handshakes_overrunRaised (s : State) (c : Nat) : HandshakesKept s (s.overrunRaised c) :=
  ((HandshakesKept.of_moves State.bumpSat_moves (by decide)).trans (HandshakesKept.of_moves State.ageFault_moves (by decide))).trans
    (TreadleKept.raise _ _ _ _ _).handshakes

/-- The counter of overruns counts, and no other register of the treadles changes. -/
theorem State.reg_overrunRaised (s : State) {c sub : Nat} (hc : c < 8) (hs : sub < 256) :
    (s.overrunRaised c).reg (0x2320 + c) sub = (s.bumpSat (0x2320 + c) 9).reg (0x2320 + c) sub :=
  ((TreadleKept.raise _ _ _ _ _).regs _ _ (by omega) (by omega) hs).trans (State.ageFault_moves.only.reg (by decide) _ _)

theorem State.reg_overrunRaised_count (s : State) (c : Nat) (h : s.reg 0x2B00 5 < 0xFFFFFFFF) :
    (s.overrunRaised c).reg 0x2B00 5 = s.reg 0x2B00 5 + 1 := by
  have before : ((s.bumpSat (0x2320 + c) 9).ageFault 9 c false false).reg 0x2B00 5 = s.reg 0x2B00 5 :=
    (State.ageFault_moves.only.reg (by decide) _ _).trans (s.reg_bumpSat_ne (by decide) (by decide) (by simp))
  rw [State.overrunRaised, State.reg_raise_count _ _ _ _ _ (by rwa [before]), before]

/-- A late tick at a caldera in service, whatever came before it. -/
structure OverrunTick (s t : State) (c : Nat) : Prop where
  moves : Moves [.dict, .mem, .flips, .hostMem, .queues, .calderas, .scrubPending, .safety, .dbg, .out] s t
  regs : RegsKept ((0x2320 + c, 5) :: (0x2320 + c, 9) :: alarmRegs) s t
  slip : t.reg (0x2320 + c) 5 = s.reg (0x2320 + c) 5 + 1
  handshake : t.handshake c = (true, true)
  overruns : t.reg (0x2320 + c) 9 = s.reg (0x2320 + c) 9 + (if (s.caldera c).handshakeLate then 0 else 1)
  faults : (s.caldera c).handshakeLate = false → s.reg 0x2B00 5 < 0xFFFFFFFF → t.reg 0x2B00 5 = s.reg 0x2B00 5 + 1

theorem State.tickCaldera_overrun {s : State} {c : Nat} (hc : c < 8) (hp : s.calderaPart c < 8) (ho : s.oos c = false)
    (h5 : s.reg (0x2320 + c) 5 < 0xFFFF) (h9 : s.reg (0x2320 + c) 9 < 0xFFFFFFFF) :
    OverrunTick s (s.tickCaldera c true) c := by
  have moves := (s.overrun_moves c).mono (ps := [.dict, .mem, .flips, .hostMem, .queues, .calderas, .scrubPending, .safety,
    .dbg, .out]) rfl
  have kept := s.overrun_keptRegs c
  have regs : RegsKept ((0x2320 + c, 5) :: (0x2320 + c, 9) :: alarmRegs) s (s.overrun c) := kept.mono (by simp)
  have slip := s.reg_overrun_slip hc h5
  have overruns : (s.overrun c).reg (0x2320 + c) 9 = s.reg (0x2320 + c) 9 := kept _ _ (by decide) (by simp)
  have faults : (s.overrun c).reg 0x2B00 5 = s.reg 0x2B00 5 :=
    kept _ _ (by decide) (by simp only [List.mem_singleton, Prod.mk.injEq]; omega)
  have part : (s.overrun c).calderaPart c = s.calderaPart c :=
    kept _ _ (by omega) (by simp only [List.mem_singleton, Prod.mk.injEq]; omega)
  rw [State.tickCaldera_late ho]
  cases hl : (s.caldera c).handshakeLate with
  | true =>
    rw [if_pos rfl]
    exact { moves, regs, slip, handshake := s.handshake_overrun c, overruns := by rw [overruns, if_pos hl, Nat.add_zero],
            faults := fun hf => absurd (hl.symm.trans hf) (by decide) }
  | false =>
    rw [if_neg (by decide)]
    have counted : ((s.overrun c).bumpSat (0x2320 + c) 9).reg (0x2320 + c) 9 = (s.overrun c).reg (0x2320 + c) 9 + 1 :=
      State.reg_bumpSat _ (overruns_width c hc) (by rw [overruns]; exact Nat.add_lt_add_right h9 1)
    exact
      { moves := ((s.overrun c).overrunRaised_moves c).after rfl moves
        regs := regs.trans (((s.overrun c).overrunRaised_keptRegs (by rwa [part])).mono (List.subset_cons_self _ _))
        slip := by
          rw [State.reg_overrunRaised _ hc (by decide), State.reg_bumpSat_ne _ (by decide) (by decide) (by simp), slip]
        handshake := ((s.overrun c).handshakes_overrunRaised c c List.not_mem_nil).trans (s.handshake_overrun c)
        overruns := by
          rw [State.reg_overrunRaised _ hc (by decide), counted, overruns, hl]
          rfl
        faults := fun _ hf => by
          rw [State.reg_overrunRaised_count _ _ (by rwa [faults]), faults] }

/-! ### A tick of a partition -/

/-- The tick is counted. -/
def Plan.ticked (k : Plan) : Plan := { k with tick := k.tick + 1 }

section
variable {s : State} {p : Nat} (ht : (s.plan p).tick < s.reg (0x2310 + p) 4) (hd : (s.plan p).startDue = false)
include ht hd

theorem doTreadleTick_eq (late : Nat) :
    doTreadleTick p late s = (if s.reg (0x2310 + p) 2 = 0 then
      forEach (s.partCalderas p) s (fun s c => s.tickCaldera c (bit late c)) else s).modPlan p Plan.ticked := by
  refine if_neg ?_
  rintro (hle | hdue)
  · omega
  · exact Bool.eq_false_iff.mp hd hdue

theorem doTreadleTick_free (late : Nat) (hm : s.reg (0x2310 + p) 2 ≠ 0) : doTreadleTick p late s = s.modPlan p Plan.ticked := by
  rw [doTreadleTick_eq ht hd, if_neg hm]

theorem doTreadleTick_lone {late c : Nat} {b : Bool} (hm : s.reg (0x2310 + p) 2 = 0) (hc : s.partCalderas p = [c])
    (hb : bit late c = b) : doTreadleTick p late s = (s.tickCaldera c b).modPlan p Plan.ticked := by
  rw [doTreadleTick_eq ht hd, if_pos hm, hc, ← hb]
  rfl

end

/-- The tick of a plan, after work that leaves the plans alone. -/
theorem State.plan_ticked {ps : List Part} {s t : State} (m : Moves ps s t) (hp : .plans ∉ ps) (p : Nat) :
    ((t.modPlan p Plan.ticked).plan p).tick = (s.plan p).tick + 1 := by
  rw [State.modPlan, State.plan_setPlan, m.only.plan hp]
  rfl

/-- The caldera that a partition consists of belongs to it. -/
theorem State.calderaPart_of_lone {s : State} {p c : Nat} (h : s.partCalderas p = [c]) : s.calderaPart c = p := by
  have mem : c ∈ s.partCalderas p := h ▸ List.mem_cons_self
  simpa using (List.mem_filter.mp mem).2

/-- Settles O34, clause by clause: a tick counts, and at its one caldera it is either a released step or an overrun. -/
theorem treadleTicks : Obligations.TreadleTicks := by
  unfold Obligations.TreadleTicks
  refine ⟨?rests, ?free, ?prompt, ?late, ?handshake, ?paced⟩
  case rests => exact fun s p late h => congrArg Host.Outcome.next (if_pos h)
  case free =>
    intro s p late hm ht hd
    exact ⟨_, congrArg Host.Outcome.next (doTreadleTick_free ht hd late hm),
      ⟨s.plan_setPlan _ _, s.modPlan_keptBut p _⟩, State.modPlan_moves.only, RegsKept.refl.modPlan⟩
  case prompt =>
    intro s p late c u hm hc ht hd hb hg hu
    have released := State.releaseStep_released (s := s.modCaldera c (fun k => { k with handshakeLate := false })) c.isLt
      ((s.gateOpen_handshake c false).trans hg)
    rw [← State.tickCaldera_prompt hg] at released
    refine ⟨_, congrArg Host.Outcome.next (doTreadleTick_lone ht hd hm hc hb), ?_, ?_, released.steps, ?_, ?_, ?_, ?_⟩
    · exact (State.modPlan_moves.after rfl (State.tickCaldera_moves.mono (by decide))).only
    · exact State.plan_ticked State.tickCaldera_moves (by decide) p
    · exact (congrArg Prod.fst (released.handshakes c List.not_mem_nil)).trans
        (congrArg Caldera.handshakeLate (s.caldera_setCaldera c _))
    · exact fun x hx => released.running u x hu hx
    · exact fun hx => released.idle u hu hx
    · exact released.others
  case late =>
    intro s p late c hm hc ht hd hb ho h5 h9
    have hp : s.calderaPart c < 8 := State.calderaPart_of_lone hc ▸ p.isLt
    have overrun := State.tickCaldera_overrun c.isLt hp ho h5 h9
    refine ⟨_, congrArg Host.Outcome.next (doTreadleTick_lone ht hd hm hc hb),
      ⟨State.plan_ticked overrun.moves (by decide) p, overrun.slip, congrArg Prod.fst overrun.handshake,
        congrArg Prod.snd overrun.handshake, overrun.overruns, overrun.faults⟩, ?_, overrun.regs.modPlan⟩
    exact (State.modPlan_moves.after rfl (overrun.moves.mono (by decide))).only
  case handshake =>
    intro s c u hm hg hu
    have released := State.releaseStep_released c.isLt hg
    have done : doStepHandshakeComplete c.val s = s.releaseStep c := if_neg hm
    exact ⟨_, congrArg Host.Outcome.next done, (State.releaseStep_moves.mono (by decide)).only, released.steps,
      fun x hx => released.running u x hu hx, released.others⟩
  case paced => exact fun s c h => congrArg Host.Outcome.next (if_pos h)

end Sys2Proof.Machine
end

section
/-! PROOFS. A step: the front command, or one cycle of the fabric clock (R304, R306, R399). -/
namespace Sys2Proof.Machine

open Sys2Proof.Safety

/-- The timebase of one cycle of exactly 1 ns. -/
theorem Timebase.advance_one_ns {t : Timebase} (hf : t.frac < 2 ^ 48) :
    t.advance (2 ^ 48) = { t with
      seconds := (t.seconds + (t.nanos + 1) / 1000000000) % 2 ^ 64, nanos := (t.nanos + 1) % 1000000000 } := by
  have total : (((t.nanos * 2 ^ 48 + t.frac : Nat) : Int) + 2 ^ 48).toNat = t.frac + (t.nanos + 1) * 2 ^ 48 := by omega
  have whole : (t.frac + (t.nanos + 1) * 2 ^ 48) / 2 ^ 48 = t.nanos + 1 := by
    rw [Nat.add_mul_div_right _ _ (by decide), Nat.div_eq_of_lt hf, Nat.zero_add]
  have part : (t.frac + (t.nanos + 1) * 2 ^ 48) % 2 ^ 48 = t.frac := by
    rw [Nat.add_mul_mod_self_right, Nat.mod_eq_of_lt hf]
  simp only [Timebase.advance, total, whole, part]

theorem State.increment_of_freq_zero {s : State} (h : s.reg 0x2900 4 = 0) : s.increment = 2 ^ 48 := by
  have freq : s.freq = 0 := by rw [State.freq, h]; rfl
  rw [State.increment, freq]
  rfl

theorem State.slewStep_of_none {s : State} (h : s.time.slewLeft = 0) : s.slewStep = 0 := by
  rw [State.slewStep, h]
  dsimp only [clampI]
  rw [if_neg (by omega), if_neg (by omega)]

/-- With FREQ 0 and nothing to slew, a cycle adds 1 ns to the timebase. -/
theorem State.tickTime_one_ns {s : State} (hr : s.reg 0x2900 4 = 0) (hl : s.time.slewLeft = 0) (hf : s.time.frac < 2 ^ 48) :
    s.tickTime.time = { s.time with
      seconds := (s.time.seconds + (s.time.nanos + 1) / 1000000000) % 2 ^ 64, nanos := (s.time.nanos + 1) % 1000000000,
      cycles := s.time.cycles + 1 } := by
  have tick : s.tickTime.time = { s.time.advance (s.increment + s.slewStep) with
      slewLeft := s.time.slewLeft - s.slewStep, cycles := s.time.cycles + 1 } := rfl
  rw [tick, State.slewStep_of_none hl, State.increment_of_freq_zero hr, Int.add_zero, Int.sub_zero, Timebase.advance_one_ns hf]

/-- Only the always-on domain's release lets the clock run; what leaves the trace FIFO takes no time. -/
theorem State.time_fabricCycle {s : State} (h : s.boot.aon = true) : s.fabricCycle.time = s.tickTime.time := by
  rw [State.fabricCycle, if_pos h]
  exact State.traceOut_moves.only .time (by decide)

/-- Settles O1: both arms are those of `step`, and the second one is a fabric cycle. -/
theorem stepTakesTheFrontCommand : Obligations.StepTakesTheFrontCommand := by
  unfold Obligations.StepTakesTheFrontCommand
  refine ⟨fun _ _ _ => rfl, fun s he => ?_⟩
  have empty : step s = .next s.fabricCycle := by rw [step, he]
  refine ⟨s.fabricCycle, empty, State.fabricCycle_moves.only, fun h => ?_, fun h hr hl hi hf => ?_⟩
  · exact if_neg (Bool.eq_false_iff.mp h)
  · have below : s.time.nanos < 1000000000 := hi.nanos
    rw [State.time_fabricCycle h, State.tickTime_one_ns hr hl hf]
    dsimp only
    exact ⟨rfl, fun hn => ⟨by omega, by congr 1; omega⟩, fun hn => ⟨by omega, by congr 1; omega⟩⟩

end Sys2Proof.Machine
end

section
/-! PROOFS. The timebase and its servo (R303 to R308): STEP, SLEW, a Sync of the upstream port, Delay_Req and holdover. -/
namespace Sys2Proof.Machine

open Sys2Proof.Safety

/-! Widths of FREQ, OFFSET_MEAS and STEPS (R305), of the count of held transmissions (R315), and of the count of warnings
(R336). -/

theorem freq_width : 256 ^ odBytes 0x2900 4 = 2 ^ 32 := by decide +kernel

theorem offsetMeas_width : 256 ^ odBytes 0x2900 0x0D = 2 ^ 32 := by decide +kernel

theorem timebaseSteps_width : 256 ^ odBytes 0x2900 0x0E = 2 ^ 32 := by decide +kernel

theorem macHeld_width : ∀ m < 6, 4 ≤ m → 256 ^ odBytes (0x2A00 + m) 9 = 2 ^ 32 := by decide +kernel

theorem warningCount_width : 256 ^ odBytes 0x2B00 8 = 2 ^ 32 := by decide +kernel

theorem enc_lt (w : Nat) (i : Int) : enc w i < 2 ^ w := by
  have pos : (0 : Int) < (2 ^ w : Nat) := Int.natCast_pos.mpr (Nat.two_pow_pos w)
  have low := Int.emod_nonneg i (Int.ne_of_gt pos)
  have high := Int.emod_lt_of_pos i pos
  unfold enc
  omega

/-- A value that its register has room for is stored whole. -/
theorem State.reg_setReg_fits (s : State) {ix sub v w : Nat} (hw : 256 ^ odBytes ix sub = w) (h : v < w) :
    (s.setReg ix sub v).reg ix sub = v := by
  rw [State.reg_setReg, hw, Nat.mod_eq_of_lt h]

/-- Whether a launch queue is enabled is a matter of 2A10h to 2A17h alone. -/
theorem State.launchOn_of_regs {rs : List (Nat × Nat)} {s t : State} (h : RegsKept rs s t) (hr : ∀ r ∈ rs, r.1 < 0x2A10) :
    t.launchOn = s.launchOn := by
  unfold State.launchOn
  congr 1
  funext l
  rw [h _ _ (by decide) fun hm => Nat.not_lt.mpr (Nat.le_add_right 0x2A10 l) (hr _ hm)]

/-! ### CONTROL (R305, R306) -/

theorem State.odWrite_timeControl {s : State} {a : Agent} {v : Nat} (h : Admitted s a 0x2900 8 1 v) :
    s.odWrite a 0x2900 8 1 v = (s.timeControl v).1.reply (agentNo a) (s.timeControl v).2 0 :=
  State.odWrite_admitted h (by decide)

theorem State.timeControl_step {s : State} (h : s.launchOn = false) :
    s.timeControl 1 = (s.stepTo (s.reg 0x2900 5) (s.reg 0x2900 6), 0) :=
  (if_pos rfl).trans (if_neg (Bool.eq_false_iff.mp h))

theorem State.timeControl_refused {s : State} (h : s.launchOn = true) : s.timeControl 1 = (s, 0x08000022) :=
  (if_pos rfl).trans (if_pos h)

theorem State.stepTo_keptRegs (s : State) (sec ns : Nat) : RegsKept [(0x2900, 0x0E)] s (s.stepTo sec ns) :=
  RegsKept.refl.modTime.bumpSat (by decide) List.mem_cons_self

theorem State.reg_stepTo_count {s : State} (h : s.reg 0x2900 0x0E < 0xFFFFFFFF) (sec ns : Nat) :
    (s.stepTo sec ns).reg 0x2900 0x0E = s.reg 0x2900 0x0E + 1 :=
  State.reg_bumpSat (s.modTime _) timebaseSteps_width (Nat.add_lt_add_right h 1)

/-- The timebase after a step to an instant in nanoseconds. -/
theorem State.time_stepTo_ns (s : State) (n : Nat) :
    (s.stepTo (n / 1000000000) (n % 1000000000)).time = { s.time with
      seconds := n / 1000000000 % 2 ^ 64, nanos := n % 1000000000, frac := 0, syncDelta := none,
      peers := s.time.peers.map (fun x => (x.1, { x.2 with last := none })) } := by
  have stepped : (s.stepTo (n / 1000000000) (n % 1000000000)).time = { s.time with
      seconds := (n / 1000000000 + n % 1000000000 / 1000000000) % 2 ^ 64, nanos := n % 1000000000 % 1000000000, frac := 0,
      syncDelta := none, peers := s.time.peers.map (fun x => (x.1, { x.2 with last := none })) } := rfl
  have carry : n % 1000000000 / 1000000000 = 0 := by omega
  rw [stepped, carry, Nat.add_zero, Nat.mod_mod]

/-! ### A Sync of the upstream port (R307) -/

/-- Consecutive Syncs below 100 ns, after one of offset `off`. -/
def servoCount (off : Int) (n : Nat) : Nat := if off.natAbs < 100 then n + 1 else 0

theorem servoCount_eq (off : Int) (n : Nat) : servoCount off n = if 100 ≤ off.natAbs then 0 else n + 1 := by
  unfold servoCount
  split <;> split <;> omega

/-- STATE after a Sync of offset `off`, with `n` Syncs below 100 ns in a row before it. -/
def servoLock (off : Int) (n st : Nat) : Nat :=
  if 1000 ≤ off.natAbs then 1 else if off.natAbs < 100 ∧ 16 ≤ n + 1 then 2 else if st = 2 then 2 else 1

theorem servoLock_lt (off : Int) (n st : Nat) : servoLock off n st < 256 := by
  unfold servoLock
  repeat' split
  all_goals decide

theorem State.servoState_eq (s : State) (off : Int) :
    s.servoState off = (s.modTime (fun t => { t with lockCount := servoCount off s.time.lockCount })).setReg 0x2900 0x0C
      (servoLock off s.time.lockCount (s.reg 0x2900 0x0C)) := by
  unfold State.servoState servoCount servoLock
  by_cases far : 1000 ≤ off.natAbs
  · have wide : ¬ off.natAbs < 100 := by omega
    rw [if_pos far, if_pos far, if_neg wide]
  · by_cases near : off.natAbs < 100
    · simp [far, near]
    · simp [far, near]

theorem State.reg_servoState_lock (s : State) (off : Int) :
    (s.servoState off).reg 0x2900 0x0C = servoLock off s.time.lockCount (s.reg 0x2900 0x0C) := by
  rw [State.servoState_eq, State.reg_setReg_byte _ _ _ _ (servoLock_lt _ _ _)]

theorem State.servoState_keptRegs (s : State) (off : Int) : RegsKept [(0x2900, 0x0C)] s (s.servoState off) := by
  rw [State.servoState_eq]
  exact RegsKept.refl.modTime.setReg (by decide) List.mem_cons_self

theorem State.time_servoState (s : State) (off : Int) :
    (s.servoState off).time = { s.time with lockCount := servoCount off s.time.lockCount } := by
  rw [State.servoState_eq]
  rfl

theorem State.warnEnd_of_not_warned {s : State} {code source : Nat} (h : (code, source) ∉ s.safety.warnings) :
    s.warnEnd code source = s := if_neg (by simpa using h)

/-- What a Sync notes before it corrects anything: the path delay's first part, and OFFSET_MEAS. -/
def State.syncNoted (s : State) (m : Nat) (origin off : Int) : State :=
  (s.modTime (fun t => { t with syncDelta := some (s.ingressAt m - origin) })).setReg 0x2900 0x0D
    (enc 32 (clampI (-(2 ^ 31)) (2 ^ 31 - 1) off))

theorem State.syncNoted_moves (s : State) (m : Nat) (origin off : Int) : Moves [.dict, .time] s (s.syncNoted m origin off) :=
  State.setReg_moves.after rfl ((State.modTime_moves fun h => h).mono rfl)

theorem State.syncNoted_keptRegs (s : State) (m : Nat) (origin off : Int) :
    RegsKept [(0x2900, 0x0D)] s (s.syncNoted m origin off) :=
  RegsKept.refl.modTime.setReg (by decide) List.mem_cons_self

theorem State.safety_syncServed (s : State) (m : Nat) (origin off : Int) :
    (((s.syncNoted m origin off).servoCorrect off).servoState off).safety = s.safety :=
  (State.servoState_moves.after rfl (State.servoCorrect_moves.after rfl (s.syncNoted_moves m origin off))).only .safety (by decide)

/-- A Sync on the upstream port in its domain is noted and corrects the timebase, and ends no warning where none is in
force. -/
theorem doPtpSync_serves {s : State} {m : Nat} {origin rate : Int} (hs : s.reg 0x2900 0x0B = 1) (hu : s.upstream m = true)
    (hw : (0x81, 0) ∉ s.safety.warnings) (hc : s.ptpMode m ≠ 2 ∨ s.asCapable m = true) :
    doPtpSync m (s.reg (0x2910 + m) 3) origin rate s
      = ((s.syncNoted m origin (s.syncOffset m origin rate)).servoCorrect (s.syncOffset m origin rate)).servoState
          (s.syncOffset m origin rate) := by
  have taken : ¬ (s.reg 0x2900 0x0B ≠ 1 ∨ ¬ s.upstream m = true ∨ s.reg (0x2910 + m) 3 ≠ s.reg (0x2910 + m) 3
      ∨ (s.ptpMode m = 2 ∧ ¬ s.asCapable m = true)) := by
    rintro (source | up | domain | ⟨relay, capable⟩)
    · exact source hs
    · exact up hu
    · exact domain rfl
    · exact hc.elim (fun other => other relay) capable
  have quiet := hw
  rw [← s.safety_syncServed m origin (s.syncOffset m origin rate)] at quiet
  exact (if_neg taken).trans (State.warnEnd_of_not_warned quiet)

theorem doPtpSync_ignores {s : State} {m d : Nat} (origin rate : Int) (h : s.reg 0x2900 0x0B ≠ 1 ∨ s.upstream m = false
    ∨ d ≠ s.reg (0x2910 + m) 3 ∨ (s.ptpMode m = 2 ∧ s.asCapable m = false)) : doPtpSync m d origin rate s = s :=
  if_pos (by simpa using h)

/-- An offset that is slewed: FREQ follows it and the sum of the offsets before it. -/
def State.servoSlewed (s : State) (off : Int) : State :=
  (s.modTime (fun t => { t with slewLeft := t.slewLeft + off * 2 ^ 48, servoSum := s.time.servoSum + off })).setReg 0x2900 4
    (enc 32 (clampI (-128000000) 128000000 (32 * off + 2 * (s.time.servoSum + off))))

theorem State.servoCorrect_slews {s : State} {off : Int} (h : s.launchOn = true ∨ off.natAbs ≤ s.reg 0x2900 0x10) :
    s.servoCorrect off = s.servoSlewed off := by
  refine if_neg fun hn => ?_
  obtain ⟨far, off⟩ := hn
  exact h.elim off (Nat.not_le.mpr far)

theorem State.servoCorrect_steps {s : State} {off : Int} (hl : s.launchOn = false) (h : s.reg 0x2900 0x10 < off.natAbs) :
    s.servoCorrect off = s.stepTo (((s.now : Int) + off).toNat / 1000000000) (((s.now : Int) + off).toNat % 1000000000) :=
  if_pos ⟨h, Bool.eq_false_iff.mp hl⟩

theorem State.servoSlewed_keptRegs (s : State) (off : Int) : RegsKept [(0x2900, 4)] s (s.servoSlewed off) :=
  RegsKept.refl.modTime.setReg (by decide) List.mem_cons_self

section
variable {s : State} {m : Nat} {origin off : Int}

theorem State.servoCorrect_syncNoted_slews (h : s.launchOn = true ∨ off.natAbs ≤ s.reg 0x2900 0x10) :
    (s.syncNoted m origin off).servoCorrect off = (s.syncNoted m origin off).servoSlewed off := by
  have noted := s.syncNoted_keptRegs m origin off
  apply State.servoCorrect_slews
  rwa [State.launchOn_of_regs noted (by decide), noted 0x2900 0x10 (by decide) (by decide)]

theorem State.servoCorrect_syncNoted_steps (hl : s.launchOn = false) (h : s.reg 0x2900 0x10 < off.natAbs) :
    (s.syncNoted m origin off).servoCorrect off
      = (s.syncNoted m origin off).stepTo (((s.now : Int) + off).toNat / 1000000000) (((s.now : Int) + off).toNat % 1000000000) := by
  have noted := s.syncNoted_keptRegs m origin off
  apply State.servoCorrect_steps
  · rwa [State.launchOn_of_regs noted (by decide)]
  · rwa [noted 0x2900 0x10 (by decide) (by decide)]

/-- What the slewed Sync leaves in the registers of 2900h. -/
theorem State.reg_syncSlewed :
    ((s.syncNoted m origin off).servoSlewed off).reg 0x2900 0x0D = enc 32 (clampI (-(2 ^ 31)) (2 ^ 31 - 1) off)
      ∧ ((s.syncNoted m origin off).servoSlewed off).reg 0x2900 4
          = enc 32 (clampI (-128000000) 128000000 (32 * off + 2 * (s.time.servoSum + off)))
      ∧ ((s.syncNoted m origin off).servoSlewed off).reg 0x2900 0x0C = s.reg 0x2900 0x0C := by
  have slewed := (s.syncNoted m origin off).servoSlewed_keptRegs off
  refine ⟨?_, ?_, ?_⟩
  · exact (slewed 0x2900 0x0D (by decide) (by decide)).trans
      (State.reg_setReg_fits _ offsetMeas_width (enc_lt 32 _))
  · exact State.reg_setReg_fits _ freq_width (enc_lt 32 _)
  · exact (slewed 0x2900 0x0C (by decide) (by decide)).trans
      (s.syncNoted_keptRegs m origin off 0x2900 0x0C (by decide) (by decide))

end

/-! ### Departures that the guard of a launch may hold (R315, R328), and Delay_Req (R307) -/

section
variable {s : State} {m : Nat} {e : Egress}

theorem State.countHeld_free (h : e.held = false ∨ m < 4) : s.countHeld m e = s := by
  refine if_neg fun hn => ?_
  obtain ⟨held, output⟩ := hn
  exact h.elim (fun free => Bool.eq_false_iff.mp free held) (Nat.not_lt.mpr output)

theorem State.countHeld_keptRegs (s : State) (m : Nat) (e : Egress) : RegsKept [(0x2A00 + m, 9)] s (s.countHeld m e) := by
  unfold State.countHeld
  split
  · exact RegsKept.refl.bumpSat (by decide) List.mem_cons_self
  · exact RegsKept.refl

theorem State.reg_countHeld (hm : m < 6) (h : s.reg (0x2A00 + m) 9 < 0xFFFFFFFF) :
    (s.countHeld m e).reg (0x2A00 + m) 9 = s.reg (0x2A00 + m) 9 + (if e.held ∧ 4 ≤ m then 1 else 0) := by
  unfold State.countHeld
  split
  · next held => exact State.reg_bumpSat s (macHeld_width m hm held.2) (Nat.add_lt_add_right h 1)
  · rfl

end

/-- The Delay_Req has left. -/
def State.delayReqSent (s : State) (m : Nat) (e : Egress) : State := (s.countHeld m e).emit (.delayReq m (s.egressAt m e))

/-- The path delay that a Delay_Req of stamp `t3` and its answer give, once a Sync has been received. -/
def delayMeasured (r : Option Int) (t3 : Int) (t : Timebase) : Int :=
  match r, t.syncDelta with
  | some t4, some d => (d + (t4 - t3)) / 2
  | _, _ => t.pathDelay

theorem delayMeasured_answered {t4 t3 d : Int} {t : Timebase} (h : t.syncDelta = some d) :
    delayMeasured (some t4) t3 t = (d + (t4 - t3)) / 2 := by
  simp only [delayMeasured, h]

theorem delayMeasured_unanswered {r : Option Int} {t : Timebase} (t3 : Int) (h : r = none ∨ t.syncDelta = none) :
    delayMeasured r t3 t = t.pathDelay := by
  cases r with
  | none => rfl
  | some t4 => simp only [delayMeasured, h.resolve_left nofun]

theorem State.time_delayReqSent (s : State) (m : Nat) (e : Egress) : (s.delayReqSent m e).time = s.time :=
  State.countHeld_moves.only .time (by decide)

theorem State.out_delayReqSent (s : State) (m : Nat) (e : Egress) :
    (s.delayReqSent m e).out = .delayReq m (s.egressAt m e) :: s.out :=
  congrArg (_ :: ·) (State.countHeld_moves.only .out (by decide))

theorem doDelayReqSend_sends {s : State} {m : Nat} (e : Egress) (r : Option Int) (hs : s.reg 0x2900 0x0B = 1)
    (hu : s.upstream m = true) (hm : s.ptpMode m = 1) :
    doDelayReqSend m e r s
      = (s.delayReqSent m e).modTime (fun t => { t with pathDelay := delayMeasured r (s.egressAt m e) s.time }) := by
  have time := s.time_delayReqSent m e
  have same : (s.delayReqSent m e).modTime (fun t => { t with pathDelay := s.time.pathDelay }) = s.delayReqSent m e := by
    rw [← time]
    rfl
  refine (if_pos ⟨hs, hu, hm⟩).trans ?_
  dsimp only
  split
  · next d hd =>
    rw [delayMeasured_answered ((congrArg Timebase.syncDelta time).symm.trans hd)]
    rfl
  · next r _ _ hn =>
    have unanswered : r = none ∨ s.time.syncDelta = none := by
      cases r with
      | none => exact .inl rfl
      | some t4 =>
        exact .inr (Option.eq_none_iff_forall_ne_some.mpr fun d hd =>
          hn t4 d rfl ((congrArg Timebase.syncDelta time).trans hd))
    rw [delayMeasured_unanswered _ unanswered]
    exact same.symm

theorem doDelayReqSend_rests {s : State} {m : Nat} (e : Egress) (r : Option Int)
    (h : s.reg 0x2900 0x0B ≠ 1 ∨ s.upstream m = false ∨ s.ptpMode m ≠ 1) : doDelayReqSend m e r s = s := by
  refine if_neg fun hn => ?_
  obtain ⟨source, up, clock⟩ := hn
  simp [source, up, clock] at h

/-! ### Warnings (R336) and holdover (R307, R359) -/

/-- A fault-log entry leaves the warnings in force as they are. -/
theorem State.warnings_logPush (s : State) (code res part src det st : Nat) :
    (s.logPush code res part src det st).safety.warnings = s.safety.warnings := by
  have pushed (q : Nat) (es : List (List Byte)) : (s.outerPush q es).1.safety = s.safety :=
    State.outerPush_moves.only .safety (by decide)
  unfold State.logPush
  dsimp only
  split
  · rfl
  · split
    · exact (congrArg Safety.warnings (pushed _ _) :)
    · exact (congrArg Safety.warnings (pushed _ _) :)

/-- A warning is in force once it has been given. -/
theorem State.warnings_warn (s : State) (code : Nat) (scope : Option Nat) (src det : Nat) :
    (code, src) ∈ (s.warn code scope src det).safety.warnings := by
  have tail (u : State) (err cls res part st b ty sr d16 : Nat) :
      (((u.emcy err code cls part src).logPush code res part src det st).trace b ty sr d16 det).safety.warnings
        = u.safety.warnings := by
    have traced := (State.trace_moves (s := (u.emcy err code cls part src).logPush code res part src det st) (b := b)
      (type := ty) (src := sr) (data16 := d16) (data64 := det)).only .safety (by decide)
    have mailed := (State.emcy_moves (s := u) (err := err) (code := code) (cls := cls) (part := part)
      (source := src)).only .safety (by decide)
    exact (congrArg Safety.warnings traced).trans ((State.warnings_logPush _ _ _ _ _ _ _).trans
      (congrArg Safety.warnings mailed))
  unfold State.warn
  dsimp only
  rw [tail]
  generalize forEach _ _ _ = u
  change (code, src) ∈ if u.safety.warnings.contains (code, src) then u.safety.warnings else u.safety.warnings ++ [(code, src)]
  split
  · next listed => simpa using listed
  · simp

/-- A warning counts itself once. -/
theorem State.reg_warn_count (s : State) (code : Nat) (scope : Option Nat) (src det : Nat) (h : s.reg 0x2B00 8 < 0xFFFFFFFF) :
    (s.warn code scope src det).reg 0x2B00 8 = s.reg 0x2B00 8 + 1 := by
  have noted : (forEach (scopeList scope) s (fun s p => (s.setReg (0x2B08 + p) 5 code).setReg (0x2B08 + p) 6 s.stamp)).reg 0x2B00 8
      = s.reg 0x2B00 8 := by
    refine forEach_ind (P := fun u => u.reg 0x2B00 8 = s.reg 0x2B00 8) (fun u p _ hu => ?_) rfl
    exact (State.reg_setReg_sub_ne _ _ (by decide) (by decide) (by decide)).trans
      ((State.reg_setReg_sub_ne _ _ (by decide) (by decide) (by decide)).trans hu)
  have tail (u : State) (err cls res part st b ty sr d16 : Nat) :
      (((u.emcy err code cls part src).logPush code res part src det st).trace b ty sr d16 det).reg 0x2B00 8 = u.reg 0x2B00 8 :=
    RegsKept.alarmTail (rs := (0x2B00, 9) :: (List.range 9).map (fun i => (0x1003, i)) ++ outerRegs ++ traceRegs) RegsKept.refl
      (by decide) (by decide) (by decide) (by decide) 0x2B00 8 (by decide) (by decide)
  refine (tail _ _ _ _ _ _ _ _ _ _).trans ((State.reg_bumpSat _ warningCount_width ?_).trans ?_)
  · exact Nat.lt_of_le_of_lt (Nat.le_of_eq (congrArg (· + 1) noted)) (Nat.add_lt_add_right h 1)
  · exact congrArg (· + 1) noted

/-- Holdover has begun, before its warning. -/
def State.heldOver (s : State) : State :=
  (s.modTime (fun t => { t with lockCount := 0, holdoverSince := t.cycles })).setReg 0x2900 0x0C 3

theorem doSyncTimeout_begins {s : State} (hs : s.reg 0x2900 0x0B = 1) (hc : s.reg 0x2900 0x0C ≠ 3) :
    doSyncTimeout s = s.heldOver.warn 0x81 none 0 0 := if_neg fun hn => hn.elim (fun h => h hs) hc

/-- Settles O50, clause by clause: each next state is one expression, whose laws say what holds and what stays. -/
theorem timebaseAndServo : Obligations.TimebaseAndServo := by
  unfold Obligations.TimebaseAndServo
  refine ⟨?step, ?stepRefused, ?slew, ?cancel, ?syncSlews, ?syncSteps, ?syncIgnored, ?delayReq, ?delayRests, ?timeout,
    ?timeoutRests, ?limit, ?limitRests⟩
  case step =>
    intro s a ha hl hn
    have wrote := State.odWrite_timeControl ha
    rw [State.timeControl_step hl] at wrote
    exact ⟨_, congrArg Host.Outcome.next wrote, ⟨replied_reply _ a 0 0, State.reg_stepTo_count hn _ _, rfl⟩,
      (State.reply_moves.after rfl (State.stepTo_moves.mono rfl)).only, (s.stepTo_keptRegs _ _).reply⟩
  case stepRefused =>
    intro s a ha hl
    have wrote := State.odWrite_timeControl ha
    rw [State.timeControl_refused hl] at wrote
    exact ⟨_, congrArg Host.Outcome.next wrote, replied_reply s a _ 0, State.reply_moves.only, RegsKept.refl.reply⟩
  case slew =>
    intro s a ha
    exact ⟨_, congrArg Host.Outcome.next (State.odWrite_timeControl ha), ⟨replied_reply _ a 0 0, rfl⟩,
      (State.reply_moves.after rfl ((State.modTime_moves fun h => h).mono rfl)).only, RegsKept.refl.modTime.reply⟩
  case cancel =>
    intro s a ha
    exact ⟨_, congrArg Host.Outcome.next (State.odWrite_timeControl ha), ⟨replied_reply _ a 0 0, rfl⟩,
      (State.reply_moves.after rfl ((State.modTime_moves fun h => h).mono rfl)).only, RegsKept.refl.modTime.reply⟩
  case syncSlews =>
    intro s m origin rate off hs hu hw hc ho hl
    have served := doPtpSync_serves (origin := origin) (rate := rate) hs hu hw hc
    rw [← ho, State.servoCorrect_syncNoted_slews hl] at served
    obtain ⟨offset, freq, state⟩ := State.reg_syncSlewed (s := s) (m := m.val) (origin := origin) (off := off)
    have locked := ((s.syncNoted m.val origin off).servoSlewed off).servoState_keptRegs off
    refine ⟨_, congrArg Host.Outcome.next served, ⟨?_, ?_, ?_, ?_⟩, ?_, ?_⟩
    · exact State.time_servoState _ _
    · exact (locked _ _ (by decide) (by decide)).trans offset
    · exact (locked _ _ (by decide) (by decide)).trans freq
    · exact (State.reg_servoState_lock _ _).trans (congrArg (servoLock off s.time.lockCount) state)
    · exact (State.servoState_moves.after rfl (State.setReg_moves.after rfl ((State.modTime_moves fun h => h).after rfl
        (s.syncNoted_moves m origin off)))).only
    · exact (((s.syncNoted_keptRegs m origin off).mono (by decide)).trans
        ((State.servoSlewed_keptRegs _ _).mono (by decide))).trans (locked.mono (by decide))
  case syncSteps =>
    intro s m origin rate off hs hu hw hc ho hl hf hn
    have served := doPtpSync_serves (origin := origin) (rate := rate) hs hu hw hc
    rw [← ho, State.servoCorrect_syncNoted_steps hl hf] at served
    have noted := s.syncNoted_keptRegs m origin off
    have steps : (s.syncNoted m.val origin off).reg 0x2900 0x0E = s.reg 0x2900 0x0E := noted _ _ (by decide) (by decide)
    refine ⟨_, congrArg Host.Outcome.next served, ⟨?_, ?_⟩, ?_, ?_⟩
    · rw [State.time_servoState, State.time_stepTo_ns, servoCount_eq]
      rfl
    · refine (State.servoState_keptRegs _ _ _ _ (by decide) (by decide)).trans ((State.reg_stepTo_count ?_ _ _).trans ?_)
      · rwa [steps]
      · rw [steps]
    · exact (State.servoState_moves.after rfl (State.stepTo_moves.after rfl (s.syncNoted_moves m origin off))).only
    · exact ((noted.mono (by decide)).trans ((State.stepTo_keptRegs _ _ _).mono (by decide))).trans
        ((State.servoState_keptRegs _ _).mono (by decide))
  case syncIgnored => exact fun s m d origin rate h => congrArg Host.Outcome.next (doPtpSync_ignores origin rate h)
  case delayReq =>
    intro s m e r hs hu hm hn
    have time := s.time_delayReqSent m e
    refine ⟨_, congrArg Host.Outcome.next (doDelayReqSend_sends e r hs hu hm), ⟨s.out_delayReqSent m e, ?_, ?_, ?_⟩, ?_, ?_⟩
    · exact State.reg_countHeld m.isLt hn
    · intro t4 d hr hd
      dsimp only [State.modTime]
      rw [time, hr, delayMeasured_answered hd]
    · intro h
      dsimp only [State.modTime]
      rw [time, delayMeasured_unanswered _ h]
    · exact ((State.modTime_moves fun h => h).after rfl (State.emit_moves.after rfl (State.countHeld_moves.mono rfl))).only
    · exact (s.countHeld_keptRegs m e).emit.modTime
  case delayRests => exact fun s m e r h => congrArg Host.Outcome.next (doDelayReqSend_rests e r h)
  case timeout =>
    intro s hs hc hn
    have began : Moves [.dict, .time] s s.heldOver := State.setReg_moves.after rfl ((State.modTime_moves fun h => h).mono rfl)
    have kept : RegsKept [(0x2900, 0x0C)] s s.heldOver := RegsKept.refl.modTime.setReg (by decide) List.mem_cons_self
    have warned : RegsKept alarmRegs s.heldOver (s.heldOver.warn 0x81 none 0 0) :=
      RegsKept.refl.warn nofun (List.Subset.refl _)
    have count : s.heldOver.reg 0x2B00 8 = s.reg 0x2B00 8 := kept _ _ (by decide) (by decide)
    refine ⟨_, congrArg Host.Outcome.next (doSyncTimeout_begins hs hc), ⟨?_, ?_, State.warnings_warn _ _ _ _ _, ?_⟩, ?_, ?_⟩
    · exact (warned _ _ (by decide) (by decide)).trans (State.reg_setReg_byte _ _ _ _ (by decide))
    · exact State.warn_moves.only .time (by decide)
    · rw [State.reg_warn_count _ _ _ _ _ (by rwa [count]), count]
    · exact (State.warn_moves.after rfl (began.mono rfl)).only
    · exact (kept.mono (by simp)).trans (warned.mono (List.subset_cons_self _ _))
  case timeoutRests => exact fun s h => congrArg Host.Outcome.next (if_pos h)
  case limit =>
    intro s hc hm hn
    have expired : doHoldoverLimit s = s.raise 0x18 none 0 s.holdoverMs := if_pos ⟨hc, hm⟩
    exact ⟨_, congrArg Host.Outcome.next expired, s.reg_raise_count _ _ _ _ hn, State.raise_moves.only,
      RegsKept.refl.raise nofun (List.Subset.refl _)⟩
  case limitRests =>
    intro s h
    refine congrArg Host.Outcome.next (if_neg fun hn => ?_)
    exact h.elim (fun hc => hc hn.1) hn.2

end Sys2Proof.Machine
end

section
/-! PROOFS. PTP messages through the transparent clock and the relay (R308, R310 to R312), and camera triggers (R314). -/
namespace Sys2Proof.Machine

open Sys2Proof.Safety

/-! Widths of LINK_DELAY and DISCARDS of the six ports (R310). -/

theorem linkDelay_width : ∀ m < 6, 256 ^ odBytes (0x2910 + m) 0x0A = 2 ^ 32 := by decide +kernel

theorem discards_width : ∀ m < 6, 256 ^ odBytes (0x2910 + m) 0x0B = 2 ^ 32 := by decide +kernel

/-- A clamped link delay fits its register. -/
theorem clampI_linkDelay_lt (i : Int) : (clampI 0 (2 ^ 32 - 1) i).toNat < 2 ^ 32 := by
  unfold clampI
  split
  · decide
  · split
    · decide
    · omega

theorem State.reg_bump (s : State) (ix sub : Nat) : (s.bump ix sub).reg ix sub = (s.reg ix sub + 1) % 256 ^ odBytes ix sub :=
  s.reg_setReg ix sub _

theorem State.reg_discarded {s : State} {m : Nat} (hm : m < 6) (h : s.reg (0x2910 + m) 0x0B < 0xFFFFFFFF) :
    (s.bumpSat (0x2910 + m) 0x0B).reg (0x2910 + m) 0x0B = s.reg (0x2910 + m) 0x0B + 1 :=
  State.reg_bumpSat s (discards_width m hm) (Nat.add_lt_add_right h 1)

/-- The latencies of the ports make a residence, and nothing else that is stored does. -/
theorem State.residence_of_regs {rs : List (Nat × Nat)} {s t : State} (h : RegsKept rs s t) (hr : ∀ r ∈ rs, 6 < r.2)
    (m o : Nat) (e : Egress) : t.residence m o e = s.residence m o e := by
  rw [State.residence, State.residence, h _ 6 (by decide) fun hm => absurd (hr _ hm) (Nat.lt_irrefl 6),
    h _ 5 (by decide) fun hm => absurd (hr _ hm) (Nat.not_lt.mpr (Nat.le_succ 5))]

/-! ### One message out of one port -/

/-- A message that leaves port `o` is counted, and so is one that the guard of a launch held. -/
def State.forwarded (s : State) (o : Nat) (e : Egress) : State := (s.bump (0x2910 + o) 7).countHeld o e

section
variable (s : State) (m o : Nat) (e : Egress)

theorem State.forwarded_moves : Moves [.dict] s (s.forwarded o e) := State.countHeld_moves.after rfl State.bump_moves

theorem State.out_forwarded : (s.forwarded o e).out = s.out := (s.forwarded_moves o e).only .out (by decide)

theorem State.time_forwarded : (s.forwarded o e).time = s.time := (s.forwarded_moves o e).only .time (by decide)

theorem State.ptpPending_forwarded : (s.forwarded o e).ptpPending = s.ptpPending :=
  (s.forwarded_moves o e).only .ptpPending (by decide)

theorem State.forwarded_keptRegs : RegsKept [(0x2910 + o, 7), (0x2A00 + o, 9)] s (s.forwarded o e) :=
  (RegsKept.refl.bumpBy (by decide) (by simp)).trans ((State.countHeld_keptRegs _ o e).mono (by simp))

theorem State.residence_forwarded : (s.forwarded o e).residence m o e = s.residence m o e :=
  State.residence_of_regs (s.forwarded_keptRegs o e) (by simp) m o e

variable {o e} in
theorem State.forwarded_free (h : e.held = false ∨ o < 4) : s.forwarded o e = s.bump (0x2910 + o) 7 := State.countHeld_free h

variable {o e} in
theorem State.forwarded_free_keptRegs (h : e.held = false ∨ o < 4) : RegsKept [(0x2910 + o, 7)] s (s.forwarded o e) := by
  rw [s.forwarded_free h]
  exact RegsKept.refl.bumpBy (by decide) List.mem_cons_self

variable {msg : PtpMessage}

theorem State.ptpOut_event (h : msg.kind = .syncOneStep ∨ msg.kind = .delayReq) :
    s.ptpOut m msg e o = (s.forwarded o e).ptpCorrected o msg (s.residence m o e) := by
  rw [← s.residence_forwarded m o e]
  rcases h with h | h
  · simp only [State.ptpOut, h, State.forwarded]
  · simp only [State.ptpOut, h, State.forwarded]

theorem State.ptpOut_syncTwoStep (h : msg.kind = .syncTwoStep) :
    s.ptpOut m msg e o = ((s.forwarded o e).withPtpPending (s.ptpPending ++
        [⟨o, msg.sourcePort, msg.sequenceId, msg.domain, s.residence m o e, s.time.cycles⟩])).emit (.ptp o msg) := by
  rw [← s.residence_forwarded m o e, ← s.ptpPending_forwarded o e, ← s.time_forwarded o e]
  simp only [State.ptpOut, h, State.forwarded]

theorem State.ptpOut_other (h : msg.kind = .general ∨ msg.kind = .announce) :
    s.ptpOut m msg e o = (s.forwarded o e).emit (.ptp o msg) := by
  rcases h with h | h
  · simp only [State.ptpOut, h, State.forwarded]
  · simp only [State.ptpOut, h, State.forwarded]

/-- What a Follow_Up looks for after its own departure was counted. -/
theorem State.find_forwarded :
    (s.forwarded o e).ptpPending.find? (ptpMatch o (s.forwarded o e).time.cycles msg)
      = s.ptpPending.find? (ptpMatch o s.time.cycles msg) := by
  rw [State.ptpPending_forwarded, State.time_forwarded]

theorem State.ptpOut_followUp_matched {p : PtpPending} (h : msg.kind = .followUp)
    (hp : s.ptpPending.find? (ptpMatch o s.time.cycles msg) = some p) :
    s.ptpOut m msg e o
      = ((s.forwarded o e).withPtpPending (s.ptpPending.filter (· ≠ p))).ptpCorrected o msg p.residence := by
  rw [← s.find_forwarded o e] at hp
  rw [← s.ptpPending_forwarded o e]
  unfold State.forwarded at hp ⊢
  simp only [State.ptpOut, h, hp]

theorem State.ptpOut_followUp_unmatched (h : msg.kind = .followUp)
    (hp : s.ptpPending.find? (ptpMatch o s.time.cycles msg) = none) :
    s.ptpOut m msg e o = ((s.forwarded o e).bumpSat (0x2910 + o) 0x0B).emit (.ptp o msg) := by
  rw [← s.find_forwarded o e] at hp
  unfold State.forwarded at hp ⊢
  simp only [State.ptpOut, h, hp]

/-! A corrected message. -/

theorem State.ptpCorrected_keptRegs (res : Int) :
    RegsKept [(0x2910 + o, 8), (0x2910 + o, 9)] s (s.ptpCorrected o msg res) :=
  ((RegsKept.refl.bumpBy (by decide) (by simp)).maxReg (by decide) (by simp)).emit

theorem State.reg_ptpCorrected_count (res : Int) :
    (s.ptpCorrected o msg res).reg (0x2910 + o) 8 = (s.reg (0x2910 + o) 8 + 1) % 256 ^ odBytes (0x2910 + o) 8 := by
  have longest : RegsKept [(0x2910 + o, 9)] (s.bump (0x2910 + o) 8) (s.ptpCorrected o msg res) :=
    (RegsKept.refl.maxReg (by decide) List.mem_cons_self).emit
  exact (longest _ _ (by decide) (by simp)).trans (s.reg_bump _ _)

theorem State.out_ptpCorrected (res : Int) :
    (s.ptpCorrected o msg res).out
      = .ptp o { msg with correction := msg.correction + res, checksum := if msg.udp then 0 else msg.checksum } :: s.out :=
  congrArg (_ :: ·) ((State.maxReg_moves.after rfl State.bump_moves).only .out (by decide))

end

/-! ### PTP_EVENT_FORWARD -/

section
variable {s : State} {m : Nat} {msg : PtpMessage} {es : List Egress}

theorem doPtpForward_off (h : s.macOn m = false) : doPtpForward m msg es s = s := if_pos (Bool.eq_false_iff.mp h)

theorem doPtpForward_not_taken (ho : s.macOn m = true) (h : s.ptpTaken m msg = false) :
    doPtpForward m msg es s = s.bumpSat (0x2910 + m) 0x0B :=
  (if_neg (not_not_intro ho)).trans (if_pos (Bool.eq_false_iff.mp h))

section
variable (ho : s.macOn m = true) (ht : s.ptpTaken m msg = true)
include ho ht

/-- A message at a port of the transparent clock with one other port. -/
theorem doPtpForward_clock {o : Nat} (hm : s.ptpMode m = 1) (hk : msg.kind ≠ .pdelay) (hc : s.clockPorts m = [o]) :
    doPtpForward m msg es s = s.ptpOut m msg (egressOf es o) o := by
  simp [doPtpForward, ho, ht, hm, hk, hc, forEach]

theorem doPtpForward_announce {o : Nat} (hm : s.ptpMode m = 2) (hd : msg.domain = 0) (hk : msg.kind = .announce)
    (hu : s.upstream m = true) (hc : s.masterPorts m = [o]) :
    doPtpForward m msg es s = s.ptpOut m msg (egressOf es o) o := by
  simp [doPtpForward, ho, ht, hm, hd, hk, hu, hc, forEach]

theorem doPtpForward_pdelay (hm : s.ptpMode m = 2) (hd : msg.domain = 0) (hk : msg.kind = .pdelay)
    (hf : (egressOf es m).held = false ∨ m < 4) :
    doPtpForward m msg es s = s.emit (.pdelayResp m (s.ingressAt m) (s.egressAt m (egressOf es m))) := by
  simp [doPtpForward, ho, ht, hm, hd, hk, State.countHeld_free hf]

theorem doPtpForward_relayed (hm : s.ptpMode m = 2) (hd : msg.domain = 0) (hk : msg.kind = .syncTwoStep ∨ msg.kind = .followUp)
    (hu : s.upstream m = true) : doPtpForward m msg es s = s := by
  rcases hk with hk | hk
  · simp [doPtpForward, ho, ht, hm, hd, hk, hu]
  · simp [doPtpForward, ho, ht, hm, hd, hk, hu]

end

/-- What is counted in DISCARDS. -/
theorem doPtpForward_discards (ho : s.macOn m = true)
    (h : s.ptpTaken m msg = false ∨ (s.ptpMode m = 1 ∧ msg.kind = .pdelay) ∨ s.ptpMode m = 0 ∨ (s.ptpMode m = 2 ∧ msg.domain ≠ 0)
      ∨ (s.ptpMode m = 2 ∧ (msg.kind = .general ∨ msg.kind = .syncOneStep ∨ msg.kind = .delayReq))
      ∨ (s.ptpMode m = 2 ∧ s.upstream m = false ∧ msg.kind ≠ .pdelay)) :
    doPtpForward m msg es s = s.bumpSat (0x2910 + m) 0x0B := by
  cases ht : s.ptpTaken m msg with
  | false => exact doPtpForward_not_taken ho ht
  | true =>
    rcases h with h | ⟨hm, hk⟩ | hm | ⟨hm, hd⟩ | ⟨hm, hk | hk | hk⟩ | ⟨hm, hu, hk⟩
    · exact absurd (ht.symm.trans h) (by decide)
    · simp [doPtpForward, ho, ht, hm, hk]
    · simp [doPtpForward, ho, ht, hm]
    · simp [doPtpForward, ho, ht, hm, hd]
    · simp [doPtpForward, ho, ht, hm, hk]
    · simp [doPtpForward, ho, ht, hm, hk]
    · simp [doPtpForward, ho, ht, hm, hk]
    · simp [doPtpForward, ho, ht, hm, hk, hu]

/-- The command carries the message whole. -/
theorem exec_ptpEventForward {t : State} (m : PtpPort) (h : doPtpForward m.val msg es s = t) :
    exec (.ptpEventForward m msg.version msg.minor msg.toPtpBody es) s = .next t := congrArg Host.Outcome.next h

end

/-! ### PDELAY_EXCHANGE (R312) -/

/-- What is known of the neighbour at port `m`. -/
def State.setPeer (s : State) (m : Nat) (k : PeerDelay) : State :=
  s.modTime (fun t => { t with peers := tblIns (tblDel t.peers m) m k })

theorem State.peer_setReg (s : State) (ix sub v n : Nat) : (s.setReg ix sub v).peer n = s.peer n := rfl

theorem State.peer_setPeer (s : State) (m : Nat) (k : PeerDelay) : (s.setPeer m k).peer m = k :=
  tblGet_ins_self _ _ _ _ fun e he => by simpa [tblDel] using (List.mem_filter.mp he).2

theorem State.setPeer_keptBut (s : State) (m : Nat) (k : PeerDelay) : KeptBut State.peer [m] s (s.setPeer m k) := by
  intro n hn
  have other : n ≠ m := by simpa using hn
  exact (tblGet_ins_ne _ _ _ other).trans (tblGet_del_ne _ _ other)

theorem peerMeasure_delay (k : PeerDelay) (t1 : Int) (a : PdelayAnswer) :
    (peerMeasure k t1 a).1 = (scaled (a.back : Int) (peerMeasure k t1 a).2.rate - (a.t3 - a.t2)) / 2 := by
  have span : t1 + (a.back : Int) - t1 = a.back := by omega
  simp only [peerMeasure, span]

theorem peerMeasure_last (k : PeerDelay) (t1 : Int) (a : PdelayAnswer) :
    (peerMeasure k t1 a).2.last = some (a.t3, t1 + a.back) := rfl

theorem peerMeasure_rate_first {k : PeerDelay} {t1 : Int} {a : PdelayAnswer} (h : ∀ l, k.last = some l → t1 + a.back ≤ l.2) :
    (peerMeasure k t1 a).2.rate = k.rate := by
  cases hl : k.last with
  | none => simp only [peerMeasure, hl]
  | some l => simp only [peerMeasure, hl, if_neg (Int.not_lt.mpr (h l hl))]

theorem peerMeasure_rate_later {k : PeerDelay} {t1 : Int} {a : PdelayAnswer} {l : Int × Int} (hl : k.last = some l)
    (h : l.2 < t1 + a.back) : (peerMeasure k t1 a).2.rate = (a.t3 - l.1) * 2 ^ 41 / (t1 + a.back - l.2) - 2 ^ 41 := by
  simp only [peerMeasure, hl, if_pos h]

/-- The exchange of port `m` is over: the request has left, and the answer has been measured. -/
def State.pdelayMeasured (s : State) (m : Nat) (e : Egress) (a : PdelayAnswer) : State :=
  ((s.emit (.pdelayReq m (s.egressAt m e))).setPeer m (peerMeasure (s.peer m) (s.egressAt m e) a).2).setReg (0x2910 + m) 0x0A
    (clampI 0 (2 ^ 32 - 1) (peerMeasure (s.peer m) (s.egressAt m e) a).1).toNat

section
variable {s : State} {m : Nat} {e : Egress} (ho : s.macOn m = true) (hm : s.ptpMode m = 2) (hf : e.held = false ∨ m < 4)

include ho hm hf in
theorem doPdelayExchange_unanswered : doPdelayExchange m e none s = s.emit (.pdelayReq m (s.egressAt m e)) := by
  rw [doPdelayExchange, if_neg (not_not_intro ⟨ho, hm⟩), State.countHeld_free hf]

include ho hm hf in
theorem doPdelayExchange_answered (a : PdelayAnswer) : doPdelayExchange m e (some a) s = s.pdelayMeasured m e a := by
  rw [doPdelayExchange, if_neg (not_not_intro ⟨ho, hm⟩), State.countHeld_free hf]
  rfl

theorem doPdelayExchange_rests (answer : Option PdelayAnswer) (h : s.macOn m = false ∨ s.ptpMode m ≠ 2) :
    doPdelayExchange m e answer s = s := by
  refine if_pos fun hn => ?_
  obtain ⟨on, relay⟩ := hn
  exact h.elim (fun off => Bool.eq_false_iff.mp off on) fun other => other relay

theorem State.peer_pdelayMeasured (s : State) (m : Nat) (e : Egress) (a : PdelayAnswer) :
    (s.pdelayMeasured m e a).peer m = (peerMeasure (s.peer m) (s.egressAt m e) a).2 :=
  (State.peer_setReg _ _ _ _ _).trans (State.peer_setPeer _ _ _)

theorem State.reg_pdelayMeasured (s : State) {m : Nat} (hm : m < 6) (e : Egress) (a : PdelayAnswer) :
    (s.pdelayMeasured m e a).reg (0x2910 + m) 0x0A = (clampI 0 (2 ^ 32 - 1)
      ((scaled (a.back : Int) ((s.pdelayMeasured m e a).peer m).rate - (a.t3 - a.t2)) / 2)).toNat := by
  rw [State.peer_pdelayMeasured, ← peerMeasure_delay]
  exact State.reg_setReg_fits _ (linkDelay_width m hm) (clampI_linkDelay_lt _)

theorem State.pdelayMeasured_moves (s : State) (m : Nat) (e : Egress) (a : PdelayAnswer) :
    Moves [.dict, .time, .out] s (s.pdelayMeasured m e a) :=
  State.setReg_moves.after rfl ((State.modTime_moves fun h => h).after rfl (State.emit_moves.mono rfl))

theorem State.pdelayMeasured_keptRegs (s : State) (m : Nat) (e : Egress) (a : PdelayAnswer) :
    RegsKept [(0x2910 + m, 0x0A)] s (s.pdelayMeasured m e a) :=
  RegsKept.refl.emit.modTime.setReg (by decide) List.mem_cons_self

theorem State.pdelayMeasured_keptPeers (s : State) (m : Nat) (e : Egress) (a : PdelayAnswer) :
    KeptBut State.peer [m] s (s.pdelayMeasured m e a) := by
  have told := (s.emit (.pdelayReq m (s.egressAt m e))).setPeer_keptBut m (peerMeasure (s.peer m) (s.egressAt m e) a).2
  exact told.trans (KeptBut.of_eq (State.peer_setReg _ _ _ _))

end

/-! ### GPTP_SYNC_RELAY (R312) and TRIGGER_EDGE (R314) -/

theorem doGptpRelay_lone {s : State} {m o : Nat} (c r : Int) {es : List Egress} (hu : s.upstream m = true)
    (hm : s.ptpMode m = 2) (ha : s.asCapable m = true) (hp : (s.masterPorts m).filter s.asCapable = [o])
    (hf : (egressOf es o).held = false ∨ o < 4) :
    doGptpRelay m c r es s = (s.emit (.gptpSync o (s.egressAt o (egressOf es o)))).emit
      (.gptpFollowUp o (s.relayCorrection m c (r + (s.peer m).rate) o (egressOf es o)) (r + (s.peer m).rate)) := by
  rw [doGptpRelay, if_neg (not_not_intro ⟨hu, hm, ha⟩), hp]
  simp only [forEach, List.foldl, State.countHeld_free hf]

theorem doGptpRelay_rests {s : State} {m : Nat} (c r : Int) (es : List Egress)
    (h : s.upstream m = false ∨ s.ptpMode m ≠ 2 ∨ s.asCapable m = false) : doGptpRelay m c r es s = s := by
  refine if_pos fun hn => ?_
  obtain ⟨up, relay, capable⟩ := hn
  simp [up, relay, capable] at h

/-- Settles O51, clause by clause: each next state is one expression, whose laws say what holds and what stays. -/
theorem ptpAndTriggers : Obligations.PtpAndTriggers := by
  unfold Obligations.PtpAndTriggers
  refine ⟨?event, ?twoStep, ?followUp, ?unmatched, ?other, ?otherHeld, ?announce, ?pdelay, ?relayed, ?discarded, ?off,
    ?exchange, ?measured, ?measuredAgain, ?exchangeRests, ?relay, ?relayRests, ?edge, ?edgeRests⟩
  case event =>
    intro s m o msg es ho ht hm hf hc hk
    have clock := doPtpForward_clock (es := es) ho ht hm (by rcases hk with h | h <;> simp [h]) hc
    rw [s.ptpOut_event m o _ hk] at clock
    have free := s.forwarded_free_keptRegs hf
    have corrected := (s.forwarded o (egressOf es o)).ptpCorrected_keptRegs (o := o) (msg := msg) (s.residence m o (egressOf es o))
    refine ⟨_, exec_ptpEventForward m clock, ⟨?_, ?_, ?_⟩, ?_, ?_⟩
    · rw [State.out_ptpCorrected, State.out_forwarded]
    · rw [corrected _ _ (by decide) (by simp), s.forwarded_free hf, State.reg_bump]
    · rw [State.reg_ptpCorrected_count, free _ _ (by decide) (by simp)]
    · exact (State.ptpCorrected_moves.after rfl ((s.forwarded_moves o _).mono rfl)).only
    · exact (free.mono (by simp)).trans (corrected.mono (by simp))
  case twoStep =>
    intro s m o msg es ho ht hm hf hc hk
    have clock := doPtpForward_clock (es := es) ho ht hm (by simp [hk]) hc
    rw [s.ptpOut_syncTwoStep m o _ hk] at clock
    exact ⟨_, exec_ptpEventForward m clock,
      ⟨congrArg (_ :: ·) (s.out_forwarded o _), rfl⟩,
      (State.emit_moves.after rfl (State.withPtpPending_moves.after rfl ((s.forwarded_moves o _).mono rfl))).only,
      (s.forwarded_free_keptRegs hf).withPtpPending.emit⟩
  case followUp =>
    intro s m o msg es p ho ht hm hf hc hk hp
    have clock := doPtpForward_clock (es := es) ho ht hm (by simp [hk]) hc
    rw [s.ptpOut_followUp_matched m o _ hk hp] at clock
    have free := s.forwarded_free_keptRegs hf
    refine ⟨_, exec_ptpEventForward m clock, ⟨?_, ?_⟩, ?_, ?_⟩
    · rw [State.out_ptpCorrected]
      exact congrArg (_ :: ·) (s.out_forwarded o _)
    · exact State.ptpCorrected_moves.only .ptpPending (by decide)
    · exact (State.ptpCorrected_moves.after rfl (State.withPtpPending_moves.after rfl ((s.forwarded_moves o _).mono rfl))).only
    · exact (free.withPtpPending.mono (by simp)).trans ((State.ptpCorrected_keptRegs _ _ _).mono (by simp))
  case unmatched =>
    intro s m o msg es ho ht hm hf hc hk hp hn
    have clock := doPtpForward_clock (es := es) ho ht hm (by simp [hk]) hc
    have none : s.ptpPending.find? (ptpMatch o s.time.cycles msg) = none := by
      simpa [List.find?_eq_none, ptpMatch] using hp
    rw [s.ptpOut_followUp_unmatched m o _ hk none] at clock
    have free := s.forwarded_free_keptRegs hf
    have count : (s.forwarded o (egressOf es o)).reg (0x2910 + o) 0x0B = s.reg (0x2910 + o) 0x0B :=
      free _ _ (by decide) (by simp)
    refine ⟨_, exec_ptpEventForward m clock, ⟨?_, ?_⟩, ?_, ?_⟩
    · exact congrArg (_ :: ·) (s.out_forwarded o _)
    · exact (State.reg_discarded o.isLt (by rwa [count])).trans (congrArg (· + 1) count)
    · exact (State.emit_moves.after rfl (State.bumpSat_moves.after rfl ((s.forwarded_moves o _).mono rfl))).only
    · exact ((free.mono (by simp)).bumpSat (by decide) (by simp)).emit
  case other =>
    intro s m o msg es ho ht hm hf hc hk
    have clock := doPtpForward_clock (es := es) ho ht hm (by rcases hk with h | h <;> simp [h]) hc
    rw [s.ptpOut_other m o _ hk] at clock
    exact ⟨_, exec_ptpEventForward m clock, congrArg (_ :: ·) (s.out_forwarded o _),
      (State.emit_moves.after rfl ((s.forwarded_moves o _).mono rfl)).only, (s.forwarded_free_keptRegs hf).emit⟩
  case otherHeld =>
    intro s m o msg es ho ht hm hh h4 hc hk hn
    have clock := doPtpForward_clock (es := es) ho ht hm (by rcases hk with h | h <;> simp [h]) hc
    rw [s.ptpOut_other m o _ hk] at clock
    have count : (s.bump (0x2910 + o) 7).reg (0x2A00 + o) 9 = s.reg (0x2A00 + o) 9 :=
      s.reg_bump_ne (by decide) (by decide) (by simp)
    refine ⟨_, exec_ptpEventForward m clock, ⟨congrArg (_ :: ·) (s.out_forwarded o _), ?_⟩,
      (State.emit_moves.after rfl ((s.forwarded_moves o _).mono rfl)).only, (s.forwarded_keptRegs o _).emit⟩
    refine (State.reg_countHeld o.isLt (by rwa [count])).trans ?_
    rw [count, if_pos ⟨hh, h4⟩]
  case announce =>
    intro s m o msg es ho ht hm hd hk hu hf hc
    have relay := doPtpForward_announce (es := es) ho ht hm hd hk hu hc
    rw [s.ptpOut_other m o _ (.inr hk)] at relay
    exact ⟨_, exec_ptpEventForward m relay, congrArg (_ :: ·) (s.out_forwarded o _),
      (State.emit_moves.after rfl ((s.forwarded_moves o _).mono rfl)).only, (s.forwarded_free_keptRegs hf).emit⟩
  case pdelay =>
    intro s m msg es ho ht hm hd hk hf
    exact ⟨_, exec_ptpEventForward m (doPtpForward_pdelay ho ht hm hd hk hf), rfl, State.emit_moves.only, RegsKept.refl.emit⟩
  case relayed =>
    exact fun s m msg es ho ht hm hd hk hu => exec_ptpEventForward m (doPtpForward_relayed ho ht hm hd hk hu)
  case discarded =>
    intro s m msg es ho h hn
    exact ⟨_, exec_ptpEventForward m (doPtpForward_discards ho h), State.reg_discarded m.isLt hn, State.bumpSat_moves.only,
      RegsKept.refl.bumpSat (by decide) List.mem_cons_self⟩
  case off => exact fun s m msg es ho => exec_ptpEventForward m (doPtpForward_off ho)
  case exchange =>
    intro s m e ho hm hf
    exact ⟨_, congrArg Host.Outcome.next (doPdelayExchange_unanswered ho hm hf), rfl, State.emit_moves.only, RegsKept.refl.emit⟩
  case measured =>
    intro s m e a ho hm hf hl
    have rate : ((s.pdelayMeasured m e a).peer m).rate = (s.peer m).rate :=
      (congrArg PeerDelay.rate (s.peer_pdelayMeasured m e a)).trans (peerMeasure_rate_first hl)
    refine ⟨_, congrArg Host.Outcome.next (doPdelayExchange_answered ho hm hf a),
      ⟨rfl, ?_, ?_, s.pdelayMeasured_keptPeers m e a, rfl⟩, (s.pdelayMeasured_moves m e a).only, s.pdelayMeasured_keptRegs m e a⟩
    · rw [s.reg_pdelayMeasured m.isLt, rate]
    · rw [← rate, s.peer_pdelayMeasured]
      rfl
  case measuredAgain =>
    intro s m e a l ho hm hf hl ha
    refine ⟨_, congrArg Host.Outcome.next (doPdelayExchange_answered ho hm hf a),
      ⟨?_, ?_, s.pdelayMeasured_keptPeers m e a, rfl, s.reg_pdelayMeasured m.isLt e a⟩, (s.pdelayMeasured_moves m e a).only,
      s.pdelayMeasured_keptRegs m e a⟩
    · exact (congrArg PeerDelay.rate (s.peer_pdelayMeasured m e a)).trans (peerMeasure_rate_later hl ha)
    · exact (congrArg PeerDelay.last (s.peer_pdelayMeasured m e a)).trans (peerMeasure_last _ _ _)
  case exchangeRests => exact fun s m e a h => congrArg Host.Outcome.next (doPdelayExchange_rests a h)
  case relay =>
    intro s m o c r es hu hm ha hp hf
    exact ⟨_, congrArg Host.Outcome.next (doGptpRelay_lone c r hu hm ha hp hf), rfl,
      (State.emit_moves.after rfl State.emit_moves).only, RegsKept.refl.emit.emit⟩
  case relayRests => exact fun s m c r es h => congrArg Host.Outcome.next (doGptpRelay_rests c r es h)
  case edge =>
    intro s p v h
    exact ⟨_, congrArg Host.Outcome.next (if_pos h), ⟨rfl, s.reg_bump _ _⟩,
      (State.emit_moves.after rfl (State.bump_moves.mono rfl)).only, (RegsKept.refl.bumpBy (by decide) List.mem_cons_self).emit⟩
  case edgeRests => exact fun s p v h => congrArg Host.Outcome.next (if_neg (Bool.eq_false_iff.mp h))

end Sys2Proof.Machine
end
